-- ==== Sys2Proof/Word.lean ====
section
/-! DEFINITION. The word types of the PS-960 register space: every register is a 32-bit little-endian word (R7). -/

namespace Sys2Proof

/-- A register word (R7). -/
abbrev Word := BitVec 32

/-- A byte of a message, of an image or of a record. -/
abbrev Byte := BitVec 8

end Sys2Proof
end

