-- ==== Sys2Proof/Syntax.lean ====
section
/-! DEFINITION. The commands of the module: one constructor of `Instr` per row of spec/opcode_table.json, with the
operands the environment decides (a measured value, a register write, the content of a frame). A row that is an event or
an elapsed time carries only what the spec leaves to the world outside; everything else is read from the state. -/

namespace Sys2Proof

/-- Who performs a register access: the program through a released image (R39, R41) or one host session (R40). -/
inductive Party where
  | program
  | host (session : Nat)
  deriving DecidableEq, Repr

/-- An access pending at a block's port when its closing gate isolates the port (R68, R584): of the program's task T0 to T3, or a host
session's request. -/
inductive PortAccess where
  | task (i : Nat)
  | host (session seq : Nat)
  deriving DecidableEq, Repr

/-- The shape of one memory fault that MBIST finds (R82): confined to a row, to a column, or spread over rows. -/
inductive FaultShape where
  | row (addr : Nat)
  | column (addr : Nat)
  | other (rows : List Nat)
  deriving DecidableEq, Repr

/-- One fault found by a memory test: the array it lies in, coded as MEMORY of R84, its shape, and whether the second
MBIST pass over the repaired array passes (R82). -/
structure MemFault where
  array : Nat
  shape : FaultShape
  verified : Bool
  deriving DecidableEq, Repr

/-- The persisting output diagnostics of R226. -/
inductive DoDiag where
  | stuckOn | rbFail | backFed | openLoad
  deriving DecidableEq, Repr

/-- One word of an output image: the task of T0 to T3 that wrote it (R292), the register's address, the value. -/
structure OutWord where
  task : Nat
  addr : Nat
  val : Word
  deriving DecidableEq, Repr

/-- Output data of an image: the task that wrote them, the station (R310) or the mailbox (trunk times 64 plus mailbox, R475), the bytes. -/
structure OutData where
  task : Nat
  dst : Nat
  data : List Byte
  deriving DecidableEq, Repr

/-- What a Form's run of the program leaves to be presented at a main checkpoint (R396, R400): the output words, the remote output data, the
data of transmit mailboxes (R475), the retained variables by identity, the variables marked COMPARED, the index of the next segment of
T0 to T3, the words written to the Form's STATEFUL regions by byte address (R405), the trail behind the first presentation in 10 µs,
the hall passes claimed (R415), the tasks of T0 to T3 that complete in this image, and the time from B(k) in 20 µs (R319). A hall
pass is numbered kind times 256 plus number: kind 0 locks, 1 transfer channels, 2 mailbox claims, 3 copy engine, 4 mirror stream (R414). -/
structure Checkpoint where
  words : List OutWord := []
  station : List OutData := []
  mail : List OutData := []
  retained : List (Nat × BitVec 64) := []
  compared : List Word := []
  segs : List Nat := []
  writes : List (Nat × Word) := []
  trail : Nat := 0
  claims : List Nat := []
  tasks : List Nat := []
  releaseTime : Nat := 0
  deriving DecidableEq, Repr

/-- A pair heartbeat's content (R430). -/
structure PairHb where
  node : Nat
  role : Nat
  state : Nat
  health : Nat
  claimable : Bool
  epoch : Nat
  cycle : Nat
  phase : Nat
  deriving DecidableEq, Repr

/-- A trunk heartbeat's payload (R465). -/
structure Heartbeat where
  state : Nat
  role : Nat
  health : Nat
  reason : Nat
  epoch : Nat
  cycle : Nat
  period : Nat
  deriving DecidableEq, Repr

/-- An entry of a change set and of the journal: kind, type, identity, value (R306, R309). -/
structure OlcEnt where
  kind : Nat
  ty : Nat
  id : Nat
  val : BitVec 64
  deriving DecidableEq, Repr

/-- What a delta or a base copy of the mirror brings (R431, R432): register words (the released output image, lane destinations,
Belfry states, OPV words, loop words), retained variables, the force table and the on-line change journal; `set`: the words of the compared
set by place, as the signature takes them (R397). -/
structure MirrorSet where
  words : List (Nat × Word) := []
  vars : List (Nat × BitVec 64) := []
  forces : List (Nat × Nat × Word) := []
  journal : List OlcEnt := []
  set : List (Nat × Word) := []
  deriving DecidableEq, Repr

/-- A PAIR_HEALTH report (R438). -/
structure HealthMsg where
  state : Nat
  health : Nat
  stbyRdy : Bool
  claimable : Bool
  forms : Nat
  reason : Nat
  mage : Nat
  hours : Nat
  layout : Word
  deriving DecidableEq, Repr

/-- A TIME_SYNC frame and what a slave reads as it stamps it (R491, R493): sender, rank fields, flags, TXTIME; the island's time at the receive
interrupt in ns, VALAGE in ticks of 80 MHz, and the frame's bits in the arbitration and in the data phase. -/
structure TimeSync where
  node : Nat
  cls : Nat
  prio : Nat
  stepped : Bool
  leapIns : Bool
  leapDel : Bool
  utcOfs : Word
  txTime : Nat
  readTime : Nat
  valAge : Nat
  nArb : Nat
  nData : Nat
  deriving DecidableEq, Repr

/-- A variable as an image declares it: identity, type, loose mark, initial value (R302, R306). -/
structure VarDecl where
  id : Nat
  ty : Nat
  loose : Bool
  init : BitVec 64
  deriving DecidableEq, Repr

/-- An input or output variable (R302): its identity, its direction, whether it lies in a mailbox or in a station's data, which one, and
the bytes it takes there. -/
structure IoVar where
  id : Nat
  out : Bool
  mail : Bool
  dst : Nat
  off : Nat
  len : Nat
  deriving DecidableEq, Repr

/-- A region of a Form's memory that the image marks STATEFUL (R405): its byte address, its words, and those it starts with (the rest 0). -/
structure Region where
  base : Nat
  len : Nat
  init : List Word
  deriving DecidableEq, Repr

/-- The content that a section of an image spells. R88 gives the frame of an image and no byte layout of its sections, so
the content travels beside the bytes. `pages`: (register address, word, mask of the bits the image supplies). `keys`: (page,
role, key). `revs`: (block type, MAJOR). `params`, `points`: window words. `safe`: the sealed configuration, FCFG0/FCFG1 of
eight slots and SCFG. `outWords`: words of the declared output image. `owners`: the task that owns a register; `mailOwners`: a transmit
mailbox (R292). `safeVals`: the watchdog safe values by register, `none` for hold last (R299). `retTable`: CRC of the retained-variable table
(R294). `layout`: CRC of the compared-set table (R433). `vars`: the program's variables. `ioVars`: its input and output variables.
`stopData`: the remote stop data by station (R315). `safeData`: station, the task that owns its output data, and
their watchdog safe values, `none` for hold last (R299, R310). `stateful`: the regions marked STATEFUL. -/
structure ImageContent where
  pages : List (Nat × Word × Word) := []
  keys : List (Nat × Nat × Nat) := []
  revs : List (Nat × Nat) := []
  params : List (Nat × Word) := []
  points : List (Nat × Word) := []
  safe : List Word := []
  outWords : Nat := 0
  owners : List (Nat × Nat) := []
  mailOwners : List (Nat × Nat) := []
  safeVals : List (Nat × Option Word) := []
  retTable : Word := 0
  layout : Word := 0
  vars : List VarDecl := []
  ioVars : List IoVar := []
  stopData : List (Nat × List Byte) := []
  safeData : List (Nat × Nat × Option (List Byte)) := []
  stateful : List Region := []
  deriving DecidableEq, Repr

/-- The kinds of error a trunk controller detects (R471), in the code of ERR.LASTERR (R484). -/
inductive TrunkErr where
  | bit | stuff | form | crc | ack
  deriving DecidableEq, Repr

/-- One command of the module: a register access, a message, an event at a pin, an elapsed time or the end of an engine's
step. The constructors stand in the order of spec/opcode_table.json. -/
inductive Instr where
  | logicSupplyRise (va vb : Nat)
  | logicFeedChange (feedB : Bool) (mv : Int)
  | rideThrough
  | bothFeedsLost
  | lowWarning (feedB : Bool) (mv : Nat)
  | overvoltageDisconnect (feedB : Bool) (mv : Nat)
  | overvoltageReconnect (feedB : Bool) (mv : Nat)
  | powerUpDone (osc0 osc1 cupolaOk repairOk : Bool) (capMf vcapMv holdup : Nat)
  | lbistDone (form : Nat) (pass : Bool)
  | mbistDone (form : Nat) (faults : List MemFault)
  | selfTestDone (rails voter belfry retained : Bool) (bankFaults : List MemFault)
  | imageCheckDone
  | restartRun
  | fwBootFail
  | regWrite (p : Party) (addr : Nat) (v : Word)
  | latchedCounterRead (session addr : Nat)
  | pageEnable (p : Party) (page : Nat)
  | gateClose (p : Party) (page : Nat)
  | gateCloseComplete (page : Nat) (pending : Option PortAccess)
  | softReset (p : Party) (page : Nat)
  | lockReq (p : Party) (page : Nat)
  | pgkeyWrite (p : Party) (page : Nat) (v : Word)
  | keyLockoutEnd (page : Nat)
  | unlockTimeout (page : Nat)
  | irqsetWrite (p : Party) (page : Nat) (v : Word)
  | opAbort (p : Party) (page : Nat)
  | opAbortSampled (page : Nat)
  | opTimeout (page : Nat)
  | verify (p : Party) (arg : Nat)
  | verifyDone
  | commit (p : Party) (arg : Nat)
  | commitSwap
  | start (p : Party) (arg : Nat)
  | withhold (p : Party) (arg : Nat)
  | reset (p : Party) (arg : Nat)
  | retest (p : Party) (form : Nat)
  | retestDone (lbist : Bool) (faults : List MemFault)
  | clearHealth (p : Party) (arg : Nat)
  | eccCorrected (form word : Nat)
  | uncorrError (form : Nat)
  | islandLinkLost (n : Nat)
  | islandDark (n : Nat)
  | islandWake (n : Nat) (cur : Nat)
  | wakeDone (n : Nat) (retainOk limitOk : Bool)
  | tierDown (n : Nat) (cur : Nat)
  | tierUp (n : Nat) (cur : Nat)
  | loopSample (n : Nat) (raw : Int) (drop : Nat)
  | rbSample (n : Nat) (rb : Int)
  | rbdevPersist (n : Nat) (beyond : Bool)
  | loopComparator (n : Nat) (cur : Int) (limiting : Bool)
  | complianceSet (n : Nat)
  | aholdEnter (n : Nat)
  | aholdExit (n : Nat)
  | pholdExpired (n : Nat)
  | noregEnter (n : Nat)
  | lsTrip (n : Nat)
  | lsRetry (n : Nat) (limit : Bool)
  | trimWrite (p : Party) (n : Nat) (span : Bool) (v : Word)
  | trim (p : Party) (n arg : Nat)
  | trimZeroKey
  | trimSpanKey
  | trimReverse
  | trimAccept
  | hartcmd (p : Party) (n cmd : Nat)
  | hartScanDue (n : Nat)
  | hartTxStart (n : Nat)
  | hartReply (n cmd rcode devst : Nat) (vars : List Word) (data : List Byte)
  | hartBurst (n cmd rcode devst : Nat) (vars : List Word)
  | hartRspTimeout (n : Nat) (garbled : Bool)
  | hartTxAbort (n : Nat)
  | scanStart (g len : Nat)
  | cjSlotEnd (g : Nat) (temp : Word) (fault : Bool)
  | conversionEnd (ch : Nat) (raw : Word) (saturated : Bool) (settle : Nat)
  | burnoutCheckEnd (ch : Nat) (brk short excLow : Bool)
  | railOff (g : Nat)
  | railRetry (g : Nat) (limit : Bool)
  | setclr (p : Party) (ch : Nat)
  | blankContact (g : Nat) (closed : Bool)
  | blklong (ch : Nat)
  | diFilterChange (ch : Nat) (level : Bool)
  | diWirebrk (ch cur : Nat)
  | diRefillEnd (ch : Nat)
  | outputOverload (ch : Nat)
  | overloadRetry (ch : Nat) (limit : Bool)
  | groupShed (g cur : Nat)
  | doDiagPersist (ch : Nat) (d : DoDiag) (present : Bool)
  | groupLinkLost (g : Nat)
  | vfCut (g mv : Nat)
  | vfRestore (g mv : Nat)
  | dioStartTestEnd (g : Nat) (pass : Bool)
  | vfQualified (g : Nat)
  | vfWarn (g mv : Nat)
  | outputRestore (g : Nat)
  | vfack (p : Party) (g : Nat)
  | crosslinkExchange
  | xlinkLost
  | tpPulse (tp : Nat) (lows : List Nat)
  | siDemand (input : Nat) (closed : Bool)
  | discrepancy (f : Nat)
  | safetyResetButton (f heldMs : Nat)
  | stopdlyExpired (f : Nat)
  | graceLow (f : Nat)
  | graceExpired (f : Nat)
  | degClear (f : Nat)
  | darkPulseTest (n : Nat) (fell demand : Bool)
  | offStateTest (n : Nat) (hsOk lsOk switchOn : Bool)
  | safeOutputOverload (n : Nat)
  | extVoltage (n : Nat) (high : Bool)
  | extVoltageClear (n : Nat)
  | vsWarn (mv : Nat)
  | vsTrip (mv : Nat)
  | safetyDark
  | vsRestore (mv : Nat)
  | safetyKeepaliveLost
  | safetyStartupDone (pass : Bool)
  | abDisagree
  | seal (p : Party) (arg : Nat)
  | setpw (p : Party) (arg : Nat)
  | pwLockoutEnd
  | mainBoundary
  | taskOverrun (i : Nat)
  | trap (i : Nat) (alone : Option Nat)
  | run (p : Party) (arg : Nat)
  | stop (p : Party) (arg : Nat)
  | hold (p : Party) (arg : Nat)
  | forceSet (p : Party) (arg : Nat)
  | forceClr (p : Party) (arg : Nat)
  | forceClrall (p : Party) (arg : Nat)
  | olcApply (p : Party) (arg : Nat)
  | ioInReceived (st : Nat) (trunkB : Bool) (data : List Byte)
  | ioAckReceived (st : Nat) (trunkB : Bool)
  | ioAckTimeout (st : Nat)
  | holdOutputPhase
  | laneTick
  | lanePresentation (form : Nat) (agrees : Bool)
  | laneWindowEnd
  | pvbadTimeout (n : Nat)
  | paramWrite (p : Party) (addr : Nat) (v : Word)
  | stkclr (p : Party) (high : Bool) (v : Word)
  | alarmDelayExpired (pt : Nat) (cond : Nat) (raised : Bool)
  | chatterDown (pt : Nat)
  | shelfExpired (pt : Nat)
  | suprelExpired (g : Nat)
  | escalation
  | deadmanPrewarn
  | deadmanStage3
  | ack (p : Party) (scope target : Nat)
  | silence (p : Party)
  | shelve (p : Party) (pt minutes : Nat)
  | unshelve (p : Party) (pt : Nat)
  | oos (p : Party) (pt : Nat)
  | inserv (p : Party) (pt : Nat)
  | belfryReset (p : Party) (scope target : Nat)
  | watchOn (p : Party)
  | watchOff (p : Party)
  | dmreset (p : Party)
  | duty (p : Party) (engineer : Nat)
  | belfryCmdRx (trunkB : Bool) (src index : Nat) (cmd : Word)
  | belfryCallRepeat
  | belfryKeepWrite
  | formPresentation (form : Nat) (cp : Checkpoint)
  | checkpointWindowClose
  | bankEccError (bank word : Nat) (uncorr : Bool)
  | railDisagree
  | resyncPassComplete (form dur : Nat) (clean : Bool)
  | recessTestEnd (form : Nat) (lbist : Bool) (faults : List MemFault)
  | splitTestsDone (passed : List Nat)
  | rotationDue
  | recessNow (p : Party) (arg : Nat)
  | passLapse (resource : Nat)
  | pairHeartbeatTx
  | pairHeartbeatRx (lane : Nat) (bytes : List Byte)
  | pairLinkUp (node serial pnode : Nat) (pref : Bool)
  | pairLinkLost
  | mirrorDelta (cycle : Nat) (layout : Word) (sig : BitVec 128) (kib : Nat) (m : MirrorSet)
  | healthReport
  | pairHealthRx (m : HealthMsg)
  | stbyrdyHoldExpired
  | claimWaitExpired
  | takeoverEvidence
  | takeoverDuty
  | yield
  | dutyConflict (peerEpoch : Nat)
  | swap (p : Party) (arg : Nat)
  | swapBoundary
  | swapConfirm
  | rebase (p : Party) (arg : Nat)
  | autoReturn
  | relinquishRx
  | standbyFormTestEnd (form : Nat) (lbist : Bool) (faults : List MemFault)
  | heartbeatTimer
  | heartbeatRx (trunkB : Bool) (src : Nat) (hb : Heartbeat)
  | nodeLost (trunkB : Bool) (node : Nat)
  | txAttemptEnd (trunkB : Bool) (err : Option TrunkErr)
  | trunkError (trunkB : Bool) (kind : TrunkErr) (dataPhase : Bool) (tec rec : Nat)
  | busoffRecovery (trunkB : Bool)
  | restrictedIdle (trunkB : Bool)
  | validFrameRx (trunkB : Bool) (src kind : Nat)
  | dupnodeFrame (trunkB : Bool)
  | dupnodeClear (trunkB : Bool)
  | exchangeRx (trunkB : Bool) (src index : Nat) (data : List Byte)
  | mbTxreq (p : Party) (trunkB : Bool) (m : Nat)
  | mbdataWrite (p : Party) (trunkB : Bool) (i : Nat) (v : Word)
  | timeSyncTx
  | timeSyncDrop (trunkB : Bool)
  | timeSyncRx (trunkB : Bool) (ts : TimeSync)
  | masterTimeout
  | ppsEdge (offset : Int)
  | ppsLost
  | timeHoldExpired
  | settime (p : Party) (arg : Nat)
  | acceptstep (p : Party) (arg : Nat)
  | recordAppend
  | episodeTimer
  | freeze (p : Party) (arg : Nat)
  | thaw (p : Party) (arg : Nat)
  | freezeExpired
  | thawDrain
  | clear (p : Party) (arg : Nat)
  | eprel (p : Party) (arg : Nat)
  | openReq (src : Nat) (usb : Bool) (user : Nat) (hostNonce modNonce : List Byte) (session : Nat)
  | openProof (src session : Nat) (hostNonce modNonce hmac : List Byte)
  | offerWithdrawn (session : Nat)
  | userLockoutEnd (user : Nat)
  | read (session seq addr count : Nat)
  | write (session seq addr : Nat) (data : List Word)
  | close (session seq : Nat)
  | invalidMessage (src : Nat)
  | sourceBlockEnd (src : Nat)
  | sessionIdle (session : Nat)
  | usbDetach
  | notifySend (session : Nat)
  | notifyRepeat (session : Nat)
  | notifyAck (session seq : Nat)
  | blkack (ch seq : Nat)
  | blkdata (ch seq : Nat) (words : List Word) (content : ImageContent)
  | blkResend (ch seq : Nat)
  | linkDown (portB : Bool)
  | lanSilent (portB : Bool)
  | prpSupervision
  | otherDatagram (portB : Bool) (kind : Nat)
  | ipChangeEffect
  | pullImage (p : Party) (arg : Nat)
  | pushEvents (p : Party) (arg : Nat)
  | batchCommit
  | pullChangeset (p : Party) (arg : Nat)
  | pullFw (p : Party) (arg : Nat)
  | activateFw (p : Party) (arg : Nat)
  | setimgkey (p : Party) (arg : Nat)
  | userset (p : Party) (arg : Nat)
  | trendSample (s : Nat)
  | panelKeyPress (k : Nat)
  | keyStuck (k : Nat)
  | comOvercurrent (line : Nat)
  | comshortClear
  | lanternKeepaliveLost
  | lamptest (p : Party) (arg : Nat)
  | lamptestEnd
  | slateUpdateStart (region : Nat)
  | slateUpdateEnd
  | holdupMeasure (reserve : Nat)
  | redraw (p : Party) (arg : Nat)
  | clean (p : Party) (arg : Nat)
  | refStopped (ref : Nat)
  | supervisorWindow (dev0 dev1 : Int)
  | islandSwitch (gapNs : Nat)
  | clockCheck (code : Nat) (inTol : Bool)
  | pllLockLoss (island : Nat)
  | pllLockTimeout (island : Nat)
  | measure (p : Party) (arg : Nat)
  | measureDone (count : Nat)
  | switch (p : Party) (arg : Nat)
  | cupolaCopy
  | capMeasure (capMf vcapMv : Nat)
  | tamperEvent (kind : Nat)
  | clrtamper (p : Party) (arg : Nat)
  | vlSupplyChange (group : Nat) (mv : Nat)
  | groupIslandDark (dio : Bool) (g : Nat) (dark : Bool) (vfMv : Nat)
  | safetySelfCheck (input : Option Nat)
  | pairLaneLost (lane : Nat)
  | linkUp (portB : Bool)
  | panelKeyRelease (k : Nat)
  deriving DecidableEq, Repr

end Sys2Proof
end

