-- ==== Sys2Proof/Decode.lean ====
section
/-! DEFINITION. Decoding. spec/opcode_table.json gives no row of this block any bits: a command is no word, and no word spells one. -/

namespace Sys2Proof

/-- The command that a word spells by the table's bits: none, since no row has any. -/
def decodeTableWord (_nbits _w : Nat) : Option Instr := none

end Sys2Proof
end

