-- ==== Sys2Proof/Config.lean ====
section
/-! DEFINITION. What an implementation fixes and the spec leaves open. Every constant here is opaque: nothing in Lean can see a
value of it, so a statement that mentions one holds for every value (log entries name each). -/

namespace Sys2Proof

/-- The linearisation of a standard sensor curve that the spec names by its standard and does not print (R191, R192): the
curve number and the raw value in its unit, to the value in °C, both IEEE 754 single precision. A free value: the standard's
table is outside the spec (log entry 10). -/
opaque Config.curve : Nat → Word → Word

/-- The inverse use of a thermocouple curve (R197): curve number and temperature to the voltage in mV. A free value, as
`Config.curve`. -/
opaque Config.curveInverse : Nat → Word → Word

/-- The largest resistance of a curve in mΩ, for the curves whose table the spec does not print (R182): Ni100, Ni1000. -/
opaque Config.curveMaxOhm : Nat → Nat

/-- Whether a quotient that is not exact takes the upper of its two neighbours, where the spec gives a formula and no rounding
(R140, R112). -/
opaque Config.roundsUp : Int → Int → Bool

/-- The receive error counter after a valid frame that finds it at 128 or more: ISO 11898-1 lets the controller choose in 119 to
127 (R471). -/
opaque Config.recBelow : Nat → Fin 9

/-- Whether a firmware package carries the vendor's signature (R539): the scheme and the vendor key are outside the spec (log entry
70). -/
opaque Config.fwSignatureOk : List Word → Bool

/-- The size in KiB of the delta that a Duty sends at a release (R431): the spec bounds it and gives no coding (log entry 71). -/
opaque Config.deltaKib : Nat → Nat

/-- Which array of a Form and which row of it a word that ECC_CORRECTED names lies in (R83): the spec gives no addressing of the
memories (log entry 90). -/
opaque Config.weakRow : Nat → Fin 10 × Fin 65536

/-- PHASE of a pair heartbeat, in µs since the main boundary (R430), by the operating time it is sent at: the model measures no time
within a main cycle (log entry 101). -/
opaque Config.phase : Nat → Nat

/-- Which reference the supervisor declares BAD where the two differ by more than 2 % and both lie within 2 % of the judge (R580): the
table does not say; true names REF1 (log entry 110). -/
opaque Config.refPick : Int → Int → Bool

/-- How busy a trunk's bus has been over the second that ends at an operating time, in 0.1 % (R484): no command tells the module (log
entry 127). -/
opaque Config.busLoad : Nat → Nat → Nat

/-- What a measuring circuit or a counter of the wire shows at an operating time, where the spec gives the register and no command tells
its content (log entry 23). The first number says which: 0 to 3 PWR's currents, draw and temperature, 4 to 7 the rail currents, 8 to 11
PRP's counts of the two ports, 16 + n the carrier on loop n, 64 + g and 72 + g the supply and the output current of digital group g,
80 + c and 144 + c the current and the raw pin state of digital channel c, 208 to 211 of the safety section: which outputs are under a
test, whose pins have fallen, the test-pulse sources in current limit, and VS. -/
opaque Config.meter : Nat → Nat → BitVec 16

/-- How many percent of a page's running operation are complete at an operating time (R55): the spec gives the register and no
course of it (log entry 179). -/
opaque Config.progress : Nat → Nat → Fin 101

/-- The salt of the safety password's hash (R275), by the number of the change-log entry that the change makes: the spec gives none (log
entry 31). -/
opaque Config.pwSalt : Nat → List Byte

/-- What disturbs Belfry's second engine at the first main boundary after an operating time (R349, R353): for the evaluation and for its repeat,
the words of its results and the bits turned over (log entry 140). -/
opaque Config.upsets : Nat → List (List (Nat × Word))

end Sys2Proof
end

