-- ==== Sys2Proof/Machine/Regs.lean ====
section
/-! DEFINITION. The register map: the byte address of every register the spec's register tables name (page number times
0x1000 plus offset, R33 to R35, R70) and the bit position of every field. Channel registers take the channel's number in the
module (`SCH.x n` for S00 to S31, `DCH.x n` for DIO00 to DIO63); `SAFE.FSTAT view f` takes the view A or B first; `TASK.TCFG i`
is task T(i+1); `PWR.VL i` is VL(i+1); `XFER.TRCFG i` is stream i+1. A 64-bit register is NAME and NAMEH (R7). -/

namespace Sys2Proof.Machine

/-- The place of a field in its register: the lowest bit and the number of bits. -/
structure Fld where
  lo : Nat
  w : Nat
  deriving DecidableEq, Repr

/-- The base address of a page's common header (R33, R34). -/
def pg (page : Nat) : Nat := page * 0x1000

namespace HDR
/-- R42. -/
def PGID (page : Nat) : Nat := pg page + 0x0
def PGID_TYPE : Fld := ⟨16, 16⟩
def PGID_INSTANCE : Fld := ⟨8, 8⟩
def PGID_COUNT : Fld := ⟨0, 8⟩
/-- R44. -/
def PGREV (page : Nat) : Nat := pg page + 0x4
def PGREV_MAJOR : Fld := ⟨24, 8⟩
def PGREV_MINOR : Fld := ⟨16, 8⟩
def PGREV_BUILD : Fld := ⟨0, 16⟩
/-- R46. -/
def PGCAP (page : Nat) : Nat := pg page + 0x8
def PGCAP_BLKCAP : Fld := ⟨16, 16⟩
def PGCAP_GATED : Fld := ⟨4, 1⟩
def PGCAP_SRSTCAP : Fld := ⟨3, 1⟩
def PGCAP_IRQCAP : Fld := ⟨2, 1⟩
def PGCAP_LOCKCAP : Fld := ⟨1, 1⟩
def PGCAP_OPCAP : Fld := ⟨0, 1⟩
/-- R47. -/
def PGCTL (page : Nat) : Nat := pg page + 0xc
def PGCTL_LOCKREQ : Fld := ⟨2, 1⟩
def PGCTL_SRST : Fld := ⟨1, 1⟩
def PGCTL_EN : Fld := ⟨0, 1⟩
/-- R49. -/
def PGSTAT (page : Nat) : Nat := pg page + 0x10
def PGSTAT_BLKSTAT : Fld := ⟨16, 16⟩
def PGSTAT_GATE_FORCED : Fld := ⟨8, 1⟩
def PGSTAT_WREJ_CODE : Fld := ⟨4, 4⟩
def PGSTAT_WREJ : Fld := ⟨3, 1⟩
def PGSTAT_LOCKED : Fld := ⟨2, 1⟩
def PGSTAT_BUSY : Fld := ⟨1, 1⟩
def PGSTAT_READY : Fld := ⟨0, 1⟩
/-- R51. -/
def IRQSTAT (page : Nat) : Nat := pg page + 0x14
def IRQSTAT_BLKIRQ : Fld := ⟨16, 16⟩
def IRQSTAT_HEALTH : Fld := ⟨2, 1⟩
def IRQSTAT_WREJ : Fld := ⟨1, 1⟩
def IRQSTAT_OPEND : Fld := ⟨0, 1⟩
/-- R51. -/
def IRQEN (page : Nat) : Nat := pg page + 0x18
def IRQEN_ALL : Fld := ⟨0, 32⟩
/-- R51. -/
def IRQSET (page : Nat) : Nat := pg page + 0x1c
def IRQSET_ALL : Fld := ⟨0, 32⟩
/-- R54. -/
def OPCMD (page : Nat) : Nat := pg page + 0x20
def OPCMD_ARG : Fld := ⟨16, 16⟩
def OPCMD_OP : Fld := ⟨8, 8⟩
def OPCMD_CMD : Fld := ⟨0, 2⟩
/-- R55. -/
def OPSTAT (page : Nat) : Nat := pg page + 0x24
def OPSTAT_PROGRESS : Fld := ⟨24, 8⟩
def OPSTAT_REASON : Fld := ⟨16, 8⟩
def OPSTAT_OP : Fld := ⟨8, 8⟩
def OPSTAT_ABORT_LATE : Fld := ⟨3, 1⟩
def OPSTAT_STATE : Fld := ⟨0, 3⟩
/-- R61. -/
def PGKEY (page : Nat) : Nat := pg page + 0x28
def PGKEY_REMAIN : Fld := ⟨24, 8⟩
def PGKEY_HOLDER : Fld := ⟨20, 4⟩
def PGKEY_ROLE : Fld := ⟨16, 4⟩
def PGKEY_KEY : Fld := ⟨0, 16⟩
/-- R66. -/
def PGHEALTH (page : Nat) : Nat := pg page + 0x2c
def PGHEALTH_REASON : Fld := ⟨8, 8⟩
def PGHEALTH_CLASS : Fld := ⟨0, 2⟩
end HDR

/-- R100. -/
def SYS.STATE : Nat := 0x40
def SYS.STATE_FORMS : Fld := ⟨12, 2⟩
def SYS.STATE_HELDWHY : Fld := ⟨8, 4⟩
def SYS.STATE_PERMIT : Fld := ⟨6, 1⟩
def SYS.STATE_ROLE : Fld := ⟨4, 2⟩
def SYS.STATE_STATE : Fld := ⟨0, 4⟩
/-- R101. -/
def SYS.IMAGE : Nat := 0x44
def SYS.IMAGE_PENDWHY : Fld := ⟨8, 8⟩
def SYS.IMAGE_PEND : Fld := ⟨1, 3⟩
def SYS.IMAGE_ACTIVE : Fld := ⟨0, 1⟩
/-- R102. -/
def SYS.ACTID : Nat := 0x48
def SYS.ACTID_ID : Fld := ⟨0, 32⟩
/-- R102. -/
def SYS.PENDID : Nat := 0x4c
def SYS.PENDID_ID : Fld := ⟨0, 32⟩
/-- R103. -/
def SYS.ORDER : Nat := 0x50
def SYS.ORDER_SERIAL : Fld := ⟨8, 24⟩
def SYS.ORDER_CODE : Fld := ⟨0, 8⟩
/-- R105. -/
def RST.CAUSE : Nat := 0x3040
def RST.CAUSE_FIRMWARE : Fld := ⟨5, 1⟩
def RST.CAUSE_CUPOLA_LOST : Fld := ⟨4, 1⟩
def RST.CAUSE_FAILED_EXIT : Fld := ⟨3, 1⟩
def RST.CAUSE_SUPERVISOR : Fld := ⟨2, 1⟩
def RST.CAUSE_HOST : Fld := ⟨1, 1⟩
def RST.CAUSE_POWER : Fld := ⟨0, 1⟩
/-- R106. -/
def BIST.FORMSTAT : Nat := 0x4040
def BIST.FORMSTAT_LPASSA : Fld := ⟨0, 1⟩
def BIST.FORMSTAT_MPASSA : Fld := ⟨1, 1⟩
def BIST.FORMSTAT_EXCLA : Fld := ⟨2, 1⟩
def BIST.FORMSTAT_RETESTEDA : Fld := ⟨3, 1⟩
def BIST.FORMSTAT_LPASSB : Fld := ⟨4, 1⟩
def BIST.FORMSTAT_MPASSB : Fld := ⟨5, 1⟩
def BIST.FORMSTAT_EXCLB : Fld := ⟨6, 1⟩
def BIST.FORMSTAT_RETESTEDB : Fld := ⟨7, 1⟩
def BIST.FORMSTAT_LPASSC : Fld := ⟨8, 1⟩
def BIST.FORMSTAT_MPASSC : Fld := ⟨9, 1⟩
def BIST.FORMSTAT_EXCLC : Fld := ⟨10, 1⟩
def BIST.FORMSTAT_RETESTEDC : Fld := ⟨11, 1⟩
def BIST.FORMSTAT_LPASSD : Fld := ⟨12, 1⟩
def BIST.FORMSTAT_MPASSD : Fld := ⟨13, 1⟩
def BIST.FORMSTAT_EXCLD : Fld := ⟨14, 1⟩
def BIST.FORMSTAT_RETESTEDD : Fld := ⟨15, 1⟩
/-- R107. -/
def BIST.SPARES : Nat := 0x4044
def BIST.SPARES_WORSTARR : Fld := ⟨8, 8⟩
def BIST.SPARES_WORSTPCT : Fld := ⟨0, 8⟩
/-- R107. -/
def BIST.REPCNT : Nat := 0x4048
def BIST.REPCNT_FUSED : Fld := ⟨16, 16⟩
def BIST.REPCNT_SOFT : Fld := ⟨0, 16⟩
/-- R107. -/
def BIST.FUSEFREE : Nat := 0x404c
def BIST.FUSEFREE_FREE : Fld := ⟨0, 32⟩
/-- R145. -/
def LOOP.CFG (n : Nat) : Nat := 0x40040 + 0x1000 * n
def LOOP.CFG_PHOLD : Fld := ⟨16, 10⟩
def LOOP.CFG_PAIRED : Fld := ⟨8, 1⟩
def LOOP.CFG_LSUP : Fld := ⟨4, 1⟩
def LOOP.CFG_MODE : Fld := ⟨0, 2⟩
/-- R146. -/
def LOOP.OUTVAL (n : Nat) : Nat := 0x40044 + 0x1000 * n
def LOOP.OUTVAL_VAL : Fld := ⟨0, 20⟩
/-- R147. -/
def LOOP.STOPVAL (n : Nat) : Nat := 0x40048 + 0x1000 * n
def LOOP.STOPVAL_KEEP : Fld := ⟨31, 1⟩
def LOOP.STOPVAL_VAL : Fld := ⟨0, 20⟩
/-- R148. -/
def LOOP.RBCFG (n : Nat) : Nat := 0x4004c + 0x1000 * n
def LOOP.RBCFG_RBDLY : Fld := ⟨8, 16⟩
def LOOP.RBCFG_RBTOL : Fld := ⟨0, 8⟩
/-- R149. -/
def LOOP.VALUE (n : Nat) : Nat := 0x40050 + 0x1000 * n
def LOOP.VALUE_I : Fld := ⟨0, 32⟩
/-- R149. -/
def LOOP.RBVALUE (n : Nat) : Nat := 0x40054 + 0x1000 * n
def LOOP.RBVALUE_I : Fld := ⟨0, 32⟩
/-- R150. -/
def LOOP.STAT (n : Nat) : Nat := 0x40058 + 0x1000 * n
def LOOP.STAT_TRIMMING : Fld := ⟨27, 1⟩
def LOOP.STAT_DARK : Fld := ⟨26, 1⟩
def LOOP.STAT_CLAMP : Fld := ⟨25, 1⟩
def LOOP.STAT_LINKLOST : Fld := ⟨24, 1⟩
def LOOP.STAT_OVERCUR : Fld := ⟨23, 1⟩
def LOOP.STAT_LSFAULT : Fld := ⟨22, 1⟩
def LOOP.STAT_NOREG : Fld := ⟨21, 1⟩
def LOOP.STAT_RBDEV : Fld := ⟨20, 1⟩
def LOOP.STAT_LOWV : Fld := ⟨19, 1⟩
def LOOP.STAT_COMPLIANCE : Fld := ⟨18, 1⟩
def LOOP.STAT_HIGHCUR : Fld := ⟨17, 1⟩
def LOOP.STAT_LOWCUR : Fld := ⟨16, 1⟩
def LOOP.STAT_QUAL : Fld := ⟨8, 3⟩
def LOOP.STAT_TIER : Fld := ⟨4, 2⟩
def LOOP.STAT_ISTATE : Fld := ⟨0, 4⟩
/-- R151. -/
def LOOP.TRIMZ (n : Nat) : Nat := 0x40060 + 0x1000 * n
def LOOP.TRIMZ_Z : Fld := ⟨0, 16⟩
/-- R151. -/
def LOOP.TRIMS (n : Nat) : Nat := 0x40064 + 0x1000 * n
def LOOP.TRIMS_S : Fld := ⟨0, 16⟩
/-- R152. -/
def LOOP.VDROP (n : Nat) : Nat := 0x40068 + 0x1000 * n
def LOOP.VDROP_HEADROOM : Fld := ⟨16, 16⟩
def LOOP.VDROP_DROP : Fld := ⟨0, 16⟩
/-- R152. -/
def LOOP.COUNTS (n : Nat) : Nat := 0x4006c + 0x1000 * n
def LOOP.COUNTS_TIERCNT : Fld := ⟨16, 16⟩
def LOOP.COUNTS_WAKECNT : Fld := ⟨0, 16⟩
/-- R173. -/
def LOOP.HCFG (n : Nat) : Nat := 0x40070 + 0x1000 * n
def LOOP.HCFG_SCANPER : Fld := ⟨24, 8⟩
def LOOP.HCFG_PREAMB : Fld := ⟨11, 5⟩
def LOOP.HCFG_RETRY : Fld := ⟨8, 2⟩
def LOOP.HCFG_SECOND : Fld := ⟨1, 1⟩
def LOOP.HCFG_HEN : Fld := ⟨0, 1⟩
/-- R175. -/
def LOOP.HSTAT (n : Nat) : Nat := 0x40078 + 0x1000 * n
def LOOP.HSTAT_DEVST : Fld := ⟨24, 8⟩
def LOOP.HSTAT_RCODE : Fld := ⟨16, 8⟩
def LOOP.HSTAT_HAGE : Fld := ⟨8, 8⟩
def LOOP.HSTAT_BURST : Fld := ⟨6, 1⟩
def LOOP.HSTAT_CD : Fld := ⟨5, 1⟩
def LOOP.HSTAT_TXOK : Fld := ⟨4, 1⟩
def LOOP.HSTAT_TXWHY : Fld := ⟨2, 2⟩
def LOOP.HSTAT_DEV : Fld := ⟨1, 1⟩
def LOOP.HSTAT_HERR : Fld := ⟨0, 1⟩
/-- R176. -/
def LOOP.HADDR0 (n : Nat) : Nat := 0x4008c + 0x1000 * n
def LOOP.HADDR0_UIDL : Fld := ⟨0, 32⟩
/-- R176. -/
def LOOP.HADDR1 (n : Nat) : Nat := 0x40090 + 0x1000 * n
def LOOP.HADDR1_UIDH : Fld := ⟨0, 6⟩
/-- R176. -/
def LOOP.HCNT (n : Nat) : Nat := 0x40094 + 0x1000 * n
def LOOP.HCNT_ERRCNT : Fld := ⟨16, 16⟩
def LOOP.HCNT_OKCNT : Fld := ⟨0, 16⟩
/-- R176. -/
def LOOP.HBCNT (n : Nat) : Nat := 0x40098 + 0x1000 * n
def LOOP.HBCNT_SKIP : Fld := ⟨16, 16⟩
def LOOP.HBCNT_RCVD : Fld := ⟨0, 16⟩
/-- R176. -/
def LOOP.HLEN (n : Nat) : Nat := 0x4009c + 0x1000 * n
def LOOP.HLEN_RSPLEN : Fld := ⟨16, 8⟩
def LOOP.HLEN_REQLEN : Fld := ⟨0, 8⟩
/-- R150. -/
def LOOP.STICKY (n : Nat) : Nat := 0x4005c + 0x1000 * n
def LOOP.STICKY_LOWCUR : Fld := ⟨16, 1⟩
def LOOP.STICKY_HIGHCUR : Fld := ⟨17, 1⟩
def LOOP.STICKY_COMPLIANCE : Fld := ⟨18, 1⟩
def LOOP.STICKY_LOWV : Fld := ⟨19, 1⟩
def LOOP.STICKY_RBDEV : Fld := ⟨20, 1⟩
def LOOP.STICKY_NOREG : Fld := ⟨21, 1⟩
def LOOP.STICKY_LSFAULT : Fld := ⟨22, 1⟩
def LOOP.STICKY_OVERCUR : Fld := ⟨23, 1⟩
def LOOP.STICKY_LINKLOST : Fld := ⟨24, 1⟩
def LOOP.STICKY_CLAMP : Fld := ⟨25, 1⟩
def LOOP.STICKY_DARK : Fld := ⟨26, 1⟩
def LOOP.STICKY_TRIMCHG : Fld := ⟨27, 1⟩
/-- R174. -/
def LOOP.HSCAN (n : Nat) : Nat := 0x40074 + 0x1000 * n
def LOOP.HSCAN_CMD0 : Fld := ⟨0, 8⟩
def LOOP.HSCAN_CMD1 : Fld := ⟨8, 8⟩
def LOOP.HSCAN_CMD2 : Fld := ⟨16, 8⟩
def LOOP.HSCAN_CMD3 : Fld := ⟨24, 8⟩
/-- R176. -/
def LOOP.HPV (n : Nat) : Nat := 0x4007c + 0x1000 * n
def LOOP.HPV_VAL : Fld := ⟨0, 32⟩
/-- R176. -/
def LOOP.HSV (n : Nat) : Nat := 0x40080 + 0x1000 * n
def LOOP.HSV_VAL : Fld := ⟨0, 32⟩
/-- R176. -/
def LOOP.HTV (n : Nat) : Nat := 0x40084 + 0x1000 * n
def LOOP.HTV_VAL : Fld := ⟨0, 32⟩
/-- R176. -/
def LOOP.HQV (n : Nat) : Nat := 0x40088 + 0x1000 * n
def LOOP.HQV_VAL : Fld := ⟨0, 32⟩
/-- R176. -/
def LOOP.HREQ (n : Nat) (i : Nat) : Nat := 0x40100 + 0x1000 * n + 0x4 * i
def LOOP.HREQ_DATA : Fld := ⟨0, 32⟩
/-- R176. -/
def LOOP.HRSP (n : Nat) (i : Nat) : Nat := 0x40200 + 0x1000 * n + 0x4 * i
def LOOP.HRSP_DATA : Fld := ⟨0, 32⟩
/-- R209. -/
def SENS.GSTAT (n : Nat) : Nat := 0x80044 + 0x1000 * n
def SENS.GSTAT_BLANKING : Fld := ⟨20, 1⟩
def SENS.GSTAT_CJFAULT : Fld := ⟨19, 1⟩
def SENS.GSTAT_EXCOVL : Fld := ⟨18, 1⟩
def SENS.GSTAT_SCANOVR : Fld := ⟨17, 1⟩
/-- R209. -/
def SENS.SCANT (n : Nat) : Nat := 0x80048 + 0x1000 * n
def SENS.SCANT_MAX : Fld := ⟨16, 16⟩
def SENS.SCANT_LAST : Fld := ⟨0, 16⟩
/-- R209. -/
def SENS.CJT (n : Nat) : Nat := 0x8004c + 0x1000 * n
def SENS.CJT_T : Fld := ⟨0, 32⟩
/-- R209. -/
def SENS.CJFIX (n : Nat) : Nat := 0x80050 + 0x1000 * n
def SENS.CJFIX_T : Fld := ⟨0, 32⟩
/-- R209. -/
def SENS.EXCI (n : Nat) : Nat := 0x80054 + 0x1000 * n
def SENS.EXCI_I : Fld := ⟨0, 16⟩
/-- R209. -/
def SENS.BLKMAX (n : Nat) : Nat := 0x80058 + 0x1000 * n
def SENS.BLKMAX_T : Fld := ⟨0, 12⟩
/-- R208. -/
def SENS.GCFG (n : Nat) : Nat := 0x80040 + 0x1000 * n
def SENS.GCFG_CJMODE : Fld := ⟨26, 2⟩
def SENS.GCFG_CJCH : Fld := ⟨23, 3⟩
def SENS.GCFG_BLKPOL : Fld := ⟨22, 1⟩
def SENS.GCFG_BLKON : Fld := ⟨21, 1⟩
def SENS.GCFG_VEXC : Fld := ⟨18, 3⟩
def SENS.GCFG_SCANPER : Fld := ⟨0, 14⟩
/-- R210. -/
def SCH.CFG (n : Nat) : Nat := 0x80100 + 0x1000 * (n / 8) + 0x40 * (n % 8)
def SCH.CFG_BLKEN : Fld := ⟨27, 1⟩
def SCH.CFG_BOEN : Fld := ⟨26, 1⟩
def SCH.CFG_VRANGE : Fld := ⟨24, 2⟩
def SCH.CFG_IEXC : Fld := ⟨21, 3⟩
def SCH.CFG_EXCEN : Fld := ⟨20, 1⟩
def SCH.CFG_WIRE : Fld := ⟨18, 2⟩
def SCH.CFG_CURVE : Fld := ⟨8, 8⟩
def SCH.CFG_TYPE : Fld := ⟨0, 3⟩
/-- R211. -/
def SCH.TIMING (n : Nat) : Nat := 0x80104 + 0x1000 * (n / 8) + 0x40 * (n % 8)
def SCH.TIMING_SETKMAX : Fld := ⟨29, 3⟩
def SCH.TIMING_INTT : Fld := ⟨26, 3⟩
def SCH.TIMING_FTYPE : Fld := ⟨24, 2⟩
def SCH.TIMING_FPAR : Fld := ⟨18, 6⟩
def SCH.TIMING_SETDLY : Fld := ⟨0, 14⟩
/-- R211. -/
def SCH.SETCFG (n : Nat) : Nat := 0x80108 + 0x1000 * (n / 8) + 0x40 * (n % 8)
def SCH.SETCFG_SETCLR : Fld := ⟨9, 1⟩
def SCH.SETCFG_SETXEN : Fld := ⟨8, 1⟩
def SCH.SETCFG_SETTOL : Fld := ⟨0, 8⟩
/-- R212. -/
def SCH.SETSTAT (n : Nat) : Nat := 0x8010c + 0x1000 * (n / 8) + 0x40 * (n % 8)
def SCH.SETSTAT_UPCNT : Fld := ⟨24, 8⟩
def SCH.SETSTAT_K : Fld := ⟨21, 3⟩
def SCH.SETSTAT_PASS : Fld := ⟨16, 5⟩
def SCH.SETSTAT_SETEFF : Fld := ⟨0, 14⟩
/-- R212. -/
def SCH.VALUE (n : Nat) : Nat := 0x80110 + 0x1000 * (n / 8) + 0x40 * (n % 8)
def SCH.VALUE_V : Fld := ⟨0, 32⟩
/-- R212. -/
def SCH.RAW (n : Nat) : Nat := 0x80114 + 0x1000 * (n / 8) + 0x40 * (n % 8)
def SCH.RAW_V : Fld := ⟨0, 32⟩
/-- R212. -/
def SCH.STAT (n : Nat) : Nat := 0x80118 + 0x1000 * (n / 8) + 0x40 * (n % 8)
def SCH.STAT_ROUTEERR : Fld := ⟨26, 1⟩
def SCH.STAT_CURVEERR : Fld := ⟨25, 1⟩
def SCH.STAT_EXCFAIL : Fld := ⟨24, 1⟩
def SCH.STAT_SETLIM : Fld := ⟨23, 1⟩
def SCH.STAT_SLOWSET : Fld := ⟨22, 1⟩
def SCH.STAT_BLKLONG : Fld := ⟨21, 1⟩
def SCH.STAT_CJBAD : Fld := ⟨20, 1⟩
def SCH.STAT_SHORT : Fld := ⟨19, 1⟩
def SCH.STAT_WIREBRK : Fld := ⟨18, 1⟩
def SCH.STAT_UNDER : Fld := ⟨17, 1⟩
def SCH.STAT_OVER : Fld := ⟨16, 1⟩
def SCH.STAT_QUAL : Fld := ⟨8, 3⟩
def SCH.STAT_SEQ : Fld := ⟨0, 8⟩
/-- R213. -/
def SCH.ROUTE (n : Nat) : Nat := 0x80120 + 0x1000 * (n / 8) + 0x40 * (n % 8)
def SCH.ROUTE_ROUTEEN : Fld := ⟨31, 1⟩
def SCH.ROUTE_ONBAD : Fld := ⟨29, 2⟩
def SCH.ROUTE_LOOPCH : Fld := ⟨0, 6⟩
/-- R213. -/
def SCH.ROUTELO (n : Nat) : Nat := 0x80124 + 0x1000 * (n / 8) + 0x40 * (n % 8)
def SCH.ROUTELO_V : Fld := ⟨0, 32⟩
/-- R213. -/
def SCH.ROUTEHI (n : Nat) : Nat := 0x80128 + 0x1000 * (n / 8) + 0x40 * (n % 8)
def SCH.ROUTEHI_V : Fld := ⟨0, 32⟩
/-- R212. -/
def SCH.STICKY (n : Nat) : Nat := 0x8011c + 0x1000 * (n / 8) + 0x40 * (n % 8)
def SCH.STICKY_OVER : Fld := ⟨16, 1⟩
def SCH.STICKY_UNDER : Fld := ⟨17, 1⟩
def SCH.STICKY_WIREBRK : Fld := ⟨18, 1⟩
def SCH.STICKY_SHORT : Fld := ⟨19, 1⟩
def SCH.STICKY_CJBAD : Fld := ⟨20, 1⟩
def SCH.STICKY_BLKLONG : Fld := ⟨21, 1⟩
def SCH.STICKY_SLOWSET : Fld := ⟨22, 1⟩
def SCH.STICKY_SETLIM : Fld := ⟨23, 1⟩
def SCH.STICKY_EXCFAIL : Fld := ⟨24, 1⟩
def SCH.STICKY_CURVEERR : Fld := ⟨25, 1⟩
def SCH.STICKY_ROUTEERR : Fld := ⟨26, 1⟩
/-- R214. -/
def SENS.THDR (n : Nat) (i : Nat) : Nat := 0x80400 + 0x1000 * n + 0x110 * i
def SENS.THDR_RAWKIND : Fld := ⟨8, 2⟩
def SENS.THDR_NPTS : Fld := ⟨0, 6⟩
/-- R214. -/
def SENS.TX (n : Nat) (i : Nat) (j : Nat) : Nat := 0x80404 + 0x1000 * n + 0x110 * i + 0x8 * j
def SENS.TX_X : Fld := ⟨0, 32⟩
/-- R214. -/
def SENS.TY (n : Nat) (i : Nat) (j : Nat) : Nat := 0x80408 + 0x1000 * n + 0x110 * i + 0x8 * j
def SENS.TY_Y : Fld := ⟨0, 32⟩
/-- R236. -/
def DIO.GCFG (n : Nat) : Nat := 0x90040 + 0x1000 * n
def DIO.GCFG_AUTOREST : Fld := ⟨0, 1⟩
/-- R237. -/
def DIO.GCTL (n : Nat) : Nat := 0x90044 + 0x1000 * n
def DIO.GCTL_VFACK : Fld := ⟨0, 1⟩
/-- R238. -/
def DIO.GSTAT (n : Nat) : Nat := 0x90048 + 0x1000 * n
def DIO.GSTAT_SHEDACT : Fld := ⟨11, 1⟩
def DIO.GSTAT_GSWOPEN : Fld := ⟨10, 1⟩
def DIO.GSTAT_VFWARN : Fld := ⟨9, 1⟩
def DIO.GSTAT_NEVERUP : Fld := ⟨8, 1⟩
def DIO.GSTAT_VSTATE : Fld := ⟨0, 3⟩
/-- R239. -/
def DIO.VFMEAS (n : Nat) : Nat := 0x9004c + 0x1000 * n
def DIO.VFMEAS_IGRP : Fld := ⟨16, 16⟩
def DIO.VFMEAS_VF : Fld := ⟨0, 16⟩
/-- R240. -/
def DIO.GIN (n : Nat) : Nat := 0x90050 + 0x1000 * n
def DIO.GIN_QBAD : Fld := ⟨16, 8⟩
def DIO.GIN_PIN : Fld := ⟨8, 8⟩
def DIO.GIN_IN : Fld := ⟨0, 8⟩
/-- R241. -/
def DIO.GOUT (n : Nat) : Nat := 0x90054 + 0x1000 * n
def DIO.GOUT_EFF : Fld := ⟨8, 8⟩
def DIO.GOUT_OUT : Fld := ⟨0, 8⟩
/-- R242. -/
def DIO.GSTOP (n : Nat) : Nat := 0x90058 + 0x1000 * n
def DIO.GSTOP_KEEP : Fld := ⟨8, 8⟩
def DIO.GSTOP_VAL : Fld := ⟨0, 8⟩
/-- R243. -/
def DCH.CFG (n : Nat) : Nat := 0x90100 + 0x1000 * (n / 8) + 0x40 * (n % 8)
def DCH.CFG_SOEEN : Fld := ⟨10, 1⟩
def DCH.CFG_OLEN : Fld := ⟨9, 1⟩
def DCH.CFG_PAIRED : Fld := ⟨8, 1⟩
def DCH.CFG_WBEN : Fld := ⟨5, 1⟩
def DCH.CFG_ITYPE : Fld := ⟨4, 1⟩
def DCH.CFG_MODE : Fld := ⟨0, 2⟩
/-- R244. -/
def DCH.FILT (n : Nat) : Nat := 0x90104 + 0x1000 * (n / 8) + 0x40 * (n % 8)
def DCH.FILT_FMODE : Fld := ⟨31, 1⟩
def DCH.FILT_CMAX : Fld := ⟨16, 8⟩
def DCH.FILT_FTIME : Fld := ⟨0, 14⟩
/-- R245. -/
def DCH.STAT (n : Nat) : Nat := 0x90108 + 0x1000 * (n / 8) + 0x40 * (n % 8)
def DCH.STAT_DARK : Fld := ⟨26, 1⟩
def DCH.STAT_VFHOLD : Fld := ⟨25, 1⟩
def DCH.STAT_VFCUT : Fld := ⟨24, 1⟩
def DCH.STAT_VFWARN : Fld := ⟨23, 1⟩
def DCH.STAT_OPENLOAD : Fld := ⟨22, 1⟩
def DCH.STAT_BACKFED : Fld := ⟨21, 1⟩
def DCH.STAT_RBFAIL : Fld := ⟨20, 1⟩
def DCH.STAT_STUCKON : Fld := ⟨19, 1⟩
def DCH.STAT_SHED : Fld := ⟨18, 1⟩
def DCH.STAT_OVERLOAD : Fld := ⟨17, 1⟩
def DCH.STAT_WIREBRK : Fld := ⟨16, 1⟩
def DCH.STAT_QUAL : Fld := ⟨8, 3⟩
def DCH.STAT_PIN : Fld := ⟨1, 1⟩
def DCH.STAT_IN : Fld := ⟨0, 1⟩
/-- R246. -/
def DCH.COUNT (n : Nat) : Nat := 0x90110 + 0x1000 * (n / 8) + 0x40 * (n % 8)
def DCH.COUNT_TRIPCNT : Fld := ⟨16, 16⟩
def DCH.COUNT_EDGES : Fld := ⟨0, 16⟩
/-- R246. -/
def DCH.CUR (n : Nat) : Nat := 0x90114 + 0x1000 * (n / 8) + 0x40 * (n % 8)
def DCH.CUR_I : Fld := ⟨0, 16⟩
/-- R245. -/
def DCH.STICKY (n : Nat) : Nat := 0x9010c + 0x1000 * (n / 8) + 0x40 * (n % 8)
def DCH.STICKY_WIREBRK : Fld := ⟨16, 1⟩
def DCH.STICKY_OVERLOAD : Fld := ⟨17, 1⟩
def DCH.STICKY_SHED : Fld := ⟨18, 1⟩
def DCH.STICKY_STUCKON : Fld := ⟨19, 1⟩
def DCH.STICKY_RBFAIL : Fld := ⟨20, 1⟩
def DCH.STICKY_BACKFED : Fld := ⟨21, 1⟩
def DCH.STICKY_OPENLOAD : Fld := ⟨22, 1⟩
def DCH.STICKY_VFWARN : Fld := ⟨23, 1⟩
def DCH.STICKY_VFCUT : Fld := ⟨24, 1⟩
def DCH.STICKY_VFHOLD : Fld := ⟨25, 1⟩
def DCH.STICKY_DARK : Fld := ⟨26, 1⟩
/-- R283. -/
def SAFE.FCFG0 (i : Nat) : Nat := 0x30040 + 0x8 * i
def SAFE.FCFG0_TYPE : Fld := ⟨28, 4⟩
def SAFE.FCFG0_OUTMASK : Fld := ⟨24, 4⟩
def SAFE.FCFG0_RESET : Fld := ⟨22, 2⟩
def SAFE.FCFG0_RSTF : Fld := ⟨19, 3⟩
def SAFE.FCFG0_ARR : Fld := ⟨18, 1⟩
def SAFE.FCFG0_TPA : Fld := ⟨16, 2⟩
def SAFE.FCFG0_TPB : Fld := ⟨14, 2⟩
def SAFE.FCFG0_SIFILT : Fld := ⟨12, 2⟩
def SAFE.FCFG0_CAT : Fld := ⟨10, 2⟩
def SAFE.FCFG0_DISC : Fld := ⟨0, 10⟩
/-- R283. -/
def SAFE.FCFG1 (i : Nat) : Nat := 0x30044 + 0x8 * i
def SAFE.FCFG1_STOPDLY : Fld := ⟨16, 16⟩
def SAFE.FCFG1_GRACE : Fld := ⟨0, 16⟩
/-- R284. -/
def SAFE.SCFG : Nat := 0x30080
def SAFE.SCFG_OREADY : Fld := ⟨0, 4⟩
/-- R284. -/
def SAFE.SIG : Nat := 0x30084
def SAFE.SIG_SIG : Fld := ⟨0, 32⟩
/-- R284. -/
def SAFE.PENDSIG : Nat := 0x30088
def SAFE.PENDSIG_SIG : Fld := ⟨0, 32⟩
/-- R284. -/
def SAFE.SECSTAT : Nat := 0x3008c
def SAFE.SECSTAT_TRIPWHY : Fld := ⟨8, 4⟩
def SAFE.SECSTAT_VSWARN : Fld := ⟨6, 1⟩
def SAFE.SECSTAT_SSTATE : Fld := ⟨0, 4⟩
/-- R284. -/
def SAFE.PREQ : Nat := 0x30090
def SAFE.PREQ_RESET : Fld := ⟨4, 8⟩
def SAFE.PREQ_STOP : Fld := ⟨0, 4⟩
/-- R284. -/
def SAFE.VSMEAS : Nat := 0x30094
def SAFE.VSMEAS_VS : Fld := ⟨0, 16⟩
/-- R284. -/
def SAFE.PWSTAT : Nat := 0x30098
def SAFE.PWSTAT_LOCKREM : Fld := ⟨16, 16⟩
def SAFE.PWSTAT_FAILS : Fld := ⟨8, 2⟩
def SAFE.PWSTAT_PWSET : Fld := ⟨0, 1⟩
/-- R284. -/
def SAFE.PWLEN : Nat := 0x3009c
def SAFE.PWLEN_NLEN : Fld := ⟨8, 6⟩
def SAFE.PWLEN_LEN : Fld := ⟨0, 6⟩
/-- R284. -/
def SAFE.CLOGSEQ : Nat := 0x300e0
def SAFE.CLOGSEQ_SEQ : Fld := ⟨0, 32⟩
/-- R284. -/
def SAFE.CLOGHEAD : Nat := 0x300e4
def SAFE.CLOGHEAD_SEQ : Fld := ⟨0, 32⟩
/-- R284. -/
def SAFE.PWBUF (i : Nat) : Nat := 0x300a0 + 0x4 * i
def SAFE.PWBUF_DATA : Fld := ⟨0, 32⟩
/-- R284. -/
def SAFE.NPWBUF (i : Nat) : Nat := 0x300c0 + 0x4 * i
def SAFE.NPWBUF_DATA : Fld := ⟨0, 32⟩
/-- R284. -/
def SAFE.CLOGDATA (i : Nat) : Nat := 0x30100 + 0x4 * i
def SAFE.CLOGDATA_DATA : Fld := ⟨0, 32⟩
/-- R285. -/
def SAFE.FSTAT (i : Nat) (j : Nat) : Nat := 0x30200 + 0x100 * i + 0x4 * j
def SAFE.FSTAT_GRACEREM : Fld := ⟨16, 16⟩
def SAFE.FSTAT_DEG : Fld := ⟨13, 1⟩
def SAFE.FSTAT_DISC : Fld := ⟨12, 1⟩
def SAFE.FSTAT_CHBF : Fld := ⟨11, 1⟩
def SAFE.FSTAT_CHAF : Fld := ⟨10, 1⟩
def SAFE.FSTAT_CHB : Fld := ⟨9, 1⟩
def SAFE.FSTAT_CHA : Fld := ⟨8, 1⟩
def SAFE.FSTAT_FWHYA : Fld := ⟨6, 2⟩
def SAFE.FSTAT_FWHYB : Fld := ⟨4, 2⟩
def SAFE.FSTAT_FSTATE : Fld := ⟨0, 4⟩
/-- R285. -/
def SAFE.OSTAT (i : Nat) (j : Nat) : Nat := 0x30220 + 0x100 * i + 0x4 * j
def SAFE.OSTAT_DPAB : Fld := ⟨24, 8⟩
def SAFE.OSTAT_OTAB : Fld := ⟨16, 8⟩
def SAFE.OSTAT_OVERLOAD : Fld := ⟨11, 1⟩
def SAFE.OSTAT_LSEXT : Fld := ⟨10, 1⟩
def SAFE.OSTAT_HSEXT : Fld := ⟨9, 1⟩
def SAFE.OSTAT_LSFAIL : Fld := ⟨8, 1⟩
def SAFE.OSTAT_HSFAIL : Fld := ⟨7, 1⟩
def SAFE.OSTAT_OSTATE : Fld := ⟨0, 4⟩
/-- R285. -/
def SAFE.PSTAT (i : Nat) : Nat := 0x30230 + 0x100 * i
def SAFE.PSTAT_TPF1 : Fld := ⟨9, 1⟩
def SAFE.PSTAT_TPF0 : Fld := ⟨8, 1⟩
def SAFE.PSTAT_XLOST : Fld := ⟨4, 1⟩
def SAFE.PSTAT_SSTATE : Fld := ⟨0, 4⟩
/-- R318. -/
def TASK.MAIN : Nat := 0x10040
def TASK.MAIN_OVRMAX : Fld := ⟨24, 8⟩
def TASK.MAIN_WD0 : Fld := ⟨10, 14⟩
def TASK.MAIN_P0 : Fld := ⟨0, 10⟩
/-- R318. -/
def TASK.TCFG (i : Nat) : Nat := 0x10044 + 0x4 * i
def TASK.TCFG_EN : Fld := ⟨31, 1⟩
def TASK.TCFG_PHASE : Fld := ⟨16, 10⟩
def TASK.TCFG_MULT : Fld := ⟨0, 10⟩
/-- R319. -/
def TASK.STAT : Nat := 0x10050
def TASK.STAT_OVR : Fld := ⟨24, 4⟩
def TASK.STAT_TRAP : Fld := ⟨20, 4⟩
def TASK.STAT_XWRITE : Fld := ⟨16, 1⟩
def TASK.STAT_STOPWHY : Fld := ⟨12, 4⟩
def TASK.STAT_STARTKIND : Fld := ⟨8, 4⟩
def TASK.STAT_FORCED : Fld := ⟨0, 1⟩
/-- R319. -/
def TASK.CYCLE : Nat := 0x10054
def TASK.CYCLE_N : Fld := ⟨0, 32⟩
/-- R319. -/
def TASK.CYCLEH : Nat := 0x10058
def TASK.CYCLEH_N : Fld := ⟨0, 32⟩
/-- R319. -/
def TASK.TIME (i : Nat) : Nat := 0x10060 + 0x4 * i
def TASK.TIME_MAX : Fld := ⟨16, 16⟩
def TASK.TIME_LAST : Fld := ⟨0, 16⟩
/-- R319. -/
def TASK.OVRCNT : Nat := 0x10070
def TASK.OVRCNT_CNT : Fld := ⟨0, 32⟩
/-- R319. -/
def TASK.TRAPCNT : Nat := 0x10074
def TASK.TRAPCNT_CNT : Fld := ⟨0, 32⟩
/-- R319. -/
def TASK.IRQSUM (i : Nat) : Nat := 0x10080 + 0x4 * i
def TASK.IRQSUM_REQ : Fld := ⟨0, 32⟩
/-- R320. -/
def TASK.FVAR : Nat := 0x100a0
def TASK.FVAR_ID : Fld := ⟨0, 32⟩
/-- R320. -/
def TASK.FVAL : Nat := 0x100a4
def TASK.FVAL_VAL : Fld := ⟨0, 32⟩
/-- R320. -/
def TASK.FCOUNT : Nat := 0x100a8
def TASK.FCOUNT_N : Fld := ⟨0, 9⟩
/-- R320. -/
def TASK.FIDX : Nat := 0x100ac
def TASK.FIDX_IDX : Fld := ⟨0, 8⟩
/-- R320. -/
def TASK.FLVAR : Nat := 0x100b0
def TASK.FLVAR_ID : Fld := ⟨0, 32⟩
/-- R320. -/
def TASK.FLVAL : Nat := 0x100b4
def TASK.FLVAL_VAL : Fld := ⟨0, 32⟩
/-- R320. -/
def TASK.OLCSTAT : Nat := 0x100c0
def TASK.OLCSTAT_REJENT : Fld := ⟨16, 16⟩
def TASK.OLCSTAT_JCOUNT : Fld := ⟨0, 13⟩
/-- R320. -/
def TASK.OLCSETS : Nat := 0x100c4
def TASK.OLCSETS_N : Fld := ⟨0, 32⟩
/-- R323. -/
def IOSYNC.CFG : Nat := 0x1a040
def IOSYNC.CFG_EN : Fld := ⟨31, 1⟩
def IOSYNC.CFG_SHARE : Fld := ⟨8, 8⟩
def IOSYNC.CFG_NSTA : Fld := ⟨0, 6⟩
/-- R323. -/
def IOSYNC.STAT : Nat := 0x1a044
def IOSYNC.STAT_OVERBUDGET : Fld := ⟨31, 1⟩
def IOSYNC.STAT_RUNNING : Fld := ⟨30, 1⟩
def IOSYNC.STAT_LOAD : Fld := ⟨0, 10⟩
/-- R323. -/
def IOSYNC.WIN : Nat := 0x1a048
def IOSYNC.WIN_OUTW : Fld := ⟨16, 16⟩
def IOSYNC.WIN_INW : Fld := ⟨0, 16⟩
/-- R323. -/
def IOSYNC.BADMAP : Nat := 0x1a04c
def IOSYNC.BADMAP_BAD : Fld := ⟨0, 32⟩
/-- R323. -/
def IOSYNC.UNDMAP : Nat := 0x1a050
def IOSYNC.UNDMAP_UND : Fld := ⟨0, 32⟩
/-- R324. -/
def IOSYNC.SCFG (i : Nat) : Nat := 0x1a100 + 0x10 * i
def IOSYNC.SCFG_NODE : Fld := ⟨16, 8⟩
def IOSYNC.SCFG_INLEN : Fld := ⟨8, 8⟩
def IOSYNC.SCFG_OUTLEN : Fld := ⟨0, 8⟩
/-- R324. -/
def IOSYNC.SSTAT (i : Nat) : Nat := 0x1a104 + 0x10 * i
def IOSYNC.SSTAT_MISSCNT : Fld := ⟨16, 16⟩
def IOSYNC.SSTAT_NOA : Fld := ⟨4, 1⟩
def IOSYNC.SSTAT_NOB : Fld := ⟨3, 1⟩
def IOSYNC.SSTAT_UNDELIV : Fld := ⟨2, 1⟩
def IOSYNC.SSTAT_QUAL : Fld := ⟨0, 2⟩
/-- R324. -/
def IOSYNC.SCNT (i : Nat) : Nat := 0x1a108 + 0x10 * i
def IOSYNC.SCNT_UNDCNT : Fld := ⟨16, 16⟩
def IOSYNC.SCNT_LOSTCNT : Fld := ⟨0, 16⟩
/-- R345. -/
def CTLENG.CTLSTAT : Nat := 0x20040
def CTLENG.CTLSTAT_LOADMAX : Fld := ⟨16, 5⟩
def CTLENG.CTLSTAT_NLOOPS : Fld := ⟨0, 7⟩
/-- R345. -/
def CTLENG.TICK : Nat := 0x20044
def CTLENG.TICK_N : Fld := ⟨0, 32⟩
/-- R345. -/
def CTLENG.TICKH : Nat := 0x20048
def CTLENG.TICKH_N : Fld := ⟨0, 32⟩
/-- R345. -/
def CTLENG.STKMAP (i : Nat) : Nat := 0x2004c + 0x4 * i
def CTLENG.STKMAP_MAP : Fld := ⟨0, 32⟩
/-- R345. -/
def CTLENG.BADMAP (i : Nat) : Nat := 0x20054 + 0x4 * i
def CTLENG.BADMAP_MAP : Fld := ⟨0, 32⟩
/-- R345. -/
def CTLENG.STKCLR (i : Nat) : Nat := 0x2005c + 0x4 * i
def CTLENG.STKCLR_CLR : Fld := ⟨0, 32⟩
/-- R346. -/
def OPV.MODEREQ (i : Nat) : Nat := 0x20800 + 0x20 * i
def OPV.MODEREQ_PVQ : Fld := ⟨8, 1⟩
def OPV.MODEREQ_MODE : Fld := ⟨0, 3⟩
/-- R346. -/
def OPV.SPTGT (i : Nat) : Nat := 0x20804 + 0x20 * i
def OPV.SPTGT_V : Fld := ⟨0, 32⟩
/-- R346. -/
def OPV.MANOUT (i : Nat) : Nat := 0x20808 + 0x20 * i
def OPV.MANOUT_V : Fld := ⟨0, 32⟩
/-- R346. -/
def OPV.FF (i : Nat) : Nat := 0x2080c + 0x20 * i
def OPV.FF_V : Fld := ⟨0, 32⟩
/-- R346. -/
def OPV.TRKVAL (i : Nat) : Nat := 0x20810 + 0x20 * i
def OPV.TRKVAL_V : Fld := ⟨0, 32⟩
/-- R346. -/
def OPV.PVPROG (i : Nat) : Nat := 0x20814 + 0x20 * i
def OPV.PVPROG_V : Fld := ⟨0, 32⟩
/-- R347. -/
def RAM.LCFG (n : Nat) : Nat := 0x100000 + 0x1000 * n
def RAM.LCFG_EN : Fld := ⟨31, 1⟩
def RAM.LCFG_ACTION : Fld := ⟨30, 1⟩
def RAM.LCFG_SPTRK : Fld := ⟨29, 1⟩
def RAM.LCFG_OPVSRC : Fld := ⟨28, 1⟩
def RAM.LCFG_PVKIND : Fld := ⟨26, 2⟩
def RAM.LCFG_OUTKIND : Fld := ⟨24, 2⟩
def RAM.LCFG_CASCSRC : Fld := ⟨16, 6⟩
/-- R347. -/
def RAM.LPER (n : Nat) : Nat := 0x100004 + 0x1000 * n
def RAM.LPER_N : Fld := ⟨0, 18⟩
/-- R347. -/
def RAM.LPHASE (n : Nat) : Nat := 0x100008 + 0x1000 * n
def RAM.LPHASE_N : Fld := ⟨0, 18⟩
/-- R347. -/
def RAM.PVADR (n : Nat) : Nat := 0x10000c + 0x1000 * n
def RAM.PVADR_ADR : Fld := ⟨0, 32⟩
/-- R347. -/
def RAM.PVQADR (n : Nat) : Nat := 0x100010 + 0x1000 * n
def RAM.PVQADR_ADR : Fld := ⟨0, 32⟩
/-- R347. -/
def RAM.PVGAIN (n : Nat) : Nat := 0x100014 + 0x1000 * n
def RAM.PVGAIN_V : Fld := ⟨0, 32⟩
/-- R347. -/
def RAM.PVOFS (n : Nat) : Nat := 0x100018 + 0x1000 * n
def RAM.PVOFS_V : Fld := ⟨0, 32⟩
/-- R347. -/
def RAM.OUTADR (n : Nat) : Nat := 0x10001c + 0x1000 * n
def RAM.OUTADR_ADR : Fld := ⟨0, 32⟩
/-- R347. -/
def RAM.OUTGAIN (n : Nat) : Nat := 0x100020 + 0x1000 * n
def RAM.OUTGAIN_V : Fld := ⟨0, 32⟩
/-- R347. -/
def RAM.OUTOFS (n : Nat) : Nat := 0x100024 + 0x1000 * n
def RAM.OUTOFS_V : Fld := ⟨0, 32⟩
/-- R347. -/
def RAM.KP (n : Nat) : Nat := 0x100028 + 0x1000 * n
def RAM.KP_V : Fld := ⟨0, 32⟩
/-- R347. -/
def RAM.KI (n : Nat) : Nat := 0x10002c + 0x1000 * n
def RAM.KI_V : Fld := ⟨0, 32⟩
/-- R347. -/
def RAM.KD (n : Nat) : Nat := 0x100030 + 0x1000 * n
def RAM.KD_V : Fld := ⟨0, 32⟩
/-- R347. -/
def RAM.TF (n : Nat) : Nat := 0x100034 + 0x1000 * n
def RAM.TF_V : Fld := ⟨0, 32⟩
/-- R347. -/
def RAM.KAW (n : Nat) : Nat := 0x100038 + 0x1000 * n
def RAM.KAW_V : Fld := ⟨0, 32⟩
/-- R347. -/
def RAM.LCFG2 (n : Nat) : Nat := 0x10003c + 0x1000 * n
def RAM.LCFG2_PVBADACT : Fld := ⟨31, 1⟩
def RAM.LCFG2_PVBADT : Fld := ⟨0, 12⟩
/-- R347. -/
def RAM.OUTLO (n : Nat) : Nat := 0x100040 + 0x1000 * n
def RAM.OUTLO_V : Fld := ⟨0, 32⟩
/-- R347. -/
def RAM.OUTHI (n : Nat) : Nat := 0x100044 + 0x1000 * n
def RAM.OUTHI_V : Fld := ⟨0, 32⟩
/-- R347. -/
def RAM.ORATE (n : Nat) : Nat := 0x100048 + 0x1000 * n
def RAM.ORATE_V : Fld := ⟨0, 32⟩
/-- R347. -/
def RAM.SPLO (n : Nat) : Nat := 0x10004c + 0x1000 * n
def RAM.SPLO_V : Fld := ⟨0, 32⟩
/-- R347. -/
def RAM.SPHI (n : Nat) : Nat := 0x100050 + 0x1000 * n
def RAM.SPHI_V : Fld := ⟨0, 32⟩
/-- R347. -/
def RAM.RUP (n : Nat) : Nat := 0x100054 + 0x1000 * n
def RAM.RUP_V : Fld := ⟨0, 32⟩
/-- R347. -/
def RAM.RDN (n : Nat) : Nat := 0x100058 + 0x1000 * n
def RAM.RDN_V : Fld := ⟨0, 32⟩
/-- R347. -/
def RAM.LSTAT (n : Nat) : Nat := 0x100080 + 0x1000 * n
def RAM.LSTAT_SPCLAMP : Fld := ⟨24, 1⟩
def RAM.LSTAT_CASCOPEN : Fld := ⟨23, 1⟩
def RAM.LSTAT_CASCLOST : Fld := ⟨22, 1⟩
def RAM.LSTAT_DSTFORCED : Fld := ⟨21, 1⟩
def RAM.LSTAT_RATELIM : Fld := ⟨20, 1⟩
def RAM.LSTAT_OUTSAT : Fld := ⟨19, 1⟩
def RAM.LSTAT_INTSAT : Fld := ⟨18, 1⟩
def RAM.LSTAT_RAMPING : Fld := ⟨17, 1⟩
def RAM.LSTAT_PVBAD : Fld := ⟨16, 1⟩
def RAM.LSTAT_PVQ : Fld := ⟨8, 3⟩
def RAM.LSTAT_MODE : Fld := ⟨0, 3⟩
/-- R347. -/
def RAM.PV (n : Nat) : Nat := 0x100088 + 0x1000 * n
def RAM.PV_V : Fld := ⟨0, 32⟩
/-- R347. -/
def RAM.SPR (n : Nat) : Nat := 0x10008c + 0x1000 * n
def RAM.SPR_V : Fld := ⟨0, 32⟩
/-- R347. -/
def RAM.ERR (n : Nat) : Nat := 0x100090 + 0x1000 * n
def RAM.ERR_V : Fld := ⟨0, 32⟩
/-- R347. -/
def RAM.OUT (n : Nat) : Nat := 0x100094 + 0x1000 * n
def RAM.OUT_V : Fld := ⟨0, 32⟩
/-- R347. -/
def RAM.ISTATE (n : Nat) : Nat := 0x100098 + 0x1000 * n
def RAM.ISTATE_V : Fld := ⟨0, 32⟩
/-- R347. -/
def RAM.DSTATE (n : Nat) : Nat := 0x10009c + 0x1000 * n
def RAM.DSTATE_V : Fld := ⟨0, 32⟩
/-- R347. -/
def RAM.PVPREV (n : Nat) : Nat := 0x1000a0 + 0x1000 * n
def RAM.PVPREV_V : Fld := ⟨0, 32⟩
/-- R347. -/
def RAM.STEPS (n : Nat) : Nat := 0x1000a4 + 0x1000 * n
def RAM.STEPS_N : Fld := ⟨0, 32⟩
/-- R347. -/
def RAM.LSTICKY (n : Nat) : Nat := 0x100084 + 0x1000 * n
def RAM.LSTICKY_MODEREJ : Fld := ⟨26, 1⟩
def RAM.LSTICKY_OVF : Fld := ⟨25, 1⟩
def RAM.LSTICKY_LATCH : Fld := ⟨16, 9⟩
/-- R384. -/
def BELFRY.BCFG : Nat := 0x24040
def BELFRY.BCFG_DMAUTO : Fld := ⟨31, 1⟩
def BELFRY.BCFG_DMPER : Fld := ⟨20, 6⟩
def BELFRY.BCFG_DMPRE : Fld := ⟨16, 4⟩
def BELFRY.BCFG_ESC1 : Fld := ⟨0, 11⟩
/-- R385. -/
def BELFRY.CALLCFG : Nat := 0x24044
def BELFRY.CALLCFG_SEL : Fld := ⟨0, 16⟩
/-- R385. -/
def BELFRY.TNODE (i : Nat) : Nat := 0x24048 + 0x4 * i
def BELFRY.TNODE_NODE0 : Fld := ⟨0, 8⟩
def BELFRY.TNODE_NODE1 : Fld := ⟨8, 8⟩
def BELFRY.TNODE_NODE2 : Fld := ⟨16, 8⟩
def BELFRY.TNODE_NODE3 : Fld := ⟨24, 8⟩
/-- R386. -/
def BELFRY.BCMD : Nat := 0x24050
def BELFRY.BCMD_CMD : Fld := ⟨28, 4⟩
def BELFRY.BCMD_SCOPE : Fld := ⟨26, 2⟩
def BELFRY.BCMD_ARG : Fld := ⟨10, 16⟩
def BELFRY.BCMD_TARGET : Fld := ⟨0, 10⟩
/-- R387. -/
def BELFRY.CALLSTAT : Nat := 0x24054
def BELFRY.CALLSTAT_DUTY : Fld := ⟨24, 4⟩
def BELFRY.CALLSTAT_OPEN : Fld := ⟨20, 4⟩
def BELFRY.CALLSTAT_AUDIBLE : Fld := ⟨19, 1⟩
def BELFRY.CALLSTAT_WSTATE : Fld := ⟨16, 2⟩
def BELFRY.CALLSTAT_CSTATE : Fld := ⟨12, 2⟩
/-- R387. -/
def BELFRY.TIMERS : Nat := 0x24058
def BELFRY.TIMERS_DMREM : Fld := ⟨16, 16⟩
def BELFRY.TIMERS_ESCREM : Fld := ⟨0, 16⟩
/-- R387. -/
def BELFRY.CNT1 : Nat := 0x2405c
def BELFRY.CNT1_NACT : Fld := ⟨16, 16⟩
def BELFRY.CNT1_NUNACK : Fld := ⟨0, 16⟩
/-- R387. -/
def BELFRY.CNT2 : Nat := 0x24060
def BELFRY.CNT2_NSHELV : Fld := ⟨16, 16⟩
def BELFRY.CNT2_NOOS : Fld := ⟨0, 16⟩
/-- R387. -/
def BELFRY.CNT3 : Nat := 0x24064
def BELFRY.CNT3_NADAPT : Fld := ⟨16, 16⟩
def BELFRY.CNT3_NSUPGRP : Fld := ⟨0, 7⟩
/-- R387. -/
def BELFRY.BSTAT : Nat := 0x24068
def BELFRY.BSTAT_RETRYCNT : Fld := ⟨16, 16⟩
def BELFRY.BSTAT_EVALON : Fld := ⟨0, 1⟩
/-- R388. -/
def BELFRY.GSUP (i : Nat) : Nat := 0x24100 + 0x8 * i
def BELFRY.GSUP_ADR : Fld := ⟨0, 32⟩
/-- R388. -/
def BELFRY.GCFG (i : Nat) : Nat := 0x24104 + 0x8 * i
def BELFRY.GCFG_SUPEN : Fld := ⟨31, 1⟩
def BELFRY.GCFG_SUPPOL : Fld := ⟨30, 1⟩
def BELFRY.GCFG_SUPQ : Fld := ⟨29, 1⟩
def BELFRY.GCFG_SUPBIT : Fld := ⟨24, 5⟩
def BELFRY.GCFG_SUPREL : Fld := ⟨12, 12⟩
def BELFRY.GCFG_FOEN : Fld := ⟨0, 1⟩
/-- R388. -/
def BELFRY.GSTAT (i : Nat) : Nat := 0x24300 + 0x4 * i
def BELFRY.GSTAT_SUP : Fld := ⟨31, 1⟩
def BELFRY.GSTAT_RELRUN : Fld := ⟨30, 1⟩
def BELFRY.GSTAT_FOPT : Fld := ⟨16, 10⟩
def BELFRY.GSTAT_NALM : Fld := ⟨0, 11⟩
/-- R389. -/
def BELFRY.ACTMAP (i : Nat) : Nat := 0x24400 + 0x4 * i
def BELFRY.ACTMAP_MAP : Fld := ⟨0, 32⟩
/-- R389. -/
def BELFRY.UNAMAP (i : Nat) : Nat := 0x24480 + 0x4 * i
def BELFRY.UNAMAP_MAP : Fld := ⟨0, 32⟩
/-- R389. -/
def BELFRY.PBIT (i : Nat) : Nat := 0x24500 + 0x4 * i
def BELFRY.PBIT_BITS : Fld := ⟨0, 32⟩
/-- R390. -/
def PT.PCFG (n : Nat) : Nat := 0x140000 + 0x100 * n
def PT.PCFG_EN : Fld := ⟨31, 1⟩
def PT.PCFG_SRCKIND : Fld := ⟨29, 2⟩
def PT.PCFG_SRCBIT : Fld := ⟨24, 5⟩
def PT.PCFG_GROUP : Fld := ⟨18, 6⟩
def PT.PCFG_PRIO : Fld := ⟨16, 2⟩
def PT.PCFG_PRIO2 : Fld := ⟨14, 2⟩
def PT.PCFG_LIMEN : Fld := ⟨10, 4⟩
def PT.PCFG_ALMLVL : Fld := ⟨9, 1⟩
def PT.PCFG_LATCH : Fld := ⟨8, 1⟩
def PT.PCFG_FOEN : Fld := ⟨7, 1⟩
def PT.PCFG_CALLEN : Fld := ⟨6, 1⟩
def PT.PCFG_FLTALM : Fld := ⟨5, 1⟩
/-- R390. -/
def PT.SRCADR (n : Nat) : Nat := 0x140004 + 0x100 * n
def PT.SRCADR_ADR : Fld := ⟨0, 32⟩
/-- R390. -/
def PT.QADR (n : Nat) : Nat := 0x140008 + 0x100 * n
def PT.QADR_ADR : Fld := ⟨0, 32⟩
/-- R390. -/
def PT.GAIN (n : Nat) : Nat := 0x14000c + 0x100 * n
def PT.GAIN_V : Fld := ⟨0, 32⟩
/-- R390. -/
def PT.OFS (n : Nat) : Nat := 0x140010 + 0x100 * n
def PT.OFS_V : Fld := ⟨0, 32⟩
/-- R390. -/
def PT.LIMHH (n : Nat) : Nat := 0x140014 + 0x100 * n
def PT.LIMHH_V : Fld := ⟨0, 32⟩
/-- R390. -/
def PT.LIMH (n : Nat) : Nat := 0x140018 + 0x100 * n
def PT.LIMH_V : Fld := ⟨0, 32⟩
/-- R390. -/
def PT.LIML (n : Nat) : Nat := 0x14001c + 0x100 * n
def PT.LIML_V : Fld := ⟨0, 32⟩
/-- R390. -/
def PT.LIMLL (n : Nat) : Nat := 0x140020 + 0x100 * n
def PT.LIMLL_V : Fld := ⟨0, 32⟩
/-- R390. -/
def PT.DB (n : Nat) : Nat := 0x140024 + 0x100 * n
def PT.DB_V : Fld := ⟨0, 32⟩
/-- R390. -/
def PT.DLY (n : Nat) : Nat := 0x140028 + 0x100 * n
def PT.DLY_OFFDLY : Fld := ⟨16, 16⟩
def PT.DLY_ONDLY : Fld := ⟨0, 16⟩
/-- R390. -/
def PT.CHCFG1 (n : Nat) : Nat := 0x14002c + 0x100 * n
def PT.CHCFG1_CHCEIL : Fld := ⟨16, 16⟩
def PT.CHCFG1_CHSTEP : Fld := ⟨0, 16⟩
/-- R390. -/
def PT.CHCFG2 (n : Nat) : Nat := 0x140030 + 0x100 * n
def PT.CHCFG2_CHN : Fld := ⟨28, 4⟩
def PT.CHCFG2_CHWIN : Fld := ⟨16, 12⟩
def PT.CHCFG2_CHQUIET : Fld := ⟨0, 16⟩
/-- R390. -/
def PT.PANEL (n : Nat) : Nat := 0x140034 + 0x100 * n
def PT.PANEL_LED : Fld := ⟨12, 10⟩
def PT.PANEL_SHMAX : Fld := ⟨0, 11⟩
/-- R391. -/
def PT.PSTAT (n : Nat) : Nat := 0x140080 + 0x100 * n
def PT.PSTAT_CHATLIM : Fld := ⟨18, 1⟩
def PT.PSTAT_PRIOACT : Fld := ⟨16, 2⟩
def PT.PSTAT_STALE : Fld := ⟨15, 1⟩
def PT.PSTAT_QBAD : Fld := ⟨14, 1⟩
def PT.PSTAT_FIRSTOUT : Fld := ⟨13, 1⟩
def PT.PSTAT_COND : Fld := ⟨12, 1⟩
def PT.PSTAT_ACTLIM : Fld := ⟨8, 3⟩
def PT.PSTAT_SUPMODE : Fld := ⟨4, 2⟩
def PT.PSTAT_ASTATE : Fld := ⟨0, 3⟩
/-- R391. -/
def PT.OFFEFF (n : Nat) : Nat := 0x140084 + 0x100 * n
def PT.OFFEFF_CHUPS : Fld := ⟨16, 16⟩
def PT.OFFEFF_OFFEFF : Fld := ⟨0, 16⟩
/-- R391. -/
def PT.VALUE (n : Nat) : Nat := 0x140088 + 0x100 * n
def PT.VALUE_V : Fld := ⟨0, 32⟩
/-- R391. -/
def PT.TRAISE (n : Nat) : Nat := 0x14008c + 0x100 * n
def PT.TRAISE_T : Fld := ⟨0, 32⟩
/-- R391. -/
def PT.TCHG (n : Nat) : Nat := 0x140090 + 0x100 * n
def PT.TCHG_T : Fld := ⟨0, 32⟩
/-- R391. -/
def PT.TIMER (n : Nat) : Nat := 0x140094 + 0x100 * n
def PT.TIMER_SHREM : Fld := ⟨16, 16⟩
def PT.TIMER_DLYRUN : Fld := ⟨0, 16⟩
/-- R391. -/
def PT.COUNT (n : Nat) : Nat := 0x140098 + 0x100 * n
def PT.COUNT_RAISES : Fld := ⟨16, 16⟩
def PT.COUNT_ACKS : Fld := ⟨0, 16⟩
/-- R391. -/
def PT.RINGCTL (n : Nat) : Nat := 0x14009c + 0x100 * n
def PT.RINGCTL_RI : Fld := ⟨4, 3⟩
def PT.RINGCTL_NR : Fld := ⟨0, 4⟩
/-- R391. -/
def PT.RING (n : Nat) (i : Nat) : Nat := 0x1400a0 + 0x100 * n + 0x4 * i
def PT.RING_T : Fld := ⟨0, 32⟩
/-- R420. -/
def PROCTOR.CFG : Nat := 0xc040
def PROCTOR.CFG_QUAD : Fld := ⟨31, 1⟩
def PROCTOR.CFG_RECPER : Fld := ⟨16, 8⟩
def PROCTOR.CFG_LEASE : Fld := ⟨0, 8⟩
/-- R421. -/
def PROCTOR.STAT : Nat := 0xc044
def PROCTOR.STAT_FALLBACK : Fld := ⟨31, 1⟩
def PROCTOR.STAT_SPLIT : Fld := ⟨30, 1⟩
def PROCTOR.STAT_BANK1LOST : Fld := ⟨29, 1⟩
def PROCTOR.STAT_BANK0LOST : Fld := ⟨28, 1⟩
def PROCTOR.STAT_BANK : Fld := ⟨24, 1⟩
def PROCTOR.STAT_JOIN : Fld := ⟨20, 4⟩
def PROCTOR.STAT_VOTESET : Fld := ⟨16, 4⟩
def PROCTOR.STAT_RECESS : Fld := ⟨12, 4⟩
def PROCTOR.STAT_EXCL : Fld := ⟨8, 4⟩
def PROCTOR.STAT_SERVICE : Fld := ⟨0, 3⟩
/-- R422. -/
def PROCTOR.CKSTAT : Nat := 0xc048
def PROCTOR.CKSTAT_SKEWMAX : Fld := ⟨16, 16⟩
def PROCTOR.CKSTAT_SKEWLAST : Fld := ⟨0, 16⟩
/-- R422. -/
def PROCTOR.CNT1 : Nat := 0xc04c
def PROCTOR.CNT1_VOTEOUT : Fld := ⟨16, 16⟩
def PROCTOR.CNT1_LATENT : Fld := ⟨0, 16⟩
/-- R422. -/
def PROCTOR.CNT2 : Nat := 0xc050
def PROCTOR.CNT2_SPLITS : Fld := ⟨16, 16⟩
def PROCTOR.CNT2_BANKERR : Fld := ⟨0, 16⟩
/-- R422. -/
def PROCTOR.CNT3 : Nat := 0xc054
def PROCTOR.CNT3_ROTATIONS : Fld := ⟨16, 16⟩
def PROCTOR.CNT3_ABANDONED : Fld := ⟨0, 16⟩
/-- R422. -/
def PROCTOR.LASTFAULT : Nat := 0xc058
def PROCTOR.LASTFAULT_FORM : Fld := ⟨28, 4⟩
def PROCTOR.LASTFAULT_CLASS : Fld := ⟨24, 4⟩
def PROCTOR.LASTFAULT_CYCLE : Fld := ⟨0, 24⟩
/-- R422. -/
def PROCTOR.RCSTAT : Nat := 0xc05c
def PROCTOR.RCSTAT_TOGO : Fld := ⟨16, 8⟩
def PROCTOR.RCSTAT_ODD : Fld := ⟨0, 4⟩
/-- R422. -/
def PROCTOR.RECNEXT : Nat := 0xc060
def PROCTOR.RECNEXT_S : Fld := ⟨0, 32⟩
/-- R422. -/
def PROCTOR.HPSTAT : Nat := 0xc064
def PROCTOR.HPSTAT_REVOKED : Fld := ⟨16, 16⟩
def PROCTOR.HPSTAT_LAPSED : Fld := ⟨8, 8⟩
def PROCTOR.HPSTAT_HELD : Fld := ⟨0, 8⟩
/-- R425. -/
def FORM.FSTAT (n : Nat) : Nat := 0x8040 + 0x1000 * n
def FORM.FSTAT_LAT24 : Fld := ⟨16, 8⟩
def FORM.FSTAT_LASTWHY : Fld := ⟨4, 4⟩
def FORM.FSTAT_PLACE : Fld := ⟨0, 4⟩
/-- R425. -/
def FORM.FCNT (n : Nat) : Nat := 0x8044 + 0x1000 * n
def FORM.FCNT_VOTEOUT : Fld := ⟨16, 16⟩
def FORM.FCNT_CECC : Fld := ⟨0, 16⟩
/-- R425. -/
def FORM.LASTTEST (n : Nat) : Nat := 0x8048 + 0x1000 * n
def FORM.LASTTEST_T : Fld := ⟨0, 32⟩
/-- R425. -/
def FORM.LASTTESTH (n : Nat) : Nat := 0x804c + 0x1000 * n
def FORM.LASTTESTH_T : Fld := ⟨0, 32⟩
/-- R425. -/
def FORM.RESYNC (n : Nat) : Nat := 0x8050 + 0x1000 * n
def FORM.RESYNC_PASSES : Fld := ⟨24, 8⟩
def FORM.RESYNC_DUR : Fld := ⟨0, 24⟩
/-- R425. -/
def FORM.SKEW (n : Nat) : Nat := 0x8054 + 0x1000 * n
def FORM.SKEW_MAX : Fld := ⟨16, 16⟩
def FORM.SKEW_LAST : Fld := ⟨0, 16⟩
/-- R453. -/
def PAIR.CFG : Nat := 0xe040
def PAIR.CFG_PAIRED : Fld := ⟨31, 1⟩
def PAIR.CFG_PREF : Fld := ⟨30, 1⟩
def PAIR.CFG_AUTORET : Fld := ⟨29, 1⟩
def PAIR.CFG_COLDTAKE : Fld := ⟨28, 1⟩
def PAIR.CFG_DRSWAP : Fld := ⟨27, 1⟩
def PAIR.CFG_PNODE : Fld := ⟨16, 8⟩
def PAIR.CFG_MIRAGE : Fld := ⟨12, 4⟩
def PAIR.CFG_SETTLE : Fld := ⟨0, 11⟩
/-- R454. -/
def PAIR.STAT : Nat := 0xe044
def PAIR.STAT_LINKBAD : Fld := ⟨23, 1⟩
def PAIR.STAT_PREFCONFLICT : Fld := ⟨22, 1⟩
def PAIR.STAT_SPLITRISK : Fld := ⟨21, 1⟩
def PAIR.STAT_ISOLATED : Fld := ⟨20, 1⟩
def PAIR.STAT_CLAIMABLE : Fld := ⟨19, 1⟩
def PAIR.STAT_STBYRDY : Fld := ⟨18, 1⟩
def PAIR.STAT_MATCH : Fld := ⟨17, 1⟩
def PAIR.STAT_LINKUP : Fld := ⟨16, 1⟩
def PAIR.STAT_LANE1UP : Fld := ⟨13, 1⟩
def PAIR.STAT_LANE0UP : Fld := ⟨12, 1⟩
def PAIR.STAT_EVB : Fld := ⟨11, 1⟩
def PAIR.STAT_EVA : Fld := ⟨10, 1⟩
def PAIR.STAT_PSEENB : Fld := ⟨9, 1⟩
def PAIR.STAT_PSEENA : Fld := ⟨8, 1⟩
def PAIR.STAT_PSTATE : Fld := ⟨0, 3⟩
/-- R455. -/
def PAIR.PEER : Nat := 0xe048
def PAIR.PEER_PSTATE : Fld := ⟨24, 4⟩
def PAIR.PEER_PHEALTH : Fld := ⟨22, 2⟩
def PAIR.PEER_PROLE : Fld := ⟨20, 2⟩
def PAIR.PEER_PCLAIM : Fld := ⟨19, 1⟩
def PAIR.PEER_PAGE : Fld := ⟨0, 16⟩
/-- R455. -/
def PAIR.EPOCH : Nat := 0xe04c
def PAIR.EPOCH_E : Fld := ⟨0, 32⟩
/-- R455. -/
def PAIR.MIRST : Nat := 0xe050
def PAIR.MIRST_MAGE : Fld := ⟨24, 8⟩
def PAIR.MIRST_DMAX : Fld := ⟨12, 12⟩
def PAIR.MIRST_DLAST : Fld := ⟨0, 12⟩
/-- R455. -/
def PAIR.SETREM : Nat := 0xe054
def PAIR.SETREM_M : Fld := ⟨0, 16⟩
/-- R455. -/
def PAIR.CNT1 : Nat := 0xe058
def PAIR.CNT1_TAKEOVERS : Fld := ⟨16, 16⟩
def PAIR.CNT1_SWAPS : Fld := ⟨0, 16⟩
/-- R455. -/
def PAIR.CNT2 : Nat := 0xe05c
def PAIR.CNT2_SPLITRISK : Fld := ⟨16, 16⟩
def PAIR.CNT2_YIELDS : Fld := ⟨0, 16⟩
/-- R455. -/
def PAIR.LASTCHG : Nat := 0xe060
def PAIR.LASTCHG_WHY : Fld := ⟨28, 4⟩
def PAIR.LASTCHG_CYCLE : Fld := ⟨0, 24⟩
/-- R482. -/
def TRK.CFG (n : Nat) : Nat := 0x18040 + 0x1000 * n
def TRK.CFG_HBT : Fld := ⟨18, 7⟩
def TRK.CFG_TERM : Fld := ⟨16, 1⟩
def TRK.CFG_FMODE : Fld := ⟨14, 2⟩
def TRK.CFG_DATA : Fld := ⟨10, 3⟩
def TRK.CFG_ARB : Fld := ⟨8, 2⟩
def TRK.CFG_NODE : Fld := ⟨0, 8⟩
/-- R483. -/
def TRK.STAT (n : Nat) : Nat := 0x18044 + 0x1000 * n
def TRK.STAT_TXFAULT : Fld := ⟨13, 1⟩
def TRK.STAT_TERMON : Fld := ⟨12, 1⟩
def TRK.STAT_DUPNODE : Fld := ⟨11, 1⟩
def TRK.STAT_RATEERR : Fld := ⟨10, 1⟩
def TRK.STAT_LONE : Fld := ⟨9, 1⟩
def TRK.STAT_HEARD : Fld := ⟨8, 1⟩
def TRK.STAT_STATE : Fld := ⟨0, 3⟩
/-- R484. -/
def TRK.ERR (n : Nat) : Nat := 0x18048 + 0x1000 * n
def TRK.ERR_UNACK : Fld := ⟨24, 8⟩
def TRK.ERR_LASTPH : Fld := ⟨20, 1⟩
def TRK.ERR_LASTERR : Fld := ⟨16, 4⟩
def TRK.ERR_REC : Fld := ⟨8, 8⟩
def TRK.ERR_TEC : Fld := ⟨0, 8⟩
/-- R484. -/
def TRK.TXCNT (n : Nat) : Nat := 0x1804c + 0x1000 * n
def TRK.TXCNT_N : Fld := ⟨0, 32⟩
/-- R484. -/
def TRK.RXCNT (n : Nat) : Nat := 0x18050 + 0x1000 * n
def TRK.RXCNT_N : Fld := ⟨0, 32⟩
/-- R484. -/
def TRK.ERRCNT (n : Nat) : Nat := 0x18054 + 0x1000 * n
def TRK.ERRCNT_ERRFR : Fld := ⟨16, 16⟩
def TRK.ERRCNT_BUSOFFS : Fld := ⟨0, 16⟩
/-- R484. -/
def TRK.LOAD (n : Nat) : Nat := 0x18058 + 0x1000 * n
def TRK.LOAD_MAX : Fld := ⟨16, 10⟩
def TRK.LOAD_LAST : Fld := ⟨0, 10⟩
/-- R484. -/
def TRK.AGES (n : Nat) : Nat := 0x1805c + 0x1000 * n
def TRK.AGES_RXAGE : Fld := ⟨16, 16⟩
def TRK.AGES_ACKAGE : Fld := ⟨0, 16⟩
/-- R484. -/
def TRK.QSTAT (n : Nat) : Nat := 0x18070 + 0x1000 * n
def TRK.QSTAT_DEPTH : Fld := ⟨16, 8⟩
def TRK.QSTAT_QOVF : Fld := ⟨0, 16⟩
/-- R484. -/
def TRK.SEEN (n : Nat) (i : Nat) : Nat := 0x18060 + 0x1000 * n + 0x4 * i
def TRK.SEEN_MAP : Fld := ⟨0, 32⟩
/-- R485. -/
def TRK.MBSEL (n : Nat) : Nat := 0x18080 + 0x1000 * n
def TRK.MBSEL_SEL : Fld := ⟨0, 6⟩
/-- R485. -/
def TRK.MBDATA (n : Nat) (i : Nat) : Nat := 0x18100 + 0x1000 * n + 0x4 * i
def TRK.MBDATA_DATA : Fld := ⟨0, 32⟩
/-- R486. -/
def TRK.MBCFG (n : Nat) (i : Nat) : Nat := 0x18400 + 0x1000 * n + 0x10 * i
def TRK.MBCFG_EN : Fld := ⟨31, 1⟩
def TRK.MBCFG_DIR : Fld := ⟨30, 1⟩
def TRK.MBCFG_OWN : Fld := ⟨29, 1⟩
def TRK.MBCFG_HIPRI : Fld := ⟨28, 1⟩
def TRK.MBCFG_LEN : Fld := ⟨21, 7⟩
def TRK.MBCFG_PERIODIC : Fld := ⟨20, 1⟩
def TRK.MBCFG_NODE : Fld := ⟨12, 8⟩
def TRK.MBCFG_INDEX : Fld := ⟨0, 12⟩
/-- R486. -/
def TRK.MBSTAT (n : Nat) (i : Nat) : Nat := 0x18404 + 0x1000 * n + 0x10 * i
def TRK.MBSTAT_CLAIMED : Fld := ⟨8, 1⟩
def TRK.MBSTAT_REPLACED : Fld := ⟨4, 1⟩
def TRK.MBSTAT_TXPEND : Fld := ⟨3, 1⟩
def TRK.MBSTAT_TXREQ : Fld := ⟨2, 1⟩
def TRK.MBSTAT_OVR : Fld := ⟨1, 1⟩
def TRK.MBSTAT_NEW : Fld := ⟨0, 1⟩
/-- R486. -/
def TRK.MBRX (n : Nat) (i : Nat) : Nat := 0x18408 + 0x1000 * n + 0x10 * i
def TRK.MBRX_AGE : Fld := ⟨16, 16⟩
def TRK.MBRX_LEN : Fld := ⟨8, 7⟩
def TRK.MBRX_SRC : Fld := ⟨0, 8⟩
/-- R486. -/
def TRK.MBCNT (n : Nat) (i : Nat) : Nat := 0x1840c + 0x1000 * n + 0x10 * i
def TRK.MBCNT_OK : Fld := ⟨16, 16⟩
def TRK.MBCNT_FAIL : Fld := ⟨0, 16⟩
/-- R499. -/
def TIME.CFG : Nat := 0x15040
def TIME.CFG_MASTEREN : Fld := ⟨31, 1⟩
def TIME.CFG_PPSEN : Fld := ⟨30, 1⟩
def TIME.CFG_PPSEDGE : Fld := ⟨29, 1⟩
def TIME.CFG_PRIO : Fld := ⟨16, 8⟩
def TIME.CFG_HOLD : Fld := ⟨0, 12⟩
/-- R499. -/
def TIME.STEPMAX : Nat := 0x15044
def TIME.STEPMAX_US : Fld := ⟨0, 32⟩
/-- R499. -/
def TIME.PDLY : Nat := 0x15048
def TIME.PDLY_B : Fld := ⟨16, 16⟩
def TIME.PDLY_A : Fld := ⟨0, 16⟩
/-- R499. -/
def TIME.STAT : Nat := 0x1504c
def TIME.STAT_MASTER : Fld := ⟨16, 8⟩
def TIME.STAT_PPSLOST : Fld := ⟨11, 1⟩
def TIME.STAT_PPSLOCK : Fld := ⟨10, 1⟩
def TIME.STAT_REFUSING : Fld := ⟨9, 1⟩
def TIME.STAT_VALID : Fld := ⟨8, 1⟩
def TIME.STAT_CLASS : Fld := ⟨4, 2⟩
def TIME.STAT_SRCTRK : Fld := ⟨3, 1⟩
def TIME.STAT_ROLE : Fld := ⟨0, 2⟩
/-- R499. -/
def TIME.OFFSET : Nat := 0x15058
def TIME.OFFSET_NS : Fld := ⟨0, 32⟩
/-- R499. -/
def TIME.CNT : Nat := 0x1505c
def TIME.CNT_REFUSED : Fld := ⟨16, 16⟩
def TIME.CNT_MCHG : Fld := ⟨8, 8⟩
def TIME.CNT_DROPPED : Fld := ⟨0, 8⟩
/-- R499. -/
def TIME.PENDOFS : Nat := 0x15060
def TIME.PENDOFS_US : Fld := ⟨0, 32⟩
/-- R499. -/
def TIME.UTCOFS : Nat := 0x15064
def TIME.UTCOFS_LEAPDEL : Fld := ⟨17, 1⟩
def TIME.UTCOFS_LEAPINS : Fld := ⟨16, 1⟩
def TIME.UTCOFS_S : Fld := ⟨0, 16⟩
/-- R499. -/
def TIME.NOW : Nat := 0x15050
def TIME.NOW_T : Fld := ⟨0, 32⟩
/-- R499. -/
def TIME.NOWH : Nat := 0x15054
def TIME.NOWH_T : Fld := ⟨0, 32⟩
/-- R499. -/
def TIME.SETVAL : Nat := 0x15068
def TIME.SETVAL_T : Fld := ⟨0, 32⟩
/-- R499. -/
def TIME.SETVALH : Nat := 0x1506c
def TIME.SETVALH_T : Fld := ⟨0, 32⟩
/-- R519. -/
def EVT.STAT : Nat := 0x14040
def EVT.STAT_QDEPTH : Fld := ⟨16, 9⟩
def EVT.STAT_EPKEEP : Fld := ⟨11, 1⟩
def EVT.STAT_EPFULL : Fld := ⟨10, 1⟩
def EVT.STAT_EPOPEN : Fld := ⟨9, 1⟩
def EVT.STAT_FIRSTFULL : Fld := ⟨8, 1⟩
def EVT.STAT_OVERRAN : Fld := ⟨3, 1⟩
def EVT.STAT_HOLDER : Fld := ⟨1, 2⟩
def EVT.STAT_FROZEN : Fld := ⟨0, 1⟩
/-- R520. -/
def EVT.HEADSEQ : Nat := 0x14044
def EVT.HEADSEQ_SEQ : Fld := ⟨0, 32⟩
/-- R520. -/
def EVT.EPCOUNT : Nat := 0x14048
def EVT.EPCOUNT_KIND : Fld := ⟨28, 4⟩
def EVT.EPCOUNT_DROPPED : Fld := ⟨13, 15⟩
def EVT.EPCOUNT_N : Fld := ⟨0, 13⟩
/-- R520. -/
def EVT.WAREA : Nat := 0x1404c
def EVT.WAREA_AREA : Fld := ⟨0, 1⟩
/-- R520. -/
def EVT.WSEQ : Nat := 0x14050
def EVT.WSEQ_SEQ : Fld := ⟨0, 32⟩
/-- R520. -/
def EVT.LOST : Nat := 0x14054
def EVT.LOST_QLOST : Fld := ⟨16, 16⟩
def EVT.LOST_FREEZES : Fld := ⟨0, 16⟩
/-- R520. -/
def EVT.CLRINFO : Nat := 0x14058
def EVT.CLRINFO_CLEARS : Fld := ⟨16, 16⟩
def EVT.CLRINFO_USERID : Fld := ⟨0, 16⟩
/-- R520. -/
def EVT.TOTAL : Nat := 0x1405c
def EVT.TOTAL_N : Fld := ⟨0, 32⟩
/-- R520. -/
def EVT.TOTALH : Nat := 0x14060
def EVT.TOTALH_N : Fld := ⟨0, 32⟩
/-- R545. -/
def NET.IPADDR (n : Nat) : Nat := 0x1c040 + 0x1000 * n
def NET.IPADDR_A : Fld := ⟨0, 32⟩
/-- R545. -/
def NET.NETMASK (n : Nat) : Nat := 0x1c044 + 0x1000 * n
def NET.NETMASK_M : Fld := ⟨0, 32⟩
/-- R545. -/
def NET.GATEWAY (n : Nat) : Nat := 0x1c048 + 0x1000 * n
def NET.GATEWAY_G : Fld := ⟨0, 32⟩
/-- R545. -/
def NET.UDPPORT (n : Nat) : Nat := 0x1c04c + 0x1000 * n
def NET.UDPPORT_P : Fld := ⟨0, 16⟩
/-- R545. -/
def NET.MACL (n : Nat) : Nat := 0x1c050 + 0x1000 * n
def NET.MACL_MAC : Fld := ⟨0, 32⟩
/-- R545. -/
def NET.MACH (n : Nat) : Nat := 0x1c054 + 0x1000 * n
def NET.MACH_MAC : Fld := ⟨0, 16⟩
/-- R546. -/
def NET.LINK (n : Nat) : Nat := 0x1c060 + 0x1000 * n
def NET.LINK_LANSILENT : Fld := ⟨2, 1⟩
def NET.LINK_UP : Fld := ⟨0, 1⟩
/-- R546. -/
def NET.CNT1 (n : Nat) : Nat := 0x1c064 + 0x1000 * n
def NET.CNT1_DUPDISC : Fld := ⟨16, 16⟩
def NET.CNT1_LANERR : Fld := ⟨0, 16⟩
/-- R546. -/
def NET.CNT2 (n : Nat) : Nat := 0x1c068 + 0x1000 * n
def NET.CNT2_DISC : Fld := ⟨16, 16⟩
def NET.CNT2_AUTHFAIL : Fld := ⟨0, 16⟩
/-- R546. -/
def NET.SESS (n : Nat) : Nat := 0x1c06c + 0x1000 * n
def NET.SESS_N : Fld := ⟨0, 4⟩
/-- R548. -/
def XFER.DADDR (i : Nat) : Nat := 0x1e100 + 0x10 * i
def XFER.DADDR_A : Fld := ⟨0, 32⟩
/-- R548. -/
def XFER.DCFG (i : Nat) : Nat := 0x1e104 + 0x10 * i
def XFER.DCFG_USERID : Fld := ⟨16, 16⟩
def XFER.DCFG_KIND : Fld := ⟨13, 3⟩
/-- R548. -/
def XFER.DBUF (i : Nat) : Nat := 0x1e108 + 0x10 * i
def XFER.DBUF_BUFID : Fld := ⟨0, 32⟩
/-- R548. -/
def XFER.DSIZE (i : Nat) : Nat := 0x1e10c + 0x10 * i
def XFER.DSIZE_PORT : Fld := ⟨16, 16⟩
def XFER.DSIZE_KIB : Fld := ⟨0, 16⟩
/-- R549. -/
def XFER.TRCFG (i : Nat) : Nat := 0x1e300 + 0x100 * i
def XFER.TRCFG_EN : Fld := ⟨31, 1⟩
def XFER.TRCFG_NREG : Fld := ⟨24, 5⟩
def XFER.TRCFG_DESC : Fld := ⟨20, 4⟩
def XFER.TRCFG_TRPER : Fld := ⟨0, 16⟩
/-- R549. -/
def XFER.TRADR (i : Nat) (j : Nat) : Nat := 0x1e304 + 0x100 * i + 0x4 * j
def XFER.TRADR_ADR : Fld := ⟨0, 32⟩
/-- R550. -/
def XFER.EVFROM : Nat := 0x1e040
def XFER.EVFROM_SEQ : Fld := ⟨0, 32⟩
/-- R550. -/
def XFER.FWSTAT : Nat := 0x1e044
def XFER.FWSTAT_REVERTED : Fld := ⟨2, 1⟩
def XFER.FWSTAT_LOADED : Fld := ⟨1, 1⟩
def XFER.FWSTAT_BANK : Fld := ⟨0, 1⟩
/-- R550. -/
def XFER.TRDROP : Nat := 0x1e048
def XFER.TRDROP_N : Fld := ⟨0, 32⟩
/-- R550. -/
def XFER.KEYBUF (i : Nat) : Nat := 0x1e080 + 0x4 * i
def XFER.KEYBUF_DATA : Fld := ⟨0, 32⟩
/-- R571. -/
def LANTERN.LCFG : Nat := 0x28040
def LANTERN.LCFG_BRIGHT : Fld := ⟨0, 4⟩
/-- R571. -/
def LANTERN.LSTAT : Nat := 0x28044
def LANTERN.LSTAT_KEYS : Fld := ⟨16, 16⟩
def LANTERN.LSTAT_KEYSTUCK : Fld := ⟨11, 1⟩
def LANTERN.LSTAT_COMSHORT : Fld := ⟨10, 1⟩
def LANTERN.LSTAT_MODE : Fld := ⟨0, 2⟩
/-- R571. -/
def LANTERN.KEYMAP (i : Nat) : Nat := 0x28080 + 0x4 * i
def LANTERN.KEYMAP_FUNC : Fld := ⟨12, 4⟩
def LANTERN.KEYMAP_GROUP : Fld := ⟨0, 6⟩
/-- R571. -/
def LANTERN.PAT (i : Nat) : Nat := 0x28100 + 0x4 * i
def LANTERN.PAT_CODE : Fld := ⟨0, 32⟩
/-- R571. -/
def LANTERN.SHOWN (i : Nat) : Nat := 0x28180 + 0x4 * i
def LANTERN.SHOWN_CODE : Fld := ⟨0, 32⟩
/-- R573. -/
def SLATE.SCFG : Nat := 0x29040
def SLATE.SCFG_LINEINV : Fld := ⟨0, 1⟩
/-- R573. -/
def SLATE.SSTAT : Nat := 0x29044
def SLATE.SSTAT_RESERVE : Fld := ⟨24, 8⟩
def SLATE.SSTAT_WAITING : Fld := ⟨16, 5⟩
def SLATE.SSTAT_BUSY : Fld := ⟨8, 5⟩
def SLATE.SSTAT_CLEANING : Fld := ⟨1, 1⟩
def SLATE.SSTAT_MARKER : Fld := ⟨0, 1⟩
/-- R573. -/
def SLATE.UPDCNT : Nat := 0x29048
def SLATE.UPDCNT_N : Fld := ⟨0, 32⟩
/-- R573. -/
def SLATE.NAME (i : Nat) : Nat := 0x29080 + 0x4 * i
def SLATE.NAME_DATA : Fld := ⟨0, 32⟩
/-- R589. -/
def CLK.REFDEV : Nat := 0x2040
def CLK.REFDEV_DEV1 : Fld := ⟨16, 16⟩
def CLK.REFDEV_DEV0 : Fld := ⟨0, 16⟩
/-- R589. -/
def CLK.REFSTAT : Nat := 0x2044
def CLK.REFSTAT_JUDGEBAD : Fld := ⟨8, 1⟩
def CLK.REFSTAT_SWITCHING : Fld := ⟨4, 1⟩
def CLK.REFSTAT_REF1STOP : Fld := ⟨3, 1⟩
def CLK.REFSTAT_REF0STOP : Fld := ⟨2, 1⟩
def CLK.REFSTAT_REF1BAD : Fld := ⟨1, 1⟩
def CLK.REFSTAT_REF0BAD : Fld := ⟨0, 1⟩
/-- R590. -/
def CLK.REFPREF : Nat := 0x2048
def CLK.REFPREF_MAP : Fld := ⟨0, 19⟩
/-- R590. -/
def CLK.REFNOW : Nat := 0x204c
def CLK.REFNOW_MAP : Fld := ⟨0, 19⟩
/-- R590. -/
def CLK.LOCKMAP : Nat := 0x2050
def CLK.LOCKMAP_MAP : Fld := ⟨0, 19⟩
/-- R590. -/
def CLK.RUNMAP : Nat := 0x2054
def CLK.RUNMAP_MAP : Fld := ⟨0, 19⟩
/-- R590. -/
def CLK.CNT : Nat := 0x2064
def CLK.CNT_SWITCHES : Fld := ⟨16, 16⟩
def CLK.CNT_LOCKLOSS : Fld := ⟨0, 16⟩
/-- R590. -/
def CLK.BADCLK (i : Nat) : Nat := 0x2058 + 0x4 * i
def CLK.BADCLK_MAP : Fld := ⟨0, 32⟩
/-- R591. -/
def CLK.FMCTL : Nat := 0x2070
def CLK.FMCTL_TARGET : Fld := ⟨16, 7⟩
def CLK.FMCTL_BASE : Fld := ⟨8, 7⟩
/-- R591. -/
def CLK.FMWIN : Nat := 0x2074
def CLK.FMWIN_N : Fld := ⟨0, 24⟩
/-- R591. -/
def CLK.FMRES : Nat := 0x2078
def CLK.FMRES_N : Fld := ⟨0, 32⟩
/-- R608. -/
def PWR.LSTAT : Nat := 0x1040
def PWR.LSTAT_CARRY : Fld := ⟨16, 2⟩
def PWR.LSTAT_BOVER : Fld := ⟨9, 1⟩
def PWR.LSTAT_AOVER : Fld := ⟨8, 1⟩
def PWR.LSTAT_BLOW : Fld := ⟨5, 1⟩
def PWR.LSTAT_ALOW : Fld := ⟨4, 1⟩
def PWR.LSTAT_BOK : Fld := ⟨1, 1⟩
def PWR.LSTAT_AOK : Fld := ⟨0, 1⟩
/-- R608. -/
def PWR.VAB : Nat := 0x1044
def PWR.VAB_VB : Fld := ⟨16, 16⟩
def PWR.VAB_VA : Fld := ⟨0, 16⟩
/-- R608. -/
def PWR.IAB : Nat := 0x1048
def PWR.IAB_IB : Fld := ⟨16, 16⟩
def PWR.IAB_IA : Fld := ⟨0, 16⟩
/-- R608. -/
def PWR.DRAW : Nat := 0x104c
def PWR.DRAW_MAX : Fld := ⟨16, 16⟩
def PWR.DRAW_NOW : Fld := ⟨0, 16⟩
/-- R608. -/
def PWR.TEMP : Nat := 0x1050
def PWR.TEMP_MAX : Fld := ⟨16, 16⟩
def PWR.TEMP_NOW : Fld := ⟨0, 16⟩
/-- R608. -/
def PWR.CNT : Nat := 0x1054
def PWR.CNT_DIPS : Fld := ⟨16, 16⟩
def PWR.CNT_OVTRIPS : Fld := ⟨0, 16⟩
/-- R608. -/
def PWR.VL (i : Nat) : Nat := 0x1060 + 0x4 * i
def PWR.VL_VALID : Fld := ⟨31, 1⟩
def PWR.VL_LOW : Fld := ⟨30, 1⟩
def PWR.VL_V : Fld := ⟨0, 16⟩
/-- R609. -/
def CUPOLA.OPTIME : Nat := 0x5040
def CUPOLA.OPTIME_T : Fld := ⟨0, 32⟩
/-- R609. -/
def CUPOLA.OPTIMEH : Nat := 0x5044
def CUPOLA.OPTIMEH_T : Fld := ⟨0, 16⟩
/-- R609. -/
def CUPOLA.PCYCLE : Nat := 0x5048
def CUPOLA.PCYCLE_N : Fld := ⟨0, 32⟩
/-- R609. -/
def CUPOLA.CAP : Nat := 0x504c
def CUPOLA.CAP_RESERVE : Fld := ⟨24, 8⟩
def CUPOLA.CAP_C : Fld := ⟨12, 12⟩
def CUPOLA.CAP_VCAP : Fld := ⟨0, 12⟩
/-- R609. -/
def CUPOLA.TAMPER : Nat := 0x5050
def CUPOLA.TAMPER_SLATEMARK : Fld := ⟨16, 1⟩
def CUPOLA.TAMPER_TEMPLO : Fld := ⟨2, 1⟩
def CUPOLA.TAMPER_TEMPHI : Fld := ⟨1, 1⟩
def CUPOLA.TAMPER_COVER : Fld := ⟨0, 1⟩

end Sys2Proof.Machine
end

