-- ==== Sys2Proof/Machine/RegTable.lean ====
section
/-! DEFINITION. The descriptors of the spec's register tables: for every page kind its registers, and for every field its place,
access code (R8), reset entry (R9) and minimum role; from them the value every word of register space has at reset. -/

namespace Sys2Proof.Machine

/-- The access codes of R8. -/
inductive Acc where
  | ro | rw | wo | w1c | w1s | rwl
  deriving DecidableEq, Repr

/-- The entry of the Reset column (R9): a stated value, kept in retained memory, taken from the active image, or fixed at
manufacture. -/
inductive RstKind where
  | val | kept | cfg | fixed
  deriving DecidableEq, Repr

/-- One field of a register table. `rst` is its reset value; for a kept, cfg or fixed field, the value on a module as
manufactured. `role` is the least role that may write it: 0 Observer, 1 Operator, 2 Engineer, 3 Safety Officer. -/
structure FDesc where
  lo : Nat
  w : Nat
  acc : Acc
  kind : RstKind
  rst : Nat
  role : Nat
  deriving DecidableEq, Repr

/-- One register, or `count` registers `stride` bytes apart, at an offset of its page. -/
structure RDesc where
  off : Nat
  count : Nat
  stride : Nat
  fields : List FDesc
  deriving DecidableEq, Repr

/-- The kinds of page of R33 and R70. -/
inductive Kind where
  | sys | pwr | clk | rst | bist | cupola | form | proctor | pair | task | evt | time | trk | iosync | net | xfer | ctleng
  | belfry | lantern | slate | safe | loop | sens | dio | ram | pt | evw | unmapped
  deriving DecidableEq, Repr

/-- The block-specific registers of a SYS page. -/
def tabSYS : List RDesc :=
  [⟨0x40, 1, 4, [⟨12, 2, .ro, .val, 0, 0⟩, ⟨8, 4, .ro, .val, 0, 0⟩, ⟨6, 1, .ro, .kept, 0, 0⟩, ⟨4, 2, .ro, .val, 0, 0⟩, ⟨0, 4, .ro, .val, 1, 0⟩]⟩ /- STATE, R100 -/,
    ⟨0x44, 1, 4, [⟨8, 8, .ro, .kept, 0, 0⟩, ⟨1, 3, .ro, .kept, 0, 0⟩, ⟨0, 1, .ro, .kept, 0, 0⟩]⟩ /- IMAGE, R101 -/,
    ⟨0x48, 1, 4, [⟨0, 32, .ro, .kept, 0, 0⟩]⟩ /- ACTID, R102 -/,
    ⟨0x4c, 1, 4, [⟨0, 32, .ro, .kept, 0, 0⟩]⟩ /- PENDID, R102 -/,
    ⟨0x50, 1, 4, [⟨8, 24, .ro, .fixed, 1, 0⟩, ⟨0, 8, .ro, .fixed, 0xa, 0⟩]⟩ /- ORDER, R103 -/]

/-- The block-specific registers of a RST page. -/
def tabRST : List RDesc :=
  [⟨0x40, 1, 4, [⟨5, 1, .w1c, .kept, 0, 0⟩, ⟨4, 1, .w1c, .kept, 0, 0⟩, ⟨3, 1, .w1c, .kept, 0, 0⟩, ⟨2, 1, .w1c, .kept, 0, 0⟩, ⟨1, 1, .w1c, .kept, 0, 0⟩, ⟨0, 1, .w1c, .kept, 0, 0⟩]⟩ /- CAUSE, R105 -/]

/-- The block-specific registers of a BIST page. -/
def tabBIST : List RDesc :=
  [⟨0x40, 1, 4, [⟨0, 1, .ro, .val, 0, 0⟩, ⟨1, 1, .ro, .val, 0, 0⟩, ⟨2, 1, .ro, .val, 0, 0⟩, ⟨3, 1, .ro, .val, 0, 0⟩, ⟨4, 1, .ro, .val, 0, 0⟩, ⟨5, 1, .ro, .val, 0, 0⟩, ⟨6, 1, .ro, .val, 0, 0⟩, ⟨7, 1, .ro, .val, 0, 0⟩, ⟨8, 1, .ro, .val, 0, 0⟩, ⟨9, 1, .ro, .val, 0, 0⟩, ⟨10, 1, .ro, .val, 0, 0⟩, ⟨11, 1, .ro, .val, 0, 0⟩, ⟨12, 1, .ro, .val, 0, 0⟩, ⟨13, 1, .ro, .val, 0, 0⟩, ⟨14, 1, .ro, .val, 0, 0⟩, ⟨15, 1, .ro, .val, 0, 0⟩]⟩ /- FORMSTAT, R106 -/,
    ⟨0x44, 1, 4, [⟨8, 8, .ro, .kept, 0, 0⟩, ⟨0, 8, .ro, .kept, 0, 0⟩]⟩ /- SPARES, R107 -/,
    ⟨0x48, 1, 4, [⟨16, 16, .ro, .kept, 0, 0⟩, ⟨0, 16, .ro, .kept, 0, 0⟩]⟩ /- REPCNT, R107 -/,
    ⟨0x4c, 1, 4, [⟨0, 32, .ro, .kept, 0x10101010, 0⟩]⟩ /- FUSEFREE, R107 -/]

/-- The block-specific registers of a LOOP page. -/
def tabLOOP : List RDesc :=
  [⟨0x40, 1, 4, [⟨16, 10, .rwl, .cfg, 0, 2⟩, ⟨8, 1, .rwl, .cfg, 0, 2⟩, ⟨4, 1, .rwl, .cfg, 0, 2⟩, ⟨0, 2, .rwl, .cfg, 0, 2⟩]⟩ /- CFG, R145 -/,
    ⟨0x44, 1, 4, [⟨0, 20, .rw, .val, 0, 1⟩]⟩ /- OUTVAL, R146 -/,
    ⟨0x48, 1, 4, [⟨31, 1, .rwl, .cfg, 0, 2⟩, ⟨0, 20, .rwl, .cfg, 0, 2⟩]⟩ /- STOPVAL, R147 -/,
    ⟨0x4c, 1, 4, [⟨8, 16, .rwl, .cfg, 0xc8, 2⟩, ⟨0, 8, .rwl, .cfg, 0x14, 2⟩]⟩ /- RBCFG, R148 -/,
    ⟨0x50, 1, 4, [⟨0, 32, .ro, .val, 0, 0⟩]⟩ /- VALUE, R149 -/,
    ⟨0x54, 1, 4, [⟨0, 32, .ro, .val, 0, 0⟩]⟩ /- RBVALUE, R149 -/,
    ⟨0x58, 1, 4, [⟨27, 1, .ro, .val, 0, 0⟩, ⟨26, 1, .ro, .val, 0, 0⟩, ⟨25, 1, .ro, .val, 0, 0⟩, ⟨24, 1, .ro, .val, 0, 0⟩, ⟨23, 1, .ro, .val, 0, 0⟩, ⟨22, 1, .ro, .val, 0, 0⟩, ⟨21, 1, .ro, .val, 0, 0⟩, ⟨20, 1, .ro, .val, 0, 0⟩, ⟨19, 1, .ro, .val, 0, 0⟩, ⟨18, 1, .ro, .val, 0, 0⟩, ⟨17, 1, .ro, .val, 0, 0⟩, ⟨16, 1, .ro, .val, 0, 0⟩, ⟨8, 3, .ro, .val, 2, 0⟩, ⟨4, 2, .ro, .val, 0, 0⟩, ⟨0, 4, .ro, .val, 0, 0⟩]⟩ /- STAT, R150 -/,
    ⟨0x60, 1, 4, [⟨0, 16, .rwl, .kept, 0, 2⟩]⟩ /- TRIMZ, R151 -/,
    ⟨0x64, 1, 4, [⟨0, 16, .rwl, .kept, 0, 2⟩]⟩ /- TRIMS, R151 -/,
    ⟨0x68, 1, 4, [⟨16, 16, .ro, .val, 0, 0⟩, ⟨0, 16, .ro, .val, 0, 0⟩]⟩ /- VDROP, R152 -/,
    ⟨0x6c, 1, 4, [⟨16, 16, .ro, .val, 0, 0⟩, ⟨0, 16, .ro, .val, 0, 0⟩]⟩ /- COUNTS, R152 -/,
    ⟨0x70, 1, 4, [⟨24, 8, .rwl, .cfg, 0, 2⟩, ⟨11, 5, .rwl, .cfg, 5, 2⟩, ⟨8, 2, .rwl, .cfg, 2, 2⟩, ⟨1, 1, .rwl, .cfg, 0, 2⟩, ⟨0, 1, .rwl, .cfg, 0, 2⟩]⟩ /- HCFG, R173 -/]
  ++ [⟨0x78, 1, 4, [⟨24, 8, .ro, .val, 0, 0⟩, ⟨16, 8, .ro, .val, 0, 0⟩, ⟨8, 8, .ro, .val, 0xff, 0⟩, ⟨6, 1, .ro, .val, 0, 0⟩, ⟨5, 1, .ro, .val, 0, 0⟩, ⟨4, 1, .ro, .val, 0, 0⟩, ⟨2, 2, .ro, .val, 0, 0⟩, ⟨1, 1, .ro, .val, 0, 0⟩, ⟨0, 1, .ro, .val, 0, 0⟩]⟩ /- HSTAT, R175 -/,
    ⟨0x8c, 1, 4, [⟨0, 32, .ro, .val, 0, 0⟩]⟩ /- HADDR0, R176 -/,
    ⟨0x90, 1, 4, [⟨0, 6, .ro, .val, 0, 0⟩]⟩ /- HADDR1, R176 -/,
    ⟨0x94, 1, 4, [⟨16, 16, .ro, .val, 0, 0⟩, ⟨0, 16, .ro, .val, 0, 0⟩]⟩ /- HCNT, R176 -/,
    ⟨0x98, 1, 4, [⟨16, 16, .ro, .val, 0, 0⟩, ⟨0, 16, .ro, .val, 0, 0⟩]⟩ /- HBCNT, R176 -/,
    ⟨0x9c, 1, 4, [⟨16, 8, .ro, .val, 0, 0⟩, ⟨0, 8, .rw, .val, 0, 2⟩]⟩ /- HLEN, R176 -/,
    ⟨0x5c, 1, 4, [⟨16, 1, .w1c, .val, 0, 0⟩, ⟨17, 1, .w1c, .val, 0, 0⟩, ⟨18, 1, .w1c, .val, 0, 0⟩, ⟨19, 1, .w1c, .val, 0, 0⟩, ⟨20, 1, .w1c, .val, 0, 0⟩, ⟨21, 1, .w1c, .val, 0, 0⟩, ⟨22, 1, .w1c, .val, 0, 0⟩, ⟨23, 1, .w1c, .val, 0, 0⟩, ⟨24, 1, .w1c, .val, 0, 0⟩, ⟨25, 1, .w1c, .val, 0, 0⟩, ⟨26, 1, .w1c, .val, 0, 0⟩, ⟨27, 1, .w1c, .val, 0, 0⟩]⟩ /- STICKY, R150 -/,
    ⟨0x74, 1, 4, [⟨0, 8, .rwl, .cfg, 0xff, 2⟩, ⟨8, 8, .rwl, .cfg, 0xff, 2⟩, ⟨16, 8, .rwl, .cfg, 0xff, 2⟩, ⟨24, 8, .rwl, .cfg, 0xff, 2⟩]⟩ /- HSCAN, R174 -/,
    ⟨0x7c, 1, 4, [⟨0, 32, .ro, .val, 0x7fc00000, 0⟩]⟩ /- HPV, R176 -/,
    ⟨0x80, 1, 4, [⟨0, 32, .ro, .val, 0x7fc00000, 0⟩]⟩ /- HSV, R176 -/,
    ⟨0x84, 1, 4, [⟨0, 32, .ro, .val, 0x7fc00000, 0⟩]⟩ /- HTV, R176 -/,
    ⟨0x88, 1, 4, [⟨0, 32, .ro, .val, 0x7fc00000, 0⟩]⟩ /- HQV, R176 -/]
  ++ [⟨0x100, 64, 4, [⟨0, 32, .rw, .val, 0, 2⟩]⟩ /- HREQ, R176 -/,
    ⟨0x200, 64, 4, [⟨0, 32, .ro, .val, 0, 0⟩]⟩ /- HRSP, R176 -/]

/-- The block-specific registers of a SENS page. -/
def tabSENS : List RDesc :=
  [⟨0x44, 1, 4, [⟨20, 1, .ro, .val, 0, 0⟩, ⟨19, 1, .ro, .val, 0, 0⟩, ⟨18, 1, .ro, .val, 0, 0⟩, ⟨17, 1, .ro, .val, 0, 0⟩]⟩ /- GSTAT, R209 -/,
    ⟨0x48, 1, 4, [⟨16, 16, .ro, .val, 0, 0⟩, ⟨0, 16, .ro, .val, 0, 0⟩]⟩ /- SCANT, R209 -/,
    ⟨0x4c, 1, 4, [⟨0, 32, .ro, .val, 0, 0⟩]⟩ /- CJT, R209 -/,
    ⟨0x50, 1, 4, [⟨0, 32, .rwl, .cfg, 0, 2⟩]⟩ /- CJFIX, R209 -/,
    ⟨0x54, 1, 4, [⟨0, 16, .ro, .val, 0, 0⟩]⟩ /- EXCI, R209 -/,
    ⟨0x58, 1, 4, [⟨0, 12, .rwl, .cfg, 0, 2⟩]⟩ /- BLKMAX, R209 -/,
    ⟨0x40, 1, 4, [⟨26, 2, .rwl, .cfg, 0, 2⟩, ⟨23, 3, .rwl, .cfg, 0, 2⟩, ⟨22, 1, .rwl, .cfg, 0, 2⟩, ⟨21, 1, .rwl, .cfg, 0, 2⟩, ⟨18, 3, .rwl, .cfg, 0, 2⟩, ⟨0, 14, .rwl, .cfg, 0x64, 2⟩]⟩ /- GCFG, R208 -/,
    ⟨0x100, 8, 64, [⟨27, 1, .rwl, .cfg, 0, 2⟩, ⟨26, 1, .rwl, .cfg, 0, 2⟩, ⟨24, 2, .rwl, .cfg, 0, 2⟩, ⟨21, 3, .rwl, .cfg, 0, 2⟩, ⟨20, 1, .rwl, .cfg, 0, 2⟩, ⟨18, 2, .rwl, .cfg, 0, 2⟩, ⟨8, 8, .rwl, .cfg, 0, 2⟩, ⟨0, 3, .rwl, .cfg, 0, 2⟩]⟩ /- CFG, R210 -/,
    ⟨0x104, 8, 64, [⟨29, 3, .rwl, .cfg, 0, 2⟩, ⟨26, 3, .rwl, .cfg, 0, 2⟩, ⟨24, 2, .rwl, .cfg, 0, 2⟩, ⟨18, 6, .rwl, .cfg, 0, 2⟩, ⟨0, 14, .rwl, .cfg, 0, 2⟩]⟩ /- TIMING, R211 -/,
    ⟨0x108, 8, 64, [⟨9, 1, .w1s, .val, 0, 2⟩, ⟨8, 1, .rwl, .cfg, 0, 2⟩, ⟨0, 8, .rwl, .cfg, 0, 2⟩]⟩ /- SETCFG, R211 -/,
    ⟨0x10c, 8, 64, [⟨24, 8, .ro, .val, 0, 0⟩, ⟨21, 3, .ro, .val, 0, 0⟩, ⟨16, 5, .ro, .val, 0, 0⟩, ⟨0, 14, .ro, .val, 0, 0⟩]⟩ /- SETSTAT, R212 -/,
    ⟨0x110, 8, 64, [⟨0, 32, .ro, .val, 0, 0⟩]⟩ /- VALUE, R212 -/]
  ++ [⟨0x114, 8, 64, [⟨0, 32, .ro, .val, 0, 0⟩]⟩ /- RAW, R212 -/,
    ⟨0x118, 8, 64, [⟨26, 1, .ro, .val, 0, 0⟩, ⟨25, 1, .ro, .val, 0, 0⟩, ⟨24, 1, .ro, .val, 0, 0⟩, ⟨23, 1, .ro, .val, 0, 0⟩, ⟨22, 1, .ro, .val, 0, 0⟩, ⟨21, 1, .ro, .val, 0, 0⟩, ⟨20, 1, .ro, .val, 0, 0⟩, ⟨19, 1, .ro, .val, 0, 0⟩, ⟨18, 1, .ro, .val, 0, 0⟩, ⟨17, 1, .ro, .val, 0, 0⟩, ⟨16, 1, .ro, .val, 0, 0⟩, ⟨8, 3, .ro, .val, 2, 0⟩, ⟨0, 8, .ro, .val, 0, 0⟩]⟩ /- STAT, R212 -/,
    ⟨0x120, 8, 64, [⟨31, 1, .rwl, .cfg, 0, 2⟩, ⟨29, 2, .rwl, .cfg, 0, 2⟩, ⟨0, 6, .rwl, .cfg, 0, 2⟩]⟩ /- ROUTE, R213 -/,
    ⟨0x124, 8, 64, [⟨0, 32, .rwl, .cfg, 0, 2⟩]⟩ /- ROUTELO, R213 -/,
    ⟨0x128, 8, 64, [⟨0, 32, .rwl, .cfg, 0, 2⟩]⟩ /- ROUTEHI, R213 -/,
    ⟨0x11c, 8, 64, [⟨16, 1, .w1c, .val, 0, 0⟩, ⟨17, 1, .w1c, .val, 0, 0⟩, ⟨18, 1, .w1c, .val, 0, 0⟩, ⟨19, 1, .w1c, .val, 0, 0⟩, ⟨20, 1, .w1c, .val, 0, 0⟩, ⟨21, 1, .w1c, .val, 0, 0⟩, ⟨22, 1, .w1c, .val, 0, 0⟩, ⟨23, 1, .w1c, .val, 0, 0⟩, ⟨24, 1, .w1c, .val, 0, 0⟩, ⟨25, 1, .w1c, .val, 0, 0⟩, ⟨26, 1, .w1c, .val, 0, 0⟩]⟩ /- STICKY, R212 -/,
    ⟨0x400, 4, 272, [⟨8, 2, .rwl, .cfg, 0, 2⟩, ⟨0, 6, .rwl, .cfg, 0, 2⟩]⟩ /- THDR, R214 -/,
    ⟨0x404, 33, 8, [⟨0, 32, .rwl, .cfg, 0, 2⟩]⟩ /- TX, R214 -/,
    ⟨0x514, 33, 8, [⟨0, 32, .rwl, .cfg, 0, 2⟩]⟩ /- TX, R214 -/,
    ⟨0x624, 33, 8, [⟨0, 32, .rwl, .cfg, 0, 2⟩]⟩ /- TX, R214 -/,
    ⟨0x734, 33, 8, [⟨0, 32, .rwl, .cfg, 0, 2⟩]⟩ /- TX, R214 -/,
    ⟨0x408, 33, 8, [⟨0, 32, .rwl, .cfg, 0, 2⟩]⟩ /- TY, R214 -/]
  ++ [⟨0x518, 33, 8, [⟨0, 32, .rwl, .cfg, 0, 2⟩]⟩ /- TY, R214 -/,
    ⟨0x628, 33, 8, [⟨0, 32, .rwl, .cfg, 0, 2⟩]⟩ /- TY, R214 -/,
    ⟨0x738, 33, 8, [⟨0, 32, .rwl, .cfg, 0, 2⟩]⟩ /- TY, R214 -/]

/-- The block-specific registers of a DIO page. -/
def tabDIO : List RDesc :=
  [⟨0x40, 1, 4, [⟨0, 1, .rwl, .cfg, 0, 2⟩]⟩ /- GCFG, R236 -/,
    ⟨0x44, 1, 4, [⟨0, 1, .w1s, .val, 0, 1⟩]⟩ /- GCTL, R237 -/,
    ⟨0x48, 1, 4, [⟨11, 1, .ro, .val, 0, 0⟩, ⟨10, 1, .ro, .val, 0, 0⟩, ⟨9, 1, .ro, .val, 0, 0⟩, ⟨8, 1, .ro, .val, 1, 0⟩, ⟨0, 3, .ro, .val, 2, 0⟩]⟩ /- GSTAT, R238 -/,
    ⟨0x4c, 1, 4, [⟨16, 16, .ro, .val, 0, 0⟩, ⟨0, 16, .ro, .val, 0, 0⟩]⟩ /- VFMEAS, R239 -/,
    ⟨0x50, 1, 4, [⟨16, 8, .ro, .val, 0xff, 0⟩, ⟨8, 8, .ro, .val, 0, 0⟩, ⟨0, 8, .ro, .val, 0, 0⟩]⟩ /- GIN, R240 -/,
    ⟨0x54, 1, 4, [⟨8, 8, .ro, .val, 0, 0⟩, ⟨0, 8, .rw, .val, 0, 1⟩]⟩ /- GOUT, R241 -/,
    ⟨0x58, 1, 4, [⟨8, 8, .rwl, .cfg, 0, 2⟩, ⟨0, 8, .rwl, .cfg, 0, 2⟩]⟩ /- GSTOP, R242 -/,
    ⟨0x100, 8, 64, [⟨10, 1, .rwl, .cfg, 0, 2⟩, ⟨9, 1, .rwl, .cfg, 0, 2⟩, ⟨8, 1, .rwl, .cfg, 0, 2⟩, ⟨5, 1, .rwl, .cfg, 0, 2⟩, ⟨4, 1, .rwl, .cfg, 0, 2⟩, ⟨0, 2, .rwl, .cfg, 0, 2⟩]⟩ /- CFG, R243 -/,
    ⟨0x104, 8, 64, [⟨31, 1, .rwl, .cfg, 0, 2⟩, ⟨16, 8, .rwl, .cfg, 0, 2⟩, ⟨0, 14, .rwl, .cfg, 0x258, 2⟩]⟩ /- FILT, R244 -/,
    ⟨0x108, 8, 64, [⟨26, 1, .ro, .val, 0, 0⟩, ⟨25, 1, .ro, .val, 0, 0⟩, ⟨24, 1, .ro, .val, 0, 0⟩, ⟨23, 1, .ro, .val, 0, 0⟩, ⟨22, 1, .ro, .val, 0, 0⟩, ⟨21, 1, .ro, .val, 0, 0⟩, ⟨20, 1, .ro, .val, 0, 0⟩, ⟨19, 1, .ro, .val, 0, 0⟩, ⟨18, 1, .ro, .val, 0, 0⟩, ⟨17, 1, .ro, .val, 0, 0⟩, ⟨16, 1, .ro, .val, 0, 0⟩, ⟨8, 3, .ro, .val, 2, 0⟩, ⟨1, 1, .ro, .val, 0, 0⟩, ⟨0, 1, .ro, .val, 0, 0⟩]⟩ /- STAT, R245 -/,
    ⟨0x110, 8, 64, [⟨16, 16, .ro, .val, 0, 0⟩, ⟨0, 16, .ro, .val, 0, 0⟩]⟩ /- COUNT, R246 -/,
    ⟨0x114, 8, 64, [⟨0, 16, .ro, .val, 0, 0⟩]⟩ /- CUR, R246 -/]
  ++ [⟨0x10c, 8, 64, [⟨16, 1, .w1c, .val, 0, 0⟩, ⟨17, 1, .w1c, .val, 0, 0⟩, ⟨18, 1, .w1c, .val, 0, 0⟩, ⟨19, 1, .w1c, .val, 0, 0⟩, ⟨20, 1, .w1c, .val, 0, 0⟩, ⟨21, 1, .w1c, .val, 0, 0⟩, ⟨22, 1, .w1c, .val, 0, 0⟩, ⟨23, 1, .w1c, .val, 0, 0⟩, ⟨24, 1, .w1c, .val, 0, 0⟩, ⟨25, 1, .w1c, .val, 0, 0⟩, ⟨26, 1, .w1c, .val, 0, 0⟩]⟩ /- STICKY, R245 -/]

/-- The block-specific registers of a SAFE page. -/
def tabSAFE : List RDesc :=
  [⟨0x40, 8, 8, [⟨28, 4, .ro, .kept, 0, 0⟩, ⟨24, 4, .ro, .kept, 0, 0⟩, ⟨22, 2, .ro, .kept, 0, 0⟩, ⟨19, 3, .ro, .kept, 0, 0⟩, ⟨18, 1, .ro, .kept, 0, 0⟩, ⟨16, 2, .ro, .kept, 0, 0⟩, ⟨14, 2, .ro, .kept, 0, 0⟩, ⟨12, 2, .ro, .kept, 0, 0⟩, ⟨10, 2, .ro, .kept, 0, 0⟩, ⟨0, 10, .ro, .kept, 0, 0⟩]⟩ /- FCFG0, R283 -/,
    ⟨0x44, 8, 8, [⟨16, 16, .ro, .kept, 0, 0⟩, ⟨0, 16, .ro, .kept, 0, 0⟩]⟩ /- FCFG1, R283 -/,
    ⟨0x80, 1, 4, [⟨0, 4, .ro, .kept, 0, 0⟩]⟩ /- SCFG, R284 -/,
    ⟨0x84, 1, 4, [⟨0, 32, .ro, .kept, 0, 0⟩]⟩ /- SIG, R284 -/,
    ⟨0x88, 1, 4, [⟨0, 32, .ro, .cfg, 0, 0⟩]⟩ /- PENDSIG, R284 -/,
    ⟨0x8c, 1, 4, [⟨8, 4, .ro, .val, 0, 0⟩, ⟨6, 1, .ro, .val, 0, 0⟩, ⟨0, 4, .ro, .val, 0, 0⟩]⟩ /- SECSTAT, R284 -/,
    ⟨0x90, 1, 4, [⟨4, 8, .rw, .val, 0, 1⟩, ⟨0, 4, .rw, .val, 0, 1⟩]⟩ /- PREQ, R284 -/,
    ⟨0x94, 1, 4, [⟨0, 16, .ro, .val, 0, 0⟩]⟩ /- VSMEAS, R284 -/,
    ⟨0x98, 1, 4, [⟨16, 16, .ro, .val, 0, 0⟩, ⟨8, 2, .ro, .val, 0, 0⟩, ⟨0, 1, .ro, .kept, 0, 0⟩]⟩ /- PWSTAT, R284 -/,
    ⟨0x9c, 1, 4, [⟨8, 6, .wo, .val, 0, 3⟩, ⟨0, 6, .wo, .val, 0, 3⟩]⟩ /- PWLEN, R284 -/,
    ⟨0xe0, 1, 4, [⟨0, 32, .rw, .val, 0, 0⟩]⟩ /- CLOGSEQ, R284 -/,
    ⟨0xe4, 1, 4, [⟨0, 32, .ro, .kept, 0, 0⟩]⟩ /- CLOGHEAD, R284 -/]
  ++ [⟨0xa0, 8, 4, [⟨0, 32, .wo, .val, 0, 3⟩]⟩ /- PWBUF, R284 -/,
    ⟨0xc0, 8, 4, [⟨0, 32, .wo, .val, 0, 3⟩]⟩ /- NPWBUF, R284 -/,
    ⟨0x100, 16, 4, [⟨0, 32, .ro, .val, 0, 0⟩]⟩ /- CLOGDATA, R284 -/,
    ⟨0x200, 8, 4, [⟨16, 16, .ro, .val, 0, 0⟩, ⟨13, 1, .ro, .val, 0, 0⟩, ⟨12, 1, .ro, .val, 0, 0⟩, ⟨11, 1, .ro, .val, 0, 0⟩, ⟨10, 1, .ro, .val, 0, 0⟩, ⟨9, 1, .ro, .val, 0, 0⟩, ⟨8, 1, .ro, .val, 0, 0⟩, ⟨6, 2, .ro, .val, 0, 0⟩, ⟨4, 2, .ro, .val, 0, 0⟩, ⟨0, 4, .ro, .val, 0, 0⟩]⟩ /- FSTAT, R285 -/,
    ⟨0x300, 8, 4, [⟨16, 16, .ro, .val, 0, 0⟩, ⟨13, 1, .ro, .val, 0, 0⟩, ⟨12, 1, .ro, .val, 0, 0⟩, ⟨11, 1, .ro, .val, 0, 0⟩, ⟨10, 1, .ro, .val, 0, 0⟩, ⟨9, 1, .ro, .val, 0, 0⟩, ⟨8, 1, .ro, .val, 0, 0⟩, ⟨6, 2, .ro, .val, 0, 0⟩, ⟨4, 2, .ro, .val, 0, 0⟩, ⟨0, 4, .ro, .val, 0, 0⟩]⟩ /- FSTAT, R285 -/,
    ⟨0x220, 4, 4, [⟨24, 8, .ro, .val, 0, 0⟩, ⟨16, 8, .ro, .val, 0, 0⟩, ⟨11, 1, .ro, .val, 0, 0⟩, ⟨10, 1, .ro, .val, 0, 0⟩, ⟨9, 1, .ro, .val, 0, 0⟩, ⟨8, 1, .ro, .val, 0, 0⟩, ⟨7, 1, .ro, .val, 0, 0⟩, ⟨0, 4, .ro, .val, 0, 0⟩]⟩ /- OSTAT, R285 -/,
    ⟨0x320, 4, 4, [⟨24, 8, .ro, .val, 0, 0⟩, ⟨16, 8, .ro, .val, 0, 0⟩, ⟨11, 1, .ro, .val, 0, 0⟩, ⟨10, 1, .ro, .val, 0, 0⟩, ⟨9, 1, .ro, .val, 0, 0⟩, ⟨8, 1, .ro, .val, 0, 0⟩, ⟨7, 1, .ro, .val, 0, 0⟩, ⟨0, 4, .ro, .val, 0, 0⟩]⟩ /- OSTAT, R285 -/,
    ⟨0x230, 2, 256, [⟨9, 1, .ro, .val, 0, 0⟩, ⟨8, 1, .ro, .val, 0, 0⟩, ⟨4, 1, .ro, .val, 0, 0⟩, ⟨0, 4, .ro, .val, 0, 0⟩]⟩ /- PSTAT, R285 -/]

/-- The block-specific registers of a TASK page. -/
def tabTASK : List RDesc :=
  [⟨0x40, 1, 4, [⟨24, 8, .rwl, .cfg, 3, 2⟩, ⟨10, 14, .rwl, .cfg, 0x5a, 2⟩, ⟨0, 10, .rwl, .cfg, 0xa, 2⟩]⟩ /- MAIN, R318 -/,
    ⟨0x44, 3, 4, [⟨31, 1, .rwl, .cfg, 0, 2⟩, ⟨16, 10, .rwl, .cfg, 0, 2⟩, ⟨0, 10, .rwl, .cfg, 0, 2⟩]⟩ /- TCFG, R318 -/,
    ⟨0x50, 1, 4, [⟨24, 4, .ro, .val, 0, 0⟩, ⟨20, 4, .ro, .val, 0, 0⟩, ⟨16, 1, .ro, .val, 0, 0⟩, ⟨12, 4, .ro, .val, 0, 0⟩, ⟨8, 4, .ro, .val, 0, 0⟩, ⟨0, 1, .ro, .val, 0, 0⟩]⟩ /- STAT, R319 -/,
    ⟨0x54, 1, 4, [⟨0, 32, .ro, .val, 0, 0⟩]⟩ /- CYCLE, R319 -/,
    ⟨0x58, 1, 4, [⟨0, 32, .ro, .val, 0, 0⟩]⟩ /- CYCLEH, R319 -/,
    ⟨0x60, 4, 4, [⟨16, 16, .ro, .val, 0, 0⟩, ⟨0, 16, .ro, .val, 0, 0⟩]⟩ /- TIME, R319 -/,
    ⟨0x70, 1, 4, [⟨0, 32, .ro, .val, 0, 0⟩]⟩ /- OVRCNT, R319 -/,
    ⟨0x74, 1, 4, [⟨0, 32, .ro, .val, 0, 0⟩]⟩ /- TRAPCNT, R319 -/,
    ⟨0x80, 5, 4, [⟨0, 32, .ro, .val, 0, 0⟩]⟩ /- IRQSUM, R319 -/,
    ⟨0xa0, 1, 4, [⟨0, 32, .rw, .val, 0, 2⟩]⟩ /- FVAR, R320 -/,
    ⟨0xa4, 1, 4, [⟨0, 32, .rw, .val, 0, 2⟩]⟩ /- FVAL, R320 -/,
    ⟨0xa8, 1, 4, [⟨0, 9, .ro, .val, 0, 0⟩]⟩ /- FCOUNT, R320 -/]
  ++ [⟨0xac, 1, 4, [⟨0, 8, .rw, .val, 0, 0⟩]⟩ /- FIDX, R320 -/,
    ⟨0xb0, 1, 4, [⟨0, 32, .ro, .val, 0, 0⟩]⟩ /- FLVAR, R320 -/,
    ⟨0xb4, 1, 4, [⟨0, 32, .ro, .val, 0, 0⟩]⟩ /- FLVAL, R320 -/,
    ⟨0xc0, 1, 4, [⟨16, 16, .ro, .kept, 0xffff, 0⟩, ⟨0, 13, .ro, .kept, 0, 0⟩]⟩ /- OLCSTAT, R320 -/,
    ⟨0xc4, 1, 4, [⟨0, 32, .ro, .kept, 0, 0⟩]⟩ /- OLCSETS, R320 -/]

/-- The block-specific registers of a IOSYNC page. -/
def tabIOSYNC : List RDesc :=
  [⟨0x40, 1, 4, [⟨31, 1, .rwl, .cfg, 0, 2⟩, ⟨8, 8, .rwl, .cfg, 0x46, 2⟩, ⟨0, 6, .rwl, .cfg, 0, 2⟩]⟩ /- CFG, R323 -/,
    ⟨0x44, 1, 4, [⟨31, 1, .ro, .val, 0, 0⟩, ⟨30, 1, .ro, .val, 0, 0⟩, ⟨0, 10, .ro, .val, 0, 0⟩]⟩ /- STAT, R323 -/,
    ⟨0x48, 1, 4, [⟨16, 16, .ro, .val, 0, 0⟩, ⟨0, 16, .ro, .val, 0, 0⟩]⟩ /- WIN, R323 -/,
    ⟨0x4c, 1, 4, [⟨0, 32, .ro, .val, 0, 0⟩]⟩ /- BADMAP, R323 -/,
    ⟨0x50, 1, 4, [⟨0, 32, .ro, .val, 0, 0⟩]⟩ /- UNDMAP, R323 -/,
    ⟨0x100, 32, 16, [⟨16, 8, .rwl, .cfg, 0, 2⟩, ⟨8, 8, .rwl, .cfg, 0, 2⟩, ⟨0, 8, .rwl, .cfg, 0, 2⟩]⟩ /- SCFG, R324 -/,
    ⟨0x104, 32, 16, [⟨16, 16, .ro, .val, 0, 0⟩, ⟨4, 1, .ro, .val, 0, 0⟩, ⟨3, 1, .ro, .val, 0, 0⟩, ⟨2, 1, .ro, .val, 0, 0⟩, ⟨0, 2, .ro, .val, 2, 0⟩]⟩ /- SSTAT, R324 -/,
    ⟨0x108, 32, 16, [⟨16, 16, .ro, .val, 0, 0⟩, ⟨0, 16, .ro, .val, 0, 0⟩]⟩ /- SCNT, R324 -/]

/-- The block-specific registers of a CTLENG page. -/
def tabCTLENG : List RDesc :=
  [⟨0x40, 1, 4, [⟨16, 5, .ro, .val, 0, 0⟩, ⟨0, 7, .ro, .val, 0, 0⟩]⟩ /- CTLSTAT, R345 -/,
    ⟨0x44, 1, 4, [⟨0, 32, .ro, .val, 0, 0⟩]⟩ /- TICK, R345 -/,
    ⟨0x48, 1, 4, [⟨0, 32, .ro, .val, 0, 0⟩]⟩ /- TICKH, R345 -/,
    ⟨0x4c, 2, 4, [⟨0, 32, .ro, .val, 0, 0⟩]⟩ /- STKMAP, R345 -/,
    ⟨0x54, 2, 4, [⟨0, 32, .ro, .val, 0, 0⟩]⟩ /- BADMAP, R345 -/,
    ⟨0x5c, 2, 4, [⟨0, 32, .w1s, .val, 0, 1⟩]⟩ /- STKCLR, R345 -/,
    ⟨0x800, 64, 32, [⟨8, 1, .rw, .cfg, 0, 1⟩, ⟨0, 3, .rw, .cfg, 0, 1⟩]⟩ /- MODEREQ, R346 -/,
    ⟨0x804, 64, 32, [⟨0, 32, .rw, .cfg, 0, 1⟩]⟩ /- SPTGT, R346 -/,
    ⟨0x808, 64, 32, [⟨0, 32, .rw, .cfg, 0, 1⟩]⟩ /- MANOUT, R346 -/,
    ⟨0x80c, 64, 32, [⟨0, 32, .rw, .cfg, 0, 1⟩]⟩ /- FF, R346 -/,
    ⟨0x810, 64, 32, [⟨0, 32, .rw, .cfg, 0, 1⟩]⟩ /- TRKVAL, R346 -/,
    ⟨0x814, 64, 32, [⟨0, 32, .rw, .cfg, 0, 1⟩]⟩ /- PVPROG, R346 -/]

/-- The block-specific registers of a RAM page. -/
def tabRAM : List RDesc :=
  [⟨0x0, 1, 4, [⟨31, 1, .rwl, .cfg, 0, 2⟩, ⟨30, 1, .rwl, .cfg, 0, 2⟩, ⟨29, 1, .rwl, .cfg, 0, 2⟩, ⟨28, 1, .rwl, .cfg, 0, 2⟩, ⟨26, 2, .rwl, .cfg, 0, 2⟩, ⟨24, 2, .rwl, .cfg, 0, 2⟩, ⟨16, 6, .rwl, .cfg, 0, 2⟩]⟩ /- LCFG, R347 -/,
    ⟨0x4, 1, 4, [⟨0, 18, .rwl, .cfg, 0, 2⟩]⟩ /- LPER, R347 -/,
    ⟨0x8, 1, 4, [⟨0, 18, .rwl, .cfg, 0, 2⟩]⟩ /- LPHASE, R347 -/,
    ⟨0xc, 1, 4, [⟨0, 32, .rwl, .cfg, 0, 2⟩]⟩ /- PVADR, R347 -/,
    ⟨0x10, 1, 4, [⟨0, 32, .rwl, .cfg, 0, 2⟩]⟩ /- PVQADR, R347 -/,
    ⟨0x14, 1, 4, [⟨0, 32, .rwl, .cfg, 0, 2⟩]⟩ /- PVGAIN, R347 -/,
    ⟨0x18, 1, 4, [⟨0, 32, .rwl, .cfg, 0, 2⟩]⟩ /- PVOFS, R347 -/,
    ⟨0x1c, 1, 4, [⟨0, 32, .rwl, .cfg, 0, 2⟩]⟩ /- OUTADR, R347 -/,
    ⟨0x20, 1, 4, [⟨0, 32, .rwl, .cfg, 0, 2⟩]⟩ /- OUTGAIN, R347 -/,
    ⟨0x24, 1, 4, [⟨0, 32, .rwl, .cfg, 0, 2⟩]⟩ /- OUTOFS, R347 -/,
    ⟨0x28, 1, 4, [⟨0, 32, .rwl, .cfg, 0, 2⟩]⟩ /- KP, R347 -/,
    ⟨0x2c, 1, 4, [⟨0, 32, .rwl, .cfg, 0, 2⟩]⟩ /- KI, R347 -/]
  ++ [⟨0x30, 1, 4, [⟨0, 32, .rwl, .cfg, 0, 2⟩]⟩ /- KD, R347 -/,
    ⟨0x34, 1, 4, [⟨0, 32, .rwl, .cfg, 0, 2⟩]⟩ /- TF, R347 -/,
    ⟨0x38, 1, 4, [⟨0, 32, .rwl, .cfg, 0, 2⟩]⟩ /- KAW, R347 -/,
    ⟨0x3c, 1, 4, [⟨31, 1, .rwl, .cfg, 0, 2⟩, ⟨0, 12, .rwl, .cfg, 0, 2⟩]⟩ /- LCFG2, R347 -/,
    ⟨0x40, 1, 4, [⟨0, 32, .rwl, .cfg, 0, 2⟩]⟩ /- OUTLO, R347 -/,
    ⟨0x44, 1, 4, [⟨0, 32, .rwl, .cfg, 0, 2⟩]⟩ /- OUTHI, R347 -/,
    ⟨0x48, 1, 4, [⟨0, 32, .rwl, .cfg, 0, 2⟩]⟩ /- ORATE, R347 -/,
    ⟨0x4c, 1, 4, [⟨0, 32, .rwl, .cfg, 0, 2⟩]⟩ /- SPLO, R347 -/,
    ⟨0x50, 1, 4, [⟨0, 32, .rwl, .cfg, 0, 2⟩]⟩ /- SPHI, R347 -/,
    ⟨0x54, 1, 4, [⟨0, 32, .rwl, .cfg, 0, 2⟩]⟩ /- RUP, R347 -/,
    ⟨0x58, 1, 4, [⟨0, 32, .rwl, .cfg, 0, 2⟩]⟩ /- RDN, R347 -/,
    ⟨0x80, 1, 4, [⟨24, 1, .ro, .val, 0, 0⟩, ⟨23, 1, .ro, .val, 0, 0⟩, ⟨22, 1, .ro, .val, 0, 0⟩, ⟨21, 1, .ro, .val, 0, 0⟩, ⟨20, 1, .ro, .val, 0, 0⟩, ⟨19, 1, .ro, .val, 0, 0⟩, ⟨18, 1, .ro, .val, 0, 0⟩, ⟨17, 1, .ro, .val, 0, 0⟩, ⟨16, 1, .ro, .val, 0, 0⟩, ⟨8, 3, .ro, .val, 0, 0⟩, ⟨0, 3, .ro, .val, 0, 0⟩]⟩ /- LSTAT, R347 -/]
  ++ [⟨0x88, 1, 4, [⟨0, 32, .ro, .val, 0, 0⟩]⟩ /- PV, R347 -/,
    ⟨0x8c, 1, 4, [⟨0, 32, .ro, .val, 0, 0⟩]⟩ /- SPR, R347 -/,
    ⟨0x90, 1, 4, [⟨0, 32, .ro, .val, 0, 0⟩]⟩ /- ERR, R347 -/,
    ⟨0x94, 1, 4, [⟨0, 32, .ro, .val, 0, 0⟩]⟩ /- OUT, R347 -/,
    ⟨0x98, 1, 4, [⟨0, 32, .ro, .val, 0, 0⟩]⟩ /- ISTATE, R347 -/,
    ⟨0x9c, 1, 4, [⟨0, 32, .ro, .val, 0, 0⟩]⟩ /- DSTATE, R347 -/,
    ⟨0xa0, 1, 4, [⟨0, 32, .ro, .val, 0, 0⟩]⟩ /- PVPREV, R347 -/,
    ⟨0xa4, 1, 4, [⟨0, 32, .ro, .val, 0, 0⟩]⟩ /- STEPS, R347 -/,
    ⟨0x84, 1, 4, [⟨26, 1, .ro, .val, 0, 0⟩, ⟨25, 1, .ro, .val, 0, 0⟩, ⟨16, 9, .ro, .val, 0, 0⟩]⟩ /- LSTICKY, R347 -/]

/-- The block-specific registers of a BELFRY page. -/
def tabBELFRY : List RDesc :=
  [⟨0x40, 1, 4, [⟨31, 1, .rwl, .cfg, 0, 2⟩, ⟨20, 6, .rwl, .cfg, 0x1e, 2⟩, ⟨16, 4, .rwl, .cfg, 3, 2⟩, ⟨0, 11, .rwl, .cfg, 0xb4, 2⟩]⟩ /- BCFG, R384 -/,
    ⟨0x44, 1, 4, [⟨0, 16, .rwl, .cfg, 0, 2⟩]⟩ /- CALLCFG, R385 -/,
    ⟨0x48, 2, 4, [⟨0, 8, .rwl, .cfg, 0xff, 2⟩, ⟨8, 8, .rwl, .cfg, 0xff, 2⟩, ⟨16, 8, .rwl, .cfg, 0xff, 2⟩, ⟨24, 8, .rwl, .cfg, 0xff, 2⟩]⟩ /- TNODE, R385 -/,
    ⟨0x50, 1, 4, [⟨28, 4, .wo, .val, 0, 0⟩, ⟨26, 2, .wo, .val, 0, 0⟩, ⟨10, 16, .wo, .val, 0, 0⟩, ⟨0, 10, .wo, .val, 0, 0⟩]⟩ /- BCMD, R386 -/,
    ⟨0x54, 1, 4, [⟨24, 4, .ro, .kept, 0, 0⟩, ⟨20, 4, .ro, .val, 0xf, 0⟩, ⟨19, 1, .ro, .val, 0, 0⟩, ⟨16, 2, .ro, .val, 0, 0⟩, ⟨12, 2, .ro, .val, 0, 0⟩]⟩ /- CALLSTAT, R387 -/,
    ⟨0x58, 1, 4, [⟨16, 16, .ro, .val, 0, 0⟩, ⟨0, 16, .ro, .val, 0, 0⟩]⟩ /- TIMERS, R387 -/,
    ⟨0x5c, 1, 4, [⟨16, 16, .ro, .val, 0, 0⟩, ⟨0, 16, .ro, .val, 0, 0⟩]⟩ /- CNT1, R387 -/,
    ⟨0x60, 1, 4, [⟨16, 16, .ro, .val, 0, 0⟩, ⟨0, 16, .ro, .val, 0, 0⟩]⟩ /- CNT2, R387 -/,
    ⟨0x64, 1, 4, [⟨16, 16, .ro, .val, 0, 0⟩, ⟨0, 7, .ro, .val, 0, 0⟩]⟩ /- CNT3, R387 -/,
    ⟨0x68, 1, 4, [⟨16, 16, .ro, .val, 0, 0⟩, ⟨0, 1, .ro, .val, 0, 0⟩]⟩ /- BSTAT, R387 -/,
    ⟨0x100, 64, 8, [⟨0, 32, .rwl, .cfg, 0, 2⟩]⟩ /- GSUP, R388 -/,
    ⟨0x104, 64, 8, [⟨31, 1, .rwl, .cfg, 0, 2⟩, ⟨30, 1, .rwl, .cfg, 0, 2⟩, ⟨29, 1, .rwl, .cfg, 0, 2⟩, ⟨24, 5, .rwl, .cfg, 0, 2⟩, ⟨12, 12, .rwl, .cfg, 0, 2⟩, ⟨0, 1, .rwl, .cfg, 0, 2⟩]⟩ /- GCFG, R388 -/]
  ++ [⟨0x300, 64, 4, [⟨31, 1, .ro, .val, 0, 0⟩, ⟨30, 1, .ro, .val, 0, 0⟩, ⟨16, 10, .ro, .val, 0x3ff, 0⟩, ⟨0, 11, .ro, .val, 0, 0⟩]⟩ /- GSTAT, R388 -/,
    ⟨0x400, 32, 4, [⟨0, 32, .ro, .val, 0, 0⟩]⟩ /- ACTMAP, R389 -/,
    ⟨0x480, 32, 4, [⟨0, 32, .ro, .val, 0, 0⟩]⟩ /- UNAMAP, R389 -/,
    ⟨0x500, 32, 4, [⟨0, 32, .rw, .val, 0, 1⟩]⟩ /- PBIT, R389 -/]

/-- The block-specific registers of a PT page. -/
def tabPT : List RDesc :=
  [⟨0x0, 1, 4, [⟨31, 1, .rwl, .cfg, 0, 2⟩, ⟨29, 2, .rwl, .cfg, 0, 2⟩, ⟨24, 5, .rwl, .cfg, 0, 2⟩, ⟨18, 6, .rwl, .cfg, 0, 2⟩, ⟨16, 2, .rwl, .cfg, 0, 2⟩, ⟨14, 2, .rwl, .cfg, 0, 2⟩, ⟨10, 4, .rwl, .cfg, 0, 2⟩, ⟨9, 1, .rwl, .cfg, 0, 2⟩, ⟨8, 1, .rwl, .cfg, 0, 2⟩, ⟨7, 1, .rwl, .cfg, 0, 2⟩, ⟨6, 1, .rwl, .cfg, 0, 2⟩, ⟨5, 1, .rwl, .cfg, 0, 2⟩]⟩ /- PCFG, R390 -/,
    ⟨0x4, 1, 4, [⟨0, 32, .rwl, .cfg, 0, 2⟩]⟩ /- SRCADR, R390 -/,
    ⟨0x8, 1, 4, [⟨0, 32, .rwl, .cfg, 0, 2⟩]⟩ /- QADR, R390 -/,
    ⟨0xc, 1, 4, [⟨0, 32, .rwl, .cfg, 0, 2⟩]⟩ /- GAIN, R390 -/,
    ⟨0x10, 1, 4, [⟨0, 32, .rwl, .cfg, 0, 2⟩]⟩ /- OFS, R390 -/,
    ⟨0x14, 1, 4, [⟨0, 32, .rwl, .cfg, 0, 2⟩]⟩ /- LIMHH, R390 -/,
    ⟨0x18, 1, 4, [⟨0, 32, .rwl, .cfg, 0, 2⟩]⟩ /- LIMH, R390 -/,
    ⟨0x1c, 1, 4, [⟨0, 32, .rwl, .cfg, 0, 2⟩]⟩ /- LIML, R390 -/,
    ⟨0x20, 1, 4, [⟨0, 32, .rwl, .cfg, 0, 2⟩]⟩ /- LIMLL, R390 -/,
    ⟨0x24, 1, 4, [⟨0, 32, .rwl, .cfg, 0, 2⟩]⟩ /- DB, R390 -/,
    ⟨0x28, 1, 4, [⟨16, 16, .rwl, .cfg, 0, 2⟩, ⟨0, 16, .rwl, .cfg, 0, 2⟩]⟩ /- DLY, R390 -/,
    ⟨0x2c, 1, 4, [⟨16, 16, .rwl, .cfg, 0, 2⟩, ⟨0, 16, .rwl, .cfg, 0, 2⟩]⟩ /- CHCFG1, R390 -/]
  ++ [⟨0x30, 1, 4, [⟨28, 4, .rwl, .cfg, 0, 2⟩, ⟨16, 12, .rwl, .cfg, 0, 2⟩, ⟨0, 16, .rwl, .cfg, 0, 2⟩]⟩ /- CHCFG2, R390 -/,
    ⟨0x34, 1, 4, [⟨12, 10, .rwl, .cfg, 0, 2⟩, ⟨0, 11, .rwl, .cfg, 0, 2⟩]⟩ /- PANEL, R390 -/,
    ⟨0x80, 1, 4, [⟨18, 1, .ro, .val, 0, 0⟩, ⟨16, 2, .ro, .val, 0, 0⟩, ⟨15, 1, .ro, .val, 0, 0⟩, ⟨14, 1, .ro, .val, 0, 0⟩, ⟨13, 1, .ro, .val, 0, 0⟩, ⟨12, 1, .ro, .val, 0, 0⟩, ⟨8, 3, .ro, .val, 0, 0⟩, ⟨4, 2, .ro, .val, 0, 0⟩, ⟨0, 3, .ro, .val, 0, 0⟩]⟩ /- PSTAT, R391 -/,
    ⟨0x84, 1, 4, [⟨16, 16, .ro, .val, 0, 0⟩, ⟨0, 16, .ro, .val, 0, 0⟩]⟩ /- OFFEFF, R391 -/,
    ⟨0x88, 1, 4, [⟨0, 32, .ro, .val, 0, 0⟩]⟩ /- VALUE, R391 -/,
    ⟨0x8c, 1, 4, [⟨0, 32, .ro, .val, 0, 0⟩]⟩ /- TRAISE, R391 -/,
    ⟨0x90, 1, 4, [⟨0, 32, .ro, .val, 0, 0⟩]⟩ /- TCHG, R391 -/,
    ⟨0x94, 1, 4, [⟨16, 16, .ro, .val, 0, 0⟩, ⟨0, 16, .ro, .val, 0, 0⟩]⟩ /- TIMER, R391 -/,
    ⟨0x98, 1, 4, [⟨16, 16, .ro, .val, 0, 0⟩, ⟨0, 16, .ro, .val, 0, 0⟩]⟩ /- COUNT, R391 -/,
    ⟨0x9c, 1, 4, [⟨4, 3, .ro, .val, 0, 0⟩, ⟨0, 4, .ro, .val, 0, 0⟩]⟩ /- RINGCTL, R391 -/,
    ⟨0xa0, 8, 4, [⟨0, 32, .ro, .val, 0, 0⟩]⟩ /- RING, R391 -/]

/-- The block-specific registers of a PROCTOR page. -/
def tabPROCTOR : List RDesc :=
  [⟨0x40, 1, 4, [⟨31, 1, .rwl, .cfg, 0, 2⟩, ⟨16, 8, .rwl, .cfg, 0x18, 2⟩, ⟨0, 8, .rwl, .cfg, 4, 2⟩]⟩ /- CFG, R420 -/,
    ⟨0x44, 1, 4, [⟨31, 1, .ro, .val, 0, 0⟩, ⟨30, 1, .ro, .val, 0, 0⟩, ⟨29, 1, .ro, .val, 0, 0⟩, ⟨28, 1, .ro, .val, 0, 0⟩, ⟨24, 1, .ro, .val, 0, 0⟩, ⟨20, 4, .ro, .val, 0, 0⟩, ⟨16, 4, .ro, .val, 0, 0⟩, ⟨12, 4, .ro, .val, 0, 0⟩, ⟨8, 4, .ro, .val, 0, 0⟩, ⟨0, 3, .ro, .val, 0, 0⟩]⟩ /- STAT, R421 -/,
    ⟨0x48, 1, 4, [⟨16, 16, .ro, .val, 0, 0⟩, ⟨0, 16, .ro, .val, 0, 0⟩]⟩ /- CKSTAT, R422 -/,
    ⟨0x4c, 1, 4, [⟨16, 16, .ro, .kept, 0, 0⟩, ⟨0, 16, .ro, .kept, 0, 0⟩]⟩ /- CNT1, R422 -/,
    ⟨0x50, 1, 4, [⟨16, 16, .ro, .kept, 0, 0⟩, ⟨0, 16, .ro, .kept, 0, 0⟩]⟩ /- CNT2, R422 -/,
    ⟨0x54, 1, 4, [⟨16, 16, .ro, .kept, 0, 0⟩, ⟨0, 16, .ro, .kept, 0, 0⟩]⟩ /- CNT3, R422 -/,
    ⟨0x58, 1, 4, [⟨28, 4, .ro, .kept, 0, 0⟩, ⟨24, 4, .ro, .kept, 0, 0⟩, ⟨0, 24, .ro, .kept, 0, 0⟩]⟩ /- LASTFAULT, R422 -/,
    ⟨0x5c, 1, 4, [⟨16, 8, .ro, .val, 0, 0⟩, ⟨0, 4, .ro, .val, 0, 0⟩]⟩ /- RCSTAT, R422 -/,
    ⟨0x60, 1, 4, [⟨0, 32, .ro, .val, 0xffffffff, 0⟩]⟩ /- RECNEXT, R422 -/,
    ⟨0x64, 1, 4, [⟨16, 16, .ro, .val, 0, 0⟩, ⟨8, 8, .ro, .val, 0, 0⟩, ⟨0, 8, .ro, .val, 0, 0⟩]⟩ /- HPSTAT, R422 -/]

/-- The block-specific registers of a FORM page. -/
def tabFORM : List RDesc :=
  [⟨0x40, 1, 4, [⟨16, 8, .ro, .val, 0, 0⟩, ⟨4, 4, .ro, .val, 0, 0⟩, ⟨0, 4, .ro, .val, 0, 0⟩]⟩ /- FSTAT, R425 -/,
    ⟨0x44, 1, 4, [⟨16, 16, .ro, .kept, 0, 0⟩, ⟨0, 16, .ro, .val, 0, 0⟩]⟩ /- FCNT, R425 -/,
    ⟨0x48, 1, 4, [⟨0, 32, .ro, .kept, 0, 0⟩]⟩ /- LASTTEST, R425 -/,
    ⟨0x4c, 1, 4, [⟨0, 32, .ro, .kept, 0, 0⟩]⟩ /- LASTTESTH, R425 -/,
    ⟨0x50, 1, 4, [⟨24, 8, .ro, .val, 0, 0⟩, ⟨0, 24, .ro, .val, 0, 0⟩]⟩ /- RESYNC, R425 -/,
    ⟨0x54, 1, 4, [⟨16, 16, .ro, .val, 0, 0⟩, ⟨0, 16, .ro, .val, 0, 0⟩]⟩ /- SKEW, R425 -/]

/-- The block-specific registers of a PAIR page. -/
def tabPAIR : List RDesc :=
  [⟨0x40, 1, 4, [⟨31, 1, .rwl, .cfg, 0, 2⟩, ⟨30, 1, .rwl, .cfg, 0, 2⟩, ⟨29, 1, .rwl, .cfg, 0, 2⟩, ⟨28, 1, .rwl, .cfg, 0, 2⟩, ⟨27, 1, .rwl, .cfg, 0, 2⟩, ⟨16, 8, .rwl, .cfg, 0, 2⟩, ⟨12, 4, .rwl, .cfg, 2, 2⟩, ⟨0, 11, .rwl, .cfg, 0xa, 2⟩]⟩ /- CFG, R453 -/,
    ⟨0x44, 1, 4, [⟨23, 1, .ro, .val, 0, 0⟩, ⟨22, 1, .ro, .val, 0, 0⟩, ⟨21, 1, .ro, .val, 0, 0⟩, ⟨20, 1, .ro, .val, 0, 0⟩, ⟨19, 1, .ro, .val, 0, 0⟩, ⟨18, 1, .ro, .val, 0, 0⟩, ⟨17, 1, .ro, .val, 0, 0⟩, ⟨16, 1, .ro, .val, 0, 0⟩, ⟨13, 1, .ro, .val, 0, 0⟩, ⟨12, 1, .ro, .val, 0, 0⟩, ⟨11, 1, .ro, .val, 0, 0⟩, ⟨10, 1, .ro, .val, 0, 0⟩, ⟨9, 1, .ro, .val, 0, 0⟩, ⟨8, 1, .ro, .val, 0, 0⟩, ⟨0, 3, .ro, .val, 0, 0⟩]⟩ /- STAT, R454 -/,
    ⟨0x48, 1, 4, [⟨24, 4, .ro, .val, 0, 0⟩, ⟨22, 2, .ro, .val, 0, 0⟩, ⟨20, 2, .ro, .val, 0, 0⟩, ⟨19, 1, .ro, .val, 0, 0⟩, ⟨0, 16, .ro, .val, 0xffff, 0⟩]⟩ /- PEER, R455 -/,
    ⟨0x4c, 1, 4, [⟨0, 32, .ro, .kept, 0, 0⟩]⟩ /- EPOCH, R455 -/,
    ⟨0x50, 1, 4, [⟨24, 8, .ro, .val, 0xff, 0⟩, ⟨12, 12, .ro, .val, 0, 0⟩, ⟨0, 12, .ro, .val, 0, 0⟩]⟩ /- MIRST, R455 -/,
    ⟨0x54, 1, 4, [⟨0, 16, .ro, .val, 0xffff, 0⟩]⟩ /- SETREM, R455 -/,
    ⟨0x58, 1, 4, [⟨16, 16, .ro, .kept, 0, 0⟩, ⟨0, 16, .ro, .kept, 0, 0⟩]⟩ /- CNT1, R455 -/,
    ⟨0x5c, 1, 4, [⟨16, 16, .ro, .kept, 0, 0⟩, ⟨0, 16, .ro, .kept, 0, 0⟩]⟩ /- CNT2, R455 -/,
    ⟨0x60, 1, 4, [⟨28, 4, .ro, .kept, 0, 0⟩, ⟨0, 24, .ro, .kept, 0, 0⟩]⟩ /- LASTCHG, R455 -/]

/-- The block-specific registers of a TRK page. -/
def tabTRK : List RDesc :=
  [⟨0x40, 1, 4, [⟨18, 7, .rwl, .kept, 0xa, 2⟩, ⟨16, 1, .rwl, .kept, 0, 2⟩, ⟨14, 2, .rwl, .val, 0, 2⟩, ⟨10, 3, .rwl, .kept, 4, 2⟩, ⟨8, 2, .rwl, .kept, 1, 2⟩, ⟨0, 8, .rwl, .kept, 0xff, 2⟩]⟩ /- CFG, R482 -/,
    ⟨0x44, 1, 4, [⟨13, 1, .ro, .val, 0, 0⟩, ⟨12, 1, .ro, .val, 0, 0⟩, ⟨11, 1, .ro, .val, 0, 0⟩, ⟨10, 1, .ro, .val, 0, 0⟩, ⟨9, 1, .ro, .val, 0, 0⟩, ⟨8, 1, .ro, .val, 0, 0⟩, ⟨0, 3, .ro, .val, 2, 0⟩]⟩ /- STAT, R483 -/,
    ⟨0x48, 1, 4, [⟨24, 8, .ro, .val, 0, 0⟩, ⟨20, 1, .ro, .val, 0, 0⟩, ⟨16, 4, .ro, .val, 0, 0⟩, ⟨8, 8, .ro, .val, 0, 0⟩, ⟨0, 8, .ro, .val, 0, 0⟩]⟩ /- ERR, R484 -/,
    ⟨0x4c, 1, 4, [⟨0, 32, .ro, .val, 0, 0⟩]⟩ /- TXCNT, R484 -/,
    ⟨0x50, 1, 4, [⟨0, 32, .ro, .val, 0, 0⟩]⟩ /- RXCNT, R484 -/,
    ⟨0x54, 1, 4, [⟨16, 16, .ro, .val, 0, 0⟩, ⟨0, 16, .ro, .val, 0, 0⟩]⟩ /- ERRCNT, R484 -/,
    ⟨0x58, 1, 4, [⟨16, 10, .ro, .val, 0, 0⟩, ⟨0, 10, .ro, .val, 0, 0⟩]⟩ /- LOAD, R484 -/,
    ⟨0x5c, 1, 4, [⟨16, 16, .ro, .val, 0xffff, 0⟩, ⟨0, 16, .ro, .val, 0xffff, 0⟩]⟩ /- AGES, R484 -/,
    ⟨0x70, 1, 4, [⟨16, 8, .ro, .val, 0, 0⟩, ⟨0, 16, .ro, .val, 0, 0⟩]⟩ /- QSTAT, R484 -/,
    ⟨0x60, 4, 4, [⟨0, 32, .ro, .val, 0, 0⟩]⟩ /- SEEN, R484 -/,
    ⟨0x80, 1, 4, [⟨0, 6, .rw, .val, 0, 0⟩]⟩ /- MBSEL, R485 -/,
    ⟨0x100, 16, 4, [⟨0, 32, .rw, .val, 0, 1⟩]⟩ /- MBDATA, R485 -/]
  ++ [⟨0x400, 64, 16, [⟨31, 1, .rwl, .cfg, 0, 2⟩, ⟨30, 1, .rwl, .cfg, 0, 2⟩, ⟨29, 1, .rwl, .cfg, 0, 2⟩, ⟨28, 1, .rwl, .cfg, 0, 2⟩, ⟨21, 7, .rwl, .cfg, 0, 2⟩, ⟨20, 1, .rwl, .cfg, 0, 2⟩, ⟨12, 8, .rwl, .cfg, 0, 2⟩, ⟨0, 12, .rwl, .cfg, 0, 2⟩]⟩ /- MBCFG, R486 -/,
    ⟨0x404, 64, 16, [⟨8, 1, .ro, .val, 0, 0⟩, ⟨4, 1, .w1c, .val, 0, 1⟩, ⟨3, 1, .ro, .val, 0, 0⟩, ⟨2, 1, .w1s, .val, 0, 1⟩, ⟨1, 1, .w1c, .val, 0, 1⟩, ⟨0, 1, .w1c, .val, 0, 1⟩]⟩ /- MBSTAT, R486 -/,
    ⟨0x408, 64, 16, [⟨16, 16, .ro, .val, 0, 0⟩, ⟨8, 7, .ro, .val, 0, 0⟩, ⟨0, 8, .ro, .val, 0, 0⟩]⟩ /- MBRX, R486 -/,
    ⟨0x40c, 64, 16, [⟨16, 16, .ro, .val, 0, 0⟩, ⟨0, 16, .ro, .val, 0, 0⟩]⟩ /- MBCNT, R486 -/]

/-- The block-specific registers of a TIME page. -/
def tabTIME : List RDesc :=
  [⟨0x40, 1, 4, [⟨31, 1, .rwl, .cfg, 0, 2⟩, ⟨30, 1, .rwl, .cfg, 0, 2⟩, ⟨29, 1, .rwl, .cfg, 0, 2⟩, ⟨16, 8, .rwl, .cfg, 0x80, 2⟩, ⟨0, 12, .rwl, .cfg, 0x3c, 2⟩]⟩ /- CFG, R499 -/,
    ⟨0x44, 1, 4, [⟨0, 32, .rwl, .cfg, 0x3e8, 2⟩]⟩ /- STEPMAX, R499 -/,
    ⟨0x48, 1, 4, [⟨16, 16, .rwl, .cfg, 0, 2⟩, ⟨0, 16, .rwl, .cfg, 0, 2⟩]⟩ /- PDLY, R499 -/,
    ⟨0x4c, 1, 4, [⟨16, 8, .ro, .val, 0xff, 0⟩, ⟨11, 1, .ro, .val, 0, 0⟩, ⟨10, 1, .ro, .val, 0, 0⟩, ⟨9, 1, .ro, .val, 0, 0⟩, ⟨8, 1, .ro, .val, 0, 0⟩, ⟨4, 2, .ro, .val, 2, 0⟩, ⟨3, 1, .ro, .val, 0, 0⟩, ⟨0, 2, .ro, .val, 0, 0⟩]⟩ /- STAT, R499 -/,
    ⟨0x58, 1, 4, [⟨0, 32, .ro, .val, 0, 0⟩]⟩ /- OFFSET, R499 -/,
    ⟨0x5c, 1, 4, [⟨16, 16, .ro, .val, 0, 0⟩, ⟨8, 8, .ro, .val, 0, 0⟩, ⟨0, 8, .ro, .val, 0, 0⟩]⟩ /- CNT, R499 -/,
    ⟨0x60, 1, 4, [⟨0, 32, .ro, .val, 0, 0⟩]⟩ /- PENDOFS, R499 -/,
    ⟨0x64, 1, 4, [⟨17, 1, .rwl, .cfg, 0, 2⟩, ⟨16, 1, .rwl, .cfg, 0, 2⟩, ⟨0, 16, .rwl, .cfg, 0, 2⟩]⟩ /- UTCOFS, R499 -/,
    ⟨0x50, 1, 4, [⟨0, 32, .ro, .val, 0, 0⟩]⟩ /- NOW, R499 -/,
    ⟨0x54, 1, 4, [⟨0, 32, .ro, .val, 0, 0⟩]⟩ /- NOWH, R499 -/,
    ⟨0x68, 1, 4, [⟨0, 32, .rw, .val, 0, 2⟩]⟩ /- SETVAL, R499 -/,
    ⟨0x6c, 1, 4, [⟨0, 32, .rw, .val, 0, 2⟩]⟩ /- SETVALH, R499 -/]

/-- The block-specific registers of a EVT page. -/
def tabEVT : List RDesc :=
  [⟨0x40, 1, 4, [⟨16, 9, .ro, .val, 0, 0⟩, ⟨11, 1, .ro, .kept, 0, 0⟩, ⟨10, 1, .ro, .kept, 0, 0⟩, ⟨9, 1, .ro, .val, 0, 0⟩, ⟨8, 1, .ro, .kept, 0, 0⟩, ⟨3, 1, .ro, .val, 0, 0⟩, ⟨1, 2, .ro, .val, 0, 0⟩, ⟨0, 1, .ro, .val, 0, 0⟩]⟩ /- STAT, R519 -/,
    ⟨0x44, 1, 4, [⟨0, 32, .ro, .kept, 0xffffffff, 0⟩]⟩ /- HEADSEQ, R520 -/,
    ⟨0x48, 1, 4, [⟨28, 4, .ro, .kept, 0, 0⟩, ⟨13, 15, .ro, .kept, 0, 0⟩, ⟨0, 13, .ro, .kept, 0, 0⟩]⟩ /- EPCOUNT, R520 -/,
    ⟨0x4c, 1, 4, [⟨0, 1, .rw, .val, 0, 0⟩]⟩ /- WAREA, R520 -/,
    ⟨0x50, 1, 4, [⟨0, 32, .rw, .val, 0, 0⟩]⟩ /- WSEQ, R520 -/,
    ⟨0x54, 1, 4, [⟨16, 16, .ro, .val, 0, 0⟩, ⟨0, 16, .ro, .val, 0, 0⟩]⟩ /- LOST, R520 -/,
    ⟨0x58, 1, 4, [⟨16, 16, .ro, .kept, 0, 0⟩, ⟨0, 16, .ro, .kept, 0, 0⟩]⟩ /- CLRINFO, R520 -/,
    ⟨0x5c, 1, 4, [⟨0, 32, .ro, .kept, 0, 0⟩]⟩ /- TOTAL, R520 -/,
    ⟨0x60, 1, 4, [⟨0, 32, .ro, .kept, 0, 0⟩]⟩ /- TOTALH, R520 -/]

/-- The block-specific registers of a NET page. -/
def tabNET : List RDesc :=
  [⟨0x40, 1, 4, [⟨0, 32, .rwl, .kept, 0xc0a86001, 2⟩]⟩ /- IPADDR, R545 -/,
    ⟨0x44, 1, 4, [⟨0, 32, .rwl, .kept, 0xffffff00, 2⟩]⟩ /- NETMASK, R545 -/,
    ⟨0x48, 1, 4, [⟨0, 32, .rwl, .kept, 0, 2⟩]⟩ /- GATEWAY, R545 -/,
    ⟨0x4c, 1, 4, [⟨0, 16, .rwl, .kept, 0x1360, 2⟩]⟩ /- UDPPORT, R545 -/,
    ⟨0x50, 1, 4, [⟨0, 32, .ro, .fixed, 0, 0⟩]⟩ /- MACL, R545 -/,
    ⟨0x54, 1, 4, [⟨0, 16, .ro, .fixed, 0, 0⟩]⟩ /- MACH, R545 -/,
    ⟨0x60, 1, 4, [⟨2, 1, .ro, .val, 0, 0⟩, ⟨0, 1, .ro, .val, 0, 0⟩]⟩ /- LINK, R546 -/,
    ⟨0x64, 1, 4, [⟨16, 16, .ro, .val, 0, 0⟩, ⟨0, 16, .ro, .val, 0, 0⟩]⟩ /- CNT1, R546 -/,
    ⟨0x68, 1, 4, [⟨16, 16, .ro, .val, 0, 0⟩, ⟨0, 16, .ro, .val, 0, 0⟩]⟩ /- CNT2, R546 -/,
    ⟨0x6c, 1, 4, [⟨0, 4, .ro, .val, 0, 0⟩]⟩ /- SESS, R546 -/]

/-- The block-specific registers of a XFER page. -/
def tabXFER : List RDesc :=
  [⟨0x100, 16, 16, [⟨0, 32, .rwl, .kept, 0, 2⟩]⟩ /- DADDR, R548 -/,
    ⟨0x104, 16, 16, [⟨16, 16, .rwl, .kept, 0, 2⟩, ⟨13, 3, .rwl, .kept, 0, 2⟩]⟩ /- DCFG, R548 -/,
    ⟨0x108, 16, 16, [⟨0, 32, .rwl, .kept, 0, 2⟩]⟩ /- DBUF, R548 -/,
    ⟨0x10c, 16, 16, [⟨16, 16, .rwl, .kept, 0, 2⟩, ⟨0, 16, .rwl, .kept, 0, 2⟩]⟩ /- DSIZE, R548 -/,
    ⟨0x300, 7, 256, [⟨31, 1, .rwl, .cfg, 0, 1⟩, ⟨24, 5, .rwl, .cfg, 0, 1⟩, ⟨20, 4, .rwl, .cfg, 0, 1⟩, ⟨0, 16, .rwl, .cfg, 0, 1⟩]⟩ /- TRCFG, R549 -/,
    ⟨0x304, 32, 4, [⟨0, 32, .rwl, .cfg, 0, 1⟩]⟩ /- TRADR, R549 -/,
    ⟨0x404, 32, 4, [⟨0, 32, .rwl, .cfg, 0, 1⟩]⟩ /- TRADR, R549 -/,
    ⟨0x504, 32, 4, [⟨0, 32, .rwl, .cfg, 0, 1⟩]⟩ /- TRADR, R549 -/,
    ⟨0x604, 32, 4, [⟨0, 32, .rwl, .cfg, 0, 1⟩]⟩ /- TRADR, R549 -/,
    ⟨0x704, 32, 4, [⟨0, 32, .rwl, .cfg, 0, 1⟩]⟩ /- TRADR, R549 -/,
    ⟨0x804, 32, 4, [⟨0, 32, .rwl, .cfg, 0, 1⟩]⟩ /- TRADR, R549 -/,
    ⟨0x904, 32, 4, [⟨0, 32, .rwl, .cfg, 0, 1⟩]⟩ /- TRADR, R549 -/]
  ++ [⟨0x40, 1, 4, [⟨0, 32, .rw, .kept, 0, 1⟩]⟩ /- EVFROM, R550 -/,
    ⟨0x44, 1, 4, [⟨2, 1, .ro, .kept, 0, 0⟩, ⟨1, 1, .ro, .kept, 0, 0⟩, ⟨0, 1, .ro, .kept, 0, 0⟩]⟩ /- FWSTAT, R550 -/,
    ⟨0x48, 1, 4, [⟨0, 32, .ro, .val, 0, 0⟩]⟩ /- TRDROP, R550 -/,
    ⟨0x80, 16, 4, [⟨0, 32, .wo, .val, 0, 2⟩]⟩ /- KEYBUF, R550 -/]

/-- The block-specific registers of a LANTERN page. -/
def tabLANTERN : List RDesc :=
  [⟨0x40, 1, 4, [⟨0, 4, .rwl, .cfg, 0xf, 2⟩]⟩ /- LCFG, R571 -/,
    ⟨0x44, 1, 4, [⟨16, 16, .ro, .val, 0, 0⟩, ⟨11, 1, .ro, .val, 0, 0⟩, ⟨10, 1, .ro, .val, 0, 0⟩, ⟨0, 2, .ro, .val, 0, 0⟩]⟩ /- LSTAT, R571 -/,
    ⟨0x80, 16, 4, [⟨12, 4, .rwl, .cfg, 0, 2⟩, ⟨0, 6, .rwl, .cfg, 0, 2⟩]⟩ /- KEYMAP, R571 -/,
    ⟨0x100, 32, 4, [⟨0, 32, .rw, .val, 0, 1⟩]⟩ /- PAT, R571 -/,
    ⟨0x180, 32, 4, [⟨0, 32, .ro, .val, 0, 0⟩]⟩ /- SHOWN, R571 -/]

/-- The block-specific registers of a SLATE page. -/
def tabSLATE : List RDesc :=
  [⟨0x40, 1, 4, [⟨0, 1, .rwl, .cfg, 0, 2⟩]⟩ /- SCFG, R573 -/,
    ⟨0x44, 1, 4, [⟨24, 8, .ro, .val, 0, 0⟩, ⟨16, 5, .ro, .val, 0, 0⟩, ⟨8, 5, .ro, .val, 0, 0⟩, ⟨1, 1, .ro, .val, 0, 0⟩, ⟨0, 1, .ro, .kept, 0, 0⟩]⟩ /- SSTAT, R573 -/,
    ⟨0x48, 1, 4, [⟨0, 32, .ro, .kept, 0, 0⟩]⟩ /- UPDCNT, R573 -/,
    ⟨0x80, 8, 4, [⟨0, 32, .rwl, .cfg, 0, 2⟩]⟩ /- NAME, R573 -/]

/-- The block-specific registers of a CLK page. -/
def tabCLK : List RDesc :=
  [⟨0x40, 1, 4, [⟨16, 16, .ro, .val, 0, 0⟩, ⟨0, 16, .ro, .val, 0, 0⟩]⟩ /- REFDEV, R589 -/,
    ⟨0x44, 1, 4, [⟨8, 1, .ro, .val, 0, 0⟩, ⟨4, 1, .ro, .val, 0, 0⟩, ⟨3, 1, .ro, .val, 0, 0⟩, ⟨2, 1, .ro, .val, 0, 0⟩, ⟨1, 1, .ro, .val, 0, 0⟩, ⟨0, 1, .ro, .val, 0, 0⟩]⟩ /- REFSTAT, R589 -/,
    ⟨0x48, 1, 4, [⟨0, 19, .rwl, .cfg, 0, 2⟩]⟩ /- REFPREF, R590 -/,
    ⟨0x4c, 1, 4, [⟨0, 19, .ro, .val, 0, 0⟩]⟩ /- REFNOW, R590 -/,
    ⟨0x50, 1, 4, [⟨0, 19, .ro, .val, 0, 0⟩]⟩ /- LOCKMAP, R590 -/,
    ⟨0x54, 1, 4, [⟨0, 19, .ro, .val, 0, 0⟩]⟩ /- RUNMAP, R590 -/,
    ⟨0x64, 1, 4, [⟨16, 16, .ro, .kept, 0, 0⟩, ⟨0, 16, .ro, .kept, 0, 0⟩]⟩ /- CNT, R590 -/,
    ⟨0x58, 3, 4, [⟨0, 32, .ro, .val, 0, 0⟩]⟩ /- BADCLK, R590 -/,
    ⟨0x70, 1, 4, [⟨16, 7, .rw, .val, 0, 1⟩, ⟨8, 7, .rw, .val, 0, 1⟩]⟩ /- FMCTL, R591 -/,
    ⟨0x74, 1, 4, [⟨0, 24, .rw, .val, 0, 1⟩]⟩ /- FMWIN, R591 -/,
    ⟨0x78, 1, 4, [⟨0, 32, .ro, .val, 0, 0⟩]⟩ /- FMRES, R591 -/]

/-- The block-specific registers of a PWR page. -/
def tabPWR : List RDesc :=
  [⟨0x40, 1, 4, [⟨16, 2, .ro, .val, 0, 0⟩, ⟨9, 1, .ro, .val, 0, 0⟩, ⟨8, 1, .ro, .val, 0, 0⟩, ⟨5, 1, .ro, .val, 0, 0⟩, ⟨4, 1, .ro, .val, 0, 0⟩, ⟨1, 1, .ro, .val, 0, 0⟩, ⟨0, 1, .ro, .val, 0, 0⟩]⟩ /- LSTAT, R608 -/,
    ⟨0x44, 1, 4, [⟨16, 16, .ro, .val, 0, 0⟩, ⟨0, 16, .ro, .val, 0, 0⟩]⟩ /- VAB, R608 -/,
    ⟨0x48, 1, 4, [⟨16, 16, .ro, .val, 0, 0⟩, ⟨0, 16, .ro, .val, 0, 0⟩]⟩ /- IAB, R608 -/,
    ⟨0x4c, 1, 4, [⟨16, 16, .ro, .val, 0, 0⟩, ⟨0, 16, .ro, .val, 0, 0⟩]⟩ /- DRAW, R608 -/,
    ⟨0x50, 1, 4, [⟨16, 16, .ro, .kept, 0, 0⟩, ⟨0, 16, .ro, .val, 0, 0⟩]⟩ /- TEMP, R608 -/,
    ⟨0x54, 1, 4, [⟨16, 16, .ro, .kept, 0, 0⟩, ⟨0, 16, .ro, .kept, 0, 0⟩]⟩ /- CNT, R608 -/,
    ⟨0x60, 6, 4, [⟨31, 1, .ro, .val, 0, 0⟩, ⟨30, 1, .ro, .val, 0, 0⟩, ⟨0, 16, .ro, .val, 0, 0⟩]⟩ /- VL, R608 -/]

/-- The block-specific registers of a CUPOLA page. -/
def tabCUPOLA : List RDesc :=
  [⟨0x40, 1, 4, [⟨0, 32, .ro, .kept, 0, 0⟩]⟩ /- OPTIME, R609 -/,
    ⟨0x44, 1, 4, [⟨0, 16, .ro, .kept, 0, 0⟩]⟩ /- OPTIMEH, R609 -/,
    ⟨0x48, 1, 4, [⟨0, 32, .ro, .kept, 0, 0⟩]⟩ /- PCYCLE, R609 -/,
    ⟨0x4c, 1, 4, [⟨24, 8, .ro, .val, 0, 0⟩, ⟨12, 12, .ro, .val, 0, 0⟩, ⟨0, 12, .ro, .val, 0, 0⟩]⟩ /- CAP, R609 -/,
    ⟨0x50, 1, 4, [⟨16, 1, .ro, .kept, 0, 0⟩, ⟨2, 1, .ro, .kept, 0, 0⟩, ⟨1, 1, .ro, .kept, 0, 0⟩, ⟨0, 1, .ro, .kept, 0, 0⟩]⟩ /- TAMPER, R609 -/]

/-- The register table of a page kind. The event window has no registers: its words are read from the stores (R515). -/
def tableOf : Kind → List RDesc
  | .sys => tabSYS
  | .rst => tabRST
  | .bist => tabBIST
  | .loop => tabLOOP
  | .sens => tabSENS
  | .dio => tabDIO
  | .safe => tabSAFE
  | .task => tabTASK
  | .iosync => tabIOSYNC
  | .ctleng => tabCTLENG
  | .ram => tabRAM
  | .belfry => tabBELFRY
  | .pt => tabPT
  | .proctor => tabPROCTOR
  | .form => tabFORM
  | .pair => tabPAIR
  | .trk => tabTRK
  | .time => tabTIME
  | .evt => tabEVT
  | .net => tabNET
  | .xfer => tabXFER
  | .lantern => tabLANTERN
  | .slate => tabSLATE
  | .clk => tabCLK
  | .pwr => tabPWR
  | .cupola => tabCUPOLA
  | .evw => []
  | .unmapped => []

/-- The page map of R33 and R70. -/
def kindOf (page : Nat) : Kind :=
  if page = 0x000 then .sys else if page = 0x001 then .pwr else if page = 0x002 then .clk
  else if page = 0x003 then .rst else if page = 0x004 then .bist else if page = 0x005 then .cupola
  else if 0x008 ≤ page ∧ page ≤ 0x00B then .form else if page = 0x00C then .proctor else if page = 0x00E then .pair
  else if page = 0x010 then .task else if page = 0x014 then .evt else if page = 0x015 then .time
  else if page = 0x018 ∨ page = 0x019 then .trk else if page = 0x01A then .iosync
  else if page = 0x01C ∨ page = 0x01D then .net else if page = 0x01E then .xfer else if page = 0x020 then .ctleng
  else if page = 0x024 then .belfry else if page = 0x028 then .lantern else if page = 0x029 then .slate
  else if page = 0x030 then .safe else if 0x040 ≤ page ∧ page ≤ 0x06F then .loop
  else if 0x080 ≤ page ∧ page ≤ 0x083 then .sens else if 0x090 ≤ page ∧ page ≤ 0x097 then .dio
  else if 0x100 ≤ page ∧ page ≤ 0x13F then .ram else if 0x140 ≤ page ∧ page ≤ 0x17F then .pt
  else if 0x180 ≤ page ∧ page ≤ 0x19F then .evw else .unmapped

/-- Block type code, first page and number of instances of a register page's block (R33, R42, R43). -/
def blockOf : Kind → Nat × Nat × Nat
  | .sys => (0x0001, 0x000, 1) | .pwr => (0x0002, 0x001, 1) | .clk => (0x0003, 0x002, 1) | .rst => (0x0004, 0x003, 1)
  | .bist => (0x0005, 0x004, 1) | .cupola => (0x0006, 0x005, 1) | .form => (0x0010, 0x008, 4)
  | .proctor => (0x0011, 0x00C, 1) | .pair => (0x0012, 0x00E, 1) | .task => (0x0018, 0x010, 1)
  | .evt => (0x0020, 0x014, 1) | .time => (0x0021, 0x015, 1) | .trk => (0x0028, 0x018, 2)
  | .iosync => (0x0029, 0x01A, 1) | .net => (0x0030, 0x01C, 2) | .xfer => (0x0031, 0x01E, 1)
  | .ctleng => (0x0038, 0x020, 1) | .belfry => (0x0040, 0x024, 1) | .lantern => (0x0048, 0x028, 1)
  | .slate => (0x0049, 0x029, 1) | .safe => (0x0050, 0x030, 1) | .loop => (0x0060, 0x040, 48)
  | .sens => (0x0061, 0x080, 4) | .dio => (0x0062, 0x090, 8)
  | .ram => (0, 0x100, 64) | .pt => (0, 0x140, 64) | .evw => (0, 0x180, 32) | .unmapped => (0, 0, 0)

/-- PGCAP of each block, as its chapter states it (R144, R207, R235, R282, R317, R322, R344, R383, R419, R425, R452, R481,
R499, R518, R544, R547, R570, R573, R588, R607, R609). DEDUCED for SYS, RST and BIST, for which no rule states it: operations
for SYS and BIST, interrupts for all three (log entry 3). -/
def capOf : Kind → Nat
  | .sys => 0x0000_0005 | .rst => 0x0000_0004 | .bist => 0x0000_0005
  | .loop => 0x0007_001F | .sens => 0x001F_001E | .dio => 0x0007_001E | .safe => 0x0003_001F | .task => 0x0003_000F
  | .iosync => 0x0000_001E | .ctleng => 0x0003_001E | .belfry => 0x0007_001E | .proctor => 0x0007_0007
  | .form => 0x0000_0004 | .pair => 0x0003_000F | .trk => 0x0007_001E | .time => 0x0003_000F | .evt => 0x0003_000D
  | .net => 0x0001_001E | .xfer => 0x0003_001F | .lantern => 0x0003_001F | .slate => 0x0003_001F
  | .clk => 0x0003_0007 | .pwr => 0x0001_000C | .cupola => 0x0003_0005
  | .ram => 0 | .pt => 0 | .evw => 0 | .unmapped => 0

/-- Bit `i` of PGCAP: 0 OPCAP, 1 LOCKCAP, 2 IRQCAP, 3 SRSTCAP, 4 GATED (R46). -/
def capBit (k : Kind) (i : Nat) : Bool := (capOf k).testBit i

/-- A data window is governed by its controlling page (R70). -/
def ctlPage (page : Nat) : Nat :=
  match kindOf page with
  | .ram => 0x020
  | .pt => 0x024
  | .evw => 0x014
  | _ => page

/-- Is the page a data window (R33)? -/
def isWindow (page : Nat) : Bool :=
  match kindOf page with
  | .ram => true
  | .pt => true
  | .evw => true
  | _ => false

/-- The offset a register table uses for an address: within the page, or within the point's 256 bytes (R70, R390). -/
def tabOff (a : Nat) : Nat :=
  match kindOf (a / 4096) with
  | .pt => a % 256
  | _ => a % 4096

/-- Does a descriptor cover an offset? -/
def RDesc.covers (d : RDesc) (off : Nat) : Bool :=
  decide (d.off ≤ off) && decide (off < d.off + d.count * d.stride) && decide ((off - d.off) % d.stride = 0)

/-- The fields of the register at a byte address; none where no table defines one (R35). -/
def fieldsAt (a : Nat) : List FDesc :=
  match (tableOf (kindOf (a / 4096))).find? (fun d => d.covers (tabOff a)) with
  | some d => d.fields
  | none => []

/-- The word that its fields' reset entries spell. -/
def resetOf (fs : List FDesc) : Nat := fs.foldl (fun n f => n + f.rst * 2 ^ f.lo) 0

/-- The reset word of a common-header register (R42, R44, R46, R47, R49). -/
def resetHeader (page off : Nat) : Nat :=
  let k := kindOf page
  match blockOf k with
  | (ty, first, count) =>
    if off = 0x00 then ty * 0x1_0000 + (page - first) * 0x100 + count
    else if off = 0x04 then 0x0100_0000
    else if off = 0x08 then capOf k
    else if off = 0x0C then (if capBit k 4 then 0 else 1)
    else if off = 0x10 then (if capBit k 1 then 4 else 0)
    else 0

/-- The value every word of register space has on a module as manufactured, unlisted words of `State.regs` read as this. -/
def resetWord (a : Nat) : Word :=
  if a % 4 = 0 then
    if isWindow (a / 4096) = false ∧ a % 4096 < 0x40 then
      match kindOf (a / 4096) with
      | .unmapped => 0
      | _ => BitVec.ofNat 32 (resetHeader (a / 4096) (a % 4096))
    else BitVec.ofNat 32 (resetOf (fieldsAt a))
  else 0

end Sys2Proof.Machine
end

