-- ==== Sys2Proof/Machine/State.lean ====
section
/-! DEFINITION. The state of the module: its registers as one sparse list over the register space, everything the spec gives the
module beside its registers (`Inner`, one structure per chapter), and the queue of commands that wait. -/

namespace Sys2Proof.Machine

/-- Why a command stops the machine with a fault. No command of this module does: refusals are answers (R50, R531) and a module
that can serve no more is in the state Failed (R17). The one constructor is raised by nothing; safe. -/
inductive Fault where
  | none
  deriving DecidableEq, Repr

/-- Why a command is turned away. `notModelled` is raised by an arm of `exec` whose command has no meaning yet; safe. -/
inductive Refusal where
  | notModelled (mnemonic : String)
  deriving DecidableEq, Repr

/-- The module's states (R17, R73). -/
inductive Mode where
  | off | powerUp | selfTest | imageCheck | held | ready | run | hold | failed
  deriving DecidableEq, Repr

/-- The module's roles (R13, R100) and, for Standby and Duty, the finer states of R439 stand in `PairSt.phase`. -/
inductive Role where
  | solo | duty | standby
  deriving DecidableEq, Repr

/-! Operations, locks and keys (chapter 02) -/

/-- The operation a page runs (R56): who started it, its argument, the latched abort (R58) and what the block saved at its start. -/
structure OpRun where
  page : Nat
  op : Nat
  arg : Nat
  party : Party
  abort : Bool
  saved : List (Nat × Word)
  deriving DecidableEq, Repr

/-- The present unlock of a page (R62), and the operating time of the unlock or of its holder's last RWL write (R63). -/
structure Unlock where
  page : Nat
  party : Party
  role : Nat
  since : Nat
  deriving DecidableEq, Repr

/-- The keys, locks and gates of the pages. `keys`: page, role, key (R62). `unlocks`: at most one a page. `wrong`: page and time
of each wrong key (R64). `lockouts`: pages in lockout. `closing`: pages whose gate is closing, `reopen`: those of them that open again
afterwards (R584). `latches`: upper words
latched by a host session's read of a wide counter's lowest word (R69): session, address of the upper word, value. -/
structure PageSt where
  keys : List (Nat × Nat × Nat) := []
  unlocks : List Unlock := []
  wrong : List (Nat × Nat) := []
  lockouts : List Nat := []
  closing : List Nat := []
  reopen : List Nat := []
  latches : List (Nat × Nat × Word) := []
  ops : List OpRun := []
  deriving DecidableEq, Repr

/-! Health (R66, R95 to R97) -/

/-- `page`: the reasons each page reports, as (page, reason, class). `causes`: the causes that hold now, as (module reason, page,
sub). `reasons`: the module reasons shown (a Degraded-Replace reason stays after its cause). `gone` and `pageGone`: the module reasons, and the pages' reasons,
whose cause no longer held at the last Self-test or passing RETEST (R97). -/
structure HealthSt where
  page : List (Nat × Nat × Nat) := []
  causes : List (Nat × Nat × Nat) := []
  reasons : List Nat := []
  gone : List Nat := []
  pageGone : List (Nat × Nat × Nat) := []
  deriving DecidableEq, Repr

/-! The event recorder (chapter 16) -/

/-- An event as its block made it and as it waits in the arrival buffer: stamps (R506), CODE (R504), PAGE and SUB of SOURCE
(R503), the six-byte DATA of each of its records (R505), DETAIL, QUEUED, and the run of the episode log that it falls in (0 none). -/
structure Event where
  pcycle : Nat
  optime : Nat
  nettime : Nat
  tvalid : Bool
  code : Nat
  page : Nat
  sub : Nat
  data : List Nat
  detail : Bool
  queued : Bool
  ep : Nat
  deriving DecidableEq, Repr

/-- One stored record (R502). -/
structure Record where
  pcycle : Nat
  optime : Nat
  repeats : Nat
  nettime : Nat
  code : Nat
  page : Nat
  sub : Nat
  tvalid : Bool
  queued : Bool
  cont : Bool
  detail : Bool
  data : Nat
  deriving DecidableEq, Repr

/-- One entry of a repeat table (R510): code, page, sub, the record's SEQ and its OPTIME. Most recently used first. -/
structure RepEntry where
  code : Nat
  page : Nat
  sub : Nat
  seq : Nat
  optime : Nat
  deriving DecidableEq, Repr

/-- The recorder. `first` and `circ` are the two areas of the event store, oldest record first; the newest SEQ is EVT.HEADSEQ.
`epLog`: the episode log. `episodes`: the kinds of the episodes now open. `lostSince`: records lost since the last EVENTS_LOST.
`logging`: the open episodes go into the episode log; `gen`: the number of its present run; `autoThaw`: the freeze being drained did
not end by THAW; `keepWanted`: a Degraded-Replace reason has arisen in the open run (R512). -/
structure EvtSt where
  arrivals : List Event := []
  freezeQ : List Event := []
  first : List Record := []
  circ : List Record := []
  epLog : List Record := []
  rep : List RepEntry := []
  repEp : List RepEntry := []
  episodes : List Nat := []
  lostSince : Nat := 0
  holder : Option Party := none
  draining : Bool := false
  autoThaw : Bool := false
  logging : Bool := false
  gen : Nat := 0
  keepWanted : Bool := false
  deriving DecidableEq, Repr

/-! Users, sessions and transfers (chapter 17) -/

/-- An entry of the user table (R525). -/
structure User where
  id : Nat
  role : Nat
  secret : List Byte
  deriving DecidableEq, Repr

/-- The factory secret printed on the rating label (R525). The spec states no value; the model names 32 zero bytes (DESIGN CHOICE, log
entry 61). -/
def factorySecret : List Byte := List.replicate 32 0

/-- A session offered in OPEN_CHAL and not yet proved (R527). -/
structure Offer where
  id : Nat
  usb : Bool
  user : Nat
  hostNonce : List Byte
  modNonce : List Byte
  deriving DecidableEq, Repr

/-- What a session's last answer was (R530): status and data words. -/
structure Answer where
  seq : Nat
  status : Nat
  data : List Word
  deriving DecidableEq, Repr

/-- An open session: number, port, user, role, the nonces its key was made of, the kept answer, and its NOTIFY numbering (R533):
SEQ of the last NOTIFY sent, the greatest acknowledged, the time of the last sending, the SEQ of the first sending of the last NOTIFY and its content. -/
structure Session where
  id : Nat
  usb : Bool
  user : Nat
  role : Nat
  hostNonce : List Byte
  modNonce : List Byte
  last : Option Answer
  noteSeq : Nat
  noteAck : Nat
  noteTime : Nat
  noteFirst : Nat
  notified : List Word
  deriving DecidableEq, Repr

/-- A transfer message in flight (R535): channel, SEQ, read or write, buffer offset, number of words, the words written, and how
often it has been sent. -/
structure Flight where
  ch : Nat
  seq : Nat
  isRead : Bool
  offset : Nat
  count : Nat
  words : List Word
  sends : Nat
  deriving DecidableEq, Repr

/-- A trend stream (R537): samples packed in the block under construction, the network time of its first sample and the next block
slot. -/
structure Trend where
  stream : Nat
  samples : List Word
  nsamp : Nat
  t0 : Nat
  slot : Nat
  deriving DecidableEq, Repr

/-- What the module sends to a host, the panel or its partner within one command. -/
inductive Out where
  | openChal (src : Nat) (status session : Nat) (modNonce : List Byte)
  | openAck (session role : Nat)
  | answer (session seq status : Nat) (data : List Word)
  | notify (session seq : Nat) (irqsum : List Word)
  | blkwr (ch seq offset : Nat) (words : List Word)
  | blkrd (ch seq offset count : Nat)
  | prpSupervision
  | arpReply (portB : Bool)
  | echoReply (portB : Bool)
  | pairHeartbeat (bytes : List Byte)
  | mirror (cycle : Nat) (kib : Nat) (layout : Word) (sig : BitVec 128)
  | mirrorBase (cycle : Nat)
  | baseRequest
  | swapRequest (cold : Bool)
  | pairHealth (m : HealthMsg)
  | relinquish
  | belfryCmd (cmd : Word)
  | hartRequest (channel : Nat) (frame : List Byte)
  deriving DecidableEq, Repr

/-- The network, user and session state. `userLocks`: USERIDs locked out; `proofFails`: USERID and time; `discards`: source
address and time; `blocked`: source addresses ignored; `noOffer`: session numbers withdrawn, with the time; `ackKept`: sessions
whose OPEN_ACK is kept (their proof may repeat). `ipNow`: the addressing in force (R545). -/
structure NetSt where
  users : List User := [⟨1, 2, factorySecret⟩]
  sessions : List Session := []
  offers : List Offer := []
  noOffer : List (Nat × Nat) := []
  userLocks : List Nat := []
  proofFails : List (Nat × Nat) := []
  discards : List (Nat × Nat) := []
  blocked : List Nat := []
  ipPending : Bool := false
  ipNow : List Word := []
  deriving DecidableEq, Repr

/-- The transfer engine. `keybuf`: the sixteen words of KEYBUF. `nextSeq`: per channel the next SEQ. `evNext`, `evEnd`, `evSent`,
`evSkipped`, `evBytes`: the batch under way (R536). `pulled`, `pullOffset`: the words of the present pull and the next offset asked
for; `fwIdle`: the idle bank; `fwTrial`: new firmware has not yet reached
Image check (R539). -/
structure XferSt where
  keybuf : List Word := []
  flights : List Flight := []
  nextSeq : List (Nat × Nat) := []
  evNext : Nat := 0
  evEnd : Nat := 0
  evFirst : Nat := 0
  evSent : Nat := 0
  evSkipped : Nat := 0
  evBytes : List Byte := []
  evOffset : Nat := 0
  truncated : Bool := false
  pullOffset : Nat := 0
  pulled : List Word := []
  fwIdle : List Word := []
  fwTrial : Bool := false
  trends : List Trend := []
  deriving DecidableEq, Repr

/-! Start-up, images, memory repair (chapter 03) -/

/-- An image slot (R87): the bytes written so far and the content its sections spell (R88 gives no layout of it). -/
structure Slot where
  bytes : List Byte := []
  content : ImageContent := {}
  deriving DecidableEq, Repr

/-- One stored copy of the slot selector (R87). -/
structure Selector where
  slot : Nat
  seq : Nat
  valid : Bool
  deriving DecidableEq, Repr

/-- The slots, the selector's two copies, the image key (R540), whether the active image passed its last check. `restart`: the image's RESTART while Ready was entered through Image
check and Run has not yet been entered (R94). -/
structure ImgSt where
  slot0 : Slot := {}
  slot1 : Slot := {}
  selA : Selector := ⟨0, 0, true⟩
  selB : Selector := ⟨0, 0, true⟩
  key : List Byte := []
  activeOk : Bool := false
  restart : Nat := 0
  deriving DecidableEq, Repr

/-- A repair in force (R82 to R85): array (MEMORY of R84), row or column, faulty address, spare used, Power-ups since with no new
fault in the array, burned into a fuse. -/
structure Repair where
  array : Nat
  isRow : Bool
  addr : Nat
  spare : Nat
  powerUps : Nat
  fused : Bool
  deriving DecidableEq, Repr

/-- A repair record (R84). `check`: the trunk's CRC-24 over the bytes before it (R462). -/
structure RepairRec where
  kind : Nat
  array : Nat
  addr : Nat
  spare : Nat
  found : Nat
  pcycle : Nat
  optime : Nat
  nettime : Nat
  tvalid : Bool
  check : Nat
  deriving DecidableEq, Repr

/-- Self-test and repair. `lbistRun`: Forms whose LBIST of this pass has run; `mbistRun`: likewise;
`retestForm`: the Form of a RETEST under way; `passedRetest`: Forms that passed RETEST and wait for CLEAR_HEALTH; `fuseNow`: fuse
entries programmed per Form in this Self-test; `ecc`: corrected errors (form, word, time); `weak`: words that mark their
row weak (form, word). `repairs`: the repairs in force; `records`: the repair records (R84). -/
structure BistSt where
  lbistRun : List Nat := []
  mbistRun : List Nat := []
  retestForm : Option Nat := none
  passedRetest : List Nat := []
  repairs : List Repair := []
  records : List RepairRec := []
  fuseNow : List (Nat × Nat) := []
  ecc : List (Nat × Nat × Nat) := []
  weak : List (Nat × Nat) := []
  deriving DecidableEq, Repr

/-! Loop islands and FSK (chapters 04, 05) -/

/-- What a HART transaction serves (R163, R165). -/
inductive HartKind where
  | identify | scan (item : Nat) | pass
  deriving DecidableEq, Repr

/-- The transaction in hand: its kind, attempts begun, attempts answered by a garbled reply, request sent and not yet answered. -/
structure HartTxn where
  kind : HartKind
  tries : Nat
  garbled : Nat
  sent : Bool
  deriving DecidableEq, Repr

/-- One loop island and its modem. `st`: the island's state in the code of STAT.ISTATE (R150, R134); `prev`: the state it left for
AHOLD; `link`, `linkLost`: keep-alive (R138). Island-retained memory (R129, R132, R139, R154): `mode`, `paired`, `phold`, `lsup`, and
`retBad`, what of it is still to be rewritten after its check failed (0 the configuration, 1 and 2 the trims). `target`: the current it
regulates, or regulated last, which PHOLD holds (R134); `targetAt`: when that changed (R126); `switch`: the loop-supply switch is closed;
`lsFault`: it opened on its limit (R128); `zone`, `rbZone`: where the primary and the read-back current last lay (R117, R625); `cur`: the
current last measured; `regSince`: when the island left BYPASS for REGULATE (R137); `trimSel`: point selected in a TRIM (1 zero, 2 span),
`trimDown`: its direction, `trimOut`: the last capture exceeded the limits (R141); `scanDue`: scan items waiting; `passRun`: pass-throughs since a scan item; `txn`: the transaction in hand; `lastTx`,
`lastBurst`, `lastEnd`: times of the last transaction start, of the last burst frame accepted (R161) and of the end of the last frame on the
loop (R164); `hartFree`: R160 has held within the running HARTCMD (R177); `dropReply`: the reply of a lost transaction is still to come (R162);
`routed`: the target of an active sensor route (R201). -/
structure Isl where
  st : Nat := 0
  prev : Nat := 0
  tier : Nat := 0
  link : Bool := false
  linkLost : Bool := false
  mode : Nat := 0
  retBad : List Nat := []
  paired : Bool := false
  phold : Nat := 0
  lsup : Bool := false
  switch : Bool := false
  lsFault : Bool := false
  zone : Nat := 2
  rbZone : Nat := 2
  cur : Int := 0
  regSince : Option Nat := none
  target : Int := 35000
  targetAt : Nat := 0
  lsOpens : Nat := 0
  trimSel : Nat := 0
  trimDown : Bool := false
  trimOut : Bool := false
  scanDue : List Nat := []
  passRun : Nat := 0
  passWait : Bool := false
  txn : Option HartTxn := none
  lastTx : Option Nat := none
  lastBurst : Option Nat := none
  lastEnd : Option Nat := none
  hartFree : Bool := false
  dropReply : Bool := false
  routed : Option Nat := none
  deriving DecidableEq, Repr

/-- The loop islands, by channel; an island not listed is as manufactured. `coldWait`: after a cold takeover or swap no value has
yet been released (R124). `vlDown`: loop-group supplies that are absent; `vl`: their voltage in mV, as last told. -/
structure LoopsSt where
  isl : List (Nat × Isl) := []
  coldWait : Bool := false
  vlDown : List Nat := []
  vl : List (Nat × Nat) := []
  deriving DecidableEq, Repr

/-! Sensor front end (chapter 06) -/

/-- One sensor channel beside its registers. `filt`: the results its filter holds, newest first (one for a first-order filter);
`settle`: conversions still to complete before SETTLING ends (R185); `blanked`: R200; `suspect`: a saturated conversion awaits its
burn-out check (R198); `slow`: SLOWSET at the last conversion taken in, which its quality rests on (R193, R198); `cjFix`: its cold junction
came from CJFIX; `cjUnusable`: it was unusable; `checkDue`: the conversion of the present slot has ended and its burn-out check is to come
(R199). -/
structure Sen where
  filt : List Word := []
  settle : Nat := 1
  blanked : Bool := false
  suspect : Bool := false
  slow : Bool := false
  checkDue : Bool := false
  cjFix : Bool := false
  cjUnusable : Bool := false
  deriving DecidableEq, Repr

/-- The sensor channels by number; `dark`: the groups whose island does not answer; `closed`: those whose blanking contact is closed (R200);
`scan`: the slots still to run of each group's scan, in their order: 8 the cold-junction and reference slot, 0 to 7 a channel (R186). -/
structure SensSt where
  ch : List (Nat × Sen) := []
  dark : List Nat := []
  closed : List Nat := []
  scan : List (Nat × List Nat) := []
  deriving DecidableEq, Repr

/-! Digital channels (chapter 07) -/

/-- One digital group. `vf`: VFn last reported, in mV; `needTest`: the start-up test has not yet run since page enable; `testing`: it
runs; `fault`: the group has entered FAULT since Power-up; `link`: keep-alive; `dark`: its island does not answer; `next`: while
outputs are being restored (R230), the first channel block still held off; `shedding`: a shed was made and the current has not yet
come below 4.0 A (R225). -/
structure DioGrp where
  vf : Nat := 0
  needTest : Bool := true
  testing : Bool := false
  fault : Bool := false
  link : Bool := true
  dark : Bool := false
  next : Option Nat := none
  shedding : Bool := false
  deriving DecidableEq, Repr

/-- One digital channel: its raw pin state as last sampled, its filtered state, whether its filter refills after a supply cut (R232),
and whether a shed output's command has been off since the last release (R225). -/
structure DioCh where
  raw : Bool := false
  filt : Bool := false
  refill : Bool := false
  shedOff : Bool := false
  deriving DecidableEq, Repr

/-- Groups and channels by number. -/
structure DioSt where
  grp : List (Nat × DioGrp) := []
  ch : List (Nat × DioCh) := []
  deriving DecidableEq, Repr

/-! Safety section (chapter 08) -/

/-- A safety function as one processor holds it: FSTATE (R285), DISC, DEG, the operating time at which its grace ends (R268), the 5-minute alarm given, LOCKED at
grace expiry, when its slot's button became actuated (of a RESET slot: its contact's last falling edge) and whether it has been released since the
function left RUN (R256, R260). -/
structure SFn where
  st : Nat := 0
  disc : Bool := false
  deg : Bool := false
  graceEnd : Nat := 0
  low : Bool := false
  graceOut : Bool := false
  actAt : Option Nat := none
  released : Bool := true
  deriving DecidableEq, Repr

/-- A safety input: filtered level (closed is high), its faults (R252, R253), consecutive missed and correct pulses. -/
structure SIn where
  closed : Bool := false
  xfault : Bool := false
  cross : Bool := false
  hwf : Bool := false
  miss : Nat := 0
  good : Nat := 0
  deriving DecidableEq, Repr

/-- A safety output: each processor's decision, which its own switch follows (R248; `a` the high side, `b` the low), its flags and
counters (R285), LOCKED by external voltage, the mapped functions that still have to pass through SAFE (8 times the processor plus the
function; R263, R267), and which switch the next dark pulse opens (R264). -/
structure SOut where
  a : Bool := false
  b : Bool := false
  ext : Bool := false
  overload : Bool := false
  lsext : Bool := false
  hsext : Bool := false
  lsfail : Bool := false
  hsfail : Bool := false
  dpab : Nat := 0
  otab : Nat := 0
  pass : List Nat := []
  extPass : List Nat := []
  dpLow : Bool := false
  deriving DecidableEq, Repr

/-- An output is energised while both switches are closed (R248). -/
def SOut.on (o : SOut) : Bool := o.a && o.b

/-- A change-log entry (R279). -/
structure CLog where
  seq : Nat
  kind : Nat
  result : Nat
  user : Nat
  oldSig : Word
  newSig : Word
  pcycle : Nat
  optime : Nat
  nettime : Nat
  tvalid : Bool
  imgid : Word
  deriving DecidableEq, Repr

/-- The safety section: section state (code of SSTATE, R284), dark, keep-alive present and lost since, VS in mV; `needStart`: its start-up
test has still to run, `testing`: it runs, `powered`: there has been a Power-up since it entered FAULT (R272); functions (8 times the
processor plus the number), inputs and outputs by number; `seen`: the inputs at the last exchange, through which each processor knows the
other side's, and `resets`: the functions whose reset event Safety B learns at the next one (R248); `tests`: the outputs under a test
now; seal and each processor's copy of SIG; salt and hash of the password (R275), the buffers and lengths written (R284), times of wrong
passwords, lockout; change log, newest last; PREQ.STOP taken as 0b1111 after an overrun (R274); `lockAt`: when the
password lockout began; VSWARN and TRIPWHY as the section holds them. -/
structure SafeSt where
  ss : Nat := 0
  dark : Bool := false
  ka : Bool := false
  kaLost : Bool := false
  vs : Nat := 0
  needStart : Bool := true
  testing : Bool := false
  powered : Bool := true
  xlost : Bool := false
  fns : List (Nat × SFn) := []
  ins : List (Nat × SIn) := []
  seen : List (Nat × SIn) := []
  resets : List Nat := []
  outs : List (Nat × SOut) := []
  tests : List Nat := []
  sealed : Bool := false
  sigA : Word := 0
  sigB : Word := 0
  password : Option (List Byte × List Byte) := none
  pwbuf : List (Nat × Word) := []
  npwbuf : List (Nat × Word) := []
  pwlen : Word := 0
  pwFails : List Nat := []
  pwLock : Bool := false
  lockAt : Nat := 0
  vsWarn : Bool := false
  tripWhy : Nat := 0
  clog : List CLog := []
  nextSeq : Nat := 0
  wdStop : Bool := false
  deriving DecidableEq, Repr

/-! Control engine (chapter 10) -/

/-- The first step of a loop after entering Run (R333). -/
inductive LoopStart where
  | none | warm | cold | resume
  deriving DecidableEq, Repr

/-- One loop as every stepping lane holds it (R331, R336): mode, set-point, states, output; `pv`, `err`: of the last step; `flags`: LSTAT
[24:16]; `pvq`; `sticky`: LSTICKY; `req`: the MODEREQ value last acted on (log entry 45); `steps`; `start`: what its first step is;
`fresh`: it has not stepped since a cold start. -/
structure LaneLoop where
  mode : Nat := 0
  spr : Word := 0
  istate : Word := 0
  dstate : Word := 0
  pvprev : Word := 0
  out : Word := 0
  pv : Word := 0
  err : Word := 0
  flags : Nat := 0
  pvq : Nat := 0
  sticky : Word := 0
  req : Nat := 1
  steps : Nat := 0
  start : LoopStart := .none
  fresh : Bool := false
  deriving DecidableEq, Repr

/-- The lanes. `staged`: the destinations of the tick's steps, loop and word, not yet released; `stepped`: the loops that stepped on
it; `agree`, `odd`: Forms whose lane has presented in agreement or not; `isOpen`: a lane checkpoint is open; `released`: it has been
released; `dest`: the words last released to the loops' destinations, by loop. -/
structure CtlSt where
  loops : List (Nat × LaneLoop) := []
  staged : List (Nat × Word) := []
  stepped : List Nat := []
  agree : List Nat := []
  odd : List Nat := []
  isOpen : Bool := false
  released : Bool := false
  dest : List (Nat × Word) := []
  deriving DecidableEq, Repr

/-! Timetable and the remote-I/O cycle (chapter 09) -/

/-- A retained copy (R293): valid, the CRC of the retained-variable table it was written under, the cycle, the variables, the loop
states and OPV words (R333, R346). -/
structure RetCopy where
  valid : Bool
  table : Word
  cycle : Nat
  vars : List (Nat × BitVec 64)
  loops : List (Nat × LaneLoop)
  opv : List (Nat × Word)
  deriving DecidableEq, Repr

/-- A variable of the program: identity, type, loose, present value (R306, R307). -/
structure VarEnt where
  id : Nat
  ty : Nat
  loose : Bool
  val : BitVec 64
  deriving DecidableEq, Repr

/-- The input snapshot S(k) (R291): the registers, the stations' input data, the data of the program's receive mailboxes (trunk times 64 plus
mailbox, R475). -/
structure Snapshot where
  regs : List (Nat × Word) := []
  stations : List (Nat × List Byte) := []
  mail : List (Nat × List Byte) := []
  deriving DecidableEq, Repr

/-- A task: an instance runs, the cycle of its release and whether it has overrun; consecutive overruns (R300); the snapshot of its release,
which a lower task reads throughout its run (R291). -/
structure TaskRun where
  running : Bool := false
  relAt : Nat := 0
  late : Bool := false
  consec : Nat := 0
  snap : Snapshot := {}
  deriving DecidableEq, Repr

/-- Timetable. `snap`: the snapshot S(k) (R291); `forces`: force table, entry, identity, value;
`outImg`: the program's own last released words, beneath every force (R303; log entry 201), `outMail`: its own last released mailbox data;
`holdReady`: Hold was entered from Ready, whose output values stand (R297); `nextB`: the retained copy that is written next;
`setBuf`: the change-set buffer; `due`: an accepted operation waits for its boundary; `wdDue`: a watchdog stop does (R300);
`released`: an image of this cycle has been released;
`hdr`: words of page headers that
the released image carries and that have yet to act within this command (R39). -/
structure TaskSt where
  run : List (Nat × TaskRun) := []
  snap : Snapshot := {}
  forces : List (Nat × Nat × Word) := []
  outImg : List (Nat × Word) := []
  outMail : List (Nat × List Byte) := []
  holdReady : Bool := false
  vars : List VarEnt := []
  retA : Option RetCopy := none
  retB : Option RetCopy := none
  nextB : Bool := false
  journal : List OlcEnt := []
  setBuf : List Byte := []
  due : Bool := false
  wdDue : Bool := false
  released : Bool := false
  hdr : List (Nat × Word) := []
  deriving DecidableEq, Repr

/-- A remote station: its last valid input data, whether a valid frame has come on each trunk since the last boundary, and its output
data last released. -/
structure Station where
  inp : List Byte := []
  gotA : Bool := false
  gotB : Bool := false
  out : List Byte := []
  deriving DecidableEq, Repr

/-- The remote-I/O cycle. `outAt`: the station whose acknowledgement is awaited; `started`: a start frame went out at the last
boundary; `phase`: the output phase of this cycle has begun; `pause`: a soft reset stops the cycle for one main period (R322);
`uncertain`: the next snapshot is the first after a takeover (R314). -/
structure IosSt where
  st : List (Nat × Station) := []
  outAt : Option Nat := none
  started : Bool := false
  phase : Bool := false
  pause : Bool := false
  uncertain : Bool := false
  deriving DecidableEq, Repr

/-! Belfry (chapter 11) -/

/-- A point beside its registers: conditions active at the last evaluation, when each condition's level last changed (operating time),
conditions raised, shelf end, out of service, and QSTART of R360. Conditions are numbered as ACTLIM (R391). -/
structure PtAux where
  act : List Nat := []
  since : List (Nat × Nat) := []
  raised : List Nat := []
  shelfEnd : Option Nat := none
  oos : Bool := false
  qstart : Nat := 0
  deriving DecidableEq, Repr

/-- Who gave a command (R371). -/
inductive BelSrc where
  | party (p : Party)
  | panel
  | trunk (node : Nat)
  deriving DecidableEq, Repr

/-- The keep area (R380): the image it was written under, the status words of the points, their shelves and OOS marks, first-outs by
group, call and watch states with their timers. -/
structure BelKeep where
  imgid : Word
  words : List (Nat × Word)
  aux : List (Nat × PtAux)
  fo : List (Nat × Nat)
  cstate : Nat
  wstate : Nat
  escFrom : Nat
  watchFrom : Nat
  deriving DecidableEq, Repr

/-- Belfry. `newInst`: system points with a new instance (R373); `cmds`: accepted commands waiting; `supAt`: groups whose word had the
suppressing level at the last evaluation, `relEnd`: ends of running SUPRELs; `fo`: first-outs by group; `escFrom`, `watchFrom`:
operating time of entry into STAGE1 and WATCH; `last`: time of the last evaluation; `recent`: trunk commands received, trunk, node,
index, word, time (R371); `wdStop`: from a watchdog stop to the next RUN; `restored`: AUDIBLE is to be decided at the first
evaluation after a restore. -/
structure BelfrySt where
  newInst : List Nat := []
  cmds : List Word := []
  aux : List (Nat × PtAux) := []
  supAt : List Nat := []
  sup : List Nat := []
  relEnd : List (Nat × Nat) := []
  fo : List (Nat × Nat) := []
  cstate : Nat := 0
  wstate : Nat := 0
  escFrom : Nat := 0
  watchFrom : Nat := 0
  last : Nat := 0
  recent : List (Nat × Nat × Nat × Word × Nat) := []
  wdStop : Bool := false
  restored : Bool := false
  keep : Option BelKeep := none
  deriving DecidableEq, Repr

/-! Forms, Proctor, Roll Call and Recess (chapter 12) -/

/-- A hall pass (R414, R415): resource (kind times 256 plus number), owner Form, lapse cycle, the concurring Forms. -/
structure Pass where
  res : Nat
  owner : Nat
  lapse : Nat
  concur : List Nat
  deriving DecidableEq, Repr

/-- How far a rotation has come (R412). -/
inductive RotStage where
  | resync | handover | leave | test
  deriving DecidableEq, Repr

/-- A rotation (R412): the Form that comes in, the Form that goes out, its stage, and whether RECESS_NOW started it. -/
structure Rotation where
  inc : Nat
  outg : Nat
  stage : RotStage
  host : Bool
  deriving DecidableEq, Repr

/-- The part of the compared set that every Form reads alike at B(k) (R396): the loop states, TASK.CYCLE, the tasks' overrun states, the force
table with the journal's count. -/
structure Compared where
  loops : List Word := []
  cycle : List Word := []
  late : List Bool := []
  forces : List Word := []
  deriving DecidableEq, Repr

/-- A presentation (R397, R400, R406): the Form, what it presents, its checkpoint signature and its state hash for Roll Call. -/
structure Shown where
  form : Nat
  cp : Checkpoint
  sig : BitVec 128
  hash : BitVec 128
  deriving DecidableEq, Repr

/-- The STATEFUL regions of a Form's memory (R405): the words that differ from the image's, by byte address, and the hash over them. -/
structure FormMem where
  words : List (Nat × Word) := []
  hash : BitVec 128 := 0
  deriving DecidableEq, Repr

/-- Proctor and the Forms; a Form's place stands in FSTAT.PLACE. `isOpen`: the main checkpoint is open; `common`: the compared set's
common part, `mem`: the Forms' memories; `cps`: presentations in the order made; `agree`: the Forms of its agreement; `done`: its image has been released or withheld; `closed`: its window is closed;
`withheld`: a Proctor fault withholds it (R416). `relHalf`: the half of the banks that holds the released image (R403); `held`: staged
words withheld at the next release (R404), as image index; `heldLane`: likewise lane destinations, as loops. `resync`: receivers,
with the donor and whether a pass is complete; `rot`: rotation; `lastRot`: operating time at which the last one ended; `lats`: latent
divergences (Form, time); `bankErrs`: uncorrectable bank errors (bank, time); `latNext`: Forms that leave the vote at the next
checkpoint (R407); `split`: Forms of a split with what they presented; `fbNext`: the fallback voter takes over at the next checkpoint;
`moveBank`: the service moves at the next checkpoint; `voterBad`: the fallback voter is faulty; `donor`: the Forms of the last
agreement; `outs`: Forms voted out whose test has not ended (R511). -/
structure ProcSt where
  isOpen : Bool := false
  common : Compared := {}
  mem : List (Nat × FormMem) := []
  cps : List Shown := []
  agree : List Nat := []
  done : Bool := false
  closed : Bool := false
  withheld : Bool := false
  relHalf : Nat := 0
  held : List Nat := []
  heldLane : List Nat := []
  resync : List (Nat × Nat × Bool) := []
  rot : Option Rotation := none
  lastRot : Nat := 0
  lats : List (Nat × Nat) := []
  bankErrs : List (Nat × Nat) := []
  latNext : List Nat := []
  split : List (Nat × Option Shown) := []
  fbNext : Bool := false
  moveBank : Bool := false
  voterBad : Bool := false
  donor : List Nat := []
  outs : List Nat := []
  passes : List Pass := []
  deriving DecidableEq, Repr

/-! Redundant pair (chapter 13) -/

/-- A handover under way (R445, R447): cold, moves of S made, the boundary S, WHY of LASTCHG, and whether the new Duty has been heard
since S. -/
structure Swap where
  cold : Bool
  moves : Nat
  at_ : Nat
  why : Nat
  heard : Bool
  deriving DecidableEq, Repr

/-- The pair. `peer`: the partner's last pair heartbeat; `peerEpoch`: the greatest EPOCH it has shown; `lostAt`: when the link was
lost; `lostAge`: MAGE then; `enteredAt`, `dutyAt`: entry into STBY_COLD or STBY_READY and the last time a Duty was heard (R440);
`mirror`: the mirror set as received; `matched`: as it was at the last matched checkpoint; `matchCycle`: that checkpoint; `peerLayout`:
the Duty's layout identity; `based`: a base copy is wanted; `report`: the partner's last health report; `warm`: the takeover in TAKING
is warm; `relinq`: because of RELINQUISH; `swap`: a handover under way; `claiming`: a claim takes effect at the next boundary;
`yielding`: a yield does, with WHY of LASTCHG; `settleFrom`: when SETREM's count began. -/
structure PairSt where
  peer : Option PairHb := none
  peerEpoch : Nat := 0
  lostAt : Option Nat := none
  lostAge : Nat := 255
  enteredAt : Nat := 0
  dutyAt : Option Nat := none
  mirror : MirrorSet := {}
  matched : MirrorSet := {}
  matchCycle : Nat := 0
  peerLayout : Option Word := none
  based : Bool := false
  report : Option HealthMsg := none
  warm : Bool := false
  relinq : Bool := false
  swap : Option Swap := none
  claiming : Bool := false
  yielding : Option Nat := none
  settleFrom : Option Nat := none
  deriving DecidableEq, Repr

/-! Trunks (chapter 14) -/

/-- A frame (R460, R461): class, kind, sender, index, payload. -/
structure Frame where
  prio : Nat
  kind : Nat
  src : Nat
  index : Nat
  data : List Byte
  deriving DecidableEq, Repr

/-- The frame in its attempt: its content as it was offered, the mailbox it comes from, its bits on the wire (R461; 1 is recessive). -/
structure Attempt where
  frame : Frame
  mbox : Option Nat
  wire : List Bool := []
  deriving DecidableEq, Repr

/-- A mailbox (R477, R478): visible and shadow buffer, and whether a commit came while its frame was in an attempt. -/
structure MBox where
  visible : List Byte := []
  shadow : List Byte := []
  again : Bool := false
  deriving DecidableEq, Repr

/-- One trunk. `queue`: the module's own frames, oldest first (R469); `attempt`: the frame offered at the last arbitration; `window`:
the station node of an open response window (R464); `valid`: consecutive valid frames in RESTRICTED (R472); `heardSince`: a valid
frame of another node has arrived since ERR.UNACK last was 0 (R473); `seen`: the nodes not lost, with their last heartbeat
(R23); `ackSince`: an own frame has been acknowledged since the partner's last heartbeat (R441); `lastRx`, `lastAck`: times. -/
structure TrkSt where
  queue : List Frame := []
  attempt : Option Attempt := none
  window : Option Nat := none
  valid : Nat := 0
  heardSince : Bool := false
  seen : List (Nat × Heartbeat) := []
  ackSince : Bool := false
  lastRx : Option Nat := none
  lastAck : Option Nat := none
  mboxes : List (Nat × MBox) := []
  deriving DecidableEq, Repr

/-! Network time (chapter 15) -/

/-- The clock beside its registers. `sampled`: a sample has been accepted since Power-up; `wasSet`: SETTIME has; `inherited`: it was
synchronised when it became master; `heard`: masters heard, as (node, CLASS, PRIO, operating time); `lastA`: the second of the last
frame taken from trunk A; `stepped`: frames still to carry STEPPED (R496); `slew`: the offset still to be worked off, in ns; `ppsGood`:
consecutive edges within 1 µs; `ppsOnce`: PPSLOCK has been set since Power-up; `utcOwn`: the module's own UTCOFS (R499). -/
structure TimeSt where
  sampled : Bool := false
  wasSet : Bool := false
  inherited : Bool := false
  heard : List (Nat × Nat × Nat × Nat) := []
  lastA : Option Nat := none
  stepped : Nat := 0
  slew : Int := 0
  ppsGood : Nat := 0
  ppsOnce : Bool := false
  utcOwn : Word := 0
  deriving DecidableEq, Repr

/-! Lantern and Slate (chapter 18) -/

/-- Slate. `waiting`: requests, by region 0 to 4, 5 a full update, 6 the clean sequence; `busy`: regions whose waveform runs;
`full`: it is a full update; `cleaning`: R568; `lastStart`: operating time at which each region's last update started; `drawing`:
what the running waveform draws; `picture`: what the panel shows, by region; `newest`: the newest module reason arising, with its
operating and network time (R564). -/
structure SlateSt where
  waiting : List Nat := []
  busy : List Nat := []
  full : Bool := false
  cleaning : Bool := false
  lastStart : List (Nat × Nat) := []
  drawing : List (Nat × List Nat) := []
  picture : List (Nat × List Nat) := []
  newest : Option (Nat × Nat × Nat) := none
  deriving DecidableEq, Repr

/-- Lantern. `pub`: the code of each point-owned LED in the last Belfry state published since Power-up, `none` before the first;
`dark`: the keep-alive is lost; `stuck`: keys held for 30 s (R560). -/
structure LanternSt where
  pub : Option (List (Nat × Nat)) := none
  dark : Bool := false
  stuck : List Nat := []
  deriving DecidableEq, Repr

/-! Clock islands and Cupola (chapters 19, 20) -/

/-- The clock islands. `switching`: islands still to be moved, each with its target reference, in order; `losing`: PLL islands that
relock, and whether on the second reference (R583); `stopped`: islands whose PLL locked on neither. -/
structure ClkSt where
  switching : List (Nat × Nat) := []
  losing : List (Nat × Bool) := []
  stopped : List Nat := []
  deriving DecidableEq, Repr

/-- Cupola's copy in retained memory (R605): operating time and power-cycle count. -/
structure CupolaSt where
  copyTime : Nat := 0
  copyCycle : Nat := 0
  deriving DecidableEq, Repr

/-- Everything the spec gives the module beside its registers. `out`: what the module has sent in the latest command; `upsets`: what is about to
disturb Belfry's second engine, in each evaluation of a boundary the words of its results and the bits turned over: the model's own, a free value
of the idle tick (R349, R353; log entry 140). -/
structure Inner where
  mode : Mode := .powerUp
  role : Role := .solo
  out : List Out := []
  pages : PageSt := {}
  health : HealthSt := {}
  evt : EvtSt := {}
  net : NetSt := {}
  xfer : XferSt := {}
  img : ImgSt := {}
  bist : BistSt := {}
  loops : LoopsSt := {}
  sens : SensSt := {}
  dio : DioSt := {}
  safe : SafeSt := {}
  trkA : TrkSt := {}
  trkB : TrkSt := {}
  ctl : CtlSt := {}
  task : TaskSt := {}
  ios : IosSt := {}
  bel : BelfrySt := {}
  slate : SlateSt := {}
  lantern : LanternSt := {}
  clk : ClkSt := {}
  cupola : CupolaSt := {}
  proc : ProcSt := {}
  pair : PairSt := {}
  time : TimeSt := {}
  upsets : List (List (Nat × Word)) := []
  deriving DecidableEq, Repr

/-- The module: its registers in canonical form, everything else, and the commands that wait, first in first out. -/
structure State where
  regs : List (Nat × Word)
  x : Inner
  pending : List Instr
  deriving DecidableEq, Repr

/-- A state being changed by one command: the registers at its start, the words written since (newest first), everything else, and the
interrupt bits (page, bit) that sources have set within the command (R53). -/
structure Work where
  base : List (Nat × Word)
  log : List (Nat × Word)
  x : Inner
  irqs : List (Nat × Nat) := []
  deriving DecidableEq, Repr

/-- The module right after reset: a new module on its first entry into Power-up (R17, R73), every register at the value its table gives
(`resetWord`), and what an entry into Power-up leaves (R75, R601, R511, R564): RST.CAUSE 1 (R105) and its FLAG record on its way, PCYCLE 1,
the episode log open for POWERUP, the redrawing of Slate's region 1 waiting (log entry 53). No command waits. -/
def State.reset : State :=
  { regs := [(0x03040, 1), (0x05048, 1), (0x14040, 0x200), (0x14048, 0x10000000), (0x29044, 0x20000)]
    x := {
      evt := {
        arrivals := [
          { pcycle := 1, optime := 0, nettime := 0, tvalid := false, code := 0x2080, page := 0x014, sub := 0x3FF, data := [1], detail := false,
            queued := false, ep := 1 },
          { pcycle := 1, optime := 0, nettime := 0, tvalid := false, code := 0x0403, page := 0x003, sub := 0x3FF, data := [0x01000040],
            detail := false, queued := false, ep := 1 }]
        episodes := [1], logging := true, gen := 1 }
      slate := { waiting := [1] } }
    pending := [] }

end Sys2Proof.Machine
end

