-- ==== Sys2Proof/Machine/Ops.lean ====
section
/-! DEFINITION. The named operations over the module's state that every command's meaning is built of: reading and writing a
register or a field, committing what was written, events, health reasons, interrupts, refusals (R50), long operations (R54 to
R59), locks and keys (R61 to R64). -/

namespace Sys2Proof.Machine

/-! Fields and words -/

/-- The bits of a field, as a mask. -/
def Fld.mask (f : Fld) : Word := BitVec.ofNat 32 ((2 ^ f.w - 1) <<< f.lo)

/-- The value of a field in a word. -/
def Fld.get (f : Fld) (v : Word) : Nat := ((v &&& f.mask) >>> f.lo).toNat

/-- A word with one field replaced by the low bits of `n`. -/
def Fld.set (f : Fld) (v : Word) (n : Nat) : Word :=
  (v &&& ~~~f.mask) ||| (BitVec.ofNat 32 (n <<< f.lo) &&& f.mask)

/-! The register list: sparse, canonical -/

/-- What a register list gives for an address: its entry, or the word's reset value. -/
def regsGet : List (Nat × Word) → Nat → Word
  | [], a => resetWord a
  | (b, v) :: t, a => if b = a then v else regsGet t a

/-- Insert an entry before the first greater address. -/
def regsInsert : List (Nat × Word) → Nat → Word → List (Nat × Word)
  | [], a, v => [(a, v)]
  | (b, u) :: t, a, v => if a < b then (a, v) :: (b, u) :: t else (b, u) :: regsInsert t a v

/-- Remove every entry of an address. -/
def regsErase : List (Nat × Word) → Nat → List (Nat × Word)
  | [], _ => []
  | (b, u) :: t, a => if b = a then regsErase t a else (b, u) :: regsErase t a

/-- Write one word; a word equal to its reset value leaves no entry. -/
def regsSet (r : List (Nat × Word)) (a : Nat) (v : Word) : List (Nat × Word) :=
  if v = resetWord a then regsErase r a else regsInsert (regsErase r a) a v

/-- The canonical form: addresses strictly rising, no entry equal to its word's reset value. -/
def regsWf : List (Nat × Word) → Bool
  | [] => true
  | [(a, v)] => decide (v ≠ resetWord a)
  | (a, v) :: (b, u) :: t => decide (a < b) && decide (v ≠ resetWord a) && regsWf ((b, u) :: t)

/-- Write a log of words, oldest last, into a register list. -/
def regsCommit (log r : List (Nat × Word)) : List (Nat × Word) := log.foldr (fun e r => regsSet r e.1 e.2) r

/-- Reading through a log of words, newest first. -/
def logGet : List (Nat × Word) → List (Nat × Word) → Nat → Word
  | [], r, a => regsGet r a
  | (b, v) :: t, r, a => if b = a then v else logGet t r a

/-- A register of the state. -/
def State.rd (s : State) (a : Nat) : Word := regsGet s.regs a

/-- A field of a register of the state. -/
def State.get (s : State) (a : Nat) (f : Fld) : Nat := f.get (s.rd a)

/-! Work: a state being changed by one command -/

/-- Read a register. -/
def Work.rd (w : Work) (a : Nat) : Word := logGet w.log w.base a

/-- Write a register. -/
def Work.wr (w : Work) (a : Nat) (v : Word) : Work := { w with log := (a, v) :: w.log }

/-- Read a field. -/
def Work.get (w : Work) (a : Nat) (f : Fld) : Nat := f.get (w.rd a)

/-- Write a field. -/
def Work.put (w : Work) (a : Nat) (f : Fld) (n : Nat) : Work := w.wr a (f.set (w.rd a) n)

/-- Read a one-bit field. -/
def Work.flag (w : Work) (a : Nat) (f : Fld) : Bool := decide (w.get a f ≠ 0)

/-- Write a one-bit field. -/
def Work.putB (w : Work) (a : Nat) (f : Fld) (b : Bool) : Work := w.put a f (if b then 1 else 0)

/-- Do something only where a condition holds. -/
def Work.when (w : Work) (c : Bool) (f : Work → Work) : Work := if c then f w else w

/-- Do something for each of a list. -/
def Work.each {α : Type} (w : Work) (l : List α) (f : Work → α → Work) : Work := l.foldl f w

/-- A signed field's value (two's complement). -/
def signedOf (bits n : Nat) : Int := if n < 2 ^ (bits - 1) then (n : Int) else (n : Int) - 2 ^ bits

/-- The low `bits` bits of an integer. -/
def unsignedOf (bits : Nat) (i : Int) : Nat := (i % 2 ^ bits).toNat

/-- Read a two's-complement field. -/
def Work.getI (w : Work) (a : Nat) (f : Fld) : Int := signedOf f.w (w.get a f)

/-- Write a two's-complement field. -/
def Work.putI (w : Work) (a : Nat) (f : Fld) (i : Int) : Work := w.put a f (unsignedOf f.w i)

/-- Add one to a counter that saturates at its field's greatest value. -/
def Work.incSat (w : Work) (a : Nat) (f : Fld) : Work := w.put a f (min (w.get a f + 1) (2 ^ f.w - 1))

/-- Add one to a counter that wraps. -/
def Work.incWrap (w : Work) (a : Nat) (f : Fld) : Work := w.put a f (w.get a f + 1)

/-- Read a 64-bit quantity in two words, low word first (R7). -/
def Work.rd64 (w : Work) (lo hi : Nat) : Nat := (w.rd lo).toNat + (w.rd hi).toNat * 2 ^ 32

/-- Write a 64-bit quantity in two words. -/
def Work.wr64 (w : Work) (lo hi n : Nat) : Work :=
  (w.wr lo (BitVec.ofNat 32 n)).wr hi (BitVec.ofNat 32 (n / 2 ^ 32))

/-- Operating time in ms: the 48-bit counter of Cupola (R609). -/
def Work.now (w : Work) : Nat := w.rd64 CUPOLA.OPTIME CUPOLA.OPTIMEH

/-- Network time in ns (R499). -/
def Work.net (w : Work) : Nat := w.rd64 TIME.NOW TIME.NOWH

/-- Change the state beside the registers. -/
def Work.upd (w : Work) (f : Inner → Inner) : Work := { w with x := f w.x }

/-- Send something to a host, the panel or the partner. -/
def Work.send (w : Work) (o : Out) : Work := w.upd fun x => { x with out := x.out ++ [o] }

/-- SYS.STATE.STATE of a module state (R100); Off and Failed have no code. -/
def modeCode : Mode → Nat
  | .off => 0
  | .powerUp => 1
  | .selfTest => 2
  | .imageCheck => 3
  | .held => 4
  | .ready => 5
  | .run => 6
  | .hold => 7
  | .failed => 0

/-- SYS.STATE.ROLE of a role (R100). -/
def roleCode : Role → Nat
  | .solo => 0
  | .duty => 1
  | .standby => 2

/-- A force on a register: its identity is 0x8000_0000 + address / 4 (R302). -/
def Work.forcedReg (w : Work) (a : Nat) : Option Word :=
  ((w.x.task.forces.find? fun e => decide (e.2.1 = 0x8000_0000 + a / 4))).map (·.2.2)

/-- Do unpaired outputs take their stop values: in Ready, in Hold entered from Ready (R297), and on a Standby that shows Run or Hold (R124,
R223, R435)? -/
def Work.atStop (w : Work) : Bool :=
  decide (w.x.mode = .ready) || (decide (w.x.mode = .hold) && w.x.task.holdReady)
    || ((decide (w.x.mode = .run) || decide (w.x.mode = .hold)) && decide (w.x.role = .standby))

/-- Does the stop value stand for the output that a register commands? In Hold a forced value reaches the field (R303). -/
def Work.stopsAt (w : Work) (a : Nat) : Bool :=
  w.atStop && !(decide (w.x.mode = .hold) && decide (w.x.role ≠ .standby) && (w.forcedReg a).isSome)

/-- Does the module execute the program: in Run, not as a Standby, in SWAP_OUT or in a split (R411, R435, R439)? -/
def Work.executes (w : Work) : Bool :=
  decide (w.x.mode = .run) && decide (w.x.role ≠ .standby) && decide (w.get PAIR.STAT PAIR.STAT_PSTATE ≠ 5)
    && !w.flag PROCTOR.STAT PROCTOR.STAT_SPLIT

/-! Interrupts and events -/

/-- A source sets a bit of a page's IRQSTAT (R51). -/
def Work.irq (w : Work) (page bit : Nat) : Work :=
  { w.put (HDR.IRQSTAT page) ⟨bit, 1⟩ 1 with irqs := (page, bit) :: w.irqs }

/-- The bits of a page's IRQSTAT that sources have set within this command. -/
def Work.irqsNow (w : Work) (page : Nat) : Word :=
  w.irqs.foldl (fun m e => if e.1 = page then m ||| BitVec.ofNat 32 (2 ^ e.2) else m) 0

/-- SUB of SOURCE where there is none (R503). -/
def noSub : Nat := 0x3FF

/-- CODE of an event of a page: the block's TYPE and the number (R504). -/
def codeOf (page num : Nat) : Nat := (blockOf (kindOf page)).1 * 256 + num

/-- The records of an event as its block makes it, stamped at the occurrence (R506). -/
def Work.event (w : Work) (page num sub : Nat) (data : List Nat) (detail : Bool) : Event :=
  { pcycle := (w.rd CUPOLA.PCYCLE).toNat, optime := w.now, nettime := w.net, tvalid := w.flag TIME.STAT TIME.STAT_VALID,
    code := codeOf page num, page := page, sub := sub, data := data, detail := detail, queued := false,
    ep := if w.x.evt.logging then w.x.evt.gen else 0 }

/-- The arrival buffer holds 512 records (R501); an event that finds it full is lost and counted (R507). -/
def Work.arrive (w : Work) (e : Event) : Work :=
  if (w.x.evt.arrivals.map (·.data.length)).sum + e.data.length ≤ 512 then w.upd fun x => { x with evt := { x.evt with arrivals := x.evt.arrivals ++ [e] } }
  else
    let w := if w.get EVT.LOST EVT.LOST_QLOST = 0 then w.irq 0x14 18 else w
    let k := e.data.length
    (w.put EVT.LOST EVT.LOST_QLOST (min (w.get EVT.LOST EVT.LOST_QLOST + k) 0xFFFF)).upd fun x =>
      { x with evt := { x.evt with lostSince := x.evt.lostSince + k } }

/-- An event goes to the recorder's arrival buffer. -/
def Work.emit (w : Work) (page num sub : Nat) (data : List Nat) : Work := w.arrive (w.event page num sub data false)

/-- An event marked DETAIL: it goes to the episode log alone, and only while an episode is open (R512). -/
def Work.emitDetail (w : Work) (page num sub : Nat) (data : List Nat) : Work :=
  if w.x.evt.logging = false then w else w.arrive (w.event page num sub data true)

/-- DATA of six bytes. -/
def data6 (b0 b1 b2 b3 b4 b5 : Nat) : Nat :=
  b0 % 256 + (b1 % 256) * 2 ^ 8 + (b2 % 256) * 2 ^ 16 + (b3 % 256) * 2 ^ 24 + (b4 % 256) * 2 ^ 32 + (b5 % 256) * 2 ^ 40

/-- STATE event (R504): a state field takes a new value. -/
def Work.evState (w : Work) (page sub a lsb old new : Nat) : Work :=
  w.emit page 0x02 sub [data6 (a % 4096) (a % 4096 / 256) lsb old new 0]

/-- FLAG event (R504). -/
def Work.evFlag (w : Work) (page sub a bit : Nat) (lvl : Bool) : Work :=
  w.emit page 0x03 sub [data6 (a % 4096) (a % 4096 / 256) bit (if lvl then 1 else 0) 0 0]

/-- OCCUR event (R504): an occurrence and the counter after it. -/
def Work.evOccur (w : Work) (page sub a bit count : Nat) : Work :=
  w.emit page 0x04 sub [data6 (a % 4096) (a % 4096 / 256) bit count (count / 256) (count / 65536)]

/-- A step's result in an episode log alone: OCCUR, marked DETAIL (R512). -/
def Work.detail (w : Work) (page sub a bit count : Nat) : Work :=
  w.emitDetail page 0x04 sub [data6 (a % 4096) (a % 4096 / 256) bit count (count / 256) (count / 65536)]

/-- VALUE event (R504). -/
def Work.evValue (w : Work) (page sub a lsb new : Nat) : Work :=
  w.emit page 0x08 sub [data6 (a % 4096) (a % 4096 / 256) lsb new (new / 256) (new / 65536)]

/-- WRITE event (R504), two records: the old value and the new one with the user. -/
def Work.evWrite (w : Work) (page sub a : Nat) (old new : Word) (user : Nat) : Work :=
  w.emit page 0x05 sub
    [data6 (a % 4096) (a % 4096 / 256) old.toNat (old.toNat / 2 ^ 8) (old.toNat / 2 ^ 16) (old.toNat / 2 ^ 24),
     data6 new.toNat (new.toNat / 2 ^ 8) (new.toNat / 2 ^ 16) (new.toNat / 2 ^ 24) user (user / 256)]

/-- REFUSED event (R504): who is 0 program, 1 host, 2 panel, 3 trunk. -/
def Work.evRefused (w : Work) (page sub a code who user : Nat) : Work :=
  w.emit page 0x06 sub [data6 (a % 4096) (a % 4096 / 256) code who user (user / 256)]

/-- COMMAND event (R504). -/
def Work.evCommand (w : Work) (page sub : Nat) (cmd : Word) (user : Nat) : Work :=
  w.emit page 0x0A sub
    [data6 cmd.toNat (cmd.toNat / 2 ^ 8) (cmd.toNat / 2 ^ 16) (cmd.toNat / 2 ^ 24) user (user / 256)]

/-- A status flag takes a level; a change is recorded (FLAG). -/
def Work.setFlag (w : Work) (page sub a : Nat) (f : Fld) (lvl : Bool) : Work :=
  if w.flag a f = lvl then w else (w.putB a f lvl).evFlag page sub a f.lo lvl

/-- A state field takes a value; a change is recorded (STATE). -/
def Work.setState (w : Work) (page sub a : Nat) (f : Fld) (n : Nat) : Work :=
  if w.get a f = n then w else (w.put a f n).evState page sub a f.lo (w.get a f) n

/-- A flag rises or falls, and on its rise a source of the page's IRQSTAT is set. -/
def Work.flagIrq (w : Work) (page a : Nat) (f : Fld) (lvl : Bool) (bit : Nat) : Work :=
  let rise := lvl && !w.flag a f
  (w.putB a f lvl).when rise fun w => w.irq page bit

/-! Health -/

/-- Class of a module reason (R96): 1 Advisory, 2 Degraded-Replace, 3 Failed. -/
def reasonClass (code : Nat) : Nat :=
  if code = 0x02 ∨ code = 0x07 ∨ code = 0x08 ∨ code = 0x0A ∨ code = 0x0B ∨ code = 0x0D ∨ code = 0x0E then 1
  else if 0x10 ≤ code ∧ code ≤ 0x13 then 3
  else 2

/-- The highest class among coded reasons and the lowest code of that class (R96). -/
def worst (l : List (Nat × Nat)) : Nat × Nat :=
  l.foldl (fun acc e => if acc.2 < e.2 ∨ (acc.2 = e.2 ∧ e.1 < acc.1) then e else acc) (0, 0)

/-- A page's PGHEALTH follows its reasons; a change of class sets the HEALTH source (R51, R66). -/
def Work.showPageHealth (w : Work) (page : Nat) : Work :=
  let l := (w.x.health.page.filter (fun e => decide (e.1 = page))).map (fun e => (e.2.1, e.2.2))
  let r := worst l
  let a := HDR.PGHEALTH page
  let old := w.get a HDR.PGHEALTH_CLASS
  ((w.put a HDR.PGHEALTH_CLASS r.2).put a HDR.PGHEALTH_REASON r.1).when (decide (old ≠ r.2)) fun w => w.irq page 2

/-- HEALTH event of a page (R96, R504). -/
def Work.evHealth (w : Work) (page old new code : Nat) (arising : Bool) : Work :=
  w.emit page 0x01 noSub [data6 old new code (if arising then 1 else 0) 0 0]

/-- A reason of a page's own health arises or clears, and is recorded (R95, R96). -/
def Work.pageReason (w : Work) (page code cls : Nat) (on : Bool) : Work :=
  let e := (page, code, cls)
  if w.x.health.page.contains e = on then w
  else
    let old := w.get (HDR.PGHEALTH page) HDR.PGHEALTH_CLASS
    let w := w.upd fun x => { x with health := { x.health with
      page := if on then x.health.page ++ [e] else x.health.page.filter (fun f => decide (f ≠ e))
      pageGone := x.health.pageGone.filter (fun f => decide (f ≠ e)) } }
    let w := w.showPageHealth page
    w.evHealth page old (w.get (HDR.PGHEALTH page) HDR.PGHEALTH_CLASS) code on

/-- Is the page enabled (R36)? -/
def Work.enabled (w : Work) (page : Nat) : Bool := w.flag (HDR.PGCTL page) HDR.PGCTL_EN

/-- The module's health: the worst of the module reasons, and of the enabled pages where one is worse (R67, R96). -/
def Work.moduleHealth (w : Work) : Nat × Nat :=
  let m := worst (w.x.health.reasons.map fun c => (c, reasonClass c))
  let p := worst ((w.x.health.page.filter (fun e => w.enabled e.1)).map fun e => (e.2.1, e.2.2))
  if m.2 < p.2 then p else m

/-- A system point has a new instance for Belfry's next evaluation (R363, R373). -/
def Work.newInstance (w : Work) (pt : Nat) : Work :=
  w.upd fun x => { x with bel := { x.bel with newInst := x.bel.newInst ++ [pt] } }

/-- SSTAT.WAITING, BUSY and CLEANING follow (R573). -/
def Work.slateShow (w : Work) : Work :=
  let x := w.x.slate
  let all := x.waiting.contains 5 || x.waiting.contains 6
  let bits (f : Nat → Bool) : Nat := ((List.range 5).filter f).foldl (fun n r => n + 2 ^ r) 0
  let w := w.put SLATE.SSTAT SLATE.SSTAT_WAITING (bits fun r => all || x.waiting.contains r)
  (w.put SLATE.SSTAT SLATE.SSTAT_BUSY (bits fun r => x.busy.contains r)).putB SLATE.SSTAT SLATE.SSTAT_CLEANING x.cleaning

/-- A request for Slate (R564, R567): region 0 identity, 1 role, 2 health, 3 fault, 4 service; 5 a full update, 6 the clean sequence.
One request of a region waits; a full update absorbs them. -/
def Work.slateRequest (w : Work) (region : Nat) : Work :=
  let q := w.x.slate.waiting
  if q.contains region ∨ (region < 5 ∧ (q.contains 5 ∨ q.contains 6)) then w
  else
    let q := if region = 5 then 5 :: q.filter (fun r => decide (5 ≤ r)) else q ++ [region]
    (w.upd fun x => { x with slate := { x.slate with waiting := q } }).slateShow

/-- A module reason enters or leaves the list that SYS.PGHEALTH shows; both are recorded (R96). -/
def Work.showReason (w : Work) (code : Nat) (on : Bool) : Work :=
  if w.x.health.reasons.contains code = on then w
  else
    let old := w.moduleHealth.2
    let w := w.upd fun x => { x with health := { x.health with
      reasons := if on then x.health.reasons ++ [code] else x.health.reasons.filter (fun c => decide (c ≠ code))
      gone := x.health.gone.filter (fun c => decide (c ≠ code)) } }
    let w := w.evHealth 0x000 old w.moduleHealth.2 code on
    let w := w.when on fun w =>
      let t := (code, w.now, w.net)
      (w.upd fun x => { x with slate := { x.slate with newest := some t } }).slateRequest 3
    let w := w.when (on && decide (reasonClass code < 3)) fun w => w.newInstance (if reasonClass code = 1 then 1008 else 1009)
    w.when (on && decide (reasonClass code = 2) && decide (w.x.evt.episodes ≠ [])) fun w =>
      w.upd fun x => { x with evt := { x.evt with keepWanted := true } }

/-- A cause of a module reason arises or goes at a place (page, sub). An Advisory reason clears with its last cause; a
Degraded-Replace reason stays until CLEAR_HEALTH (R97). -/
def Work.cause (w : Work) (code page sub : Nat) (on : Bool) : Work :=
  let e := (code, page, sub)
  let w := w.upd fun x => { x with health := { x.health with
    causes := if on then (if x.health.causes.contains e then x.health.causes else x.health.causes ++ [e])
      else x.health.causes.filter (fun f => decide (f ≠ e)) } }
  if on then (w.showReason code true).upd fun x => { x with health := { x.health with
      gone := x.health.gone.filter (fun c => decide (c ≠ code)) } }
  else if reasonClass code = 1 ∧ (w.x.health.causes.any fun f => decide (f.1 = code)) = false then w.showReason code false
  else w

/-- A hardware fault of a block that the module survives arises, or its cause goes: the page's reason, Degraded-Replace, and the
module reason it raises (R95, R96). The page's reason stays after its cause, as R97 states. -/
def Work.blockFault (w : Work) (page pcode mcode : Nat) (on : Bool) : Work :=
  (w.when on fun w => w.pageReason page pcode 2 true).cause mcode page pcode on

/-! Parties -/

/-- The session of a party. -/
def Work.session? (w : Work) (id : Nat) : Option Session := w.x.net.sessions.find? (fun s => decide (s.id = id))

/-- The role a party acts with: the program at most Operator, a host its session's (R41); a session that is not open has none. -/
def Work.roleOf (w : Work) : Party → Nat
  | .program => 1
  | .host s => match w.session? s with
    | some s => s.role
    | none => 0

/-- The user identity of a party, 0 for the program. -/
def Work.userOf (w : Work) : Party → Nat
  | .program => 0
  | .host s => match w.session? s with
    | some s => s.user
    | none => 0

/-- Does the party exist: the program, or an open session? -/
def Work.present (w : Work) : Party → Bool
  | .program => true
  | .host s => (w.session? s).isSome

/-- DATA [3] of a REFUSED record: 0 program, 1 host. -/
def whoOf : Party → Nat
  | .program => 0
  | .host _ => 1

/-! Access, refusal -/

/-- Does the module answer accesses at all (R17)? -/
def Work.alive (w : Work) : Bool := decide (w.x.mode ≠ .off) && decide (w.x.mode ≠ .failed)

/-- A page's header can be reached: the page is mapped (R36, R68). -/
def Work.reachable (w : Work) (page : Nat) : Bool := w.alive && decide (kindOf page ≠ .unmapped) && !isWindow page

/-- A page's block-specific registers and windows can be reached (R36, R68); EN reads 0 from the moment a gate begins to close (R584). -/
def Work.usable (w : Work) (page : Nat) : Bool := w.reachable (ctlPage page) && w.enabled (ctlPage page)

/-- A refused write (R50): WREJ and its reason; the WREJ source on its rise (R51). -/
def Work.refuse (w : Work) (page code : Nat) : Work :=
  let a := HDR.PGSTAT page
  let rise := !w.flag a HDR.PGSTAT_WREJ
  ((w.put a HDR.PGSTAT_WREJ_CODE code).put a HDR.PGSTAT_WREJ 1).when rise fun w => w.irq page 1

/-- WREJ_CODE values (R50). -/
def rejLocked : Nat := 1
def rejRole : Nat := 2
def rejInUse : Nat := 3
def rejBusy : Nat := 4
def rejState : Nat := 5
def rejRange : Nat := 6
def rejLockout : Nat := 7

/-! Long operations -/

/-- The operation a page runs. -/
def Work.op? (w : Work) (page : Nat) : Option OpRun := w.x.pages.ops.find? (fun o => decide (o.page = page))

/-- Is the page's operation BUSY (R55)? -/
def Work.opBusy (w : Work) (page : Nat) : Bool := decide (w.get (HDR.OPSTAT page) HDR.OPSTAT_STATE = 1)

/-- OPSTAT states (R55). -/
def opDone : Nat := 2
def opAborted : Nat := 3
def opFailed : Nat := 4

/-- An accepted START (R56): STATE BUSY, OP copied, REASON, PROGRESS and ABORT_LATE cleared. -/
def Work.opBegin (w : Work) (p : Party) (page op arg : Nat) (saved : List (Nat × Word)) : Work :=
  let w := w.wr (HDR.OPSTAT page) (BitVec.ofNat 32 (op * 256 + 1))
  let w := w.put (HDR.PGSTAT page) HDR.PGSTAT_BUSY 1
  w.upd fun x => { x with pages := { x.pages with
    ops := x.pages.ops.filter (fun o => decide (o.page ≠ page)) ++ [⟨page, op, arg, p, false, saved⟩] } }

/-- An operation ends (R57, R58): its result; PROGRESS 100 with DONE; ABORT_LATE where a latched abort was not sampled; the OPEND
source. -/
def Work.opEnd (w : Work) (page state reason : Nat) : Work :=
  if w.opBusy page then
    let a := HDR.OPSTAT page
    let late := match w.op? page with
      | some o => o.abort && decide (state ≠ opAborted)
      | none => false
    let w := ((w.put a HDR.OPSTAT_STATE state).put a HDR.OPSTAT_REASON reason).putB a HDR.OPSTAT_ABORT_LATE late
    let w := w.when (decide (state = opDone)) fun w => w.put a HDR.OPSTAT_PROGRESS 100
    let w := w.put (HDR.PGSTAT page) HDR.PGSTAT_BUSY 0
    let w := w.upd fun x => { x with pages := { x.pages with ops := x.pages.ops.filter (fun o => decide (o.page ≠ page)) } }
    w.irq page 0
  else w

/-- An operation that is accepted and ends at once. -/
def Work.opNow (w : Work) (p : Party) (page op arg state reason : Nat) : Work :=
  (w.opBegin p page op arg []).opEnd page state reason

/-- The gate every START passes (R54 to R56): the page reachable, its block enabled, no operation BUSY, the role, the module state
and the further conditions without a reason code of their own; then `body`. The order of the checks within OPCMD is that of its
fields from the lowest bit (R624): CMD gives BUSY, then OP gives ROLE and STATE (DEDUCED, log entry 4). -/
def Work.startOp (w : Work) (p : Party) (page role : Nat) (modes : List Mode) (cond : Bool) (body : Work → Work) : Work :=
  if w.reachable page = false ∨ w.present p = false then w
  else if w.opBusy page then w.refuse page rejBusy
  else if w.roleOf p < role then w.refuse page rejRole
  else if w.enabled page = false ∨ modes.contains w.x.mode = false ∨ cond = false then w.refuse page rejState
  else body w

/-- The module states by name (R104): any but Power-up; any but Power-up and Self-test. -/
def anyButPowerUp : List Mode := [.selfTest, .imageCheck, .held, .ready, .run, .hold]
def anyButSelfTest : List Mode := [.imageCheck, .held, .ready, .run, .hold]

/-! Locks -/

/-- The unlock of a page. -/
def Work.unlock? (w : Work) (page : Nat) : Option Unlock := w.x.pages.unlocks.find? (fun u => decide (u.page = page))

/-- End a page's unlock (R63): HOLDER and REMAIN read 0, LOCKED reads 1; the SAFE page's password buffers are cleared (R277). -/
def Work.lock (w : Work) (page : Nat) : Work :=
  if (w.unlock? page).isSome then
    let w := w.upd fun x => { x with
      pages := { x.pages with unlocks := x.pages.unlocks.filter (fun u => decide (u.page ≠ page)) }
      safe := if page = 0x030 then { x.safe with pwbuf := [], npwbuf := [] } else x.safe }
    ((w.put (HDR.PGKEY page) HDR.PGKEY_HOLDER 0).put (HDR.PGKEY page) HDR.PGKEY_REMAIN 0)
  else w

/-- End every unlock (a module state change, R63). -/
def Work.lockAll (w : Work) : Work := w.each (w.x.pages.unlocks.map (·.page)) fun w page => w.lock page

end Sys2Proof.Machine
end

