-- ==== Sys2Proof/Machine/Operands.lean ====
section
/-! DEFINITION. The forms in which commands and registers carry values: sparse tables by number, exact division with the rounding
the spec leaves open, byte and word order, check words. -/

namespace Sys2Proof.Machine

/-- An entry of a sparse table; `d` where none is listed. -/
def tabGet {α : Type} (d : α) : List (Nat × α) → Nat → α
  | [], _ => d
  | (m, v) :: t, n => if m = n then v else tabGet d t n

/-- A sparse table with one entry replaced. -/
def tabSet {α : Type} (t : List (Nat × α)) (n : Nat) (v : α) : List (Nat × α) :=
  (n, v) :: t.filter fun e => decide (e.1 ≠ n)

/-- Integer division; where it is not exact the spec does not say how the last unit rounds, and the choice is free
(`Config.roundsUp`, log entry 11). -/
def divRounded (n d : Int) : Int :=
  if n % d = 0 then n / d else n / d + if Config.roundsUp n d then 1 else 0

/-- A refusal of one field of a write, where the write touches the field (R624): its position and its code. -/
def chk (f : Fld) (old new : Word) (bad : Bool) (code : Nat) : List (Nat × Nat) :=
  if f.get old ≠ f.get new ∧ bad = true then [(f.lo, code)] else []

/-- The `n` low bytes of a number, least significant first. -/
def bytesOfNat : Nat → Nat → List Byte
  | 0, _ => []
  | n + 1, v => BitVec.ofNat 8 v :: bytesOfNat n (v / 256)

/-- The four bytes of a word. -/
def bytesOfWord (v : Word) : List Byte := bytesOfNat 4 v.toNat

/-- A number of little-endian bytes. -/
def natOfBytes (bs : List Byte) : Nat := bs.foldr (fun b n => b.toNat + 256 * n) 0

/-- Four bytes as a little-endian word. -/
def wordOfBytes (bs : List Byte) : Word := BitVec.ofNat 32 (natOfBytes (bs.take 4))

/-- Bytes as `n` little-endian words, filled up with zeros. -/
def wordsOfBytes : Nat → List Byte → List Word
  | 0, _ => []
  | n + 1, bs => wordOfBytes bs :: wordsOfBytes n (bs.drop 4)

/-- One bit of the reflected CRC-32 of IEEE 802.3 (R88). -/
def crcBit (c : Nat) : Nat := if c % 2 = 1 then (c / 2) ^^^ 0xEDB8_8320 else c / 2

/-- One byte. -/
def crcByte (c : Nat) (b : Byte) : Nat :=
  let c := c ^^^ b.toNat
  crcBit (crcBit (crcBit (crcBit (crcBit (crcBit (crcBit (crcBit c)))))))

/-- CRC-32 (R88): polynomial 0x04C1_1DB7, reflected, initial value and final exclusive-or 0xFFFF_FFFF. -/
def crc32 (bs : List Byte) : Word := BitVec.ofNat 32 ((bs.foldl crcByte 0xFFFF_FFFF) ^^^ 0xFFFF_FFFF)

/-- One bit into the trunk's CRC-24 (R462): the bit meets the top bit of the remainder, which shifts left. -/
def crc24Bit (c : Nat) (b : Bool) : Nat :=
  let top := decide (2 ^ 23 ≤ c) ^^ b
  let c := c * 2 % 2 ^ 24
  if top then c ^^^ 0x5D_6DCB else c

/-- The bits of a byte, most significant first. -/
def bitsOfByte (b : Byte) : List Bool := (List.range 8).map fun i => b.getLsbD (7 - i)

/-- The trunk's CRC-24 over bits: polynomial 0x5D_6DCB, initial value 0xFF_FFFF, no reflection, no final exclusive-or (R462). -/
def crc24Bits (l : List Bool) : Nat := l.foldl crc24Bit 0xFF_FFFF

/-- The trunk's CRC-24 over bytes in order, each most significant bit first (R84, R462). -/
def crc24 (bs : List Byte) : Nat := crc24Bits (bs.flatMap bitsOfByte)

end Sys2Proof.Machine
end

