-- ==== Sys2Proof/Machine/Crypto.lean ====
section
/-! DEFINITION. HMAC-SHA-256, which the spec names and does not print (R88, R526): SHA-256 of FIPS 180-4 and HMAC of RFC 2104
(PRESUMED, log entry 60). -/

namespace Sys2Proof.Machine

/-- A number of eight words, most significant first, as those words. -/
def octet (n : Nat) : List Word := (List.range 8).map fun i => BitVec.ofNat 32 (n >>> (224 - 32 * i))

/-- The constants K of SHA-256, eight words a number. -/
def digestK : List Word :=
  octet 0x428A2F98_71374491_B5C0FBCF_E9B5DBA5_3956C25B_59F111F1_923F82A4_AB1C5ED5 ++
  octet 0xD807AA98_12835B01_243185BE_550C7DC3_72BE5D74_80DEB1FE_9BDC06A7_C19BF174 ++
  octet 0xE49B69C1_EFBE4786_0FC19DC6_240CA1CC_2DE92C6F_4A7484AA_5CB0A9DC_76F988DA ++
  octet 0x983E5152_A831C66D_B00327C8_BF597FC7_C6E00BF3_D5A79147_06CA6351_14292967 ++
  octet 0x27B70A85_2E1B2138_4D2C6DFC_53380D13_650A7354_766A0ABB_81C2C92E_92722C85 ++
  octet 0xA2BFE8A1_A81A664B_C24B8B70_C76C51A3_D192E819_D6990624_F40E3585_106AA070 ++
  octet 0x19A4C116_1E376C08_2748774C_34B0BCB5_391C0CB3_4ED8AA4A_5B9CCA4F_682E6FF3 ++
  octet 0x748F82EE_78A5636F_84C87814_8CC70208_90BEFFFA_A4506CEB_BEF9A3F7_C67178F2

/-- The hash before the first block. -/
def digestStart : List Word := octet 0x6A09E667_BB67AE85_3C6EF372_A54FF53A_510E527F_9B05688C_1F83D9AB_5BE0CD19

/-- Three copies of a word, rotated right by `p`, `q` and `r` (`r` shifted instead where `drop`), added bit by bit. -/
def mixThree (drop : Bool) (p q r : Nat) (v : Word) : Word :=
  (if drop then v >>> r else v.rotateRight r) ^^^ (v.rotateRight p ^^^ v.rotateRight q)

/-- The message words of a block, oldest first: `n` further words after the sixteen of `recent`. -/
def digestWords : Nat → List Word → List Word
  | 0, recent => recent
  | n + 1, recent =>
    let back (k : Nat) : Word := recent.getD (16 - k) 0
    let next := mixThree true 17 19 10 (back 2) + back 7 + mixThree true 7 18 3 (back 15) + back 16
    recent.headD 0 :: digestWords n (recent.drop 1 ++ [next])

/-- The working words as two chains of four, newest first: the chain that ends in `a` and the one that ends in `e`. -/
structure Chains where
  lo : List Word
  hi : List Word
  deriving DecidableEq, Repr

/-- One round: `k` is the sum of the round's constant and message word. Each chain takes a new head and lets its oldest word go. -/
def Chains.turn (c : Chains) (k : Word) : Chains :=
  let at_ (l : List Word) (i : Nat) : Word := l.getD i 0
  let e := at_ c.hi 0
  let pick := at_ c.hi 2 ^^^ (e &&& (at_ c.hi 1 ^^^ at_ c.hi 2))
  let most := (at_ c.lo 0 &&& (at_ c.lo 1 ||| at_ c.lo 2)) ||| (at_ c.lo 1 &&& at_ c.lo 2)
  let t := k + at_ c.hi 3 + pick + mixThree false 6 11 25 e
  { lo := (most + mixThree false 2 13 22 (at_ c.lo 0) + t) :: c.lo.take 3, hi := (at_ c.lo 3 + t) :: c.hi.take 3 }

/-- The hash after one more block of sixteen words. -/
def digestBlock (h block : List Word) : List Word :=
  let keyed := (digestK.zip (digestWords 48 block)).map fun p => p.1 + p.2
  let c := keyed.foldl Chains.turn ⟨h.take 4, h.drop 4⟩
  (h.zip (c.lo ++ c.hi)).map fun p => p.1 + p.2

/-- Bytes as `n` words, most significant byte first. -/
def wordsBE : Nat → List Byte → List Word
  | 0, _ => []
  | n + 1, bs => BitVec.ofNat 32 (natOfBytes (bs.take 4).reverse) :: wordsBE n (bs.drop 4)

/-- The hash after `n` blocks of 64 bytes. -/
def digestAll : Nat → List Word → List Byte → List Word
  | 0, h, _ => h
  | n + 1, h, bs => digestAll n (digestBlock h (wordsBE 16 bs)) (bs.drop 64)

/-- What follows a message of `n` bytes: a one bit, zeros, and its length in bits as eight bytes. -/
def digestTail (n : Nat) : List Byte :=
  0x80 :: (List.replicate ((119 - n % 64) % 64) 0 ++ (bytesOfNat 8 (8 * n)).reverse)

/-- SHA-256. -/
def sha256 (m : List Byte) : List Byte :=
  let whole := m ++ digestTail m.length
  (digestAll (whole.length / 64) digestStart whole).flatMap fun v => (bytesOfWord v).reverse

/-- The first 128 bits of SHA-256 over words, each as four bytes, least significant first (R397, R405). -/
def wordsHash (l : List Word) : BitVec 128 := BitVec.ofNat 128 (natOfBytes ((sha256 (l.flatMap bytesOfWord)).take 16).reverse)

/-- HMAC-SHA-256. -/
def hmac (key msg : List Byte) : List Byte :=
  let k := if 64 < key.length then sha256 key else key
  let k := k ++ List.replicate (64 - k.length) 0
  let x (n : Nat) : List Byte := k.map fun b => b ^^^ BitVec.ofNat 8 n
  sha256 (x 0x5C ++ sha256 (x 0x36 ++ msg))

/-- The ASCII bytes of a text. -/
def ascii (s : String) : List Byte := s.toList.map fun c => BitVec.ofNat 8 c.toNat

end Sys2Proof.Machine
end

