-- ==== Sys2Proof/Machine/Float.lean ====
section
/-! DEFINITION. IEEE 754 single precision on register words: exact rational value, rounding to nearest even, and the arithmetic
that the sensor front end (R192), the control engine (R334) and Belfry (R356) compute in. -/

namespace Sys2Proof.Machine

/-- Sign, exponent field and fraction of a single. -/
def fSign (w : Word) : Bool := w.getLsbD 31
def fExp (w : Word) : Nat := (w.toNat / 2 ^ 23) % 256
def fFrac (w : Word) : Nat := w.toNat % 2 ^ 23

/-- Is the word a finite single, a NaN, an infinity? -/
def fFinite (w : Word) : Bool := decide (fExp w ≠ 255)
def fNaN (w : Word) : Bool := decide (fExp w = 255) && decide (fFrac w ≠ 0)
def fInf (w : Word) : Bool := decide (fExp w = 255) && decide (fFrac w = 0)

/-- A finite single as numerator and denominator. -/
def fRat (w : Word) : Int × Nat :=
  let e := fExp w
  let m : Nat := if e = 0 then fFrac w else 2 ^ 23 + fFrac w
  let p := if e = 0 then 1 else e
  let num : Nat := if 150 ≤ p then m * 2 ^ (p - 150) else m
  let den : Nat := if 150 ≤ p then 1 else 2 ^ (150 - p)
  (if fSign w then -(num : Int) else num, den)

/-- The quiet NaN and the zero. -/
def fQNaN : Word := 0x7FC0_0000
def fZero : Word := 0

/-- A sign and a magnitude's bits. -/
def fPack (neg : Bool) (bits : Nat) : Word := BitVec.ofNat 32 (bits + if neg then 2 ^ 31 else 0)

/-- Round a positive quotient to nearest, ties to even. -/
def roundEven (n d : Nat) : Nat :=
  let q := n / d
  let r := n % d
  if 2 * r < d then q else if d < 2 * r then q + 1 else if q % 2 = 0 then q else q + 1

/-- The single nearest a rational, ties to even; beyond the format, an infinity. -/
def fOfRat (num : Int) (den : Nat) : Word :=
  let n := num.natAbs
  let neg := decide (num < 0)
  if n = 0 ∨ den = 0 then fZero
  else
    let e0 : Int := (Nat.log2 n : Int) - (Nat.log2 den : Int)
    let ge (e : Int) : Bool := if 0 ≤ e then decide (den * 2 ^ e.toNat ≤ n) else decide (den ≤ n * 2 ^ (-e).toNat)
    let e := if ge e0 then e0 else e0 - 1
    let q := max (e - 23) (-149)
    let m := if 0 ≤ q then roundEven n (den * 2 ^ q.toNat) else roundEven (n * 2 ^ (-q).toNat) den
    let bits := (q + 149).toNat * 2 ^ 23 + m
    fPack neg (if 0x7F80_0000 ≤ bits then 0x7F80_0000 else bits)

/-- An integer as a single. -/
def fOfInt (i : Int) : Word := fOfRat i 1

/-- Addition. -/
def fAdd (a b : Word) : Word :=
  if fNaN a ∨ fNaN b then fQNaN
  else if fInf a then (if fInf b ∧ fSign a ≠ fSign b then fQNaN else a)
  else if fInf b then b
  else if a = 0x8000_0000 ∧ b = 0x8000_0000 then a
  else
    let x := fRat a
    let y := fRat b
    fOfRat (x.1 * y.2 + y.1 * x.2) (x.2 * y.2)

/-- Change of sign. -/
def fNeg (a : Word) : Word := a ^^^ 0x8000_0000

/-- Subtraction. -/
def fSub (a b : Word) : Word := fAdd a (fNeg b)

/-- Multiplication. -/
def fMul (a b : Word) : Word :=
  let neg := xor (fSign a) (fSign b)
  if fNaN a ∨ fNaN b then fQNaN
  else if fInf a ∨ fInf b then
    (if (fFinite a ∧ (fRat a).1 = 0) ∨ (fFinite b ∧ (fRat b).1 = 0) then fQNaN else fPack neg 0x7F80_0000)
  else
    let x := fRat a
    let y := fRat b
    if x.1 * y.1 = 0 then fPack neg 0 else fOfRat (x.1 * y.1) (x.2 * y.2)

/-- Division. -/
def fDiv (a b : Word) : Word :=
  let neg := xor (fSign a) (fSign b)
  if fNaN a ∨ fNaN b ∨ (fInf a ∧ fInf b) then fQNaN
  else if fInf a then fPack neg 0x7F80_0000
  else if fInf b then fPack neg 0
  else
    let x := fRat a
    let y := fRat b
    if y.1 = 0 then (if x.1 = 0 then fQNaN else fPack neg 0x7F80_0000)
    else if x.1 = 0 then fPack neg 0
    else fOfRat (x.1 * y.2 * y.1.sign) (x.2 * y.1.natAbs)

/-- Comparisons; false where either is a NaN. Infinities compare as a magnitude beyond every finite single. -/
def fKey (a : Word) : Int := if fSign a then -((a.toNat % 2 ^ 31 : Nat) : Int) else ((a.toNat % 2 ^ 31 : Nat) : Int)
def fLt (a b : Word) : Bool := !fNaN a && !fNaN b && decide (fKey a < fKey b)
def fLe (a b : Word) : Bool := !fNaN a && !fNaN b && decide (fKey a ≤ fKey b)

/-- Magnitude. -/
def fAbs (a : Word) : Word := a &&& 0x7FFF_FFFF

/-- The smaller and the larger of two. -/
def fMin (a b : Word) : Word := if fLt b a then b else a
def fMax (a b : Word) : Word := if fLt a b then b else a

/-- A value held between two limits. -/
def fClamp (x lo hi : Word) : Word := fMin (fMax x lo) hi

/-- Rational comparison of a single with a quotient of integers. -/
def fCmpLt (a : Word) (num : Int) (den : Nat) : Bool := fFinite a && decide ((fRat a).1 * den < num * (fRat a).2)
def fCmpGt (a : Word) (num : Int) (den : Nat) : Bool := fFinite a && decide (num * (fRat a).2 < (fRat a).1 * den)

end Sys2Proof.Machine
end

