-- ==== Sys2Proof/Machine/Loops.lean ====
section
/-! DEFINITION. The loop islands (chapter 04): energy and clock tiers, NE 43 classification, the output states of R134, read-back,
loop supply, pairing and trim. Currents are in 0.1 µA, voltages in mV. -/

namespace Sys2Proof.Machine

/-- ISTATE codes (R150). -/
def isDark : Nat := 0
def isWake : Nat := 1
def isMeasure : Nat := 2
def isFailLow : Nat := 3
def isRegulate : Nat := 4
def isPhold : Nat := 5
def isBypass : Nat := 6
def isNoreg : Nat := 7
def isAhold : Nat := 8
def isOff : Nat := 9

/-- QUAL codes, common to loops, sensors and digital channels. -/
def qGood : Nat := 0
def qUncertain : Nat := 1
def qBad : Nat := 2
def qSuspect : Nat := 3

/-- The page of a loop channel (R109). -/
def loopPage (n : Nat) : Nat := 0x040 + n

/-- The channel of a LOOP page. -/
def loopOf (page : Nat) : Nat := page - 0x040

/-- An island. -/
def Work.isl (w : Work) (n : Nat) : Isl := tabGet {} w.x.loops.isl n

/-- Change an island. -/
def Work.islSet (w : Work) (n : Nat) (f : Isl → Isl) : Work :=
  w.upd fun x => { x with loops := { x.loops with isl := tabSet x.loops.isl n (f (tabGet {} x.loops.isl n)) } }

/-- CFG.MODE of a channel (R110). -/
def Work.loopMode (w : Work) (n : Nat) : Nat := w.get (LOOP.CFG n) LOOP.CFG_MODE

/-- A condition of STAT and, on its rise, of STICKY and of the page's interrupt sources (R150). -/
def Work.loopCond (w : Work) (n : Nat) (f : Fld) (on : Bool) : Work :=
  let rise := on && !w.flag (LOOP.STAT n) f
  (w.putB (LOOP.STAT n) f on).when rise fun w => (w.putB (LOOP.STICKY n) f true).irq (loopPage n) f.lo

/-- OUTVAL or STOPVAL as the module state selects it (R124); the target of an active sensor route replaces both (R203). -/
def Work.loopChosen (w : Work) (n : Nat) : Nat :=
  match (w.isl n).routed with
  | some t => t
  | none =>
  if w.stopsAt (LOOP.OUTVAL n) ∧ w.flag (LOOP.STOPVAL n) LOOP.STOPVAL_KEEP = false
  then w.get (LOOP.STOPVAL n) LOOP.STOPVAL_VAL else w.get (LOOP.OUTVAL n) LOOP.OUTVAL_VAL

/-- The clamp of R120: 3.5 mA to 22.0 mA. -/
def clampOut (v : Nat) : Nat := min (max v 35000) 220000

/-- Trim values in force: 0 from a failed check of the island's retained memory until the trim is rewritten (R154). -/
def Work.trimZ (w : Work) (n : Nat) : Int := if (w.isl n).retBad.contains 1 then 0 else w.getI (LOOP.TRIMZ n) LOOP.TRIMZ_Z
def Work.trimS (w : Work) (n : Nat) : Int := if (w.isl n).retBad.contains 2 then 0 else w.getI (LOOP.TRIMS n) LOOP.TRIMS_S

/-- The characteristic of R140. -/
def trimmed (i z s : Int) : Int := i + z + divRounded ((i - 40000) * s) 160000

/-- The trim-corrected target of an output island. Within a TRIM operation, the point selected (R141). -/
def Work.loopTarget (w : Work) (n : Nat) : Int :=
  let sel := (w.isl n).trimSel
  let v : Nat := if sel = 1 then 40000 else if sel = 2 then 200000 else clampOut (w.loopChosen n)
  trimmed v (w.trimZ n) (w.trimS n)

/-- Where a current lies (R117): 0 good, 1 and 3 uncertain below and above, 2 low, 4 high, each threshold with 0.02 mA of
hysteresis toward recovery. -/
def zoneOf (prev : Nat) (i : Int) : Nat :=
  if i < 36000 then 2
  else if 210000 ≤ i then 4
  else if prev = 2 ∧ i < 36200 then 2
  else if prev = 4 ∧ 209800 ≤ i then 4
  else if i < 38000 then 1
  else if 205000 < i then 3
  else if (prev = 1 ∨ prev = 2) ∧ i < 38200 then 1
  else if (prev = 3 ∨ prev = 4) ∧ 204800 < i then 3
  else 0

/-- The quality of a zone by the current rows of R117. -/
def zoneQual (z : Nat) : Nat := if z = 0 then qGood else if z = 1 ∨ z = 3 then qUncertain else qBad

/-- QUAL of a channel: R117 with its lower rows deciding for an input, R625 with its first row deciding otherwise. A channel in
TRIM publishes UNCERTAIN (R141). -/
def Work.loopQual (w : Work) (n : Nat) : Nat :=
  let a := LOOP.STAT n
  let st := (w.isl n).st
  if w.loopMode n = 1 then
    if w.flag a LOOP.STAT_TRIMMING then qUncertain
    else if w.flag a LOOP.STAT_RBDEV then qSuspect
    else if st = isDark ∨ st = isWake ∨ w.flag a LOOP.STAT_DARK then qBad
    else zoneQual (w.isl n).zone
  else if w.loopMode n = 0 ∨ st = isDark ∨ st = isWake ∨ st = isFailLow ∨ st = isNoreg ∨ st = isAhold then qBad
  else if st = isBypass then zoneQual (w.isl n).rbZone
  else if w.flag a LOOP.STAT_RBDEV then qSuspect
  else if st = isPhold ∨ w.flag a LOOP.STAT_COMPLIANCE ∨ w.flag a LOOP.STAT_CLAMP then qUncertain
  else qGood

/-- The first condition of R160 that fails, in its order; `none` where the island may transmit. -/
def Work.hartBlock (w : Work) (n : Nat) : Option Nat :=
  let i := w.isl n
  if i.cur < 34000 then some 0
  else if ¬ ((i.st = isMeasure ∨ i.st = isRegulate ∨ i.st = isFailLow) ∧ i.link = true) then some 1
  else if ¬ ((w.x.mode = .held ∨ w.x.mode = .ready ∨ w.x.mode = .run ∨ w.x.mode = .hold)
      ∧ (w.x.role ≠ .standby ∨ w.flag (LOOP.CFG n) LOOP.CFG_PAIRED = false)) then some 2
  else if w.loopMode n = 2 ∧ (w.getI (LOOP.VDROP n) LOOP.VDROP_HEADROOM < 400 ∨ w.flag (LOOP.STAT n) LOOP.STAT_COMPLIANCE) then some 3
  else none

/-- HSTAT.TXOK and TXWHY (R160, R175); a pass-through that waits notes that R160 holds (R177). -/
def Work.hartShow (w : Work) (n : Nat) : Work :=
  match w.hartBlock n with
  | none => (((w.put (LOOP.HSTAT n) LOOP.HSTAT_TXOK 1).put (LOOP.HSTAT n) LOOP.HSTAT_TXWHY 0).when (w.isl n).passWait fun w =>
      w.islSet n fun i => { i with hartFree := true })
  | some why => (w.put (LOOP.HSTAT n) LOOP.HSTAT_TXOK 0).put (LOOP.HSTAT n) LOOP.HSTAT_TXWHY why

/-- The commands of R124. -/
inductive IslCmd where
  | none | failLow | regulate | bypass
  deriving DecidableEq, Repr

/-- What the module commands an island by its state and role (R124). A Solo module commands a paired channel as a Duty does. Within a
TRIM the island drives the point selected (R141). -/
def Work.islCommand (w : Work) (n : Nat) : IslCmd :=
  let paired := w.flag (LOOP.CFG n) LOOP.CFG_PAIRED
  if w.loopMode n ≠ 2 then .none
  else if (w.isl n).trimSel ≠ 0 then .regulate
  else match w.x.mode with
    | .held => if paired then .bypass else .failLow
    | .ready | .run | .hold =>
      if paired ∧ (w.x.role = .standby ∨ w.x.loops.coldWait) then .bypass else .regulate
    | _ => .none

/-- The island takes a clock tier; a change is counted (R152). -/
def Work.islTierTo (w : Work) (n tier : Nat) : Work :=
  if (w.isl n).tier = tier then w
  else (w.islSet n fun i => { i with tier := tier }).when (w.alive && w.enabled (loopPage n)) fun w =>
    w.incSat (LOOP.COUNTS n) LOOP.COUNTS_TIERCNT

/-- The current that an island regulates (R134): in REGULATE the module's target while the module commands it, else the last; 3.5 mA in
FAILLOW and NOREG; in any other state the last. -/
def Work.islTarget (w : Work) (n : Nat) : Int :=
  let i := w.isl n
  if i.st = isFailLow ∨ i.st = isNoreg then 35000
  else if i.st = isRegulate ∧ i.link ∧ w.alive ∧ w.enabled (loopPage n) ∧ w.islCommand n = .regulate then w.loopTarget n
  else i.target

/-- An island takes its target (R126): before it lowers its current across a threshold of R113 it steps its tier down (R114). -/
def Work.islAim (w : Work) (n : Nat) : Work :=
  let t := w.islTarget n
  let now := w.now
  if t = (w.isl n).target then w
  else
    let tier := (w.isl n).tier
    let w := if t < 57000 then w.islTierTo n (min tier 1) else if t < 95000 then w.islTierTo n (min tier 2) else w
    w.islSet n fun i => { i with target := t, targetAt := now }

/-- What the page shows of its island (R150): state, tier, the flags that are a state's name, QUAL, and CLAMP while the
value that the module commands is clamped (R120; log entry 120). A page whose gate is closed shows nothing new. -/
def Work.loopShow (w : Work) (n : Nat) : Work :=
  let w := w.islAim n
  if w.alive && w.enabled (loopPage n) then
    let i := w.isl n
    let input := decide (w.loopMode n = 1)
    let w := (w.put (LOOP.STAT n) LOOP.STAT_ISTATE i.st).put (LOOP.STAT n) LOOP.STAT_TIER i.tier
    let w := ((w.loopCond n LOOP.STAT_NOREG (decide (i.st = isNoreg))).loopCond n LOOP.STAT_LOWV (decide (i.st = isAhold)))
    let w := w.loopCond n LOOP.STAT_DARK (decide (i.st = isDark) || !i.link)
    let w := (w.loopCond n LOOP.STAT_LOWCUR (input && decide (i.zone = 2))).loopCond n LOOP.STAT_HIGHCUR (input && decide (i.zone = 4))
    let w := (w.when (!input || decide (i.st = isDark)) fun w => w.loopCond n LOOP.STAT_OVERCUR false).loopCond n LOOP.STAT_LSFAULT i.lsFault
    let w := w.loopCond n LOOP.STAT_LINKLOST i.linkLost
    let clamping := decide (w.islCommand n = .regulate) && decide (i.trimSel = 0) && decide (clampOut (w.loopChosen n) ≠ w.loopChosen n)
    let w := w.loopCond n LOOP.STAT_CLAMP clamping
    let w := if i.st = isRegulate ∨ i.st = isFailLow ∨ i.st = isPhold ∨ i.st = isNoreg then w
      else w.loopCond n LOOP.STAT_COMPLIANCE false
    (w.put (LOOP.STAT n) LOOP.STAT_QUAL (w.loopQual n)).hartShow n
  else w

/-- The island takes a state; the page shows it. -/
def Work.islState (w : Work) (n st : Nat) : Work :=
  let from6 := decide ((w.isl n).st = isBypass) && decide (st = isRegulate)
  let now := w.now
  (w.islSet n fun i => { i with st := st, regSince := if from6 then some now else if st = isRegulate then i.regSince else none }).loopShow n

/-- The island takes a clock tier; the page shows it. -/
def Work.islTier (w : Work) (n tier : Nat) : Work := if (w.isl n).tier = tier then w else (w.islTierTo n tier).loopShow n

/-- An island acts on a command over a live link (R134); a command it is already in changes nothing. -/
def Work.islObey (w : Work) (n : Nat) (c : IslCmd) : Work :=
  let i := w.isl n
  if i.link = false then w
  else match c with
    | .none => w
    | .regulate =>
      if i.st = isFailLow ∨ i.st = isPhold ∨ i.st = isBypass ∨ i.st = isNoreg then w.islState n isRegulate else w
    | .bypass => if (i.st = isRegulate ∨ i.st = isNoreg) ∧ i.paired then w.islState n isBypass else w
    | .failLow => if i.st = isRegulate then w.islState n isFailLow else w

/-- The channels in use: LOOP pages that are enabled. -/
def Work.loopsOn (w : Work) : List Nat := (List.range 48).filter fun n => w.enabled (loopPage n)

/-- The module commands every enabled output island by R124, and each takes its new target. Given at every change of the module's
state or role, and at a release (log entry 12). -/
def Work.commandIslands (w : Work) : Work :=
  w.each w.loopsOn fun w n => (w.islObey n (w.islCommand n)).loopShow n

/-- The state that its stored mode gives an island that is awake (R132 to R134, R150). -/
def Isl.wokenState (i : Isl) : Nat := if i.mode = 1 then isMeasure else if i.mode = 2 then (if i.paired then isBypass else isFailLow) else isOff

/-! HART consequences of island events (R162) -/

/-- The transaction in progress is lost with its island or link, its reply to come is discarded, and a HARTCMD that it serves ends FAILED
with ISLAND_LOST (R162, R177). The attempt is not counted in ERRCNT (DESIGN CHOICE, log entry 192). -/
def Work.hartLost (w : Work) (n : Nat) : Work :=
  match (w.isl n).txn with
  | none => w
  | some t =>
    let w := w.islSet n fun i => { i with
      txn := none, passWait := i.passWait && decide (t.kind ≠ .pass), dropReply := i.dropReply || t.sent }
    if t.kind = .pass then w.opEnd (loopPage n) opFailed 0x87 else w

/-! Island events -/

/-- A published sample shows that the island answers, so its link is live again; an island in PHOLD under a standing REGULATE
command returns to REGULATE (R134), any other keeps its state until commanded (R138). -/
def Work.islHeard (w : Work) (n : Nat) : Work :=
  if (w.isl n).link then w
  else
    let w := w.islSet n fun i => { i with link := true }
    if (w.isl n).st = isPhold then w.islObey n (w.islCommand n) else w

/-- The fallback of an output island that loses its link in a state (R134, R138): an unpaired one goes to FAILLOW, a paired one from
REGULATE to PHOLD; NOREG is kept. -/
def Isl.fallback (i : Isl) (st : Nat) : Nat :=
  if i.paired then (if st = isRegulate then isPhold else st) else if st = isNoreg then st else isFailLow

/-- ISLAND_LINK_LOST (R138, R134). -/
def islandLinkLost (n : Nat) (w : Work) : Work :=
  let i := w.isl n
  if i.st = isDark ∨ i.st = isWake ∨ i.link = false then w
  else
    let w := w.islSet n fun i => { i with link := false, linkLost := true }
    let w := w.hartLost n
    if i.mode ≠ 2 then w.loopShow n
    else if i.st = isAhold then (w.islSet n fun j => { j with prev := i.fallback i.prev }).loopShow n
    else w.islState n (i.fallback i.st)

/-- ISLAND_DARK (R134, R115, R133): the retained memory and the loop-supply switch keep their state. TIERCNT counts the changes among the
tiers 1 to 3, not the way into the dark and out of it (DESIGN CHOICE, log entry 185). -/
def islandDark (n : Nat) (w : Work) : Work :=
  if (w.isl n).st = isDark then w
  else
    let w := w.hartLost n
    let w := w.islSet n fun i => { i with tier := 0, zone := 2, rbZone := 2, cur := 0, link := false }
    w.islState n isDark

/-- ISLAND_WAKE (R133, R134): at I_MIN, 1.5 mA, the island enters WAKE in tier 1; LINKLOST reports losses since the last wake. -/
def islandWake (n cur : Nat) (w : Work) : Work :=
  if (w.isl n).st ≠ isDark ∨ cur < 15000 then w
  else
    let w := w.islSet n fun i => { i with tier := 1, linkLost := false, cur := cur, link := true }
    let w := w.when (w.alive && w.enabled (loopPage n)) fun w => w.incSat (LOOP.COUNTS n) LOOP.COUNTS_WAKECNT
    w.islState n isWake

/-- WAKE_DONE (R134, R154): the island reads its retained memory and runs its limit test, takes BYPASS or FAILLOW by its stored
PAIRED, and then acts on the command the module has for it (R124). A failed memory check leaves PAIRED 0, the default hold and
trims 0. -/
def wakeDone (n : Nat) (retainOk limitOk : Bool) (w : Work) : Work :=
  if (w.isl n).st ≠ isWake then w
  else
    let w := if retainOk then w else w.islSet n fun i => { i with retBad := [0, 1, 2], paired := false, phold := 20 }
    let w := w.when (!retainOk) fun w => w.blockFault (loopPage n) 0x02 0x09 true
    let w := w.blockFault (loopPage n) 0x03 0x09 (!limitOk)
    let w := w.islState n (w.isl n).wokenState
    (w.islObey n (w.islCommand n)).loopShow n

/-- The states in which an output island regulates to its target. -/
def regulating (st : Nat) : Bool := decide (st = isRegulate ∨ st = isFailLow ∨ st = isPhold ∨ st = isNoreg)

/-- The current an island chooses its tier by: an output island takes the lower of the measured current and its target (R114). -/
def Work.tierCurrent (w : Work) (n cur : Nat) : Int :=
  let i := w.isl n
  if i.mode = 2 ∧ regulating i.st then min (cur : Int) i.target else cur

/-- TIER_DOWN (R113, R114): below 5.7 mA to tier 1, below 9.5 mA from tier 3 to tier 2. -/
def tierDown (n cur : Nat) (w : Work) : Work :=
  let i := w.isl n
  let c := w.tierCurrent n cur
  if i.st = isDark then w
  else if c < 57000 then w.islTier n (min i.tier 1)
  else if c < 95000 then w.islTier n (min i.tier 2)
  else w

/-- TIER_UP (R113, R114): at 6.0 mA to tier 2, at 10.0 mA to tier 3; an island in AHOLD stays in tier 1 (R123). -/
def tierUp (n cur : Nat) (w : Work) : Work :=
  let i := w.isl n
  let c := w.tierCurrent n cur
  if i.st = isDark ∨ i.st = isAhold then w
  else if 100000 ≤ c then w.islTier n (max i.tier 3)
  else if 60000 ≤ c then w.islTier n (max i.tier 2)
  else w

/-- A channel publishes: the module is up, its page enabled, its island awake and not OFF (R110). -/
def Work.publishes (w : Work) (n : Nat) : Bool :=
  w.alive && w.enabled (loopPage n) && decide ((w.isl n).st ≠ isDark) && decide ((w.isl n).st ≠ isWake) && decide (w.loopMode n ≠ 0)

/-- The current last measured moves the zone; LOWCUR and HIGHCUR are the zones 2 and 4 of an input (R117), as `loopShow` says. -/
def Work.classify (w : Work) (n : Nat) (i : Int) : Work := w.islSet n fun s => { s with zone := zoneOf s.zone i, cur := i }

/-- V_OMIN(I) of R112 in mV: 2.76 V + 20 Ω × I. -/
def vOmin (i : Int) : Int := 2760 + divRounded i 500

/-- LOOP_SAMPLE (R116, R117, R122, R149, R152). -/
def loopSample (n : Nat) (raw : Int) (drop : Nat) (w : Work) : Work :=
  if w.publishes n = false then w
  else
    let w := w.islHeard n
    let input := decide (w.loopMode n = 1)
    let v := if input then trimmed raw (w.trimZ n) (w.trimS n) else raw
    let w := w.putI (LOOP.VALUE n) LOOP.VALUE_I v
    let w := (w.put (LOOP.VDROP n) LOOP.VDROP_DROP drop).putI (LOOP.VDROP n) LOOP.VDROP_HEADROOM
      (if input then 0 else (drop : Int) - vOmin raw)
    let w := if input then w.classify n v else w.islSet n fun i => { i with cur := raw }
    let w := if w.flag (LOOP.STAT n) LOOP.STAT_COMPLIANCE ∧ (w.isl n).target - raw ≤ 500 then
      w.loopCond n LOOP.STAT_COMPLIANCE false else w
    w.loopShow n

/-- RB_SAMPLE (R125, R149, R625): RBVALUE is published; an island in BYPASS shows the class of it. -/
def rbSample (n : Nat) (rb : Int) (w : Work) : Work :=
  if w.publishes n = false then w
  else
    let w := w.islHeard n
    let w := w.putI (LOOP.RBVALUE n) LOOP.RBVALUE_I rb
    (w.islSet n fun i => { i with rbZone := zoneOf i.rbZone rb, cur := if i.st = isBypass then rb else i.cur }).loopShow n

/-- The read-back difference lies beyond RBTOL (R125): against VALUE for an input, against the target for an output. -/
def Work.rbBeyond (w : Work) (n : Nat) : Bool :=
  let rb := w.getI (LOOP.RBVALUE n) LOOP.RBVALUE_I
  let ref := if w.loopMode n = 1 then w.getI (LOOP.VALUE n) LOOP.VALUE_I else (w.isl n).target
  decide ((w.get (LOOP.RBCFG n) LOOP.RBCFG_RBTOL : Int) * 100 < ((rb - ref).natAbs : Int))

/-- Is the island within PHOLD + 50 ms of leaving BYPASS (R137)? -/
def Work.handover (w : Work) (n : Nat) : Bool :=
  match (w.isl n).regSince with
  | some t => decide (w.now < t + (w.isl n).phold * 10 + 50)
  | none => false

/-- Where RBDEV is evaluated (R126, R137). -/
def Work.rbEvaluated (w : Work) (n : Nat) : Bool :=
  let st := (w.isl n).st
  let a := LOOP.STAT n
  if w.loopMode n = 1 then true
  else !(w.flag a LOOP.STAT_COMPLIANCE || w.flag a LOOP.STAT_LOWV || w.flag a LOOP.STAT_NOREG || w.flag a LOOP.STAT_CLAMP)
    && decide (st ≠ isBypass) && decide (st ≠ isPhold) && decide (st ≠ isAhold) && decide (st ≠ isDark)
    && !w.handover n && decide ((w.isl n).targetAt + 10 ≤ w.now)

/-- RBDEV_PERSIST (R125, R126): the difference has persisted beyond, or within, RBTOL for RBDLY. -/
def rbdevPersist (n : Nat) (beyond : Bool) (w : Work) : Work :=
  if w.publishes n = false ∨ w.rbEvaluated n = false ∨ w.rbBeyond n ≠ beyond then w
  else ((w.loopCond n LOOP.STAT_RBDEV beyond).blockFault (loopPage n) 0x01 0x09 beyond).loopShow n

/-- LOOP_COMPARATOR (R118, R119): the comparator gives the loop current; `limiting`: the input current limit acts. -/
def loopComparator (n : Nat) (cur : Int) (limiting : Bool) (w : Work) : Work :=
  if w.publishes n = false ∨ w.loopMode n ≠ 1 then w
  else ((w.classify n cur).loopCond n LOOP.STAT_OVERCUR limiting).loopShow n

/-- COMPLIANCE_SET (R122): not within the time after a handover that R137 names. -/
def complianceSet (n : Nat) (w : Work) : Work :=
  let st := (w.isl n).st
  if w.publishes n = false ∨ w.loopMode n ≠ 2 ∨ w.handover n
    ∨ regulating st = false then w
  else (w.loopCond n LOOP.STAT_COMPLIANCE true).loopShow n

/-- AHOLD_ENTER (R123, R134): tier 1, the state left is remembered. -/
def aholdEnter (n : Nat) (w : Work) : Work :=
  let i := w.isl n
  if i.mode = 2 ∧ regulating i.st then
    ((w.islSet n fun j => { j with prev := i.st }).islTier n 1).islState n isAhold
  else w

/-- AHOLD_EXIT (R123, R134): back to the state it left, where the command that the module has for it acts (R124). -/
def aholdExit (n : Nat) (w : Work) : Work :=
  if (w.isl n).st = isAhold then
    let w := w.islState n (w.isl n).prev
    (w.islObey n (w.islCommand n)).loopShow n
  else w

/-- PHOLD_EXPIRED (R134). -/
def pholdExpired (n : Nat) (w : Work) : Work :=
  if (w.isl n).st = isPhold then w.islState n isBypass else w

/-- NOREG_ENTER (R136, R134). -/
def noregEnter (n : Nat) (w : Work) : Work :=
  if (w.isl n).st = isBypass ∧ (w.isl n).mode = 2 then w.islState n isNoreg else w

/-! Loop supply (R127 to R129) -/

/-- The loop-supply group of a channel, 1 to 6 (R109). -/
def vlOf (n : Nat) : Nat := 1 + n / 8

/-- LS_TRIP (R128): the switch opens on limit; every opening is recorded, the rise of LSFAULT too. -/
def lsTrip (n : Nat) (w : Work) : Work :=
  if (w.isl n).switch = false then w
  else
    let rise := !(w.isl n).lsFault
    let w := w.islSet n fun i => { i with switch := false, lsFault := true, lsOpens := i.lsOpens + 1 }
    if w.alive = false then w
    else
      let w := w.when rise fun w => w.evFlag (loopPage n) noSub (LOOP.STAT n) 22 true
      (w.loopShow n).evOccur (loopPage n) noSub (LOOP.STAT n) 22 (w.isl n).lsOpens

/-- LS_RETRY (R128): while LSUP is 1 and VLn present, the opened switch closes again; LSFAULT clears on a retry that meets no limit. -/
def lsRetry (n : Nat) (limit : Bool) (w : Work) : Work :=
  if (w.isl n).lsup = false ∨ w.x.loops.vlDown.contains (vlOf n) ∨ ((w.isl n).switch ∧ (w.isl n).lsFault = false) then w
  else (w.islSet n fun i => { i with switch := true, lsFault := i.lsFault && limit }).loopShow n

/-- RETAIN_BAD has its cause until the whole of the retained memory has been rewritten (R154). -/
def Work.retainShow (w : Work) (n : Nat) : Work := w.when (w.isl n).retBad.isEmpty fun w => w.blockFault (loopPage n) 0x02 0x09 false

/-- The module writes an island's retained memory: MODE, LSUP, PAIRED and PHOLD (R129, R132, R139). LSUP is 0 in MODE OFF (R145). A switch that
has opened on its limit waits for its retry (R128). -/
def Work.islConfigure (w : Work) (n : Nat) : Work :=
  let ls := w.flag (LOOP.CFG n) LOOP.CFG_LSUP && decide (w.loopMode n ≠ 0)
  let pair := w.flag (LOOP.CFG n) LOOP.CFG_PAIRED
  let ph := w.get (LOOP.CFG n) LOOP.CFG_PHOLD
  let up := !w.x.loops.vlDown.contains (vlOf n)
  let mode := w.loopMode n
  let w := w.put (LOOP.CFG n) LOOP.CFG_LSUP (if ls then 1 else 0)
  let w := w.islSet n fun i =>
    { i with
      lsup := ls, switch := ls && up && (i.switch || !(i.lsup && i.lsFault)), mode := mode, paired := pair
      phold := if ph = 0 then 20 else ph, retBad := i.retBad.filter fun k => decide (k ≠ 0) }
  w.retainShow n

/-- TRIM is over on a channel: nothing is selected, TRIMMING clears. -/
def Work.trimOver (w : Work) (n : Nat) : Work :=
  (w.put (LOOP.STAT n) LOOP.STAT_TRIMMING 0).islSet n fun i => { i with trimSel := 0, trimDown := false, trimOut := false }

/-- CFG of a channel has changed or its page has been enabled: the retained memory is written; a mode other than the stored one moves an
island that is awake; a change of MODE ends a TRIM with MODE_CHANGED (R153); the command that the module has for the island acts (R124).
`old` is CFG before. -/
def Work.loopCfgChanged (w : Work) (n : Nat) (old : Word) : Work :=
  let stored := (w.isl n).mode
  let w := w.islConfigure n
  let w := w.when (decide (LOOP.CFG_MODE.get old ≠ w.loopMode n) && w.flag (LOOP.STAT n) LOOP.STAT_TRIMMING) fun w =>
    ((w.trimOver n).opEnd (loopPage n) opFailed 0x81).slateRequest 4
  let i := w.isl n
  if i.st = isDark ∨ i.st = isWake then w.loopShow n
  else
    let w := w.when (decide (stored ≠ i.mode)) fun w => w.islState n i.wokenState
    (w.islObey n (w.islCommand n)).loopShow n

/-! Trim (R140, R141) -/

/-- A trim has been rewritten in the island's retained memory (R154). -/
def Work.trimRewritten (w : Work) (n : Nat) (span : Bool) : Work :=
  (w.islSet n fun i => { i with retBad := i.retBad.filter fun k => decide (k ≠ if span then 2 else 1) }).retainShow n

/-- A trim value changes by any path: STICKY.TRIMCHG with its interrupt, and a WRITE record (R140, R150). -/
def Work.setTrim (w : Work) (n : Nat) (span : Bool) (v : Int) (user : Nat) : Work :=
  let a := if span then LOOP.TRIMS n else LOOP.TRIMZ n
  let f := if span then LOOP.TRIMS_S else LOOP.TRIMZ_Z
  let old := w.rd a
  if w.getI a f = v then w
  else
    let w := w.putI a f v
    let w := (w.put (LOOP.STICKY n) LOOP.STICKY_TRIMCHG 1).irq (loopPage n) 27
    ((w.trimRewritten n span).evWrite (loopPage n) noSub a old (w.rd a) user).loopShow n

/-- Limits of R140. -/
def trimLimit (span : Bool) : Int := if span then 1600 else 2000

/-- The LOOP page that runs TRIM, if one does: at most one does at a time (R141). -/
def Work.trimRunning (w : Work) : Option Nat :=
  match w.x.pages.ops.find? (fun o => decide (0x040 ≤ o.page) && decide (o.page ≤ 0x06F) && decide (o.op = 1)) with
  | some o => some (loopOf o.page)
  | none => none

/-- The module states in which TRIM may run on a channel (R141). -/
def Work.trimModes (w : Work) (n : Nat) : List Mode :=
  if w.loopMode n = 1 then anyButSelfTest else if w.loopMode n = 2 then [.held, .ready] else []

/-- TRIM (R141, R153): the trims at START are kept for an abort. -/
def trim (p : Party) (n arg : Nat) (w : Work) : Work :=
  let page := loopPage n
  if 48 ≤ n then w
  else if w.reachable page = true ∧ w.present p = true ∧ w.opBusy page = false ∧ w.trimRunning.isSome then w.refuse page rejBusy
  else w.startOp p page 2 (w.trimModes n) true fun w =>
    if arg ≠ 0 then w.refuse page rejRange
    else if (w.isl n).st = isDark then w.opNow p page 1 arg opFailed 0x80
    else
      let w := w.opBegin p page 1 arg [(LOOP.TRIMZ n, w.rd (LOOP.TRIMZ n)), (LOOP.TRIMS n, w.rd (LOOP.TRIMS n))]
      let w := w.put (LOOP.STAT n) LOOP.STAT_TRIMMING 1
      (w.islSet n fun i => { i with trimSel := 0, trimDown := false, trimOut := false }).loopShow n |>.slateRequest 4

/-- TRIM leaves the page: TRIMMING clears, the island goes back to the command of the module's state; `restore` returns the trims to their
values at START. -/
def Work.trimLeave (w : Work) (n : Nat) (restore : Bool) : Work :=
  let o := w.op? (loopPage n)
  let w := w.trimOver n
  let w := match o with
    | some o =>
      if restore then
        (w.each o.saved fun w e =>
          let now := w.rd e.1
          if now = e.2 then w
          else (((w.wr e.1 e.2).put (LOOP.STICKY n) LOOP.STICKY_TRIMCHG 1).irq (loopPage n) 27).evWrite (loopPage n) noSub e.1 now e.2 0)
      else w
    | none => w
  ((w.islObey n (w.islCommand n)).loopShow n).slateRequest 4

/-- A TRIM whose channel's condition of R141 the module's state no longer meets ends FAILED with STATE_CHANGE (R59). -/
def Work.trimModeEnd (w : Work) : Work :=
  match w.trimRunning with
  | none => w
  | some n => if (w.trimModes n).contains w.x.mode then w else (w.trimLeave n false).opEnd (loopPage n) opFailed 0x04

/-- A button event of the running TRIM: a latched abort is sampled first (R141, R153). -/
def Work.trimButton (w : Work) (f : Nat → Work → Work) : Work :=
  match w.trimRunning with
  | none => w
  | some n =>
    match w.op? (loopPage n) with
    | some o => if o.abort then (w.trimLeave n true).opEnd (loopPage n) opAborted 1 else (f n w).slateRequest 4
    | none => w

/-- A press of ZERO or SPAN for less than 1 s (R141): an input captures the point, unless that would exceed the limits of R140; an
output drives the point selected, or moves it by 1 µA in the direction shown. -/
def Work.trimKey (w : Work) (span : Bool) (n : Nat) : Work :=
  let a := if span then LOOP.TRIMS n else LOOP.TRIMZ n
  let f := if span then LOOP.TRIMS_S else LOOP.TRIMZ_Z
  let take (w : Work) (v : Int) : Work :=
    let out := decide (trimLimit span < (v.natAbs : Int))
    (w.islSet n fun i => { i with trimOut := out }).when (!out) fun w => w.setTrim n span v 0
  if w.loopMode n = 1 then
    take w (w.getI a f + ((if span then 200000 else 40000) - w.getI (LOOP.VALUE n) LOOP.VALUE_I))
  else
    let sel := if span then 2 else 1
    if (w.isl n).trimSel = sel then take w (w.getI a f + if (w.isl n).trimDown then -10 else 10)
    else
      let w := w.islSet n fun i => { i with trimSel := sel, trimOut := false }
      (w.islObey n (w.islCommand n)).loopShow n

/-- TRIM_ZERO_KEY. -/
def trimZeroKey (w : Work) : Work := w.trimButton fun n w => w.trimKey false n

/-- TRIM_SPAN_KEY. -/
def trimSpanKey (w : Work) : Work := w.trimButton fun n w => w.trimKey true n

/-- TRIM_REVERSE (R141). -/
def trimReverse (w : Work) : Work := w.trimButton fun n w => w.islSet n fun i => { i with trimDown := !i.trimDown }

/-- TRIM_ACCEPT (R141): DONE, and the trims stand; a latched abort that comes with the acceptance is late (R58), since acceptance is
the completion. -/
def trimAccept (w : Work) : Work :=
  match w.trimRunning with
  | none => w
  | some n => (w.trimLeave n false).opEnd (loopPage n) opDone 0

/-! Writes to a channel's registers -/

/-- The refusals of a write to a channel's register beside lock and role: field position and code. CFG (R110, R145), OUTVAL (R146),
RBCFG (R148), trims (R140), HCFG (R173), HLEN and HREQ while an operation runs (R170). -/
def Work.loopCheck (w : Work) (p : Party) (n a : Nat) (old new : Word) : List (Nat × Nat) :=
  let held := decide (w.x.mode = .held) || decide (w.x.mode = .ready)
  if a = LOOP.CFG n then
    let ph := LOOP.CFG_PHOLD.get new
    chk LOOP.CFG_MODE old new (!held) rejState ++ chk LOOP.CFG_MODE old new (decide (LOOP.CFG_MODE.get new = 3)) rejRange
      ++ chk LOOP.CFG_PHOLD old new (decide (ph = 1) || decide (200 < ph)) rejRange
  else if a = LOOP.OUTVAL n then
    chk LOOP.OUTVAL_VAL old new (decide (p ≠ .program) && (decide (w.x.mode = .run) || decide (w.x.mode = .hold))) rejState
  else if a = LOOP.RBCFG n then
    let d := LOOP.RBCFG_RBDLY.get new
    let t := LOOP.RBCFG_RBTOL.get new
    chk LOOP.RBCFG_RBTOL old new (decide (t < 5) || decide (100 < t)) rejRange
      ++ chk LOOP.RBCFG_RBDLY old new (decide (d < 50) || decide (5000 < d)) rejRange
  else if a = LOOP.TRIMZ n then chk LOOP.TRIMZ_Z old new (decide (2000 < (signedOf 16 (LOOP.TRIMZ_Z.get new)).natAbs)) rejRange
  else if a = LOOP.TRIMS n then chk LOOP.TRIMS_S old new (decide (1600 < (signedOf 16 (LOOP.TRIMS_S.get new)).natAbs)) rejRange
  else if a = LOOP.HCFG n then
    let pr := LOOP.HCFG_PREAMB.get new
    chk LOOP.HCFG_PREAMB old new (decide (pr < 5) || decide (20 < pr)) rejRange
  else if a = LOOP.HLEN n ∨ (LOOP.HREQ n 0 ≤ a ∧ a < LOOP.HREQ n 64) then
    chk ⟨0, 32⟩ old new (w.opBusy (loopPage n)) rejBusy
  else []

/-- What follows a write to a channel's register: CFG is stored in the island (R129, R132), a trim is applied and recorded (R140), a
target is followed. -/
def Work.loopWritten (w : Work) (user n a : Nat) (old : Word) : Work :=
  if a = LOOP.CFG n then w.loopCfgChanged n old
  else if a = LOOP.TRIMZ n ∨ a = LOOP.TRIMS n then
    let w := w.trimRewritten n (decide (a = LOOP.TRIMS n))
    let w := w.when (decide (w.rd a ≠ old)) fun w =>
      ((w.put (LOOP.STICKY n) LOOP.STICKY_TRIMCHG 1).irq (loopPage n) 27).evWrite (loopPage n) noSub a old (w.rd a) user
    w.loopShow n
  else if a = LOOP.OUTVAL n ∨ a = LOOP.STOPVAL n then w.loopShow n
  else w

end Sys2Proof.Machine
end

