-- ==== Sys2Proof/Machine/Hart.lean ====
section
/-! DEFINITION. FSK communication on the loops (chapter 05): when an island may transmit, the transactions of the scan list and
of the pass-through, replies, burst frames and failures. -/

namespace Sys2Proof.Machine

/-- HART is on for a channel, and its island answers (R162, R173). -/
def Work.hartOn (w : Work) (n : Nat) : Bool := w.publishes n && (w.isl n).link && w.flag (LOOP.HCFG n) LOOP.HCFG_HEN

/-- Minimum interval between transaction starts by tier, in ms (R161). -/
def hartInterval (tier : Nat) : Nat := if tier = 1 then 1500 else if tier = 2 then 750 else 0

/-- A time of at least so many ms has passed since an event, if there was one. -/
def sinceAtLeast (ms now : Nat) : Option Nat → Bool
  | some t => decide (t + ms ≤ now)
  | none => true

/-- The loop is free for a request: no carrier, tGAP since the last frame (R164), the interval of R161 since the last transaction start. -/
def Work.hartMayStart (w : Work) (n : Nat) : Bool :=
  let i := w.isl n
  !w.flag (LOOP.HSTAT n) LOOP.HSTAT_CD && sinceAtLeast 75 w.now i.lastEnd && sinceAtLeast (hartInterval i.tier) w.now i.lastTx

/-- A frame on the loop has ended. -/
def Work.hartFrameEnd (w : Work) (n : Nat) : Work :=
  let now := w.now
  w.islSet n fun i => { i with lastEnd := some now }

/-- HARTCMD (R170, R177). The role is DEDUCED: its request buffer needs Engineer (log entry 14). -/
def hartcmd (p : Party) (n cmd : Nat) (w : Work) : Work :=
  let page := loopPage n
  if 48 ≤ n then w
  else w.startOp p page 2 [.held, .ready, .run, .hold] (w.flag (LOOP.HCFG n) LOOP.HCFG_HEN) fun w =>
    if w.flag (LOOP.HSTAT n) LOOP.HSTAT_DEV = false then w.opNow p page 2 cmd opFailed 0x82
    else ((w.opBegin p page 2 cmd []).islSet n fun i => { i with passWait := true, hartFree := false }).hartShow n

/-- HART_SCAN_DUE (R165): every item of the scan list is queued, unless it still waits from the last period; one whose transaction is in
hand counts as waiting (DESIGN CHOICE, log entry 189). -/
def hartScanDue (n : Nat) (w : Work) : Work :=
  if w.hartOn n = false ∨ w.get (LOOP.HCFG n) LOOP.HCFG_SCANPER = 0 then w
  else
    let items := (List.range 4).filter fun k => decide (w.get (LOOP.HSCAN n) ⟨8 * k, 8⟩ ≠ 0xFF)
    let busy (i : Isl) (k : Nat) : Bool := i.scanDue.contains k || (match i.txn with
      | some t => decide (t.kind = .scan k)
      | none => false)
    w.islSet n fun i => { i with scanDue := i.scanDue ++ items.filter fun k => !busy i k }

/-- The transaction that goes next (R163, R165): the device is identified first; a pending pass-through before the scan, but after
two in a row one due scan item. -/
def Work.hartNext (w : Work) (n : Nat) : Option HartKind :=
  let i := w.isl n
  if w.flag (LOOP.HSTAT n) LOOP.HSTAT_DEV = false then some .identify
  else match i.scanDue with
    | k :: _ => if i.passWait ∧ i.passRun < 2 then some .pass else some (.scan k)
    | [] => if i.passWait then some .pass else none

/-- The command number a transaction carries: of a scan item what HSCAN holds when it is sent (DESIGN CHOICE, log entry 190). -/
def Work.hartCmdOf (w : Work) (n : Nat) : HartKind → Nat
  | .identify => 0
  | .scan k => w.get (LOOP.HSCAN n) ⟨8 * k, 8⟩
  | .pass => match w.op? (loopPage n) with
    | some o => o.arg
    | none => 0

/-- The request data of a transaction: the bytes of HREQ that HLEN names, for a pass-through (R170, R171). -/
def Work.hartData (w : Work) (n : Nat) : HartKind → List Byte
  | .pass => ((List.range 64).flatMap fun i => bytesOfWord (w.rd (LOOP.HREQ n i))).take (w.get (LOOP.HLEN n) LOOP.HLEN_REQLEN)
  | _ => []

/-- A request frame (R163, R173): preamble, delimiter, address, command, byte count, data, and the check byte over all from the delimiter
on. An identification goes to polling address 0, everything else to the device's unique identifier. The codes are those of the HART 7
data-link layer (PRESUMED, log entry 186). -/
def Work.hartFrame (w : Work) (n : Nat) (k : HartKind) : List Byte :=
  let master := if w.flag (LOOP.HCFG n) LOOP.HCFG_SECOND then 0 else 0x80
  let uid := (w.rd (LOOP.HADDR0 n)).toNat
  let addr := match k with
    | .identify => [0x02, master]
    | _ => [0x82, master + w.get (LOOP.HADDR1 n) LOOP.HADDR1_UIDH, uid / 2 ^ 24, uid / 2 ^ 16, uid / 2 ^ 8, uid]
  let cmd := w.hartCmdOf n k
  let data := w.hartData n k
  let data := if 255 < cmd then BitVec.ofNat 8 (cmd / 256) :: BitVec.ofNat 8 cmd :: data else data
  let body := (addr ++ [if 255 < cmd then 31 else cmd, data.length]).map (BitVec.ofNat 8) ++ data
  List.replicate (w.get (LOOP.HCFG n) LOOP.HCFG_PREAMB) 0xFF ++ body ++ [body.foldl (fun c b => c ^^^ b) 0]

/-- HART_TX_START (R159 to R161, R163 to R165): a request or a retry starts where R160 allows it and the loop is free. A latched abort of a
pass-through is sampled before each of its attempts (R177). -/
def hartTxStart (n : Nat) (w : Work) : Work :=
  if w.hartOn n = false then w
  else if (w.hartBlock n).isSome ∨ w.hartMayStart n = false then w.hartShow n
  else
    let i := w.isl n
    let now := w.now
    let t? : Option HartTxn := match i.txn with
      | some t => if t.sent then none else some t
      | none => (w.hartNext n).map fun k => ⟨k, 0, 0, false⟩
    match t? with
    | none => w
    | some t =>
      let aborting := decide (t.kind = .pass) && (match w.op? (loopPage n) with
        | some o => o.abort
        | none => false)
      if aborting then
        (w.islSet n fun i => { i with txn := none, passWait := false }).opEnd (loopPage n) opAborted 1
      else
        (w.send (.hartRequest n (w.hartFrame n t.kind))).islSet n fun i => { i with
          txn := some { t with tries := t.tries + 1, sent := true }
          lastTx := some now
          dropReply := false
          scanDue := match t.kind with
            | .scan k => i.scanDue.filter fun j => decide (j ≠ k)
            | _ => i.scanDue
          passRun := match t.kind with
            | .pass => if t.tries = 0 then i.passRun + 1 else i.passRun
            | .scan _ => 0
            | .identify => i.passRun }

/-- What every valid reply publishes (R166): status, response code, age 0, and for command 3 the variables; one the device does not
return reads as a quiet NaN. -/
def Work.hartPublish (w : Work) (n cmd rcode devst : Nat) (vars : List Word) : Work :=
  let a := LOOP.HSTAT n
  let w := ((w.put a LOOP.HSTAT_RCODE rcode).put a LOOP.HSTAT_DEVST devst).put a LOOP.HSTAT_HAGE 0
  if cmd = 3 then
    let v (k : Nat) : Word := vars.getD k 0x7FC0_0000
    (((w.wr (LOOP.HPV n) (v 0)).wr (LOOP.HSV n) (v 1)).wr (LOOP.HTV n) (v 2)).wr (LOOP.HQV n) (v 3)
  else w

/-- HART_REPLY (R163, R166, R168, R170). A Standby decodes replies to either master. `data` of an identification holds the 38-bit
unique identifier, least significant byte first (log entry 15). The reply of a lost transaction is discarded (R162). -/
def hartReply (n cmd rcode devst : Nat) (vars : List Word) (data : List Byte) (w : Work) : Work :=
  if w.hartOn n = false then w
  else if (w.isl n).dropReply then (w.hartFrameEnd n).islSet n fun i => { i with dropReply := false }
  else
    let page := loopPage n
    let w := w.hartFrameEnd n
    let w := (w.hartPublish n cmd rcode devst vars).incSat (LOOP.HCNT n) LOOP.HCNT_OKCNT
    match (w.isl n).txn with
    | none => w
    | some t =>
      if t.sent = false ∨ w.hartCmdOf n t.kind ≠ cmd then w
      else
        let w := w.islSet n fun i => { i with txn := none, passWait := if t.kind = .pass then false else i.passWait }
        match t.kind with
        | .identify =>
          let ws := wordsOfBytes 2 data
          ((w.wr (LOOP.HADDR0 n) (ws.getD 0 0)).put (LOOP.HADDR1 n) LOOP.HADDR1_UIDH (ws.getD 1 0).toNat).put (LOOP.HSTAT n)
            LOOP.HSTAT_DEV 1
        | .scan _ => w.put (LOOP.HSTAT n) LOOP.HSTAT_HERR 0
        | .pass =>
          let bytes := ([BitVec.ofNat 8 rcode, BitVec.ofNat 8 devst] ++ data).take 255
          let w := w.each ((wordsOfBytes ((bytes.length + 3) / 4) bytes).zipIdx) fun w e => w.wr (LOOP.HRSP n e.2) e.1
          (w.put (LOOP.HLEN n) LOOP.HLEN_RSPLEN bytes.length).opEnd page opDone 0

/-- HART_BURST (R161, R167): in tier 1 at most one per 1,500 ms is accepted. BURST then stays set (DESIGN CHOICE, log entry 187), and a
frame of any command publishes its status (DESIGN CHOICE, log entry 188). -/
def hartBurst (n cmd rcode devst : Nat) (vars : List Word) (w : Work) : Work :=
  if w.hartOn n = false then w
  else
    let now := w.now
    let w := (w.hartFrameEnd n).put (LOOP.HSTAT n) LOOP.HSTAT_BURST 1
    let tooSoon := decide ((w.isl n).tier = 1) && !sinceAtLeast 1500 now (w.isl n).lastBurst
    if tooSoon then w.incSat (LOOP.HBCNT n) LOOP.HBCNT_SKIP
    else ((w.islSet n fun i => { i with lastBurst := some now }).incSat (LOOP.HBCNT n) LOOP.HBCNT_RCVD).hartPublish n cmd rcode devst vars

/-- An attempt of the transaction in hand has failed (R165): it waits for its retry, or the transaction fails: a scan sets HERR, a
pass-through ends FAILED (R177), with NO_RESPONSE unless every attempt drew a garbled reply (log entry 191). -/
def Work.hartAttemptFails (w : Work) (n : Nat) (garbled : Bool) : Work :=
  match (w.isl n).txn with
  | none => w
  | some t =>
    if t.sent = false then w
    else
      let t := { t with sent := false, garbled := if garbled then t.garbled + 1 else t.garbled }
      let w := w.incSat (LOOP.HCNT n) LOOP.HCNT_ERRCNT
      if t.tries ≤ w.get (LOOP.HCFG n) LOOP.HCFG_RETRY then w.islSet n fun i => { i with txn := some t }
      else
        let w := w.islSet n fun i => { i with txn := none, passWait := if t.kind = .pass then false else i.passWait }
        match t.kind with
        | .identify => w
        | .scan _ => w.put (LOOP.HSTAT n) LOOP.HSTAT_HERR 1
        | .pass => w.opEnd (loopPage n) opFailed (if t.garbled = t.tries then 0x84 else 0x83)

/-- HART_RSP_TIMEOUT (R172, R165, R177): no reply started, or only garbled ones. -/
def hartRspTimeout (n : Nat) (garbled : Bool) (w : Work) : Work :=
  ((w.when garbled fun w => w.hartFrameEnd n).islSet n fun i => { i with dropReply := false }).hartAttemptFails n garbled

/-- HART_TX_ABORT (R162): the transmission stops and the frame counts as failed. -/
def hartTxAbort (n : Nat) (w : Work) : Work := ((w.hartFrameEnd n).hartAttemptFails n false).hartShow n

/-- The module takes another role: what a paired channel has queued or in hand is dropped, so that a new Duty starts its scan list at
the first scan period after it becomes Duty; where the module ceases to be Duty, a pass-through in progress ends with ROLE_CHANGE (R168). -/
def Work.hartRoleChange (w : Work) : Work :=
  w.each w.loopsOn fun w n =>
    if w.flag (LOOP.CFG n) LOOP.CFG_PAIRED then
      let ends := decide (w.x.role = .standby) && (w.isl n).passWait
      let w := w.islSet n fun i => { i with txn := none, scanDue := [], passWait := i.passWait && !ends }
      (if ends then w.opEnd (loopPage n) opFailed 0x86 else w).hartShow n
    else w.hartShow n

/-- HARTCMD goes: its transaction, if it is in hand, is dropped; a scan item in hand goes on. -/
def Work.hartPassOver (w : Work) (n : Nat) : Work :=
  w.islSet n fun i => { i with passWait := false, txn := i.txn.filter fun t => decide (t.kind ≠ .pass) }

/-- HARTCMD at its maximum duration: TX_BLOCKED where R160 was never met, else TIMEOUT (R59, R177). -/
def Work.hartTimeout (w : Work) (n : Nat) : Work :=
  let met := (w.isl n).hartFree
  (w.hartPassOver n).opEnd (loopPage n) opFailed (if met then 0x02 else 0x85)

/-- HAGE counts in 100 ms steps and saturates (R166). -/
def Work.hartAge (w : Work) : Work :=
  w.each w.loopsOn fun w n => if w.flag (LOOP.HSTAT n) LOOP.HSTAT_DEV ∨ w.get (LOOP.HSTAT n) LOOP.HSTAT_HAGE < 255
    then w.incSat (LOOP.HSTAT n) LOOP.HSTAT_HAGE else w

end Sys2Proof.Machine
end

