-- ==== Sys2Proof/Machine/Sensors.lean ====
section
/-! DEFINITION. The sensor front end (chapter 06): scans, settling and its extension, linearisation, filters, quality, wire break,
blanking and the hardware route to a loop output. -/

namespace Sys2Proof.Machine

/-- QUAL codes beside the common ones (R193). -/
def qSettling : Nat := 4
def qBlanked : Nat := 5

/-- The page and group of a sensor channel (R178). -/
def sensPage (g : Nat) : Nat := 0x080 + g

/-- A sensor channel's state beside its registers. -/
def Work.sen (w : Work) (ch : Nat) : Sen := tabGet {} w.x.sens.ch ch

/-- Change it. -/
def Work.senSet (w : Work) (ch : Nat) (f : Sen → Sen) : Work :=
  w.upd fun x => { x with sens := { x.sens with ch := tabSet x.sens.ch ch (f (tabGet {} x.sens.ch ch)) } }

/-- CFG.TYPE (R180). -/
def Work.senType (w : Work) (ch : Nat) : Nat := w.get (SCH.CFG ch) SCH.CFG_TYPE

/-- A group converts in Held, Ready, Run and Hold once its page is enabled (R179). -/
def Work.sensLive (w : Work) (g : Nat) : Bool :=
  w.enabled (sensPage g) && (decide (w.x.mode = .held) || decide (w.x.mode = .ready) || decide (w.x.mode = .run) || decide (w.x.mode = .hold))

/-- A channel that converts: its TYPE neither OFF nor SENSE. -/
def Work.senActive (w : Work) (ch : Nat) : Bool := decide (w.senType ch ≠ 0) && decide (w.senType ch ≠ 5)

/-- A condition of STAT; its rise latches in STICKY, and a STICKY that becomes non-zero raises CHANNEL (R207, R212). -/
def Work.senCond (w : Work) (ch : Nat) (f : Fld) (on : Bool) : Work :=
  let rise := on && !w.flag (SCH.STAT ch) f
  let was0 := decide (w.rd (SCH.STICKY ch) = 0)
  (w.putB (SCH.STAT ch) f on).when rise fun w => (w.putB (SCH.STICKY ch) f true).when was0 fun w => w.irq (sensPage (ch / 8)) 16

/-! Settling delay (R189, R190) -/

/-- SETEFF := min(SETDLY × 2^K, 100 ms), in steps of 10 µs. -/
def setEff (setdly k : Nat) : Nat := min (setdly * 2 ^ k) 10000

/-- SETSTAT shows K and SETEFF at all times. -/
def Work.senShowK (w : Work) (ch k : Nat) : Work :=
  (w.put (SCH.SETSTAT ch) SCH.SETSTAT_K k).put (SCH.SETSTAT ch) SCH.SETSTAT_SETEFF (setEff (w.get (SCH.TIMING ch) SCH.TIMING_SETDLY) k)

/-- The record of a step of K: the new K and d beside it (R190). -/
def Work.evSettle (w : Work) (ch k d : Nat) : Work :=
  w.evValue (sensPage (ch / 8)) (ch % 8) (SCH.SETSTAT ch) 21 (k % 256 + 256 * d)

/-- The settling check of one slot (R190): `d` is abs(Q − P) in 0.01 % of the input range. -/
def Work.settleCheck (w : Work) (ch d : Nat) : Work :=
  let a := SCH.SETSTAT ch
  let k := w.get a SCH.SETSTAT_K
  let tol := w.get (SCH.SETCFG ch) SCH.SETCFG_SETTOL
  if w.flag (SCH.SETCFG ch) SCH.SETCFG_SETXEN = false
      ∨ setEff (w.get (SCH.TIMING ch) SCH.TIMING_SETDLY) k < 40 then w.senCond ch SCH.STAT_SLOWSET false
  else if tol < d then
    let w := (w.senCond ch SCH.STAT_SLOWSET true).put a SCH.SETSTAT_PASS 0
    if k < w.get (SCH.TIMING ch) SCH.TIMING_SETKMAX then
      (((w.senShowK ch (k + 1)).incSat a SCH.SETSTAT_UPCNT)).evSettle ch (k + 1) d
    else w.senCond ch SCH.STAT_SETLIM true
  else
    let w := (w.senCond ch SCH.STAT_SLOWSET false).senCond ch SCH.STAT_SETLIM false
    if 4 * d ≤ tol then
      let pass := w.get a SCH.SETSTAT_PASS + 1
      if pass = 32 then
        let w := w.put a SCH.SETSTAT_PASS 0
        if 0 < k then (w.senShowK ch (k - 1)).evSettle ch (k - 1) d else w
      else w.put a SCH.SETSTAT_PASS pass
    else w

/-! Filters (R192) -/

/-- The filter length L. -/
def filterLen (ftype fpar : Nat) : Nat := if ftype = 1 then fpar else if ftype = 2 then 2 ^ (fpar + 2) else 1

/-- L of a channel. -/
def Work.senLen (w : Work) (ch : Nat) : Nat :=
  filterLen (w.get (SCH.TIMING ch) SCH.TIMING_FTYPE) (w.get (SCH.TIMING ch) SCH.TIMING_FPAR)

/-- The power of two 2^−m as a single. -/
def fPow2Neg (m : Nat) : Word := BitVec.ofNat 32 ((127 - m) * 2 ^ 23)

/-- The filter takes a result: what it then holds, and its output. -/
def filterStep (ftype fpar : Nat) (held : List Word) (x : Word) : List Word × Word :=
  if ftype = 1 then
    let h := (x :: held).take fpar
    (h, fDiv (h.foldr (fun v s => fAdd s v) fZero) (fOfInt h.length))
  else if ftype = 2 then
    match held with
    | [] => ([x], x)
    | y :: _ =>
      let y := fAdd y (fMul (fSub x y) (fPow2Neg fpar))
      ([y], y)
  else ([], x)

/-! Linearisation (R195 to R197) -/

/-- Words of a user table: its header address, points X and Y (R196, R214). -/
def tableHdr (curve : Nat) : Nat := 0x80400 + 0x1000 * ((curve - 32) / 4) + 0x110 * ((curve - 32) % 4)
def Work.tableN (w : Work) (c : Nat) : Nat := w.get (tableHdr c) ⟨0, 6⟩
def Work.tableKind (w : Work) (c : Nat) : Nat := w.get (tableHdr c) ⟨8, 2⟩
def Work.tableX (w : Work) (c i : Nat) : Word := w.rd (tableHdr c + 4 + 8 * i)
def Work.tableY (w : Work) (c i : Nat) : Word := w.rd (tableHdr c + 8 + 8 * i)

/-- A table is in error (R196): NPTS out of range, X not strictly increasing, or a value not finite. -/
def Work.tableBad (w : Work) (c : Nat) : Bool :=
  let n := w.tableN c
  decide (n < 2) || decide (33 < n)
    || (List.range n).any (fun i => !fFinite (w.tableX c i) || !fFinite (w.tableY c i))
    || (List.range (n - 1)).any (fun i => !fLt (w.tableX c i) (w.tableX c (i + 1)))

/-- Linear interpolation between the neighbouring points of a table. -/
def Work.tableValue (w : Work) (c : Nat) (x : Word) : Word :=
  let i := (((List.range (w.tableN c - 1)).filter fun i => fLe (w.tableX c i) x).getLast?).getD 0
  let x0 := w.tableX c i
  let x1 := w.tableX c (i + 1)
  let y0 := w.tableY c i
  let y1 := w.tableY c (i + 1)
  fAdd y0 (fDiv (fMul (fSub x x0) (fSub y1 y0)) (fSub x1 x0))

/-- The range of VALUE of a curve (R195), as integers over a denominator; none for a user table. -/
def Work.curveEnds (w : Work) (ch curve : Nat) : Option (Int × Int × Nat) :=
  if 1 ≤ curve ∧ curve ≤ 3 then some (-200, 850, 1)
  else if curve = 4 ∨ curve = 5 then some (-60, 250, 1)
  else if curve = 10 then some (-200, 1372, 1)
  else if curve = 11 then some (-210, 1200, 1)
  else if curve = 12 then some (-200, 400, 1)
  else if curve = 13 then some (-200, 1000, 1)
  else if curve = 14 then some (-200, 1300, 1)
  else if curve = 15 then some (-50, 1768, 1)
  else if curve = 16 then some (250, 1820, 1)
  else if curve = 20 then some (-10, 10, 1)
  else if curve = 21 then
    let r := w.get (SCH.CFG ch) SCH.CFG_VRANGE
    let v : Int := if r = 0 then 100 else if r = 1 then 1000 else 10000
    some (-v, v, 1)
  else if curve = 22 then
    let i := w.get (SCH.CFG ch) SCH.CFG_IEXC
    some (0, if i = 0 then 25000 else if i = 1 then 10000 else if i = 2 then 5000 else if i = 3 then 2500 else 1250, 1)
  else none

/-- Is the curve a thermocouple's, so that it takes a cold junction? -/
def isTcCurve (curve : Nat) : Bool := decide (10 ≤ curve) && decide (curve ≤ 16)

/-- The linearised value of a raw quantity. The curves of standards are free values (log entry 10); the linear curves pass the raw
quantity; a thermocouple adds the voltage its reference junction stands for (R197). -/
def Work.linearise (w : Work) (curve : Nat) (raw cj : Word) : Word :=
  if curve = 20 ∨ curve = 21 ∨ curve = 22 then raw
  else if 32 ≤ curve ∧ curve ≤ 47 then w.tableValue curve raw
  else if isTcCurve curve then Config.curve curve (fAdd raw (Config.curveInverse curve cj))
  else Config.curve curve raw

/-- Below and above the curve's range: a user table by its first and last X, any other by its range of VALUE (R195, R196). -/
def Work.underOver (w : Work) (ch curve : Nat) (raw v : Word) : Bool × Bool :=
  if 32 ≤ curve ∧ curve ≤ 47 then
    (fLt raw (w.tableX curve 0), fLt (w.tableX curve (w.tableN curve - 1)) raw)
  else match w.curveEnds ch curve with
    | some (lo, hi, d) => (fCmpLt v lo d || (fInf v && fSign v), fCmpGt v hi d || (fInf v && !fSign v))
    | none => (false, false)

/-- The reference temperature of a thermocouple (R197): its value, whether it is unusable, and whether CJFIX stands in for it. -/
def Work.coldJunction (w : Work) (g : Nat) : Word × Bool × Bool :=
  let mode := w.get (SENS.GCFG g) SENS.GCFG_CJMODE
  let fault := w.flag (SENS.GSTAT g) SENS.GSTAT_CJFAULT
  if mode = 0 then (w.rd (SENS.CJT g), fault, false)
  else if mode = 1 then (w.rd (SENS.CJFIX g), false, false)
  else if mode = 2 then (if fault then w.rd (SENS.CJFIX g) else w.rd (SENS.CJT g), false, fault)
  else
    let c := 8 * g + w.get (SENS.GCFG g) SENS.GCFG_CJCH
    let q := w.get (SCH.STAT c) SCH.STAT_QUAL
    (w.rd (SCH.VALUE c), decide (q ≠ qGood) && decide (q ≠ qUncertain), false)

/-! Quality (R193) and the route (R201 to R203) -/

/-- QUAL is the first row of R193 that applies. -/
def Work.senQual (w : Work) (ch : Nat) : Nat :=
  let a := SCH.STAT ch
  let s := w.sen ch
  if w.senActive ch = false ∨ w.x.sens.dark.contains (ch / 8) ∨ w.flag a SCH.STAT_WIREBRK ∨ w.flag a SCH.STAT_SHORT
    ∨ w.flag a SCH.STAT_EXCFAIL ∨ w.flag a SCH.STAT_CURVEERR ∨ w.flag a SCH.STAT_BLKLONG ∨ s.cjUnusable
    ∨ w.flag a SCH.STAT_OVER ∨ w.flag a SCH.STAT_UNDER then qBad
  else if s.blanked then qBlanked
  else if s.suspect then qSuspect
  else if 0 < s.settle then qSettling
  else if s.slow ∨ s.cjFix then qUncertain
  else qGood

/-- Does a channel have a route at all that is active (R202)? -/
def Work.routeActive (w : Work) (ch : Nat) : Bool :=
  let n := w.get (SCH.ROUTE ch) SCH.ROUTE_LOOPCH
  w.enabled (sensPage (ch / 8)) && w.flag (SCH.ROUTE ch) SCH.ROUTE_ROUTEEN && w.enabled (loopPage n) && decide (w.loopMode n = 2)
    && (List.range ch).all (fun c => !(w.flag (SCH.ROUTE c) SCH.ROUTE_ROUTEEN && decide (w.get (SCH.ROUTE c) SCH.ROUTE_LOOPCH = n)))
    && fFinite (w.rd (SCH.ROUTELO ch)) && fFinite (w.rd (SCH.ROUTEHI ch))
    && decide ((fRat (w.rd (SCH.ROUTEHI ch))).1 * (fRat (w.rd (SCH.ROUTELO ch))).2 ≠ (fRat (w.rd (SCH.ROUTELO ch))).1 * (fRat (w.rd (SCH.ROUTEHI ch))).2)

/-- The routed target in 0.1 µA of a valid value (R201): 4 mA + 16 mA × (VALUE − LO) / (HI − LO), held between 3.8 mA and 20.5 mA. -/
def routeTarget (v lo hi : Word) : Nat :=
  let rv := fRat v
  let rl := fRat lo
  let rh := fRat hi
  let num := (rv.1 * rl.2 - rl.1 * rv.2) * rh.2
  let den := (rh.1 * rl.2 - rl.1 * rh.2) * rv.2
  let i := 40000 + divRounded (160000 * num * den.sign) den.natAbs
  (min (max i 38000) 205000).toNat

/-- A channel with an active route sends its published result to its loop island (R201). -/
def Work.routeSend (w : Work) (ch : Nat) : Work :=
  if w.routeActive ch = false then w
  else
    let n := w.get (SCH.ROUTE ch) SCH.ROUTE_LOOPCH
    let q := w.get (SCH.STAT ch) SCH.STAT_QUAL
    let onbad := w.get (SCH.ROUTE ch) SCH.ROUTE_ONBAD
    let set (w : Work) (t : Nat) : Work := (w.islSet n fun i => { i with routed := some t }).loopShow n
    if q = qGood ∨ q = qUncertain then
      set w (routeTarget (w.rd (SCH.VALUE ch)) (w.rd (SCH.ROUTELO ch)) (w.rd (SCH.ROUTEHI ch)))
    else if q = qBad ∧ onbad = 0 then set w 35000
    else if q = qBad ∧ onbad = 1 then set w 215000
    else w

/-- Every route is checked (R202): ROUTEERR where it is asked for and not active, and the loop then follows OUTVAL. -/
def Work.routeCheck (w : Work) : Work :=
  let w := w.each (List.range 32) fun w ch =>
    if w.enabled (sensPage (ch / 8)) then
      w.senCond ch SCH.STAT_ROUTEERR (w.flag (SCH.ROUTE ch) SCH.ROUTE_ROUTEEN && !w.routeActive ch)
    else w
  let kept := (List.range 32).filterMap fun ch => if w.routeActive ch then some (w.get (SCH.ROUTE ch) SCH.ROUTE_LOOPCH) else none
  w.each ((List.range 48).filter fun n => (w.isl n).routed.isSome && !kept.contains n) fun w n =>
    (w.islSet n fun i => { i with routed := none }).loopShow n

/-- QUAL is brought up to date and the result sent on. -/
def Work.senShow (w : Work) (ch : Nat) : Work := (w.put (SCH.STAT ch) SCH.STAT_QUAL (w.senQual ch)).routeSend ch

/-! The scan (R186, R187) -/

/-- The slot number of the cold-junction and reference slot. -/
def cjSlot : Nat := 8

/-- The slots of a whole scan: the cold-junction and reference slot, in CJMODE 3 the channel that CJCH names, the others ascending. -/
def Work.scanOrder (w : Work) (g : Nat) : List Nat :=
  let first := if w.get (SENS.GCFG g) SENS.GCFG_CJMODE = 3 then [w.get (SENS.GCFG g) SENS.GCFG_CJCH] else []
  let l := (first ++ (List.range 8).filter fun k => !first.contains k).filter fun k => w.senActive (8 * g + k)
  cjSlot :: l

/-- Does a slot run: the slot of a channel that converts no more, or is blanked, is skipped (R186, R200)? -/
def Work.slotRuns (w : Work) (g k : Nat) : Bool := decide (k = cjSlot) || (w.senActive (8 * g + k) && !(w.sen (8 * g + k)).blanked)

/-- The slot in progress; none between scans. -/
def Work.slot? (w : Work) (g : Nat) : Option Nat := (tabGet [] w.x.sens.scan g).find? (w.slotRuns g)

/-- Set the slots still to run. -/
def Work.scanSet (w : Work) (g : Nat) (l : List Nat) : Work := w.upd fun x => { x with sens := { x.sens with scan := tabSet x.sens.scan g l } }

/-- The slot in progress ends. -/
def Work.slotEnd (w : Work) (g : Nat) : Work := w.scanSet g (((tabGet [] w.x.sens.scan g).dropWhile fun k => !w.slotRuns g k).drop 1)

/-- Is a channel's slot in progress? -/
def Work.inSlot (w : Work) (ch : Nat) : Bool := decide (w.slot? (ch / 8) = some (ch % 8))

/-- An excitation change (R185): the filter is reset and SETTLING counted anew; the conversion in progress is discarded, and the channel
converts next in its slot of the next scan. -/
def Work.excChange (w : Work) (ch : Nat) : Work :=
  let l := w.senLen ch
  let w := w.when (w.inSlot ch) fun w => w.slotEnd (ch / 8)
  (w.senSet ch fun s => { s with filt := [], settle := l, suspect := false, checkDue := false }).senShow ch

/-! Events of a group and a channel -/

/-- SCAN_START (R187): a scan still running is marked to overrun and ends its slots; otherwise the next scan starts. `len` is the length of
the scan run last, in 0.25 ms; one longer than SCANPER overran. -/
def scanStart (g len : Nat) (w : Work) : Work :=
  if w.sensLive g = false then w
  else if (w.slot? g).isSome then w.flagIrq (sensPage g) (SENS.GSTAT g) SENS.GSTAT_SCANOVR true 17
  else
    let w := w.scanSet g (w.scanOrder g)
    let a := SENS.SCANT g
    let w := (w.put a SENS.SCANT_LAST (min len 65535)).put a SENS.SCANT_MAX (max (w.get a SENS.SCANT_MAX) (min len 65535))
    w.flagIrq (sensPage g) (SENS.GSTAT g) SENS.GSTAT_SCANOVR (decide (4 * w.get (SENS.GCFG g) SENS.GCFG_SCANPER < len)) 17

/-- A thermocouple channel takes the state of its cold junction (R197): CJBAD where the sensor is unusable. -/
def Work.cjApply (w : Work) (ch : Nat) : Work :=
  let cj := w.coldJunction (ch / 8)
  let w := w.senSet ch fun s => { s with cjUnusable := cj.2.1, cjFix := cj.2.2 }
  w.senCond ch SCH.STAT_CJBAD (cj.2.1 || cj.2.2)

/-- CJ_SLOT_END (R188, R197): the connector sensor is published; open, shorted (`fault`) or outside −45 °C to +95 °C it is unusable. -/
def cjSlotEnd (g : Nat) (temp : Word) (fault : Bool) (w : Work) : Work :=
  if w.sensLive g = false ∨ w.slot? g ≠ some cjSlot then w
  else
    let w := w.slotEnd g
    let bad := fault || !fFinite temp || fCmpLt temp (-45) 1 || fCmpGt temp 95 1
    let w := (w.wr (SENS.CJT g) temp).flagIrq (sensPage g) (SENS.GSTAT g) SENS.GSTAT_CJFAULT bad 19
    w.each ((List.range 8).filter fun k => decide (w.senType (8 * g + k) = 2)) fun w k => (w.cjApply (8 * g + k)).senShow (8 * g + k)

/-- A conversion is taken in: linearised, checked against its range, filtered, and VALUE published while its quality allows (R193). -/
def Work.senTake (w : Work) (ch : Nat) (raw : Word) : Work :=
  let curve := w.get (SCH.CFG ch) SCH.CFG_CURVE
  let tc := decide (w.senType ch = 2)
  let w := w.when tc fun w => w.cjApply ch
  let bad := decide (32 ≤ curve) && w.tableBad curve
  let w := w.senCond ch SCH.STAT_CURVEERR bad
  let v := w.linearise curve raw (w.coldJunction (ch / 8)).1
  let uo := if bad then (false, false) else w.underOver ch curve raw v
  let w := (w.senCond ch SCH.STAT_UNDER uo.1).senCond ch SCH.STAT_OVER uo.2
  let slow := w.flag (SCH.STAT ch) SCH.STAT_SLOWSET
  let w := w.senSet ch fun s => { s with settle := s.settle - 1, suspect := false, slow := slow }
  let q := w.senQual ch
  if q = qGood ∨ q = qUncertain ∨ q = qSettling then
    let f := filterStep (w.get (SCH.TIMING ch) SCH.TIMING_FTYPE) (w.get (SCH.TIMING ch) SCH.TIMING_FPAR) (w.sen ch).filt v
    let w := w.senSet ch fun s => { s with filt := f.1 }
    (w.when (decide (q ≠ qSettling)) fun w => w.wr (SCH.VALUE ch) f.2).senShow ch
  else w.senShow ch

/-- A saturated conversion whose check has found no break is decided (R198): OVER or UNDER where the raw quantity lies beyond the curve's
range, else it is discarded and the quality stays as it stood before. -/
def Work.senSaturated (w : Work) (ch : Nat) : Work :=
  let raw := w.rd (SCH.RAW ch)
  let curve := w.get (SCH.CFG ch) SCH.CFG_CURVE
  let uo := w.underOver ch curve raw (w.linearise curve raw (w.coldJunction (ch / 8)).1)
  let slow := w.flag (SCH.STAT ch) SCH.STAT_SLOWSET
  if uo.1 || uo.2 then
    let w := w.senSet ch fun s => { s with settle := s.settle - 1, slow := slow }
    ((w.senCond ch SCH.STAT_UNDER uo.1).senCond ch SCH.STAT_OVER uo.2).senShow ch
  else w.senShow ch

/-- CONVERSION_END (R186, R190, R192 to R198): the channel's slot is in progress, and its integration ends; `raw` is the measured quantity before linearisation, `settle` the difference of the settling
check's samples. A saturated conversion is published SUSPECT until its burn-out check decides; with BOEN = 0 no check follows, and
it is decided at once (log entry 21). -/
def conversionEnd (ch : Nat) (raw : Word) (saturated : Bool) (settle : Nat) (w : Work) : Work :=
  if w.sensLive (ch / 8) = false ∨ 32 ≤ ch ∨ w.inSlot ch = false ∨ (w.sen ch).checkDue ∨ w.x.sens.dark.contains (ch / 8) then w
  else
    let check := w.flag (SCH.CFG ch) SCH.CFG_BOEN
    let w := if check then w.senSet ch fun s => { s with checkDue := true } else w.slotEnd (ch / 8)
    let w := w.settleCheck ch settle
    let w := (w.wr (SCH.RAW ch) raw).incWrap (SCH.STAT ch) SCH.STAT_SEQ
    if saturated then
      if check then (w.senSet ch fun s => { s with suspect := true }).senShow ch else w.senSaturated ch
    else w.senTake ch raw

/-- BURNOUT_CHECK_END (R198, R199): WIREBRK, SHORT or EXCFAIL is confirmed or cleared; a suspect conversion is decided. -/
def burnoutCheckEnd (ch : Nat) (brk short excLow : Bool) (w : Work) : Work :=
  if w.sensLive (ch / 8) = false ∨ 32 ≤ ch ∨ w.inSlot ch = false ∨ (w.sen ch).checkDue = false ∨ w.x.sens.dark.contains (ch / 8) then w
  else
    let w := (w.slotEnd (ch / 8)).senSet ch fun s => { s with checkDue := false }
    let a := SCH.STAT ch
    let ty := w.senType ch
    let was := w.flag a SCH.STAT_WIREBRK || w.flag a SCH.STAT_SHORT
    let sh := short && decide (ty = 1)
    let w := (w.senCond ch SCH.STAT_WIREBRK brk).senCond ch SCH.STAT_SHORT sh
    let w := w.senCond ch SCH.STAT_EXCFAIL (decide (ty = 3) && (excLow || w.flag (SENS.GSTAT (ch / 8)) SENS.GSTAT_EXCOVL))
    let w := if was ∧ brk = false ∧ sh = false then w.excChange ch else w
    if (w.sen ch).suspect then
      let w := w.senSet ch fun s => { s with suspect := false }
      if brk then w.senShow ch else w.senSaturated ch
    else w.senShow ch

/-- The BRIDGE channels of a group. -/
def Work.bridges (w : Work) (g : Nat) : List Nat := ((List.range 8).map (8 * g + ·)).filter fun ch => decide (w.senType ch = 3)

/-- RAIL_OFF (R184). -/
def railOff (g : Nat) (w : Work) : Work :=
  if w.sensLive g = false ∨ w.get (SENS.GCFG g) SENS.GCFG_VEXC = 0 then w
  else
    let w := w.flagIrq (sensPage g) (SENS.GSTAT g) SENS.GSTAT_EXCOVL true 18
    w.each (w.bridges g) fun w ch => (w.senCond ch SCH.STAT_EXCFAIL true).senShow ch

/-- RAIL_RETRY (R184, R185): the rail on after EXCOVL is an excitation change of its channels. -/
def railRetry (g : Nat) (limit : Bool) (w : Work) : Work :=
  if w.sensLive g = false ∨ w.flag (SENS.GSTAT g) SENS.GSTAT_EXCOVL = false ∨ limit then w
  else
    let w := w.putB (SENS.GSTAT g) SENS.GSTAT_EXCOVL false
    w.each (w.bridges g) fun w ch => (w.senCond ch SCH.STAT_EXCFAIL false).excChange ch

/-- A channel of a group whose contact is active or not is blanked, or released: on release it is treated as after an excitation change
(R200). -/
def Work.senBlank (w : Work) (ch : Nat) (active : Bool) : Work :=
  if active ∧ w.flag (SCH.CFG ch) SCH.CFG_BLKEN ∧ w.senActive ch then
    if (w.sen ch).blanked then w else (w.senSet ch fun s => { s with blanked := true, checkDue := false, suspect := false }).senShow ch
  else if (w.sen ch).blanked then
    ((w.senSet ch fun s => { s with blanked := false }).senCond ch SCH.STAT_BLKLONG false).excChange ch
  else w

/-- Blanking of a group starts or ends; each is recorded (R200). -/
def Work.blankSet (w : Work) (g : Nat) (active : Bool) : Work :=
  if w.flag (SENS.GSTAT g) SENS.GSTAT_BLANKING = active then w
  else
    let w := (w.setFlag (sensPage g) noSub (SENS.GSTAT g) SENS.GSTAT_BLANKING active).irq (sensPage g) 20
    w.each ((List.range 8).map (8 * g + ·)) fun w ch => w.senBlank ch active

/-- Blanking follows the contact as BLKON and BLKPOL read it (R200). -/
def Work.blankFollow (w : Work) (g : Nat) : Work :=
  w.blankSet g (w.flag (SENS.GCFG g) SENS.GCFG_BLKON && xor (w.x.sens.closed.contains g) (w.flag (SENS.GCFG g) SENS.GCFG_BLKPOL))

/-- BLANK_CONTACT (R200): the debounced contact of a group closes or opens; an enabled group whose input is in use follows it. -/
def blankContact (g : Nat) (closed : Bool) (w : Work) : Work :=
  let w := w.upd fun x => { x with sens := { x.sens with
    closed := x.sens.closed.filter (fun h => decide (h ≠ g)) ++ if closed then [g] else [] } }
  if w.alive && w.enabled (sensPage g) then w.blankFollow g else w

/-- BLKLONG (R200): recorded. -/
def blklong (ch : Nat) (w : Work) : Work :=
  if w.sensLive (ch / 8) = false ∨ 32 ≤ ch ∨ (w.sen ch).blanked = false ∨ w.get (SENS.BLKMAX (ch / 8)) SENS.BLKMAX_T = 0
      ∨ w.flag (SCH.STAT ch) SCH.STAT_BLKLONG then w
  else
    ((w.senCond ch SCH.STAT_BLKLONG true).evFlag (sensPage (ch / 8)) (ch % 8) (SCH.STAT ch) 21 true).senShow ch

/-- SETCLR (R189, R211): K returns to 0. -/
def Work.senClearK (w : Work) (ch : Nat) : Work := (w.senShowK ch 0).put (SCH.SETSTAT ch) SCH.SETSTAT_PASS 0

/-- A group's island stops or resumes answering (R193). -/
def Work.sensDark (w : Work) (g : Nat) (dark : Bool) : Work :=
  let w := w.upd fun x => { x with sens := { x.sens with
    dark := if dark then (if x.sens.dark.contains g then x.sens.dark else x.sens.dark ++ [g]) else x.sens.dark.filter (fun h => decide (h ≠ g)) } }
  if w.enabled (sensPage g) then w.each ((List.range 8).map (8 * g + ·)) fun w ch => if w.senActive ch then w.senShow ch else w else w

/-- A SENS page starts, or is soft-reset (R207): the scan begins anew with every channel in SETTLING, its filter reset and K at 0; a contact
that is active blanks at once (R200). -/
def Work.sensStart (w : Work) (g : Nat) : Work :=
  let w := w.scanSet g []
  let w := w.each ((List.range 8).map (8 * g + ·)) fun w ch =>
    let l := w.senLen ch
    let w := ((w.senSet ch fun _ => { settle := l }).senClearK ch).wr (SCH.VALUE ch) 0
    if w.senActive ch then w.senShow ch else w
  (w.blankFollow g).routeCheck

/-! Writes to a SENS page -/

/-- The excitation current of IEXC in 0.01 mA (R182). -/
def iexcOf (i : Nat) : Nat := if i = 0 then 10 else if i = 1 then 25 else if i = 2 then 50 else if i = 3 then 100 else 200

/-- Is a curve allowed for a TYPE (R195)? The table names none for OFF and SENSE, which leaves 0 (DEDUCED, log entry 196). -/
def Work.curveAllowed (w : Work) (ty curve : Nat) : Bool :=
  if ty = 0 ∨ ty = 5 then decide (curve = 0)
  else if 32 ≤ curve ∧ curve ≤ 47 then
    let k := w.tableKind curve
    decide (ty = 1 ∧ k = 1) || decide (ty = 3 ∧ k = 2) || decide (ty = 4 ∧ k = 0)
  else if ty = 1 then (decide (1 ≤ curve) && decide (curve ≤ 5)) || decide (curve = 22)
  else if ty = 2 then isTcCurve curve
  else if ty = 3 then decide (curve = 20)
  else if ty = 4 then decide (curve = 21)
  else false

/-- IEXC times the curve's largest resistance exceeds 2.5 V (R182): 390.48 Ω for Pt100 (chapter 06's example), in proportion for
Pt500 and Pt1000 (DEDUCED, log entry 24); a user table's last X. -/
def Work.overDriven (w : Work) (iexc curve : Nat) : Bool :=
  let i := iexcOf iexc
  if curve = 1 then decide (250000000 < i * 390480)
  else if curve = 2 then decide (250000000 < i * 1952400)
  else if curve = 3 then decide (250000000 < i * 3904800)
  else if curve = 4 ∨ curve = 5 then decide (250000000 < i * Config.curveMaxOhm curve)
  else if 32 ≤ curve ∧ curve ≤ 47 then fCmpGt (w.tableX curve (w.tableN curve - 1)) 250000 i
  else false

/-- The refusals of a write to a SENS page's register beside lock and role (R180, R182, R185, R187, R195, R208 to R214). -/
def Work.sensCheck (w : Work) (g a : Nat) (old new : Word) : List (Nat × Nat) :=
  let off := a % 4096
  let held := decide (w.x.mode = .held) || decide (w.x.mode = .ready)
  if off = 0x40 then
    let sp := SENS.GCFG_SCANPER.get new
    chk SENS.GCFG_SCANPER old new (decide (sp < 10) || decide (10000 < sp)) rejRange
      ++ chk SENS.GCFG_VEXC old new (decide (3 < SENS.GCFG_VEXC.get new)) rejRange
      ++ chk SENS.GCFG_CJCH old new (decide (w.senType (8 * g + SENS.GCFG_CJCH.get new) ≠ 1)) rejRange
  else if off = 0x50 then chk ⟨0, 32⟩ old new (!fFinite new || fCmpLt new (-50) 1 || fCmpGt new 100 1) rejRange
  else if off = 0x58 then chk SENS.BLKMAX_T old new (decide (3600 < SENS.BLKMAX_T.get new)) rejRange
  else if 0x100 ≤ off ∧ off < 0x300 then
    let b := off % 0x40
    let ch := 8 * g + (off - 0x100) / 0x40
    if b = 0 then
      let ty := SCH.CFG_TYPE.get new
      let wire := SCH.CFG_WIRE.get new
      let curve := SCH.CFG_CURVE.get new
      let six := decide (ty = 3) && decide (wire = 1)
      let badWire := (decide (ty = 1) && decide (wire = 3)) || (decide (ty = 3) && decide (1 < wire))
        || (six && (decide (ch % 2 = 1) || decide (w.senType (ch + 1) ≠ 5)))
      let badType := decide (5 < ty) || (decide (ty = 5) && decide (ch % 2 = 0))
      let badCurve := decide (ty ≤ 5) && !w.curveAllowed ty curve
      let hot := decide (ty = 1) && w.overDriven (SCH.CFG_IEXC.get new) curve
      chk SCH.CFG_TYPE old new (!held) rejState
        ++ chk SCH.CFG_TYPE old new (badType || badWire || badCurve || hot) rejRange
        ++ chk SCH.CFG_CURVE old new (badCurve || hot) rejRange
        ++ chk SCH.CFG_WIRE old new (!held) rejState ++ chk SCH.CFG_WIRE old new badWire rejRange
        ++ chk SCH.CFG_IEXC old new (decide (4 < SCH.CFG_IEXC.get new) || hot) rejRange
        ++ chk SCH.CFG_VRANGE old new (decide (SCH.CFG_VRANGE.get new = 3)) rejRange
    else if b = 4 then
      let d := SCH.TIMING_SETDLY.get new
      let ft := SCH.TIMING_FTYPE.get new
      let fp := SCH.TIMING_FPAR.get new
      let badPar := (decide (ft = 0) && decide (fp ≠ 0)) || (decide (ft = 1) && decide (fp < 2)) || (decide (ft = 2) && (decide (fp < 1) || decide (7 < fp)))
      chk SCH.TIMING_SETDLY old new (decide (d < 1) || decide (10000 < d)) rejRange
        ++ chk SCH.TIMING_FPAR old new badPar rejRange
        ++ chk SCH.TIMING_FTYPE old new (decide (ft = 3) || badPar) rejRange
        ++ chk SCH.TIMING_INTT old new (decide (4 < SCH.TIMING_INTT.get new)) rejRange
    else if b = 8 then chk SCH.SETCFG_SETTOL old new (decide (SCH.SETCFG_SETTOL.get new = 0)) rejRange
    else if b = 0x20 then
      chk SCH.ROUTE_LOOPCH old new (decide (47 < SCH.ROUTE_LOOPCH.get new)) rejRange
        ++ chk SCH.ROUTE_ONBAD old new (decide (SCH.ROUTE_ONBAD.get new = 3)) rejRange
    else []
  else if 0x400 ≤ off ∧ (off - 0x400) % 0x110 = 0 then chk ⟨8, 2⟩ old new (decide ((⟨8, 2⟩ : Fld).get new = 3)) rejRange
  else []

/-- The channels that use a user table. -/
def Work.tableUsers (w : Work) (c : Nat) : List Nat :=
  (List.range 32).filter fun ch => w.senActive ch && decide (w.get (SCH.CFG ch) SCH.CFG_CURVE = c)

/-- A condition of a TYPE that the channel has no more is over: a cold junction belongs to TC (R197), an excitation failure to BRIDGE
(R184). -/
def Work.senTyped (w : Work) (ch : Nat) : Work :=
  let w := w.when (decide (w.senType ch ≠ 2)) fun w =>
    (w.senSet ch fun s => { s with cjUnusable := false, cjFix := false }).senCond ch SCH.STAT_CJBAD false
  w.when (decide (w.senType ch ≠ 3)) fun w => w.senCond ch SCH.STAT_EXCFAIL false

/-- What follows a write to a SENS page's register: excitation changes (R185, R214), K shown (R190), routes checked (R202). -/
def Work.sensWritten (w : Work) (g a : Nat) (old : Word) : Work :=
  let off := a % 4096
  let new := w.rd a
  if off = 0x40 then
    let w := w.blankFollow g
    if SENS.GCFG_VEXC.get old ≠ SENS.GCFG_VEXC.get new then
      w.each ((w.bridges g).filter fun ch => w.flag (SCH.CFG ch) SCH.CFG_EXCEN) fun w ch => w.excChange ch
    else w
  else if 0x100 ≤ off ∧ off < 0x300 then
    let b := off % 0x40
    let ch := 8 * g + (off - 0x100) / 0x40
    if b = 0 then
      let same := decide ((SCH.CFG_BLKEN.set (SCH.CFG_BOEN.set old 0) 0) = (SCH.CFG_BLKEN.set (SCH.CFG_BOEN.set new 0) 0))
      let w := (w.senTyped ch).senBlank ch (w.flag (SENS.GSTAT g) SENS.GSTAT_BLANKING)
      if same then w else w.excChange ch
    else if b = 4 then w.senShowK ch (min (w.get (SCH.SETSTAT ch) SCH.SETSTAT_K) (w.get (SCH.TIMING ch) SCH.TIMING_SETKMAX))
    else if b = 8 then w
    else if b = 0x20 ∨ b = 0x24 ∨ b = 0x28 then w.routeCheck.routeSend ch
    else w
  else if 0x400 ≤ off ∧ off < 0x840 then
    let c := 32 + 4 * g + (off - 0x400) / 0x110
    w.each (w.tableUsers c) fun w ch => (w.senCond ch SCH.STAT_CURVEERR (w.tableBad c)).excChange ch
  else w

end Sys2Proof.Machine
end

