-- ==== Sys2Proof/Machine/Digital.lean ====
section
/-! DEFINITION. The digital channels (chapter 07): inputs and their filters, outputs and their effective commands, the field
supply states of R229, diagnostics. -/

namespace Sys2Proof.Machine

/-- VSTATE codes (R238). -/
def vsUp : Nat := 0
def vsCut : Nat := 2
def vsQualify : Nat := 3
def vsAwait : Nat := 4
def vsFault : Nat := 5

/-- The page of a digital group (R215). -/
def dioPage (g : Nat) : Nat := 0x090 + g

/-- A group's and a channel's state beside their registers. -/
def Work.dgrp (w : Work) (g : Nat) : DioGrp := tabGet {} w.x.dio.grp g
def Work.dch (w : Work) (ch : Nat) : DioCh := tabGet {} w.x.dio.ch ch
def Work.dgrpSet (w : Work) (g : Nat) (f : DioGrp → DioGrp) : Work :=
  w.upd fun x => { x with dio := { x.dio with grp := tabSet x.dio.grp g (f (tabGet {} x.dio.grp g)) } }
def Work.dchSet (w : Work) (ch : Nat) (f : DioCh → DioCh) : Work :=
  w.upd fun x => { x with dio := { x.dio with ch := tabSet x.dio.ch ch (f (tabGet {} x.dio.ch ch)) } }

/-- VSTATE and CFG.MODE. -/
def Work.vstate (w : Work) (g : Nat) : Nat := w.get (DIO.GSTAT g) DIO.GSTAT_VSTATE
def Work.dioMode (w : Work) (ch : Nat) : Nat := w.get (DCH.CFG ch) DCH.CFG_MODE

/-- The channels of a group. -/
def groupChs (g : Nat) : List Nat := (List.range 8).map (8 * g + ·)

/-- The group's island is served: its page enabled and the module up. -/
def Work.dioLive (w : Work) (g : Nat) : Bool := w.alive && w.enabled (dioPage g) && decide (g < 8)

/-- A condition of STAT; its rise latches in STICKY, and a STICKY that becomes non-zero raises CHANNEL (R235, R245). -/
def Work.dioCond (w : Work) (ch : Nat) (f : Fld) (on : Bool) : Work :=
  let rise := on && !w.flag (DCH.STAT ch) f
  let was0 := decide (w.rd (DCH.STICKY ch) = 0)
  (w.putB (DCH.STAT ch) f on).when rise fun w => (w.putB (DCH.STICKY ch) f true).when was0 fun w => w.irq (dioPage (ch / 8)) 16

/-- A condition whose rise and clearing are recorded (R226). -/
def Work.dioCondRec (w : Work) (ch : Nat) (f : Fld) (on : Bool) : Work :=
  if w.flag (DCH.STAT ch) f = on then w else (w.dioCond ch f on).evFlag (dioPage (ch / 8)) (ch % 8) (DCH.STAT ch) f.lo on

/-- The effective command of an output by module state and role (R223). -/
def Work.dioWanted (w : Work) (ch : Nat) : Bool :=
  let g := ch / 8
  let k := ch % 8
  let out := w.flag (DIO.GOUT g) ⟨k, 1⟩
  let stop := if w.flag (DIO.GSTOP g) ⟨8 + k, 1⟩ then out else w.flag (DIO.GSTOP g) ⟨k, 1⟩
  decide (w.dioMode ch = 2) && !(w.flag (DCH.CFG ch) DCH.CFG_PAIRED && (decide (w.x.role = .standby) || w.x.loops.coldWait)) &&
    (match w.x.mode with
      | .run => if w.atStop then stop else out
      | .hold => if w.stopsAt (DIO.GOUT g) then stop else out
      | .ready => stop
      | _ => false)

/-- The output is on: its command on, the group UP, its group switch closed and its restore turn past, not shed (R223, R225, R228,
R230). -/
def Work.dioEff (w : Work) (ch : Nat) : Bool :=
  let g := ch / 8
  let s := w.dgrp g
  w.dioWanted ch && decide (w.vstate g = vsUp) && s.link && !s.dark && !w.flag (DIO.GSTAT g) DIO.GSTAT_GSWOPEN
    && !w.flag (DCH.STAT ch) DCH.STAT_SHED && (match s.next with
      | some k => decide (ch % 8 < k)
      | none => true)

/-- QUAL of a channel: R220 for an input, R226 for an output, BAD for a channel that is OFF. -/
def Work.dioQual (w : Work) (ch : Nat) : Nat :=
  let a := DCH.STAT ch
  if w.dioMode ch = 1 then
    if w.flag a DCH.STAT_WIREBRK ∨ w.flag a DCH.STAT_VFCUT ∨ w.flag a DCH.STAT_DARK ∨ (w.dch ch).refill then qBad
    else if w.flag a DCH.STAT_VFWARN then qUncertain else qGood
  else if w.dioMode ch = 2 then
    if w.vstate (ch / 8) ≠ vsUp ∨ w.flag a DCH.STAT_DARK ∨ w.flag a DCH.STAT_OVERLOAD ∨ w.flag a DCH.STAT_SHED
      ∨ w.flag a DCH.STAT_STUCKON ∨ w.flag a DCH.STAT_RBFAIL ∨ w.flag a DCH.STAT_BACKFED then qBad
    else if w.flag a DCH.STAT_OPENLOAD ∨ w.flag a DCH.STAT_VFWARN then qUncertain else qGood
  else qBad

/-- The pin of a channel (R220, R226): the raw state of an input; the read-back of an output, high where it is back-fed, low where
RBFAIL says so, else its switch's state, but what the partner drives on a paired output (log entries 122, 23). -/
def Work.dioPin (w : Work) (ch : Nat) : Bool :=
  let flag (f : Fld) : Bool := w.flag (DCH.STAT ch) f
  if w.dioMode ch = 1 then (w.dch ch).raw
  else decide (w.dioMode ch = 2) && (flag DCH.STAT_BACKFED
    || (if w.dioEff ch && !flag DCH.STAT_OVERLOAD then !flag DCH.STAT_RBFAIL else w.flag (DCH.CFG ch) DCH.CFG_PAIRED && (w.dch ch).raw))

/-- A channel publishes (R220, R240): QUAL, PIN, IN while its quality allows, and its bits of GIN and of GOUT.EFF. -/
def Work.dioShowCh (w : Work) (ch : Nat) : Work :=
  let g := ch / 8
  let k := ch % 8
  let q := w.dioQual ch
  let w := w.put (DCH.STAT ch) DCH.STAT_QUAL q
  let w := w.when (decide (w.dioMode ch = 1) && decide (q ≠ qBad)) fun w => w.putB (DCH.STAT ch) DCH.STAT_IN (w.dch ch).filt
  let w := w.putB (DIO.GOUT g) ⟨8 + k, 1⟩ (w.dioEff ch)
  let w := w.putB (DCH.STAT ch) DCH.STAT_PIN (w.dioPin ch)
  let w := w.putB (DIO.GIN g) ⟨16 + k, 1⟩ (decide (q = qBad))
  let w := w.putB (DIO.GIN g) ⟨8 + k, 1⟩ (w.flag (DCH.STAT ch) DCH.STAT_PIN)
  w.putB (DIO.GIN g) ⟨k, 1⟩ (w.flag (DCH.STAT ch) DCH.STAT_IN && decide (w.dioMode ch = 1))

/-- A group publishes. -/
def Work.dioShow (w : Work) (g : Nat) : Work :=
  let w := w.each (groupChs g) fun w ch => w.dioShowCh ch
  let shed := (groupChs g).any fun ch => w.flag (DCH.STAT ch) DCH.STAT_SHED
  w.flagIrq (dioPage g) (DIO.GSTAT g) DIO.GSTAT_SHEDACT shed 20

/-- A group's outputs from block `k` on whose effective command is on. -/
def Work.dioWantedFrom (w : Work) (g k : Nat) : List Nat := (List.range 8).filter fun j => decide (k ≤ j) && w.dioWanted (8 * g + j)

/-- The module's commands reach a group (R223): an effective command of off ends an overload's retries (R224), and the turn of a
restoring group is over once no output is left to switch on (R230). -/
def Work.dioRefresh (w : Work) (g : Nat) : Work :=
  if w.enabled (dioPage g) then
    let w := w.each (groupChs g) fun w ch =>
      if w.dioWanted ch then w.dchSet ch fun c => { c with shedOff := false } else w.dioCondRec ch DCH.STAT_OVERLOAD false
    let w := w.dgrpSet g fun s => { s with next := s.next.filter fun k => decide (w.dioWantedFrom g k ≠ []) }
    w.dioShow g
  else w

/-- Every group follows a change of module state or role, or a release. -/
def Work.commandOutputs (w : Work) : Work := w.each (List.range 8) fun w g => w.dioRefresh g

/-- At a release, a shed output whose command has been off for the whole cycle before it may switch on again (R225). -/
def Work.shedRelease (w : Work) : Work :=
  w.each ((List.range 64).filter fun ch => w.enabled (dioPage (ch / 8)) && w.flag (DCH.STAT ch) DCH.STAT_SHED) fun w ch =>
    let w := if (w.dch ch).shedOff then w.dioCondRec ch DCH.STAT_SHED false else w
    w.dchSet ch fun c => { c with shedOff := w.flag (DCH.STAT ch) DCH.STAT_SHED && !w.dioWanted ch }

/-- The group's island has been heard: its link is live. -/
def Work.dioHeard (w : Work) (g : Nat) : Work := w.dgrpSet g fun s => { s with link := true }

/-! Field supply (R229 to R232) -/

/-- The group takes a supply state; the entry is recorded and its flags shown on every channel. -/
def Work.vsEnter (w : Work) (g st : Nat) : Work :=
  let w := (w.put (DIO.GSTAT g) DIO.GSTAT_VSTATE st).evState (dioPage g) noSub (DIO.GSTAT g) 0 (w.vstate g) st
  let w := w.when (decide (st = vsCut)) fun w => w.irq (dioPage g) 18
  let w := w.when (decide (st = vsAwait)) fun w => w.irq (dioPage g) 19
  let w := w.each (groupChs g) fun w ch =>
    (w.dioCond ch DCH.STAT_VFCUT (decide (st = vsCut) || decide (st = vsQualify))).dioCond ch DCH.STAT_VFHOLD (decide (st = vsAwait))
  let w := w.dgrpSet g fun s => { s with next := if st = vsUp ∧ w.dioWantedFrom g 0 ≠ [] then some 0 else none, shedding := false }
  let w := w.when (decide (st = vsUp)) fun w => w.putB (DIO.GSTAT g) DIO.GSTAT_NEVERUP false
  w.dioShow g

/-- An input's filtered state takes a level (R222): a rising edge is counted, a change recorded with SOEEN = 1. -/
def Work.dioFilt (w : Work) (ch : Nat) (level : Bool) : Work :=
  if (w.dch ch).filt = level then w
  else
    let w := w.dchSet ch fun c => { c with filt := level }
    let w := w.when level fun w => w.incWrap (DCH.COUNT ch) DCH.COUNT_EDGES
    w.when (w.flag (DCH.CFG ch) DCH.CFG_SOEEN) fun w => w.evFlag (dioPage (ch / 8)) (ch % 8) (DCH.STAT ch) 0 level

/-- A reset filter takes the raw state at once (R219). -/
def Work.filtReset (w : Work) (ch : Nat) : Work := if w.dioMode ch = 1 then w.dioFilt ch (w.dch ch).raw else w

/-- Every input filter of the group is reset and refills (R232). -/
def Work.dioRefill (w : Work) (g : Nat) : Work :=
  w.each (groupChs g) fun w ch => (w.filtReset ch).dchSet ch fun c => { c with refill := decide (w.dioMode ch = 1) }

/-- VFMEAS.VF in 10 mV. -/
def Work.vfSeen (w : Work) (g mv : Nat) : Work :=
  ((w.dioHeard g).dgrpSet g fun s => { s with vf := mv }).put (DIO.VFMEAS g) DIO.VFMEAS_VF (min (mv / 10) 65535)

/-- VF_CUT (R229): below 15.5 V for 200 µs from UP, QUALIFY or AWAITACK; QUALIFY is left at less than 19.5 V. -/
def vfCut (g mv : Nat) (w : Work) : Work :=
  if w.dioLive g = false then w
  else
    let w := w.vfSeen g mv
    let v := w.vstate g
    if ((v = vsUp ∨ v = vsAwait) ∧ mv < 15500) ∨ (v = vsQualify ∧ mv < 19500) then
      (w.dgrpSet g fun s => { s with testing := false }).vsEnter g vsCut
    else w

/-- VF_RESTORE (R229): at 19.5 V a group in CUT enters QUALIFY; at the first entry after page enable the start-up test runs. -/
def vfRestore (g mv : Nat) (w : Work) : Work :=
  if w.dioLive g = false then w
  else
    let w := w.vfSeen g mv
    if w.vstate g = vsCut ∧ 19500 ≤ mv then
      (w.dgrpSet g fun s => { s with testing := s.needTest }).vsEnter g vsQualify
    else w

/-- The group enters FAULT (R228, R229): its group switch open, its health Degraded-Replace. -/
def Work.dioFault (w : Work) (g reason : Nat) : Work :=
  let w := (w.dgrpSet g fun s => { s with fault := true, testing := false }).putB (DIO.GSTAT g) DIO.GSTAT_GSWOPEN true
  (w.vsEnter g vsFault).blockFault (dioPage g) reason 0x09 true

/-- DIO_START_TEST_END (R228, R229). -/
def dioStartTestEnd (g : Nat) (pass : Bool) (w : Work) : Work :=
  if w.dioLive g = false ∨ w.vstate g ≠ vsQualify ∨ (w.dgrp g).testing = false then w
  else if pass then
    (w.dgrpSet g fun s => { s with testing := false, needTest := false }).blockFault (dioPage g) 0x04 0x09 false
  else w.dioFault g 0x04

/-- VF_QUALIFIED (R229, R230, R232): 50 ms at 19.5 V with any start-up test passed. -/
def vfQualified (g : Nat) (w : Work) : Work :=
  if w.dioLive g = false ∨ w.vstate g ≠ vsQualify ∨ (w.dgrp g).testing ∨ (w.dgrp g).vf < 19500 then w
  else
    let up := w.flag (DIO.GSTAT g) DIO.GSTAT_NEVERUP || w.flag (DIO.GCFG g) DIO.GCFG_AUTOREST
    (w.dioRefill g).vsEnter g (if up then vsUp else vsAwait)

/-- VF_WARN (R229): each rise and each clearing is recorded (R226). -/
def vfWarn (g mv : Nat) (w : Work) : Work :=
  if w.dioLive g = false then w
  else
    let w := w.vfSeen g mv
    let a := DIO.GSTAT g
    let set (on : Bool) : Work :=
      let w := w.flagIrq (dioPage g) a DIO.GSTAT_VFWARN on 17
      ((w.each (groupChs g) fun w ch => w.dioCond ch DCH.STAT_VFWARN on).dioShow g).evFlag (dioPage g) noSub a DIO.GSTAT_VFWARN.lo on
    if mv < 19200 ∧ w.flag a DIO.GSTAT_VFWARN = false then set true
    else if 19500 < mv ∧ w.flag a DIO.GSTAT_VFWARN then set false
    else w

/-- OUTPUT_RESTORE (R230): the next output whose effective command is on now is switched on; the last of them ends the turn. -/
def outputRestore (g : Nat) (w : Work) : Work :=
  if w.dioLive g = false ∨ w.vstate g ≠ vsUp then w
  else match (w.dgrp g).next with
    | none => w
    | some k =>
      match w.dioWantedFrom g k with
      | j :: _ :: _ => (w.dgrpSet g fun s => { s with next := some (j + 1) }).dioShow g
      | _ => (w.dgrpSet g fun s => { s with next := none }).dioShow g

/-- An acknowledgement that reaches the group (R231): it acts in AWAITACK alone. -/
def Work.vfAckReach (w : Work) (g : Nat) : Work := if w.vstate g = vsAwait then w.vsEnter g vsUp else w

/-! Inputs -/

/-- DI_FILTER_CHANGE (R219, R220, R222): the filter reaches a level, with a raw state that holds that level. -/
def diFilterChange (ch : Nat) (level : Bool) (w : Work) : Work :=
  let g := ch / 8
  if w.dioLive g = false ∨ w.dioMode ch ≠ 1 ∨ (w.dgrp g).dark ∨ (w.dch ch).filt = level then w
  else
    (((w.dioHeard g).dchSet ch fun c => { c with raw := level }).dioFilt ch level).dioShowCh ch

/-- DI_WIREBRK (R221): at or below 0.25 mA, or at or above 0.35 mA, for tF; `cur` in 10 µA. -/
def diWirebrk (ch cur : Nat) (w : Work) : Work :=
  let g := ch / 8
  if w.dioLive g = false ∨ w.dioMode ch ≠ 1 ∨ w.flag (DCH.CFG ch) DCH.CFG_WBEN = false ∨ (w.dgrp g).dark then w
  else
    let w := (w.dioHeard g).put (DCH.CUR ch) DCH.CUR_I (min cur 65535)
    if cur ≤ 25 then (w.dioCond ch DCH.STAT_WIREBRK true).dioShowCh ch
    else if 35 ≤ cur then (w.dioCond ch DCH.STAT_WIREBRK false).dioShowCh ch
    else w

/-- DI_REFILL_END (R232): tF has passed since the filter was reset; the input takes its quality from R220. -/
def diRefillEnd (ch : Nat) (w : Work) : Work :=
  if w.dioLive (ch / 8) = false ∨ (w.dch ch).refill = false then w
  else (w.dchSet ch fun c => { c with refill := false }).dioShowCh ch

/-! Outputs -/

/-- OUTPUT_OVERLOAD (R224): the output switches off; each switch-off is counted and recorded. -/
def outputOverload (ch : Nat) (w : Work) : Work :=
  let g := ch / 8
  if w.dioLive g = false ∨ w.dioEff ch = false then w
  else
    let w := ((w.dioHeard g).incSat (DCH.COUNT ch) DCH.COUNT_TRIPCNT).dioCondRec ch DCH.STAT_OVERLOAD true
    (w.evOccur (dioPage g) (ch % 8) (DCH.STAT ch) 17 (w.get (DCH.COUNT ch) DCH.COUNT_TRIPCNT)).dioShowCh ch

/-- OVERLOAD_RETRY (R224): a retry that does not reach the limit within tOL clears OVERLOAD. -/
def overloadRetry (ch : Nat) (limit : Bool) (w : Work) : Work :=
  if w.dioLive (ch / 8) = false ∨ w.dioEff ch = false ∨ w.flag (DCH.STAT ch) DCH.STAT_OVERLOAD = false ∨ limit then w
  else (w.dioCondRec ch DCH.STAT_OVERLOAD false).dioShowCh ch

/-- GROUP_SHED (R225): above 4.2 A, or 1 ms after a shed still not below 4.0 A, the highest output that is on is shed; `cur` in mA. -/
def groupShed (g cur : Nat) (w : Work) : Work :=
  if w.dioLive g = false ∨ w.vstate g ≠ vsUp then w
  else
    let w := (w.dioHeard g).put (DIO.VFMEAS g) DIO.VFMEAS_IGRP (min cur 65535)
    if 4200 < cur ∨ ((w.dgrp g).shedding ∧ 4000 ≤ cur) then
      match (groupChs g).reverse.find? fun ch => w.dioEff ch && !w.flag (DCH.STAT ch) DCH.STAT_OVERLOAD with
      | some ch => ((w.dgrpSet g fun s => { s with shedding := true }).dioCondRec ch DCH.STAT_SHED true).dioShow g
      | none => w
    else if cur < 4000 then w.dgrpSet g fun s => { s with shedding := false }
    else w

/-- DO_DIAG_PERSIST (R226, R228, R247): evaluated in UP only, each condition against the command it names. -/
def doDiagPersist (ch : Nat) (d : DoDiag) (present : Bool) (w : Work) : Work :=
  let g := ch / 8
  if w.dioLive g = false ∨ w.dioMode ch ≠ 2 ∨ w.vstate g ≠ vsUp ∨ (w.dgrp g).dark then w
  else
    let w := w.dioHeard g
    let on := w.dioEff ch
    match d with
    | .stuckOn =>
      if present then
        if on then w else (w.dioCondRec ch DCH.STAT_STUCKON true).dioFault g 0x01
      else ((w.dioCondRec ch DCH.STAT_STUCKON false).blockFault (dioPage g) 0x01 0x09 false).dioShowCh ch
    | .rbFail =>
      if present ∧ (on = false ∨ w.flag (DCH.STAT ch) DCH.STAT_OVERLOAD) then w
      else
        let w := w.dioCondRec ch DCH.STAT_RBFAIL present
        let any := (groupChs g).any fun c => w.flag (DCH.STAT c) DCH.STAT_RBFAIL
        (w.blockFault (dioPage g) 0x02 0x09 any).dioShowCh ch
    | .backFed =>
      if present ∧ (on ∨ w.flag (DCH.CFG ch) DCH.CFG_PAIRED) then w else (w.dioCondRec ch DCH.STAT_BACKFED present).dioShowCh ch
    | .openLoad =>
      if present ∧ (on = false ∨ w.flag (DCH.CFG ch) DCH.CFG_OLEN = false) then w
      else (w.dioCondRec ch DCH.STAT_OPENLOAD present).dioShowCh ch

/-- GROUP_LINK_LOST (R228): the group switch opens and every output goes off. -/
def groupLinkLost (g : Nat) (w : Work) : Work :=
  if 8 ≤ g then w
  else
    let w := w.dgrpSet g fun s => { s with link := false }
    if w.dioLive g then w.dioShow g else w

/-- A group's island stops or resumes answering (R220, R247): GROUP_DARK while VFn is at or above 19.5 V. -/
def Work.dioDark (w : Work) (g : Nat) (dark : Bool) (vfMv : Nat) : Work :=
  let w := w.dgrpSet g fun s => { s with dark := dark, vf := vfMv }
  if w.dioLive g then
    let w := w.each (groupChs g) fun w ch => w.dioCond ch DCH.STAT_DARK dark
    (w.blockFault (dioPage g) 0x03 0x09 (dark && decide (19500 ≤ vfMv))).dioShow g
  else w

/-- GROUP_ISLAND_DARK (R193, R220, R226, R247). A SENS page has no reason of its own for it: the module reason CHANNEL rises (R96;
DEDUCED, log entry 25). -/
def groupIslandDark (dio : Bool) (g : Nat) (dark : Bool) (vfMv : Nat) (w : Work) : Work :=
  if dio then (if g < 8 then w.dioDark g dark vfMv else w)
  else if g < 4 then (w.sensDark g dark).cause 0x09 (sensPage g) 0x03 dark
  else w

/-- A DIO page starts, or is soft-reset (R229, R235): CUT, NEVERUP, filters reset, outputs off; a group in FAULT stays there. An island
that does not answer shows DARK, and GROUP_DARK while its supply is there (R220, R247). -/
def Work.dioStart (w : Work) (g : Nat) (enable : Bool) : Work :=
  let fault := (w.dgrp g).fault
  let w := w.dgrpSet g fun s => { s with needTest := enable || s.needTest, testing := false, next := none, shedding := false, link := true }
  let w := (w.putB (DIO.GSTAT g) DIO.GSTAT_NEVERUP true).putB (DIO.GSTAT g) DIO.GSTAT_GSWOPEN fault
  let w := w.each (groupChs g) fun w ch =>
    ((((w.filtReset ch).dchSet ch fun c => { c with refill := false, shedOff := false }).wr (DCH.COUNT ch) 0).putB (DCH.STAT ch)
      DCH.STAT_IN false).dioCond ch DCH.STAT_DARK (w.dgrp g).dark
  let w := w.blockFault (dioPage g) 0x03 0x09 ((w.dgrp g).dark && decide (19500 ≤ (w.dgrp g).vf))
  w.vsEnter g (if fault then vsFault else vsCut)

/-! Writes to a DIO page -/

/-- The refusals of a write beside lock and role (R216, R219, R241, R243, R244). -/
def Work.dioCheck (w : Work) (p : Party) (a : Nat) (old new : Word) : List (Nat × Nat) :=
  let off := a % 4096
  let held := decide (w.x.mode = .held) || decide (w.x.mode = .ready)
  if off = 0x54 then
    chk DIO.GOUT_OUT old new (decide (p ≠ .program) && (decide (w.x.mode = .run) || decide (w.x.mode = .hold))) rejState
  else if 0x100 ≤ off ∧ off < 0x300 then
    if off % 0x40 = 0 then
      chk DCH.CFG_MODE old new (!held) rejState ++ chk DCH.CFG_MODE old new (decide (DCH.CFG_MODE.get new = 3)) rejRange
    else if off % 0x40 = 4 then
      let t := DCH.FILT_FTIME.get new
      let c := DCH.FILT_CMAX.get new
      let m := DCH.FILT_FMODE.get new
      let long := decide (m = 1) && (decide (c < 2) || decide (10000 < c * t))
      chk DCH.FILT_FTIME old new (decide (t < 1) || decide (10000 < t) || long) rejRange
        ++ chk DCH.FILT_CMAX old new long rejRange ++ chk DCH.FILT_FMODE old new long rejRange
    else []
  else []

/-- What a channel shows of the mode it leaves ends: an output's conditions (R226), an input's wire break and published state (R216). -/
def Work.dioLeave (w : Work) (ch : Nat) : Work :=
  let w := w.each [DCH.STAT_OVERLOAD, DCH.STAT_SHED, DCH.STAT_STUCKON, DCH.STAT_RBFAIL, DCH.STAT_BACKFED, DCH.STAT_OPENLOAD]
    fun w f => w.dioCondRec ch f false
  let g := ch / 8
  let any (f : Fld) : Bool := (groupChs g).any fun c => w.flag (DCH.STAT c) f
  let w := (w.blockFault (dioPage g) 0x01 0x09 (any DCH.STAT_STUCKON)).blockFault (dioPage g) 0x02 0x09 (any DCH.STAT_RBFAIL)
  ((w.dioCond ch DCH.STAT_WIREBRK false).putB (DCH.STAT ch) DCH.STAT_IN false).dchSet ch fun c => { c with refill := false, shedOff := false }

/-- What follows a write to a DIO page: outputs follow; a change of MODE ends what the channel showed and starts its filter (log entry
197); wire-break detection that is switched off shows nothing. -/
def Work.dioWritten (w : Work) (g a : Nat) (old : Word) : Work :=
  let off := a % 4096
  if off = 0x54 ∨ off = 0x58 then w.dioRefresh g
  else if 0x100 ≤ off ∧ off < 0x300 ∧ off % 0x40 = 0 then
    let ch := 8 * g + (off - 0x100) / 0x40
    if DCH.CFG_MODE.get old ≠ w.dioMode ch then
      ((w.dioLeave ch).filtReset ch).dioRefresh g
    else (if w.flag (DCH.CFG ch) DCH.CFG_WBEN then w else w.dioCond ch DCH.STAT_WIREBRK false).dioRefresh g
  else w

end Sys2Proof.Machine
end

