-- ==== Sys2Proof/Machine/Safety.lean ====
section
/-! DEFINITION. The safety section (chapter 08): inputs and test pulses, functions, outputs and their tests, degraded mode, section
states, sealing, password and change log. -/

namespace Sys2Proof.Machine

/-- FSTATE codes (R285). -/
def fsNone : Nat := 0
def fsSafe : Nat := 1
def fsWait : Nat := 2
def fsRun : Nat := 3
def fsStopping : Nat := 4
def fsLocked : Nat := 5

/-- SSTATE codes (R284). -/
def ssStartup : Nat := 0
def ssUnsealed : Nat := 1
def ssIdle : Nat := 2
def ssActive : Nat := 3
def ssTripped : Nat := 4
def ssFault : Nat := 5

/-- The SAFE page. -/
def safePage : Nat := 0x030

/-- What processor `v` (0 Safety A, 1 Safety B) holds of a function; an input as its own side reads it; an output (R248). -/
def Work.sfn (w : Work) (v f : Nat) : SFn := tabGet {} w.x.safe.fns (8 * v + f)
def Work.sin (w : Work) (i : Nat) : SIn := tabGet {} w.x.safe.ins i
def Work.sout (w : Work) (n : Nat) : SOut := tabGet {} w.x.safe.outs n

/-- An input as processor `v` knows it: its own side's as it reads it, the other side's as of the last exchange (R248). -/
def Work.sinAt (w : Work) (v i : Nat) : SIn := if i / 8 = v then w.sin i else tabGet {} w.x.safe.seen i

/-- Change the section's state, a function, an input, an output. -/
def Work.safeUpd (w : Work) (f : SafeSt → SafeSt) : Work := w.upd fun x => { x with safe := f x.safe }
def Work.sfnSet (w : Work) (v f : Nat) (g : SFn → SFn) : Work :=
  w.safeUpd fun s => { s with fns := tabSet s.fns (8 * v + f) (g (tabGet {} s.fns (8 * v + f))) }
def Work.sinSet (w : Work) (i : Nat) (g : SIn → SIn) : Work := w.safeUpd fun s => { s with ins := tabSet s.ins i (g (tabGet {} s.ins i)) }
def Work.soutSet (w : Work) (n : Nat) (g : SOut → SOut) : Work := w.safeUpd fun s => { s with outs := tabSet s.outs n (g (tabGet {} s.outs n)) }

/-- Sealed parameters of a function (R283). -/
def Work.fType (w : Work) (f : Nat) : Nat := w.get (SAFE.FCFG0 f) SAFE.FCFG0_TYPE
def Work.fMask (w : Work) (f : Nat) : Nat := w.get (SAFE.FCFG0 f) SAFE.FCFG0_OUTMASK
def Work.fReset (w : Work) (f : Nat) : Nat := w.get (SAFE.FCFG0 f) SAFE.FCFG0_RESET
def Work.fCat (w : Work) (f : Nat) : Nat := w.get (SAFE.FCFG0 f) SAFE.FCFG0_CAT
def Work.fGrace (w : Work) (f : Nat) : Nat := w.get (SAFE.FCFG1 f) SAFE.FCFG1_GRACE

/-- Does function f map output n (R259)? -/
def Work.fMaps (w : Work) (f n : Nat) : Bool := (w.fMask f).testBit n

/-- The functions that map an output. -/
def Work.mappers (w : Work) (n : Nat) : List Nat := (List.range 8).filter fun f => decide (w.fType f ≠ 0) && w.fMaps f n

/-- A channel is faulted (R253). -/
def SIn.faulted (i : SIn) : Bool := i.xfault || i.cross || i.hwf

/-- Channel A and B of a slot satisfied, as processor `v` knows them (R254, R260): B of an antivalent ESTOP or GUARD, and of a button, is
satisfied when open. -/
def Work.satA (w : Work) (v f : Nat) : Bool := (w.sinAt v f).closed
def Work.satB (w : Work) (v f : Nat) : Bool :=
  let ty := w.fType f
  let anti := (w.flag (SAFE.FCFG0 f) SAFE.FCFG0_ARR && (decide (ty = 1) || decide (ty = 2))) || decide (ty = 3) || decide (ty = 4)
  if anti then !(w.sinAt v (f + 8)).closed else (w.sinAt v (f + 8)).closed

/-- A button is actuated: A closed and B open (R260). -/
def Work.actuated (w : Work) (v f : Nat) : Bool := w.satA v f && w.satB v f

/-- A slot's channels healthy. -/
def Work.healthyA (w : Work) (v f : Nat) : Bool := !(w.sinAt v f).faulted
def Work.healthyB (w : Work) (v f : Nat) : Bool := !(w.sinAt v (f + 8)).faulted

/-- Does the section evaluate functions: IDLE or ACTIVE (R250)? -/
def Work.safeRuns (w : Work) : Bool := decide (w.x.safe.ss = ssIdle) || decide (w.x.safe.ss = ssActive)

/-! What the page shows (R285) -/

/-- FWHY code of a channel. -/
def whyOf (i : SIn) : Nat := if i.xfault then 1 else if i.cross then 2 else if i.hwf then 3 else 0

/-- Minutes of grace left, rounded up (R268). -/
def Work.graceRem (w : Work) (v f : Nat) : Nat := if (w.sfn v f).deg then ((w.sfn v f).graceEnd - w.now + 59999) / 60000 else 0

/-- FSTAT of a function, as processor `v` sees it. -/
def Work.fstatWord (w : Work) (v f : Nat) : Word :=
  let s := w.sfn v f
  let a := w.sinAt v f
  let c := w.sinAt v (f + 8)
  let b (x : Bool) : Nat := if x then 1 else 0
  BitVec.ofNat 32 (s.st + (if w.fType f = 0 then 0 else whyOf c * 2 ^ 4 + whyOf a * 2 ^ 6 + b (w.satA v f) * 2 ^ 8 + b (w.satB v f) * 2 ^ 9
      + b a.faulted * 2 ^ 10 + b c.faulted * 2 ^ 11)
    + b s.disc * 2 ^ 12 + b s.deg * 2 ^ 13 + min (w.graceRem v f) 65535 * 2 ^ 16)

/-- An output held in LOCKED (R264, R265, R267). -/
def SOut.locked (o : SOut) : Bool := o.hsfail || o.lsfail || o.hsext || o.lsext || o.ext || decide (o.extPass ≠ [])

/-- OSTAT of an output, as processor `v` sees it: ON while it has decided so; DARK or OTEST while a test runs. -/
def ostatWord (v : Nat) (test : Bool) (o : SOut) : Word :=
  let b (x : Bool) : Nat := if x then 1 else 0
  let st := if o.locked then 4 else if (if v = 0 then o.a else o.b) then (if test then 2 else 1) else if test then 3 else 0
  BitVec.ofNat 32 (st + b o.hsfail * 2 ^ 7 + b o.lsfail * 2 ^ 8 + b o.hsext * 2 ^ 9
    + b o.lsext * 2 ^ 10 + b o.overload * 2 ^ 11 + min o.otab 255 * 2 ^ 16 + min o.dpab 255 * 2 ^ 24)

/-- The module can read the section: up, with the SAFE page enabled. -/
def Work.safeSeen (w : Work) : Bool := w.alive && w.enabled safePage

/-- SSTATE as it reads: TRIPPED while the section is dark (R284). -/
def SafeSt.shown (s : SafeSt) : Nat := if s.dark then ssTripped else s.ss

/-- One processor's view is published (R285). -/
def Work.safeView (w : Work) (v : Nat) : Work :=
  if w.safeSeen then
    let w := w.each (List.range 8) fun w f => w.wr (SAFE.FSTAT v f) (w.fstatWord v f)
    let w := w.each (List.range 4) fun w n => w.wr (SAFE.OSTAT v n) (ostatWord v (w.x.safe.tests.contains n) (w.sout n))
    (w.put (SAFE.PSTAT v) SAFE.PSTAT_SSTATE w.x.safe.shown).putB (SAFE.PSTAT v) SAFE.PSTAT_XLOST w.x.safe.xlost
  else w

/-- SECSTAT and both views are published (R284, R285). -/
def Work.safeShow (w : Work) : Work :=
  if w.safeSeen then
    let s := w.x.safe
    let w := (w.put SAFE.SECSTAT SAFE.SECSTAT_SSTATE s.shown).put SAFE.SECSTAT SAFE.SECSTAT_TRIPWHY s.tripWhy
    (w.putB SAFE.SECSTAT SAFE.SECSTAT_VSWARN s.vsWarn).safeView 0 |>.safeView 1
  else w

/-- VSMEAS.VS in 10 mV. -/
def Work.vsShow (w : Work) : Work := w.when w.safeSeen fun w => w.put SAFE.VSMEAS SAFE.VSMEAS_VS (min (w.x.safe.vs / 10) 65535)

/-- The logic side's view starts anew (R282): what the section holds is shown, and no condition of it rises. -/
def Work.safeReview (w : Work) : Work := w.safeShow.vsShow

/-! Functions (R254 to R260, R268) -/

/-- A two-hand function's buttons are actuated as R260 asks: within 500 ms of each other, each released since the last RUN. -/
def Work.twoHandOk (w : Work) (v f : Nat) : Bool :=
  match (w.sfn v f).actAt, (w.sfn v (f + 1)).actAt with
  | some a, some b => decide (a ≤ b + 500) && decide (b ≤ a + 500) && (w.sfn v f).released && (w.sfn v (f + 1)).released
  | _, _ => false

/-- Both channels of a function satisfied, for a two-hand function both buttons (R254, R260). -/
def Work.fSatisfied (w : Work) (v f : Nat) : Bool :=
  if w.fType f = 3 then w.actuated v f && w.actuated v (f + 1) && w.twoHandOk v f else w.satA v f && w.satB v f

/-- A channel is faulted; for a two-hand function, on either slot. -/
def Work.fFaulted (w : Work) (v f : Nat) : Bool :=
  let one (k : Nat) : Bool := (w.sinAt v k).faulted || (w.sinAt v (k + 8)).faulted
  if w.fType f = 3 then one f || one (f + 1) else one f

/-- A demand on a healthy channel (R257). -/
def Work.fDemand (w : Work) (v f : Nat) : Bool :=
  if w.fType f = 3 then !(w.actuated v f && w.actuated v (f + 1))
  else (!w.satA v f && w.healthyA v f) || (!w.satB v f && w.healthyB v f)

/-- Both channels healthy and in demand at the same time: what ends LOCKED (R257). -/
def Work.fCleared (w : Work) (v f : Nat) : Bool :=
  if w.fType f = 3 then !w.fFaulted v f && !w.satA v f && !w.satB v f && !w.satA v (f + 1) && !w.satB v (f + 1)
  else !w.fFaulted v f && !w.satA v f && !w.satB v f

/-- Has either processor the function in degraded mode? -/
def Work.fDeg (w : Work) (f : Nat) : Bool := (w.sfn 0 f).deg || (w.sfn 1 f).deg

/-- Degraded mode ends on a processor; when it has ended on both, that is recorded (R269). -/
def Work.degEnd (w : Work) (v f : Nat) : Work :=
  let was := w.fDeg f
  let w := w.sfnSet v f fun s => { s with deg := false, low := false }
  w.when (was && !w.fDeg f) fun w => w.evFlag safePage f (SAFE.FSTAT 0 f) 13 false

/-- A function of a processor takes a state. Leaving RUN raises DEMAND and ends degraded mode, and a two-hand function asks for both buttons'
release; entering SAFE counts as passing through SAFE for the outputs it maps; leaving LOCKED clears DISC (R255, R260, R263, R267, R269,
R282). -/
def Work.fnState (w : Work) (v f st : Nat) : Work :=
  let s := w.sfn v f
  if s.st = st then w
  else
    let left := decide (s.st = fsRun)
    let w := w.when (left && decide (w.fType f ≠ 4) && decide (w.fType f ≠ 6)) fun w => w.irq safePage 16
    let w := w.when left fun w => w.degEnd v f
    let w := w.sfnSet v f fun s => { s with
      st := st, disc := if s.st = fsLocked then false else s.disc, graceOut := if s.st = fsLocked then false else s.graceOut }
    let w := w.when (left && decide (w.fType f = 3)) fun w =>
      w.each [f, f + 1] fun w k => w.sfnSet v k fun s => { s with released := !w.actuated v k }
    if st = fsSafe then
      w.each (List.range 4) fun w n => w.soutSet n fun o =>
        let rest (l : List Nat) : List Nat := l.filter fun g => decide (g ≠ 8 * v + f)
        { o with pass := rest o.pass, extPass := rest o.extPass, overload := o.overload && decide (rest o.pass ≠ []) }
    else w

/-- Degraded mode begins on a processor (R268, R269): DEG and the grace; with the first of the two the first alarm, and the second at once
where GRACE is 5 min or less. -/
def Work.fnDegrade (w : Work) (v f : Nat) : Work :=
  let now := w.now
  let grace := w.fGrace f
  let low := decide (grace ≤ 5)
  let first := !w.fDeg f
  let w := w.sfnSet v f fun s => { s with deg := true, graceEnd := now + grace * 60000, low := low }
  w.when first fun w =>
    let w := ((w.evFlag safePage f (SAFE.FSTAT 0 f) 13 true).irq safePage 17).newInstance 1014
    if low then ((w.evValue safePage f (SAFE.FSTAT 0 f) 16 grace).irq safePage 18).newInstance 1015 else w

/-- One step of a function through the table of R257 on a processor; a slot of TYPE RESET or PARTNER follows its contact (R256, R260). -/
def Work.fnStep (w : Work) (v f : Nat) : Work :=
  let ty := w.fType f
  let s := w.sfn v f
  if ty = 0 then w.fnState v f fsNone
  else if ty = 6 then w.fnState v f (if w.satA v f then fsRun else fsSafe)
  else if ty = 4 then w.fnState v f (if w.actuated v f then fsRun else fsSafe)
  else if s.st = fsNone then w.fnState v f fsSafe
  else if s.st = fsSafe then
    if w.fFaulted v f ∨ s.graceOut then w.fnState v f fsLocked
    else if w.fSatisfied v f then w.fnState v f fsWait else w
  else if s.st = fsWait then
    if w.fFaulted v f then w.fnState v f fsLocked
    else if w.fDemand v f then w.fnState v f fsSafe
    else if w.fReset f = 0 ∧ w.x.safe.ss = ssActive then w.fnState v f fsRun
    else w
  else if s.st = fsRun then
    let leave (w : Work) : Work := w.fnState v f (if w.fCat f = 1 ∧ ty ≠ 3 then fsStopping else fsSafe)
    let fa := (w.sinAt v f).faulted
    let fb := (w.sinAt v (f + 8)).faulted
    let graced := (decide (ty = 1) || decide (ty = 2) || decide (ty = 5)) && decide (w.fGrace f ≠ 0)
    if w.fDemand v f ∨ (ty = 3 ∧ w.fFaulted v f) ∨ (fa ∧ fb) ∨ ((fa ∨ fb) ∧ graced = false) then leave w
    else if (fa ∨ fb) ∧ s.deg = false then w.fnDegrade v f
    else w
  else if s.st = fsLocked then (if w.fCleared v f then w.fnState v f fsSafe else w)
  else w

/-! Outputs (R262) -/

/-- PREQ.STOP in force (R273, R274). -/
def Work.preqStop (w : Work) : Nat := if w.x.safe.wdStop then 15 else w.get SAFE.PREQ SAFE.PREQ_STOP

/-- The conditions of R262, as processor `v` finds them. -/
def Work.outWanted (w : Work) (v n : Nat) : Bool :=
  let m := w.mappers n
  let o := w.sout n
  decide (w.x.safe.ss = ssActive) && !w.x.safe.dark && decide (m ≠ [])
    && m.all (fun f => decide ((w.sfn v f).st = fsRun) || decide ((w.sfn v f).st = fsStopping))
    && !(w.preqStop).testBit n && !o.locked && !o.overload

/-- Each processor decides on every output, and its own switch follows (R248). -/
def Work.outsFollow (w : Work) : Work :=
  w.each (List.range 4) fun w n =>
    let a := w.outWanted 0 n
    let b := w.outWanted 1 n
    w.soutSet n fun o => { o with a := a, b := b }

/-- A processor evaluates its functions, each to rest within the states that follow at once. -/
def Work.fnsEval (w : Work) (v : Nat) : Work :=
  if w.safeRuns then w.each (List.range 3) fun w _ => w.each (List.range 8) fun w f => w.fnStep v f else w

/-- Both processors evaluate their functions and decide on the outputs. -/
def Work.safeEval (w : Work) : Work := ((w.fnsEval 0).fnsEval 1).outsFollow

/-- Evaluate and publish both views. -/
def Work.safeAct (w : Work) : Work := w.safeEval.safeShow

/-! Section states (R272) -/

/-- Something done for each function of each processor. -/
def Work.eachFn (w : Work) (g : Work → Nat → Nat → Work) : Work := w.each [0, 1] fun w v => w.each (List.range 8) fun w f => g w v f

/-- Every function SAFE: the section starts or trips (R257, R272). -/
def Work.fnsSafe (w : Work) : Work := w.eachFn fun w v f => w.fnState v f (if w.fType f = 0 then fsNone else fsSafe)

/-- RUN and STOPPING end when the section leaves ACTIVE (R257). -/
def Work.fnsLeaveActive (w : Work) : Work :=
  w.eachFn fun w v f =>
    let s := w.sfn v f
    if w.fType f = 4 ∨ w.fType f = 6 then w
    else if s.st = fsStopping ∧ w.fFaulted v f then w.fnState v f fsLocked
    else if s.st = fsRun ∨ s.st = fsStopping then w.fnState v f fsSafe else w

/-- What follows a change of the section's state or of its supply: SECTION is raised where SSTATE reads another value (R282). -/
def Work.sectionActs (w : Work) (shown : Nat) : Work :=
  w.safeAct.when (w.safeSeen && decide (w.x.safe.shown ≠ shown)) fun w => w.irq safePage 20

/-- The section takes a state. -/
def Work.ssEnter (w : Work) (ss : Nat) : Work :=
  let old := w.x.safe
  let w := w.safeUpd fun s => { s with ss := ss }
  let w := if ss = ssTripped ∨ ss = ssStartup then w.fnsSafe
    else if old.ss = ssActive ∧ ss ≠ ssActive then w.fnsLeaveActive else w
  w.sectionActs old.shown

/-- TRIPWHY takes a cause. -/
def Work.tripWhy (w : Work) (n : Nat) : Work := w.safeUpd fun s => { s with tripWhy := n }

/-- The module is in Ready, Run or Hold. -/
def Work.serving (w : Work) : Bool := decide (w.x.mode = .ready) || decide (w.x.mode = .run) || decide (w.x.mode = .hold)

/-- The section follows the module's state (R272): ACTIVE with Ready, Run and Hold, else IDLE. -/
def Work.safeModule (w : Work) : Work :=
  if w.x.safe.ss = ssIdle ∧ w.serving then w.ssEnter ssActive
  else if w.x.safe.ss = ssActive ∧ w.serving = false then w.ssEnter ssIdle
  else w.safeShow

/-- The section enters FAULT (R272, R287). -/
def Work.safeFault (w : Work) (why pcode : Nat) : Work :=
  (((w.tripWhy why).safeUpd fun s => { s with powered := false, testing := false, needStart := false }).ssEnter ssFault).blockFault safePage
    pcode 0x0C true

/-- The section's start-up test begins where it is owed, with the keep-alive present and VS above 19.5 V (R272): in STARTUP, or in FAULT after
a Power-up. -/
def Work.safeBegin (w : Work) : Work :=
  let s := w.x.safe
  if s.needStart ∧ s.ka ∧ s.dark = false ∧ 19500 < s.vs ∧ (s.ss = ssFault → s.powered = true) then
    let w := w.safeUpd fun s => { s with needStart := false, testing := true }
    if s.ss = ssFault then w.safeShow else w.ssEnter ssStartup
  else w.safeShow

/-- The module enters Power-up: the section owes its start-up test (R272). -/
def Work.safePowerUp (w : Work) : Work := w.safeUpd fun s => { s with needStart := true, powered := true }

/-- The logic side's keep-alive is present (R271): a section that waited for it starts (R272). It runs from the module's entry into
Held or Ready (DEDUCED, log entry 28). -/
def Work.keepalive (w : Work) : Work := (w.safeUpd fun s => { s with ka := true, kaLost := false }).safeBegin

/-- A button's actuation is timed, its release noted, as a processor knows them (R260). -/
def Work.buttonNote (w : Work) (v f : Nat) : Work :=
  if w.fType f = 3 ∨ w.fType f = 4 then
    let a := w.actuated v f
    let now := w.now
    w.sfnSet v f fun s => { s with actAt := if a then (if s.actAt.isSome then s.actAt else some now) else none, released := s.released || !a }
  else w

/-- A reset event reaches a function of a processor (R256): it acts in WAIT_RESET while the section is ACTIVE. -/
def Work.fnReset (w : Work) (v f : Nat) : Work :=
  if (w.sfn v f).st = fsWait ∧ w.x.safe.ss = ssActive then w.fnState v f fsRun else w

/-- CROSSLINK_EXCHANGE (R248): each processor takes the other side's inputs, evaluates, and Safety B takes the reset events of Safety A's
inputs. A keep-alive that has returned is noticed here (DEDUCED, log entry 29). -/
def crosslinkExchange (w : Work) : Work :=
  if w.x.safe.dark then w
  else
    let w := w.safeUpd fun s => { s with seen := s.ins, xlost := false }
    if w.x.safe.ss = ssFault then w.safeShow
    else
      let w := w.eachFn fun w v f => w.buttonNote v f
      let w := if w.x.safe.kaLost ∧ (w.x.mode = .held ∨ w.serving) then w.keepalive else w
      let w := ((w.fnsEval 0).fnsEval 1).each w.x.safe.resets fun w f => w.fnReset 1 f
      (w.safeUpd fun s => { s with resets := [] }).safeAct

/-- XLINK_LOST (R272). -/
def xlinkLost (w : Work) : Work :=
  if w.x.safe.dark ∨ w.x.safe.ss = ssFault then w
  else (w.safeUpd fun s => { s with xlost := true }).safeFault 5 0x01

/-- AB_DISAGREE (R272). -/
def abDisagree (w : Work) : Work :=
  if w.x.safe.dark ∨ w.x.safe.ss = ssFault then w else w.safeFault 4 0x01

/-- SAFETY_SELF_CHECK (R253, R272, R287): HWF on an input, or a processor failed. -/
def safetySelfCheck (input : Option Nat) (w : Work) : Work :=
  if w.x.safe.dark ∨ w.x.safe.ss = ssFault then w
  else match input with
    | some i => if 16 ≤ i then w
      else ((w.sinSet i fun s => { s with hwf := true }).blockFault safePage 0x03 0x0C true).safeAct
    | none => w.safeFault 5 0x01

/-- SAFETY_KEEPALIVE_LOST (R271, R272): the section trips and starts again when the keep-alive returns. -/
def safetyKeepaliveLost (w : Work) : Work :=
  if w.x.safe.ka = false then w
  else
    let w := w.safeUpd fun s => { s with ka := false, kaLost := true, testing := false, needStart := s.needStart || s.testing || decide (s.ss ≠ ssFault) }
    if w.safeRuns then (w.tripWhy 3).ssEnter ssTripped else w.safeShow

/-- VS is measured (R270): below 19.2 V VSWARN is set, above 19.5 V it clears. -/
def Work.vsSeen (w : Work) (mv : Nat) : Work :=
  (w.safeUpd fun s => { s with vs := mv, vsWarn := if mv < 19200 then true else if 19500 < mv then false else s.vsWarn }).vsShow

/-- VS_WARN (R270). -/
def vsWarn (mv : Nat) (w : Work) : Work := (w.vsSeen mv).safeBegin

/-- VS_TRIP (R270, R272). -/
def vsTrip (mv : Nat) (w : Work) : Work :=
  let w := (w.safeUpd fun s => { s with vs := mv }).vsShow
  if w.safeRuns ∧ (mv < 16000 ∨ 32000 < mv) then (w.tripWhy (if mv < 16000 then 1 else 2)).ssEnter ssTripped else w.safeShow

/-- SAFETY_DARK (R270): SSTATE reads TRIPPED while the section is dark (R284); FAULT outlasts it. Its start-up test is owed again. -/
def safetyDark (w : Work) : Work :=
  let shown := w.x.safe.shown
  let w := (w.safeUpd fun s => { s with
    dark := true, vs := 0, testing := false, needStart := s.needStart || s.testing || decide (s.ss ≠ ssFault) }).vsShow
  let w := if w.x.safe.ss = ssFault then w else (w.safeUpd fun s => { s with ss := ssTripped }).fnsSafe
  w.sectionActs shown

/-- VS_RESTORE (R270, R272): a dark section starts; one tripped by its supply returns to IDLE, and on to ACTIVE. -/
def vsRestore (mv : Nat) (w : Work) : Work :=
  if mv ≤ 19500 ∨ 32000 < mv then w
  else
    let s := w.x.safe
    let w := (w.safeUpd fun s => { s with dark := false }).vsSeen mv
    if w.x.safe.needStart then (w.sectionActs s.shown).safeBegin
    else if s.ss = ssTripped ∧ s.ka then ((w.tripWhy 0).ssEnter ssIdle).safeModule
    else w.sectionActs s.shown

/-! The change log (R279) -/

/-- The bytes of an entry before its CHECK. -/
def CLog.bytes (e : CLog) : List Byte :=
  bytesOfNat 4 e.seq ++ bytesOfNat 1 e.kind ++ bytesOfNat 1 e.result ++ bytesOfNat 2 e.user ++ bytesOfWord e.oldSig ++ bytesOfWord e.newSig
    ++ bytesOfNat 4 e.pcycle ++ bytesOfNat 4 0 ++ bytesOfNat 8 e.optime ++ bytesOfNat 8 e.nettime ++ bytesOfNat 1 (if e.tvalid then 1 else 0)
    ++ bytesOfNat 7 0 ++ bytesOfWord e.imgid ++ bytesOfNat 8 0

/-- CLOGDATA presents the entry CLOGSEQ names; all 0 if it is not held (R284). -/
def Work.clogShow (w : Work) : Work :=
  let seq := (w.rd SAFE.CLOGSEQ).toNat
  let ws := match w.x.safe.clog.find? (fun e => decide (e.seq = seq)) with
    | some e => wordsOfBytes 15 e.bytes ++ [crc32 e.bytes]
    | none => []
  w.each (List.range 16) fun w i => w.wr (SAFE.CLOGDATA i) (ws.getD i 0)

/-- An entry is written; when 1,024 are held, the oldest is overwritten; CLOG is raised (R279, R282). -/
def Work.clogAdd (w : Work) (kind result user : Nat) (oldSig : Word) : Work :=
  let e : CLog := {
    seq := w.x.safe.nextSeq, kind := kind, result := result, user := user, oldSig := oldSig, newSig := w.rd SAFE.SIG,
    pcycle := (w.rd CUPOLA.PCYCLE).toNat, optime := w.now, nettime := w.net, tvalid := w.flag TIME.STAT TIME.STAT_VALID,
    imgid := w.rd SYS.ACTID }
  let w := w.safeUpd fun s => { s with clog := s.clog.drop (s.clog.length - 1023) ++ [e], nextSeq := s.nextSeq + 1 }
  ((w.wr SAFE.CLOGHEAD (BitVec.ofNat 32 e.seq)).irq safePage 21).clogShow

/-! Start-up and seal (R272, R275, R276) -/

/-- What R276 refuses, over the eight slots' FCFG0 and FCFG1. An unused slot has no function, but reserved encodings and the bounds hold for
it too, save DISC's, which 0 in an unused slot meets (DEDUCED, log entry 199). -/
def sealBad (cfg : Nat → Nat × Nat) : Bool :=
  let fld (v lo w : Nat) : Nat := v / 2 ^ lo % 2 ^ w
  let ty (f : Nat) := fld (cfg f).1 28 4
  let mask (f : Nat) := fld (cfg f).1 24 4
  let rst (f : Nat) := fld (cfg f).1 22 2
  let rstf (f : Nat) := fld (cfg f).1 19 3
  let arr (f : Nat) := fld (cfg f).1 18 1
  let tpa (f : Nat) := fld (cfg f).1 16 2
  let tpb (f : Nat) := fld (cfg f).1 14 2
  let cat (f : Nat) := fld (cfg f).1 10 2
  let disc (f : Nat) := fld (cfg f).1 0 10
  let stop (f : Nat) := fld (cfg f).2 16 16
  let grace (f : Nat) := fld (cfg f).2 0 16
  (List.range 8).any fun f =>
    decide (6 < ty f) || decide (rst f = 3) || decide (tpa f = 3) || decide (tpb f = 3) || decide (1 < cat f)
      || decide (3000 < stop f) || decide (1440 < grace f) || decide (50 < disc f) || (decide (ty f ≠ 0) && decide (disc f < 1))
      || (decide (ty f = 1) && decide (rst f = 0))
      || (decide (ty f = 3) && (decide (f % 2 = 1) || decide (ty (f + 1) ≠ 4) || decide (arr f = 0) || decide (cat f = 1) || decide (rst f ≠ 0)
          || decide (mask (f + 1) ≠ 0)))
      || (decide (ty f ≠ 0) && decide (rst f = 1) && decide (ty (rstf f) ≠ 6))
      || (decide (ty f = 6) && decide (mask f ≠ 0))
      || (decide (ty f = 5) && (decide (tpa f ≠ 0) || decide (tpb f ≠ 0)))

/-- The sealed configuration as R276 reads it. -/
def Work.sealedCfg (w : Work) (f : Nat) : Nat × Nat := ((w.rd (SAFE.FCFG0 f)).toNat, (w.rd (SAFE.FCFG1 f)).toNat)

/-- The section enters UNSEALED, and the change log says so (R272). -/
def Work.unseal (w : Work) : Work :=
  if w.x.safe.ss = ssUnsealed then w.safeShow else ((w.ssEnter ssUnsealed).clogAdd 0x05 0 0 (w.rd SAFE.SIG)).safeShow

/-- SAFETY_STARTUP_DONE (R272). -/
def safetyStartupDone (pass : Bool) (w : Work) : Work :=
  if w.x.safe.testing = false then w
  else if pass = false then w.safeFault 5 0x04
  else
    let w := w.safeUpd fun s => { s with
      testing := false
      xlost := false
      ins := s.ins.map (fun e => (e.1, { e.2 with hwf := false }))
      outs := s.outs.map (fun e => (e.1, { e.2 with hsfail := false, lsfail := false })) }
    let w := ((((w.blockFault safePage 0x01 0x0C false).blockFault safePage 0x02 0x0C false).blockFault safePage 0x03 0x0C false).blockFault
      safePage 0x04 0x0C false).tripWhy 0
    let sig := w.rd SAFE.SIG
    if w.x.safe.sealed = false ∨ sig ≠ w.x.safe.sigA ∨ sig ≠ w.x.safe.sigB ∨ sig ≠ w.rd SAFE.PENDSIG ∨ sealBad w.sealedCfg then w.unseal
    else (w.ssEnter ssIdle).safeModule

/-! Inputs -/

/-- SI_DEMAND (R248, R253, R257): the input has held a level for SIFILT; the processor of its side evaluates, and opens or closes its own
switches; the other learns of it at the next exchange. A section that evaluates no functions (R250) still reads its inputs. -/
def siDemand (input : Nat) (closed : Bool) (w : Work) : Work :=
  if 16 ≤ input ∨ w.x.safe.dark then w
  else
    let v := input / 8
    let w := (w.sinSet input fun s => { s with closed := closed }).buttonNote v (input % 8)
    (w.fnsEval v).outsFollow.safeView v

/-- One input at a pulse of source `tp` (R252): `low` is what it read during the pulse. An input with no source of its own counts one
pulse a period, so that ten take 200 ms. -/
def SIn.pulse (s : SIn) (own counts low : Bool) : SIn :=
  let ok := { s with good := s.good + 1, cross := s.cross && decide (s.good + 1 < 10) }
  if own then
    if low then { ok with miss := 0, xfault := s.xfault && decide (s.good + 1 < 10) }
    else { s with miss := s.miss + 1, good := 0, xfault := s.xfault || decide (2 ≤ s.miss + 1) }
  else if low then { s with cross := true, good := 0 }
  else if counts then ok
  else s

/-- TP_PULSE (R251, R252): `lows` are the inputs that read low during the pulse; an input that another source's pulse takes low is
crossed, whichever side that source is on. -/
def tpPulse (tp : Nat) (lows : List Nat) (w : Work) : Work :=
  if 4 ≤ tp ∨ w.x.safe.dark ∨ w.safeRuns = false then w
  else
    let w := w.each (List.range 16) fun w i =>
      let f := i % 8
      let src := if i < 8 then w.get (SAFE.FCFG0 f) SAFE.FCFG0_TPA else w.get (SAFE.FCFG0 f) SAFE.FCFG0_TPB
      if w.fType f = 0 ∨ (w.sin i).closed = false then w
      else w.sinSet i fun s => s.pulse (decide (i / 8 = tp / 2) && decide (src = tp % 2 + 1)) (decide (src = 0) && decide (tp = 0)) (lows.contains i)
    w.safeAct

/-- DISCREPANCY (R255): the other channel has not followed within DISC, as each processor finds it. A PARTNER's slot locks its two-hand
function. -/
def discrepancy (f : Nat) (w : Work) : Work :=
  if 8 ≤ f ∨ w.x.safe.dark ∨ w.safeRuns = false ∨ w.fType f = 0 ∨ w.fType f = 6 then w
  else
    let g := if w.fType f = 4 then f - 1 else f
    let w := w.each ([0, 1].filter fun v => decide (w.satA v f ≠ w.satB v f)) fun w v =>
      let st := (w.sfn v g).st
      if st = fsSafe ∨ st = fsStopping ∨ st = fsLocked then (w.fnState v g fsLocked).sfnSet v g fun s => { s with disc := true } else w
    w.safeAct

/-- SAFETY_RESET_BUTTON (R256): a filtered falling edge of a RESET function's contact, closed for 0.1 s to 5 s after it had been open for
0.1 s, on a healthy channel. `actAt` of a RESET slot is the time of its last falling edge. Safety A reads the contact; Safety B takes the
event at the next exchange. -/
def safetyResetButton (f heldMs : Nat) (w : Work) : Work :=
  if 8 ≤ f ∨ w.x.safe.dark ∨ w.safeRuns = false ∨ w.fType f ≠ 6 then w
  else
    let now := w.now
    let opened := match (w.sfn 0 f).actAt with
      | some t => decide (t + 100 + heldMs ≤ now)
      | none => true
    let w := (w.sinSet f fun s => { s with closed := false }).sfnSet 0 f fun s => { s with actAt := some now }
    let ok := decide (100 ≤ heldMs) && decide (heldMs ≤ 5000) && opened && w.healthyA 0 f
    let fs := (List.range 8).filter fun g => ok && decide (w.fReset g = 1) && decide (w.get (SAFE.FCFG0 g) SAFE.FCFG0_RSTF = f)
    let w := (w.fnsEval 0).each fs fun w g => w.fnReset 0 g
    ((w.safeUpd fun s => { s with resets := s.resets ++ fs }).fnsEval 0).outsFollow.safeView 0

/-- PREQ is released (R256, R273): a RESET bit that rises is a reset event of its function; STOP acts on the outputs. -/
def Work.preqReleased (w : Work) (old : Word) : Work :=
  let o := SAFE.PREQ_RESET.get old
  let n := w.get SAFE.PREQ SAFE.PREQ_RESET
  let w := w.safeUpd fun s => { s with wdStop := false }
  let w := w.each ((List.range 8).filter fun f => n.testBit f && !o.testBit f && decide (w.fReset f = 2)) fun w f => (w.fnReset 0 f).fnReset 1 f
  w.safeAct

/-- STOPDLY_EXPIRED (R257, R258), on each processor. -/
def stopdlyExpired (f : Nat) (w : Work) : Work :=
  if 8 ≤ f then w
  else
    let w := w.each ([0, 1].filter fun v => decide ((w.sfn v f).st = fsStopping)) fun w v =>
      w.fnState v f (if w.fFaulted v f ∨ (w.sfn v f).graceOut then fsLocked else fsSafe)
    w.safeAct

/-- GRACE_LOW (R269): five minutes remain. -/
def graceLow (f : Nat) (w : Work) : Work :=
  let due (v : Nat) : Bool := (w.sfn v f).deg && !(w.sfn v f).low
  if 8 ≤ f ∨ (due 0 = false ∧ due 1 = false) then w
  else
    let w := w.each ([0, 1].filter due) fun w v => w.sfnSet v f fun s => { s with low := true }
    (((w.evValue safePage f (SAFE.FSTAT 0 f) 16 5).irq safePage 18).newInstance 1015).safeShow

/-- GRACE_EXPIRED (R268, R269): the function leaves RUN as on a demand and then enters LOCKED. -/
def graceExpired (f : Nat) (w : Work) : Work :=
  let due (v : Nat) : Bool := (w.sfn v f).deg && decide ((w.sfn v f).st = fsRun)
  if 8 ≤ f ∨ (due 0 = false ∧ due 1 = false) then w
  else
    let vs := [0, 1].filter due
    let w := ((w.evValue safePage f (SAFE.FSTAT 0 f) 16 0).irq safePage 18).newInstance 1016
    let w := w.each vs fun w v =>
      (w.fnState v f (if w.fCat f = 1 then fsStopping else fsSafe)).sfnSet v f fun s => { s with graceOut := true }
    w.safeAct

/-- DEG_CLEAR (R269): the faulted channel has been healthy, and in agreement, for 200 ms. -/
def degClear (f : Nat) (w : Work) : Work :=
  if 8 ≤ f then w
  else
    let w := w.each ([0, 1].filter fun v => (w.sfn v f).deg && !w.fFaulted v f && decide (w.satA v f = w.satB v f)) fun w v => w.degEnd v f
    w.safeAct

/-! Outputs and their tests -/

/-- A test fails or a flag of an output is set: recorded; OUTFAULT is raised as the flag rises (R267, R282). -/
def Work.outFault (w : Work) (n bit : Nat) (g : SOut → SOut) : Work :=
  let rise := !(ostatWord 0 false (w.sout n)).getLsbD bit
  ((w.soutSet n g).evFlag safePage n (SAFE.OSTAT 0 n) bit true).when rise fun w => w.irq safePage 19

/-- DARK_PULSE_TEST (R264, R266): `fell` is the load current's fall; `demand`: a switch-off demand met the pulse. -/
def darkPulseTest (n : Nat) (fell demand : Bool) (w : Work) : Work :=
  if 4 ≤ n ∨ w.x.safe.dark ∨ w.safeRuns = false then w
  else
    let o := w.sout n
    if demand then
      let w := w.soutSet n fun o => { o with dpab := min (o.dpab + 1) 255, dpLow := !o.dpLow }
      (w.evOccur safePage n (SAFE.OSTAT 0 n) 24 (w.sout n).dpab).safeAct
    else if o.on = false then w
    else if fell then w.soutSet n fun o => { o with dpLow := !o.dpLow }
    else
      let low := o.dpLow
      let w := w.outFault n (if low then 8 else 7) fun o => { o with hsfail := o.hsfail || !low, lsfail := o.lsfail || low, dpLow := !o.dpLow }
      (w.blockFault safePage 0x02 0x0C true).safeAct

/-- OFF_STATE_TEST (R265, R266): the switches' single closings; `switchOn`: a switch-on demand aborted the test. -/
def offStateTest (n : Nat) (hsOk lsOk switchOn : Bool) (w : Work) : Work :=
  if 4 ≤ n ∨ w.x.safe.dark ∨ w.safeRuns = false then w
  else if switchOn then
    let w := w.soutSet n fun o => { o with otab := min (o.otab + 1) 255 }
    (w.evOccur safePage n (SAFE.OSTAT 0 n) 16 (w.sout n).otab).safeAct
  else if (w.sout n).on then w
  else
    let w := if hsOk then w else w.outFault n 7 fun o => { o with hsfail := true }
    let w := if lsOk then w else w.outFault n 8 fun o => { o with lsfail := true }
    if hsOk ∧ lsOk then w else (w.blockFault safePage 0x02 0x0C true).safeAct

/-- The functions of both processors that map an output, as `pass` names them. -/
def Work.passers (w : Work) (n : Nat) : List Nat := w.mappers n ++ (w.mappers n).map (8 + ·)

/-- SAFE_OUTPUT_OVERLOAD (R263): off until every mapped function has passed through SAFE. -/
def safeOutputOverload (n : Nat) (w : Work) : Work :=
  if 4 ≤ n ∨ (w.sout n).on = false then w
  else
    let m := w.passers n
    (w.outFault n 11 fun o => { o with overload := true, a := false, b := false, pass := m }).safeAct

/-- EXT_VOLTAGE (R267): `high` names the pin, whose own switch is open. The output locks; every function that maps it is tripped to SAFE in
category 0. -/
def extVoltage (n : Nat) (high : Bool) (w : Work) : Work :=
  if 4 ≤ n ∨ w.x.safe.dark ∨ (if high then (w.sout n).a else (w.sout n).b) then w
  else
    let locked := (w.passers n).filter fun k => decide ((w.sfn (k / 8) (k % 8)).st = fsLocked)
    let w := w.outFault n (if high then 9 else 10) fun o =>
      { o with hsext := o.hsext || high, lsext := o.lsext || !high, ext := true, extPass := locked }
    let w := w.each (w.passers n) fun w k =>
      let st := (w.sfn (k / 8) (k % 8)).st
      if st = fsRun ∨ st = fsStopping ∨ st = fsWait then w.fnState (k / 8) (k % 8) fsSafe else w
    w.safeAct

/-- EXT_VOLTAGE_CLEAR (R267): the flags have been clear for 1 s. Each falls by itself before, when its pin does (log entry 23). -/
def extVoltageClear (n : Nat) (w : Work) : Work :=
  if 4 ≤ n ∨ w.x.safe.dark then w
  else (w.soutSet n fun o => { o with hsext := false, lsext := false, ext := false }).safeAct

/-! Sealing and the password (R275 to R278) -/

/-- The bytes of a password buffer, by its length. -/
def pwBytes (buf : List (Nat × Word)) (len : Nat) : List Byte :=
  ((List.range 8).flatMap fun i => bytesOfWord (tabGet 0 buf i)).take len

/-- A password's length and characters (R275). -/
def pwShape (bs : List Byte) (len : Nat) : Bool :=
  decide (8 ≤ len) && decide (len ≤ 32) && bs.all fun b => decide (0x20 ≤ b.toNat) && decide (b.toNat ≤ 0x7E)

/-- The buffers are cleared at the end of every operation and of the unlock (R277). -/
def Work.pwClear (w : Work) : Work := w.safeUpd fun s => { s with pwbuf := [], npwbuf := [] }

/-- PWSTAT follows the wrong passwords of the last 600 s and the lockout (R278, R284). -/
def Work.pwShow (w : Work) : Work :=
  let s := w.x.safe
  let n := min (s.pwFails.filter fun t => decide (w.now < t + 600000)).length 3
  let r := if s.pwLock then min ((s.lockAt + 900000 - w.now + 999) / 1000) 65535 else 0
  let v := SAFE.PWSTAT_PWSET.set (SAFE.PWSTAT_LOCKREM.set (SAFE.PWSTAT_FAILS.set 0 n) r) (if s.password.isSome then 1 else 0)
  if w.rd SAFE.PWSTAT = v ∨ w.safeSeen = false then w else w.wr SAFE.PWSTAT v

/-- A wrong password (R278): logged and recorded; the third within 600 s starts the lockout. -/
def Work.pwWrong (w : Work) (user : Nat) : Work :=
  let now := w.now
  let fails := (w.x.safe.pwFails.filter fun t => decide (now < t + 600000)) ++ [now]
  let w := (w.safeUpd fun s => { s with pwFails := fails }).pwShow
  let w := (w.clogAdd 0x03 0x80 user (w.rd SAFE.SIG)).evRefused safePage noSub (HDR.OPCMD safePage) 0x80 1 user
  if 3 ≤ fails.length then
    let w := (w.safeUpd fun s => { s with pwLock := true, lockAt := now }).pwShow
    (w.clogAdd 0x04 0x80 user (w.rd SAFE.SIG)).evValue safePage noSub SAFE.PWSTAT 16 900
  else w

/-- The salted hash of a password (R275). The spec gives neither the salt nor its place (log entry 31). -/
def pwHash (salt pw : List Byte) : List Byte := sha256 (salt ++ pw)

/-- What the password check of SEAL and SETPW gives: a reason, or none (R277, R278, R286). `needed`: SEAL needs one to exist. -/
def Work.pwCheck (w : Work) (needed : Bool) : Option Nat :=
  let s := w.x.safe
  let len := SAFE.PWLEN_LEN.get s.pwlen
  let given := pwBytes s.pwbuf len
  if s.pwLock then some 0x81
  else match s.password with
    | none => if needed then some 0x86 else if len ≠ 0 then some 0x85 else none
    | some pw => if pwShape given len = false then some 0x85 else if pwHash pw.1 given ≠ pw.2 then some 0x80 else none

/-- SEAL and SETPW need a Safety Officer session that holds the page's unlock (R286). -/
def Work.safeHolder (w : Work) (p : Party) : Bool :=
  match w.unlock? safePage with
  | some u => decide (u.party = p) && decide (3 ≤ u.role)
  | none => false

/-- An operation of the SAFE page: the gate of R56, then the unlock. -/
def Work.safeOp (w : Work) (p : Party) (modes : List Mode) (cond : Bool) (body : Work → Work) : Work :=
  w.startOp p safePage 3 modes cond fun w => if w.safeHolder p then body w else w.refuse safePage rejLocked

/-- The sealed words of the active image's SAFE section: FCFG0 and FCFG1 of eight slots, then SCFG. -/
def Work.activeContent (w : Work) : ImageContent :=
  if w.get SYS.IMAGE SYS.IMAGE_ACTIVE = 0 then w.x.img.slot0.content else w.x.img.slot1.content

/-- SEAL is carried out (R275 to R279): password, signature, configuration; then the sealed configuration and SIG are put in force and the
section is IDLE. Logged whether it succeeds or not. -/
def Work.sealRun (w : Work) (p : Party) (arg : Nat) : Work :=
  let user := w.userOf p
  let old := w.rd SAFE.SIG
  let sec := w.activeContent.safe
  let why : Option Nat := match w.pwCheck true with
    | some r => some r
    | none =>
      if sec = [] ∨ w.rd SAFE.PENDSIG = 0 then some 0x84
      else if arg ≠ (w.rd SAFE.PENDSIG).toNat % 65536 then some 0x82
      else if sealBad (fun f => ((sec.getD (2 * f) 0).toNat, (sec.getD (2 * f + 1) 0).toNat)) then some 0x83
      else none
  match why with
  | some r =>
    let w := w.when (decide (r = 0x80)) fun w => w.pwWrong user
    ((w.clogAdd 0x01 r user old).pwClear).opEnd safePage opFailed r
  | none =>
    let w := w.each (List.range 8) fun w f => (w.wr (SAFE.FCFG0 f) (sec.getD (2 * f) 0)).wr (SAFE.FCFG1 f) (sec.getD (2 * f + 1) 0)
    let sig := w.rd SAFE.PENDSIG
    let w := (w.wr SAFE.SCFG (sec.getD 16 0 &&& 15)).wr SAFE.SIG sig
    let w := w.safeUpd fun s => { s with
      sealed := true, sigA := sig, sigB := sig, fns := [],
      outs := s.outs.map fun e => (e.1, { e.2 with overload := false, pass := [], extPass := [] }) }
    (((w.ssEnter ssIdle).clogAdd 0x01 0 user old).pwClear).opEnd safePage opDone 0

/-- SETPW is carried out (R275, R277, R286). -/
def Work.setpwRun (w : Work) (p : Party) : Work :=
  let user := w.userOf p
  let sig := w.rd SAFE.SIG
  let nlen := SAFE.PWLEN_NLEN.get w.x.safe.pwlen
  let new := pwBytes w.x.safe.npwbuf nlen
  let why : Option Nat := match w.pwCheck false with
    | some r => some r
    | none => if pwShape new nlen then none else some 0x85
  match why with
  | some r =>
    let w := w.when (decide (r = 0x80)) fun w => w.pwWrong user
    ((w.clogAdd 0x02 r user sig).pwClear).opEnd safePage opFailed r
  | none =>
    let salt := Config.pwSalt w.x.safe.nextSeq
    let w := (w.safeUpd fun s => { s with password := some (salt, pwHash salt new) }).pwShow
    ((w.clogAdd 0x02 0 user sig).pwClear).opEnd safePage opDone 0

/-- The SAFE page's operation goes on (R286): a latched abort is sampled before the password check and changes nothing; else the operation is
carried out. -/
def Work.safeOpRun (w : Work) : Work :=
  match w.op? safePage with
  | none => w
  | some o =>
    if o.abort then (w.pwClear).opEnd safePage opAborted 1
    else if o.op = 1 then w.sealRun o.party o.arg else w.setpwRun o.party

/-- A START of SEAL or SETPW (R56, R286). -/
def sealStart (p : Party) (arg : Nat) (w : Work) : Work :=
  w.safeOp p [.held] (decide (w.x.safe.shown = ssUnsealed) || decide (w.x.safe.shown = ssIdle)) fun w => w.opBegin p safePage 1 arg []
def setpwStart (p : Party) (arg : Nat) (w : Work) : Work :=
  w.safeOp p [.held, .ready, .run, .hold] true fun w => if arg ≠ 0 then w.refuse safePage rejRange else w.opBegin p safePage 2 arg []

/-- Is the operation `op` of the SAFE page BUSY as this party started it? -/
def Work.safeBusy (w : Work) (p : Party) (op arg : Nat) : Bool :=
  w.opBusy safePage && (w.op? safePage).any fun o => decide (o.op = op) && decide (o.party = p) && decide (o.arg = arg)

/-- SEAL (R277): started and carried out; one that is BUSY is carried out. -/
def sealCfg (p : Party) (arg : Nat) (w : Work) : Work :=
  if w.safeBusy p 1 arg then w.safeOpRun
  else
    let v := sealStart p arg w
    if v.safeBusy p 1 arg then v.safeOpRun else v

/-- SETPW (R277): started and carried out; one that is BUSY is carried out. -/
def setpw (p : Party) (arg : Nat) (w : Work) : Work :=
  if w.safeBusy p 2 arg then w.safeOpRun
  else
    let v := setpwStart p arg w
    if v.safeBusy p 2 arg then v.safeOpRun else v

/-- PW_LOCKOUT_END (R278). -/
def pwLockoutEnd (w : Work) : Work :=
  if w.x.safe.pwLock = false then w
  else (w.safeUpd fun s => { s with pwLock := false, pwFails := [] }).pwShow

/-- A committed image's SAFE section is absent or has another CRC than SIG (R272, R275): the section is unsealed. -/
def Work.safeCommitted (w : Work) : Work :=
  if w.x.safe.sealed ∧ w.rd SAFE.PENDSIG = w.rd SAFE.SIG ∧ w.rd SAFE.PENDSIG ≠ 0 then w
  else if w.x.safe.ss = ssIdle ∨ w.x.safe.ss = ssActive ∨ w.x.safe.ss = ssTripped then w.unseal
  else w

/-- Entering Ready (R274): PREQ.STOP takes the sealed OREADY. -/
def Work.safeReady (w : Work) : Work :=
  ((w.put SAFE.PREQ SAFE.PREQ_STOP (w.get SAFE.SCFG SAFE.SCFG_OREADY)).safeUpd fun s => { s with wdStop := false }).safeAct

/-- A watchdog overrun (R274): PREQ.STOP is taken as 0b1111 until a new image is released. -/
def Work.safeOverrun (w : Work) : Work := (w.safeUpd fun s => { s with wdStop := true }).safeAct

/-- Writes to the SAFE page: a host's PREQ is refused with STATE in every module state; the program writes nothing else (R273). -/
def Work.safeCheck (_ : Work) (p : Party) (a : Nat) (old new : Word) : List (Nat × Nat) :=
  if a = SAFE.PREQ then chk ⟨0, 32⟩ old new (decide (p ≠ .program)) rejState
  else if p = .program then [(0, rejRole)] else []

end Sys2Proof.Machine
end

