-- ==== Sys2Proof/Machine/Trunk.lean ====
section
/-! DEFINITION. The Hordex trunks (chapter 14): the frames the module sends, the states of a trunk, its errors and counters, the
mailboxes. Trunk A is 0, trunk B is 1. -/

namespace Sys2Proof.Machine

/-- TRK[x].STAT.STATE (R483). -/
def tsMonitor : Nat := 1
def tsRestricted : Nat := 2
def tsActive : Nat := 3
def tsPassive : Nat := 4
def tsBusoff : Nat := 5

/-- A trunk's number and page. -/
def tn (trunkB : Bool) : Nat := if trunkB then 1 else 0
def trkPage (t : Nat) : Nat := 0x018 + t

/-- The state of a trunk. -/
def Work.trk (w : Work) (t : Nat) : TrkSt := if t = 0 then w.x.trkA else w.x.trkB
def Work.trkSet (w : Work) (t : Nat) (f : TrkSt → TrkSt) : Work :=
  w.upd fun x => if t = 0 then { x with trkA := f x.trkA } else { x with trkB := f x.trkB }
def Work.trkState (w : Work) (t : Nat) : Nat := w.get (TRK.STAT t) TRK.STAT_STATE
def Work.node (w : Work) : Nat := w.get (TRK.CFG 0) TRK.CFG_NODE

/-- The controller receives: the page is enabled, the module answers, its clock runs (R583), the trunk is not bus-off. -/
def Work.trkHears (w : Work) (t : Nat) : Bool :=
  w.alive && !w.x.clk.stopped.contains (10 + t) && w.enabled (trkPage t) && decide (w.trkState t ≠ tsBusoff)

/-- The controller sends: ACTIVE or PASSIVE (R472). -/
def Work.trkSends (w : Work) (t : Nat) : Bool :=
  w.trkHears t && (decide (w.trkState t = tsActive) || decide (w.trkState t = tsPassive))

/-! Frames (R460, R463) -/

/-- The message kinds of R463. -/
def kIoStart : Nat := 0x01
def kTimeSync : Nat := 0x02
def kHeartbeat : Nat := 0x04
def kIoOut : Nat := 0x09
def kBelfryCmd : Nat := 0x10
def kBelfryCall : Nat := 0x11
def kBelfryAlarm : Nat := 0x12
def kPairHealth : Nat := 0x18
def kExchange : Nat := 0x20

/-- The class of a kind the module sends (R463); EXCHANGE is 6, or 4 with HIPRI. -/
def kindPrio (k : Nat) : Nat :=
  if k = kIoStart ∨ k = kTimeSync then 0 else if k = kHeartbeat then 1 else if k = kIoOut then 2
  else if k = kBelfryCmd ∨ k = kBelfryCall then 3 else if k = kBelfryAlarm then 4 else if k = kPairHealth then 5 else 6

/-- The kinds whose newer instance supersedes the waiting one (R470). -/
def superseding (k : Nat) : Bool := decide (k = kIoStart) || decide (k = kHeartbeat) || decide (k = kBelfryCall) || decide (k = kPairHealth)

/-- The 29-bit identifier (R460). -/
def Frame.ident (f : Frame) : Nat := f.prio * 2 ^ 26 + f.kind * 2 ^ 20 + f.src * 2 ^ 12 + f.index % 4096

/-! A frame on the wire (R461, R462; log entry 203). A bit is true where it is recessive. -/

/-- The low `n` bits of a number, most significant first. -/
def bitsOf (n v : Nat) : List Bool := (List.range n).map fun i => v.testBit (n - 1 - i)

/-- Dynamic stuffing: a complementary bit after five equal bits; `run`: the equal bits up to now, the last of them `last`. -/
def stuffBits (last : Bool) (run : Nat) : List Bool → List Bool
  | [] => []
  | b :: l =>
    let n := if b = last then run + 1 else 1
    if n = 5 then b :: (!b) :: stuffBits (!b) 1 l else b :: stuffBits b n l

/-- Fixed stuffing: a complementary bit after every fifth bit; `k`: the bits since the last one. -/
def fixedStuff (k : Nat) : List Bool → List Bool
  | [] => []
  | b :: l => if k = 4 then b :: (!b) :: fixedStuff 0 l else b :: fixedStuff (k + 1) l

/-- SOF to DATA before stuffing; ESI is recessive while the sender is error-passive. Only IO_OUT requests a response window (R464). -/
def Frame.body (f : Frame) (passive : Bool) : List Bool :=
  [false] ++ bitsOf 29 f.ident ++ [decide (f.kind = kIoOut), true, false, true, passive] ++ bitsOf 7 f.data.length ++ f.data.flatMap bitsOfByte

/-- SBC: the number of dynamic stuff bits modulo 8 in Gray code, then even parity. -/
def sbcBits (n : Nat) : List Bool :=
  let g := bitsOf 3 ((n % 8) ^^^ (n % 8 / 2))
  g ++ [g.foldl xor false]

/-- The frame's bits from SOF to the end of the intermission. -/
def Frame.wire (f : Frame) (passive : Bool) : List Bool :=
  let body := f.body passive
  let head := stuffBits true 0 body
  let sbc := sbcBits (head.length - body.length)
  head ++ [!head.getLastD true] ++ fixedStuff 0 (sbc ++ bitsOf 24 (crc24Bits (head ++ sbc))) ++ List.replicate 13 true

/-- The depth of the transmit queue is shown (R484). -/
def Work.trkDepth (w : Work) (t : Nat) : Work := w.put (TRK.QSTAT t) TRK.QSTAT_DEPTH (min (w.trk t).queue.length 255)

/-- A mailbox of a trunk. -/
def Work.mbox (w : Work) (t m : Nat) : MBox := tabGet {} (w.trk t).mboxes m
def Work.mboxSet (w : Work) (t m : Nat) (f : MBox → MBox) : Work :=
  w.trkSet t fun s => { s with mboxes := tabSet s.mboxes m (f (tabGet {} s.mboxes m)) }

/-- The frame a transmit mailbox sends (R475). -/
def Work.mboxFrame (w : Work) (t m : Nat) : Frame :=
  let c := TRK.MBCFG t m
  { prio := if w.flag c TRK.MBCFG_HIPRI then 4 else 6, kind := kExchange, src := w.node, index := w.get c TRK.MBCFG_INDEX,
    data := (w.mbox t m).visible.take (w.get c TRK.MBCFG_LEN) }

/-- Everything a trunk could offer: its queue, and the mailboxes with a pending frame. -/
def Work.trkOffers (w : Work) (t : Nat) : List Attempt :=
  (w.trk t).queue.map (fun f => { frame := f, mbox := none })
    ++ ((List.range 64).filter fun m => w.flag (TRK.MBSTAT t m) TRK.MBSTAT_TXPEND).map fun m => { frame := w.mboxFrame t m, mbox := some m }

/-- The offer with the lowest identifier. -/
def lowestOffer : List Attempt → Option Attempt
  | [] => none
  | a :: l => match lowestOffer l with
    | none => some a
    | some b => if b.frame.ident < a.frame.ident then some b else some a

/-- An arbitration: a trunk that sends, with no attempt in progress and no response window open, offers its pending frame with the
lowest identifier (R469, R464); a TIME_SYNC takes its TXTIME at each attempt (R492). The arbitration follows at once (log entry 36). -/
def Work.arbitrate (w : Work) (t : Nat) : Work :=
  if (w.trk t).attempt.isNone ∧ (w.trk t).window.isNone ∧ w.trkSends t then
    let w := w.trkSet t fun s => { s with queue := s.queue.map fun f =>
      if f.kind = kTimeSync then { f with data := bytesOfNat 8 w.net ++ f.data.drop 8 } else f }
    let a := lowestOffer (w.trkOffers t)
    let w := match a.bind (·.mbox) with
      | some m => w.mboxSet t m fun b => { b with again := false }
      | none => w
    let passive := decide (w.trkState t = tsPassive)
    w.trkSet t fun s => { s with attempt := a.map fun a => { a with wire := a.frame.wire passive } }
  else w

/-- The response window for a node ends (R464). -/
def Work.windowEnd (w : Work) (t node : Nat) : Work :=
  if (w.trk t).window = some node then (w.trkSet t fun s => { s with window := none }).arbitrate t else w

/-- A frame of the module's own is queued on one trunk (R469, R470): a superseding kind replaces its waiting instance; a frame that
finds 256 waiting is discarded, counted and recorded. -/
def Work.queueFrame (w : Work) (t : Nat) (kind index : Nat) (data : List Byte) : Work :=
  if w.alive = false ∨ w.enabled (trkPage t) = false ∨ w.node = 0xFF then w
  else
    let f : Frame := ⟨kindPrio kind, kind, w.node, index % 4096, data⟩
    let q := (w.trk t).queue
    let w := if superseding kind = true ∧ (q.any fun g => decide (g.kind = kind)) = true then
        w.trkSet t fun s => { s with queue := s.queue.map fun g => if g.kind = kind then f else g }
      else if q.length < 256 then w.trkSet t fun s => { s with queue := s.queue ++ [f] }
      else
        let w := w.incSat (TRK.QSTAT t) TRK.QSTAT_QOVF
        w.evOccur (trkPage t) noSub (TRK.QSTAT t) 0 (w.get (TRK.QSTAT t) TRK.QSTAT_QOVF)
    (w.trkDepth t).arbitrate t

/-- A frame sent on both trunks (R469). -/
def Work.queueBoth (w : Work) (kind index : Nat) (data : List Byte) : Work := (w.queueFrame 0 kind index data).queueFrame 1 kind index data

/-- The heartbeat's payload (R465). -/
def Work.heartbeat (w : Work) : List Byte :=
  let h := w.moduleHealth
  let early := decide (w.x.mode = .selfTest) || decide (w.x.mode = .imageCheck)
  let solo := decide (w.x.role = .solo)
  let per := if solo || early then 10 * w.get (TRK.CFG 0) TRK.CFG_HBT else w.get TASK.MAIN TASK.MAIN_P0
  bytesOfNat 1 (modeCode w.x.mode) ++ bytesOfNat 1 (roleCode w.x.role) ++ bytesOfNat 1 h.2 ++ bytesOfNat 1 h.1
    ++ bytesOfNat 4 (if solo then 0 else (w.rd PAIR.EPOCH).toNat) ++ bytesOfNat 4 (w.rd TASK.CYCLE).toNat ++ bytesOfNat 2 per
    ++ bytesOfNat 2 0

/-- The module sends its heartbeat on both trunks in every state from Self-test on but Failed (R17, R21, R24). -/
def Work.sendHeartbeat (w : Work) : Work :=
  if w.alive = true ∧ w.x.mode ≠ .powerUp then w.queueBoth kHeartbeat 0 w.heartbeat else w

/-- HEARTBEAT_TIMER (R24, R465): tHBT passes; a Solo module, and any module that has not left Image check, sends its heartbeat. -/
def heartbeatTimer (w : Work) : Work :=
  if w.x.role = .solo ∨ w.x.mode = .selfTest ∨ w.x.mode = .imageCheck then w.sendHeartbeat else w

/-! States (R472) -/

/-- A trunk enters a state (R472, R481, R484). Entries into PASSIVE, BUSOFF and RESTRICTED are recorded. -/
def Work.trkEnter (w : Work) (t st : Nat) : Work :=
  let a := TRK.STAT t
  let old := w.trkState t
  let w := w.put a TRK.STAT_STATE st
  let w := w.when (decide (old ≠ st) && (decide (st = tsPassive) || decide (st = tsBusoff) || decide (st = tsRestricted))) fun w =>
    w.evState (trkPage t) noSub a 0 old st
  if st = tsRestricted then
    (((w.put (TRK.ERR t) TRK.ERR_TEC 0).put (TRK.ERR t) TRK.ERR_REC 0).trkSet t fun s => { s with valid := 0, attempt := none, window := none })
  else if st = tsActive then ((w.putB a TRK.STAT_RATEERR false)).arbitrate t
  else if st = tsPassive then w.when (decide (old ≠ st)) fun w => w.irq (trkPage t) 17
  else if st = tsBusoff then
    let w := w.when (decide (old ≠ st)) fun w => (w.irq (trkPage t) 18).incSat (TRK.ERRCNT t) TRK.ERRCNT_BUSOFFS
    (w.trkSet t fun s => { s with queue := s.queue.filter (fun f => superseding f.kind), attempt := none, window := none }).trkDepth t
  else w.trkSet t fun s => { s with attempt := none, window := none }

/-- The state a trunk takes from its configuration: MONITOR or RESTRICTED (R472). -/
def Work.trkStart (w : Work) (t : Nat) : Work :=
  if w.node = 0xFF ∨ w.get (TRK.CFG t) TRK.CFG_FMODE = 2 then w.trkEnter t tsMonitor else w.trkEnter t tsRestricted

/-- The transmit and receive error counters put an error-active trunk in PASSIVE and back (R472). -/
def Work.trkConfine (w : Work) (t : Nat) : Work :=
  let p := decide (128 ≤ w.get (TRK.ERR t) TRK.ERR_TEC) || decide (128 ≤ w.get (TRK.ERR t) TRK.ERR_REC)
  if w.trkState t = tsActive ∧ p then w.trkEnter t tsPassive
  else if w.trkState t = tsPassive ∧ p = false then w.trkEnter t tsActive
  else w

/-- The code of an error in ERR.LASTERR (R484). -/
def errCode : TrunkErr → Nat
  | .bit => 1
  | .stuff => 2
  | .form => 3
  | .crc => 4
  | .ack => 5

/-- TRUNK_ERROR (R471, R472): an error is detected. `tec` and `rec`: the counters after it by the fault confinement of ISO 11898-1;
an acknowledgement error follows R471. -/
def trunkError (trunkB : Bool) (kind : TrunkErr) (dataPhase : Bool) (tec rec' : Nat) (w : Work) : Work :=
  let t := tn trunkB
  if w.trkHears t then
    let e := TRK.ERR t
    let w := ((w.put e TRK.ERR_LASTERR (errCode kind)).putB e TRK.ERR_LASTPH dataPhase).incSat (TRK.ERRCNT t) TRK.ERRCNT_ERRFR
    let st := w.trkState t
    if st = tsRestricted then
      let rise := !w.flag (TRK.STAT t) TRK.STAT_RATEERR
      let w := (w.putB (TRK.STAT t) TRK.STAT_RATEERR true).trkSet t fun s => { s with valid := 0 }
      w.when rise fun w => (w.irq (trkPage t) 20).evFlag (trkPage t) noSub (TRK.STAT t) 10 true
    else if st = tsActive ∨ st = tsPassive then
      let old := w.get e TRK.ERR_TEC
      let (tec, r) := match kind with
        | .ack => (if old < 128 then min (old + 8) 128 else old, w.get e TRK.ERR_REC)
        | _ => (tec, rec')
      let w := (w.put e TRK.ERR_TEC (min tec 255)).put e TRK.ERR_REC (min r 255)
      if 255 < tec then w.trkEnter t tsBusoff else w.trkConfine t
    else w
  else w

/-- BUSOFF_RECOVERY (R472): 128 sequences of 11 recessive bits have passed. -/
def busoffRecovery (trunkB : Bool) (w : Work) : Work :=
  if w.alive = true ∧ w.enabled (trkPage (tn trunkB)) = true ∧ w.trkState (tn trunkB) = tsBusoff then w.trkEnter (tn trunkB) tsRestricted else w

/-- May the trunk leave RESTRICTED by itself: FMODE 0 and no DUPNODE (R472, R474)? -/
def Work.trkMayLeave (w : Work) (t : Nat) : Bool :=
  decide (w.trkState t = tsRestricted) && decide (w.get (TRK.CFG t) TRK.CFG_FMODE = 0) && !w.flag (TRK.STAT t) TRK.STAT_DUPNODE

/-- RESTRICTED_IDLE (R472): no bus edge for tRIDLE. -/
def restrictedIdle (trunkB : Bool) (w : Work) : Work :=
  let t := tn trunkB
  if w.trkHears t ∧ w.trkMayLeave t ∧ w.flag (TRK.STAT t) TRK.STAT_RATEERR = false then w.trkEnter t tsActive else w

/-- A valid frame lowers the receive error counter by the rules of ISO 11898-1 (R471). -/
def recAfterFrame (r : Nat) : Nat := if 128 ≤ r then 119 + (Config.recBelow r).val else r - 1

/-- VALID_FRAME_RX (R461, R463, R472, R484): a valid frame of another node ends. The bus was that node's, so the module's own
offer is made anew. -/
def validFrameRx (trunkB : Bool) (src kind : Nat) (w : Work) : Work :=
  let t := tn trunkB
  if w.trkHears t then
    let w := ((w.incWrap (TRK.RXCNT t) TRK.RXCNT_N).put (TRK.AGES t) TRK.AGES_RXAGE 0).putB (TRK.STAT t) TRK.STAT_HEARD true
    let w := w.trkSet t fun s => { s with lastRx := some w.now, heardSince := true, attempt := none }
    let st := w.trkState t
    let w := if st = tsActive ∨ st = tsPassive then
        (w.put (TRK.ERR t) TRK.ERR_REC (recAfterFrame (w.get (TRK.ERR t) TRK.ERR_REC))).trkConfine t
      else w
    let w := if st = tsRestricted then
        let w := w.trkSet t fun s => { s with valid := min (s.valid + 1) 4 }
        if w.trkMayLeave t ∧ (w.trk t).valid = 4 then w.trkEnter t tsActive else w
      else w
    let w := w.trkSet t fun s => { s with window := if kind = 0x0A ∧ s.window = some src then none else s.window }
    w.arbitrate t
  else w

/-- DUPNODE_FRAME (R474): a valid frame with the module's own node number. -/
def dupnodeFrame (trunkB : Bool) (w : Work) : Work :=
  let t := tn trunkB
  if w.trkHears t ∧ w.node ≠ 0xFF then
    let rise := !w.flag (TRK.STAT t) TRK.STAT_DUPNODE
    let w := (w.putB (TRK.STAT t) TRK.STAT_DUPNODE true).when rise fun w =>
      (w.irq (trkPage t) 19).evFlag (trkPage t) noSub (TRK.STAT t) 11 true
    if w.trkState t = tsActive ∨ w.trkState t = tsPassive then w.trkEnter t tsRestricted else w.trkSet t fun s => { s with valid := 0 }
  else w

/-- DUPNODE_CLEAR (R474): 10 s without such a frame. -/
def dupnodeClear (trunkB : Bool) (w : Work) : Work :=
  let t := tn trunkB
  if w.alive ∧ w.enabled (trkPage t) then w.setFlag (trkPage t) noSub (TRK.STAT t) TRK.STAT_DUPNODE false else w

/-! Attempts (R469, R470, R473, R478) -/

/-- TXFAULT is a fault of the page and of the module (R487); it clears by itself only as R97 lets it. -/
def Work.trkIsolation (w : Work) (t : Nat) (lone txfault : Bool) : Work :=
  let rl := lone && !w.flag (TRK.STAT t) TRK.STAT_LONE
  let rt := txfault && !w.flag (TRK.STAT t) TRK.STAT_TXFAULT
  let w := w.setFlag (trkPage t) noSub (TRK.STAT t) TRK.STAT_LONE lone
  let w := w.setFlag (trkPage t) noSub (TRK.STAT t) TRK.STAT_TXFAULT txfault
  let w := w.when rl fun w => w.irq (trkPage t) 16
  let w := w.when rt fun w => (w.irq (trkPage t) 23).blockFault (trkPage t) 0x01 0x09 true
  w.when (!txfault) fun w => w.blockFault (trkPage t) 0x01 0x09 false

/-- The first entry of a list equal to a given one is removed. -/
def eraseFirst {α : Type} [DecidableEq α] (a : α) : List α → List α
  | [] => []
  | b :: l => if b = a then l else b :: eraseFirst a l

/-- An acknowledged attempt (R470, R473, R478, R484). -/
def Work.txAcked (w : Work) (t : Nat) (a : Attempt) : Work :=
  let w := ((w.incWrap (TRK.TXCNT t) TRK.TXCNT_N).put (TRK.ERR t) TRK.ERR_UNACK 0).put (TRK.AGES t) TRK.AGES_ACKAGE 0
  let w := (w.put (TRK.ERR t) TRK.ERR_TEC (w.get (TRK.ERR t) TRK.ERR_TEC - 1)).trkConfine t
  let w := w.trkSet t fun s => { s with attempt := none, lastAck := some w.now, ackSince := true, heardSince := false }
  let w := w.trkIsolation t false false
  match a.mbox with
  | none =>
    let w := w.trkSet t fun s => { s with queue := eraseFirst a.frame s.queue,
                                          window := if a.frame.kind = kIoOut then some a.frame.index else s.window }
    w.trkDepth t
  | some m =>
    let again := (w.mbox t m).again
    let w := (w.incSat (TRK.MBCNT t m) TRK.MBCNT_OK).putB (TRK.MBSTAT t m) TRK.MBSTAT_TXPEND again
    let w := (w.put (TRK.MBRX t m) TRK.MBRX_AGE 0).put (TRK.MBRX t m) TRK.MBRX_LEN a.frame.data.length
    w.mboxSet t m fun b => { b with again := false }

/-- A failed attempt. -/
def Work.txFailed (w : Work) (t : Nat) (a : Attempt) (e : TrunkErr) : Work :=
  let w := match e with
    | .ack =>
      let first := decide (w.get (TRK.ERR t) TRK.ERR_UNACK = 0)
      let w := w.when first fun w => w.trkSet t fun s => { s with heardSince := false }
      let w := w.incSat (TRK.ERR t) TRK.ERR_UNACK
      if w.get (TRK.ERR t) TRK.ERR_UNACK = 32 then w.trkIsolation t (!(w.trk t).heardSince) (w.trk t).heardSince else w
    | _ => w
  let w := w.trkSet t fun s => { s with attempt := none }
  match a.mbox with
  | none =>
    if a.frame.kind = kIoOut then (w.trkSet t fun s => { s with queue := eraseFirst a.frame s.queue }).trkDepth t else w
  | some m =>
    let w := w.incSat (TRK.MBCNT t m) TRK.MBCNT_FAIL
    let w := w.when (w.mbox t m).again fun w => w.put (TRK.MBSTAT t m) TRK.MBSTAT_REPLACED 1
    w.mboxSet t m fun b => { b with again := false }

/-- TX_ATTEMPT_END (R470, R473): the attempt in progress ends, acknowledged, or failed with an error (which TRUNK_ERROR counts). -/
def txAttemptEnd (trunkB : Bool) (err : Option TrunkErr) (w : Work) : Work :=
  let t := tn trunkB
  if w.trkSends t then
    match (w.trk t).attempt with
    | none => w
    | some a =>
      let w := match err with
        | none => w.txAcked t a
        | some e => w.txFailed t a e
      w.arbitrate t
  else w

/-! Mailboxes (R475 to R478, R485, R486) -/

/-- Sixty-four bytes, filled up with zeros. -/
def pad64 (bs : List Byte) : List Byte := (bs ++ List.replicate 64 0).take 64

/-- MBDATA shows the visible buffer of the mailbox that MBSEL selects (R485). -/
def Work.mbShow (w : Work) (t : Nat) : Work :=
  let ws := wordsOfBytes 16 (pad64 (w.mbox t (w.get (TRK.MBSEL t) TRK.MBSEL_SEL)).visible)
  w.each (List.range 16) fun w i => w.wr (TRK.MBDATA t i) (ws.getD i 0)

/-- A commit copies the shadow into the visible buffer and makes the frame pending (R478). -/
def Work.mbCommit (w : Work) (t m : Nat) : Work :=
  let pend := w.flag (TRK.MBSTAT t m) TRK.MBSTAT_TXPEND
  let inAttempt := match (w.trk t).attempt with
    | some a => decide (a.mbox = some m)
    | none => false
  let w := w.mboxSet t m fun b => { b with visible := b.shadow, again := inAttempt }
  let w := w.when (pend && !inAttempt) fun w => w.put (TRK.MBSTAT t m) TRK.MBSTAT_REPLACED 1
  ((w.put (TRK.MBSTAT t m) TRK.MBSTAT_TXPEND 1).mbShow t).arbitrate t

/-- Is the mailbox an enabled transmit mailbox? -/
def Work.mbSends (w : Work) (t m : Nat) : Bool := w.flag (TRK.MBCFG t m) TRK.MBCFG_EN && w.flag (TRK.MBCFG t m) TRK.MBCFG_DIR

/-- May this party act on the mailbox: the program on its own, a host on a host's (R475, R486)? -/
def Work.mbOwner (w : Work) (p : Party) (t m : Nat) : Bool :=
  let own := w.flag (TRK.MBCFG t m) TRK.MBCFG_OWN
  match p with
  | .program => !own
  | .host _ => own

/-- MB_TXREQ (R478, R486): a write of 1 to MBSTAT[m].TXREQ commits the shadow. -/
def mbTxreq (p : Party) (trunkB : Bool) (m : Nat) (w : Work) : Work :=
  let t := tn trunkB
  if w.usable (trkPage t) = false ∨ w.present p = false ∨ 64 ≤ m then w
  else if w.roleOf p < 1 then w.refuse (trkPage t) rejRole
  else if w.mbOwner p t m = false then w.refuse (trkPage t) rejState
  else if w.mbSends t m then w.mbCommit t m else w

/-- Word `i` of a mailbox's shadow buffer is written (R485). -/
def Work.mbShadow (w : Work) (t m i : Nat) (v : Word) : Work :=
  w.mboxSet t m fun b =>
    let s := pad64 b.shadow
    { b with shadow := s.take (4 * i) ++ bytesOfWord v ++ s.drop (4 * i + 4) }

/-- MBDATA_WRITE (R485): a write of word `i` of MBDATA fills the shadow buffer of the selected transmit mailbox. -/
def mbdataWrite (p : Party) (trunkB : Bool) (i : Nat) (v : Word) (w : Work) : Work :=
  let t := tn trunkB
  let m := w.get (TRK.MBSEL t) TRK.MBSEL_SEL
  if w.usable (trkPage t) = false ∨ w.present p = false ∨ 16 ≤ i then w
  else if w.roleOf p < 1 then w.refuse (trkPage t) rejRole
  else if whoOf p = 1 ∧ w.flag (TRK.MBCFG t m) TRK.MBCFG_OWN = false ∧ (w.x.mode = .run ∨ w.x.mode = .hold) then w.refuse (trkPage t) rejState
  else if w.flag (TRK.MBCFG t m) TRK.MBCFG_DIR = false then w.refuse (trkPage t) rejRange
  else w.mbShadow t m i v

/-- EXCHANGE_RX (R475, R477): a valid EXCHANGE frame goes to the lowest-numbered matching receive mailbox. -/
def exchangeRx (trunkB : Bool) (src index : Nat) (data : List Byte) (w : Work) : Work :=
  let t := tn trunkB
  let fits : Nat → Bool := fun m =>
    let c := TRK.MBCFG t m
    w.flag c TRK.MBCFG_EN && !w.flag c TRK.MBCFG_DIR && decide (w.get c TRK.MBCFG_INDEX = index)
      && (decide (w.get c TRK.MBCFG_NODE = 0xFF) || decide (w.get c TRK.MBCFG_NODE = src))
  if w.trkHears t then
    match (List.range 64).find? fits with
    | none => w
    | some m =>
      let w := w.mboxSet t m fun b => { b with visible := pad64 data, shadow := b.visible }
      let st := TRK.MBSTAT t m
      let w := if w.flag st TRK.MBSTAT_NEW then w.put st TRK.MBSTAT_OVR 1 else (w.put st TRK.MBSTAT_NEW 1).irq (trkPage t) 21
      let w := ((w.put (TRK.MBRX t m) TRK.MBRX_SRC src).put (TRK.MBRX t m) TRK.MBRX_LEN data.length).put (TRK.MBRX t m) TRK.MBRX_AGE 0
      (w.incSat (TRK.MBCNT t m) TRK.MBCNT_OK).mbShow t
  else w

/-! Nodes seen (R23, R484) -/

/-- A node's SEEN bit. -/
def Work.seenBit (w : Work) (t node : Nat) (on : Bool) : Work :=
  if node < 120 then w.putB (TRK.SEEN t (node / 32)) ⟨node % 32, 1⟩ on else w

/-- A heartbeat of another node arrives. -/
def Work.trkSeen (w : Work) (t node : Nat) (hb : Heartbeat) : Work :=
  (w.trkSet t fun s => { s with seen := tabSet s.seen node hb }).seenBit t node true

/-- A node is flagged lost on a trunk (R23); NODELOST on the fall of its SEEN bit (R481). -/
def Work.trkLost (w : Work) (t node : Nat) : Work :=
  if (w.trk t).seen.any fun e => decide (e.1 = node) then
    ((w.trkSet t fun s => { s with seen := s.seen.filter fun e => decide (e.1 ≠ node) }).seenBit t node false).irq (trkPage t) 22
  else w

/-- The last heartbeat of a node that is not lost on the trunk. -/
def Work.seen? (w : Work) (t node : Nat) : Option Heartbeat := ((w.trk t).seen.find? fun e => decide (e.1 = node)).map (·.2)

/-! Registers -/

/-- Arbitration rate in kbit/s, data-phase rate in kbit/s (R458, R482). -/
def Work.rArb (w : Work) (t : Nat) : Nat :=
  match w.get (TRK.CFG t) TRK.CFG_ARB with
  | 0 => 1000
  | 1 => 500
  | 2 => 250
  | _ => 125
def Work.rData (w : Work) (t : Nat) : Nat :=
  match w.get (TRK.CFG t) TRK.CFG_DATA with
  | 1 => 1000
  | 2 => 2000
  | 3 => 4000
  | 4 => 5000
  | _ => w.rArb t

/-- The combinations of R458. -/
def ratesAllowed (arb data : Nat) : Bool :=
  if arb = 0 then [0, 2, 3, 4].contains data else if arb = 1 then [0, 1, 2, 3, 4].contains data
  else if arb = 2 then [0, 1, 2].contains data else [0, 1].contains data

/-- The conditions of R475, R482 on a write of a TRK page. -/
def Work.trkCheck (w : Work) (p : Party) (t a : Nat) (old new : Word) : List (Nat × Nat) :=
  if a = TRK.CFG t then
    let arb := TRK.CFG_ARB.get new
    let data := TRK.CFG_DATA.get new
    let node := TRK.CFG_NODE.get new
    let st := !(decide (w.x.mode = .held) || decide (w.x.mode = .ready))
    chk TRK.CFG_NODE old new (decide (t = 0) && st) rejState ++ chk TRK.CFG_ARB old new st rejState ++ chk TRK.CFG_DATA old new st rejState
      ++ chk TRK.CFG_NODE old new (decide (t = 0) && (decide (0x77 < node) && decide (node ≠ 0xFF))) rejRange
      ++ chk TRK.CFG_ARB old new (!ratesAllowed arb data) rejRange ++ chk TRK.CFG_DATA old new (!ratesAllowed arb data) rejRange
      ++ chk TRK.CFG_FMODE old new (decide (TRK.CFG_FMODE.get new = 3)) rejRange
      ++ chk TRK.CFG_HBT old new (decide (t = 0) && (decide (TRK.CFG_HBT.get new < 1) || decide (100 < TRK.CFG_HBT.get new))) rejRange
  else if TRK.MBCFG t 0 ≤ a ∧ a < TRK.MBCFG t 64 then
    let m := (a - TRK.MBCFG t 0) / 16
    if (a - TRK.MBCFG t 0) % 16 = 0 then
      let clash := decide (TRK.MBCFG_EN.get new = 1) && decide (TRK.MBCFG_DIR.get new = 1)
        && ((List.range 64).any fun k => decide (k ≠ m) && w.mbSends t k && decide (w.get (TRK.MBCFG t k) TRK.MBCFG_INDEX = TRK.MBCFG_INDEX.get new))
      (if clash then [(0, rejRange)] else []) ++ (if 64 < TRK.MBCFG_LEN.get new then [(21, rejRange)] else [])
    else if (a - TRK.MBCFG t 0) % 16 = 4 ∧ whoOf p = 1 ∧ w.mbOwner p t m = false then [(0, rejState)]
    else []
  else []

/-- What follows an accepted write of a TRK page (R459, R472, R482, R485). -/
def Work.trkWritten (w : Work) (t a : Nat) (old : Word) : Work :=
  if a = TRK.CFG t then
    let w := w.putB (TRK.STAT t) TRK.STAT_TERMON (w.flag a TRK.CFG_TERM)
    let changed (f : Fld) : Bool := decide (f.get old ≠ w.get a f)
    let w := if t = 0 then
        (w.put (TRK.CFG 1) TRK.CFG_NODE w.node).put (TRK.CFG 1) TRK.CFG_HBT (w.get a TRK.CFG_HBT)
      else w
    let w := if changed TRK.CFG_NODE || changed TRK.CFG_ARB || changed TRK.CFG_DATA then w.trkStart t
      else if changed TRK.CFG_FMODE then
        let m := w.get a TRK.CFG_FMODE
        if m = 2 then w.trkEnter t tsMonitor
        else if m = 1 ∧ w.node ≠ 0xFF then w.trkEnter t tsRestricted
        else if w.trkState t = tsMonitor ∧ w.node ≠ 0xFF then w.trkEnter t tsRestricted
        else w
      else w
    w.when (decide (t = 0) && changed TRK.CFG_NODE && w.enabled (trkPage 1)) fun w => w.trkStart 1
  else if a = TRK.MBSEL t then w.mbShow t
  else w

/-- A soft reset restarts the controller (R481): queue and pending frames empty; the registers' own entries are the page's. -/
def Work.trkSoftReset (w : Work) (t : Nat) : Work :=
  let w := w.trkSet t fun s => { s with queue := [], attempt := none, window := none, valid := 0, heardSince := false, seen := [],
                                        mboxes := s.mboxes.map fun e => (e.1, { e.2 with again := false }) }
  let held := (List.range 64).filter fun m => w.x.proc.passes.any fun p => decide (p.res = 512 + 64 * t + m)
  let w := w.each held fun w m => w.putB (TRK.MBSTAT t m) TRK.MBSTAT_CLAIMED true
  ((w.putB (TRK.STAT t) TRK.STAT_TERMON (w.flag (TRK.CFG t) TRK.CFG_TERM)).trkStart t).mbShow t

end Sys2Proof.Machine
end

