-- ==== Sys2Proof/Machine/Iosync.lean ====
section
/-! DEFINITION. The remote-I/O cycle (R310 to R315, R322 to R324): budget, start frame, input quality, output phase. -/

namespace Sys2Proof.Machine

def iosPage : Nat := 0x01A
def Work.iosUpd (w : Work) (f : IosSt → IosSt) : Work := w.upd fun x => { x with ios := f x.ios }
def Work.sta (w : Work) (s : Nat) : Station := tabGet {} w.x.ios.st s
def Work.staSet (w : Work) (s : Nat) (f : Station → Station) : Work := w.iosUpd fun x => { x with st := tabSet x.st s (f (tabGet {} x.st s)) }

/-- The stations of the table. -/
def Work.nsta (w : Work) : Nat := min (w.get IOSYNC.CFG IOSYNC.CFG_NSTA) 32
def Work.stations (w : Work) : List Nat := List.range w.nsta

/-! Budget (R311) -/

/-- tFR(N) on a trunk, in half nanoseconds. -/
def Work.tFr (w : Work) (t n : Nat) : Nat := 116_000_000 / w.rArb t + (37 + 8 * n) * (2_500_000 / w.rData t)

/-- INW and OUTW on a trunk, in half nanoseconds. -/
def Work.inW (w : Work) (t : Nat) : Nat := w.tFr t 8 + (w.stations.map fun s => w.tFr t (w.get (IOSYNC.SCFG s) IOSYNC.SCFG_INLEN)).sum
def Work.outW (w : Work) (t : Nat) : Nat := (w.stations.map fun s => w.tFr t (w.get (IOSYNC.SCFG s) IOSYNC.SCFG_OUTLEN) + 300_000).sum

/-- A quotient rounded up. -/
def ceilDiv (n d : Nat) : Nat := (n + d - 1) / d

/-- The budget is computed anew (R311, R468): the slower trunk decides. -/
def Work.iosBudget (w : Work) : Work :=
  if w.enabled iosPage = false then w
  else
    let t := if w.inW 1 + w.outW 1 ≤ w.inW 0 + w.outW 0 then 0 else 1
    let inw := w.inW t
    let outw := w.outW t
    let p0 := w.get TASK.MAIN TASK.MAIN_P0 * 2_000_000
    let wd := w.get TASK.MAIN TASK.MAIN_WD0 * 200_000
    let share := w.get IOSYNC.CFG IOSYNC.CFG_SHARE
    let slow := w.flag IOSYNC.CFG IOSYNC.CFG_EN && decide (w.nsta ≠ 0) && (List.range 2).any fun t => decide (280_000 < w.tFr t 4)
    let tight := decide (share * p0 < (inw + outw) * 100) || decide (p0 < wd + outw + 400_000) || slow
    let w := w.put IOSYNC.STAT IOSYNC.STAT_LOAD (min (ceilDiv ((inw + outw) * 1000) (max p0 1)) 1023)
    let w := (w.put IOSYNC.WIN IOSYNC.WIN_INW (min (ceilDiv inw 2000) 65535)).put IOSYNC.WIN IOSYNC.WIN_OUTW (min (ceilDiv outw 2000) 65535)
    w.flagIrq iosPage IOSYNC.STAT IOSYNC.STAT_OVERBUDGET tight 18

/-- Does the module run the cycle (R311, R314, R315)? -/
def Work.iosRuns (w : Work) : Bool :=
  w.alive && w.enabled iosPage && w.flag IOSYNC.CFG IOSYNC.CFG_EN && !w.flag IOSYNC.STAT IOSYNC.STAT_OVERBUDGET
    && [Mode.ready, .run, .hold].contains w.x.mode && decide (w.x.role ≠ .standby)
    && decide (w.get PAIR.STAT PAIR.STAT_PSTATE ≠ 5)

/-! Input (R312, R314) -/

/-- IO_IN_RECEIVED (R310, R312): the first valid copy in the interval is used. -/
def ioInReceived (st : Nat) (trunkB : Bool) (data : List Byte) (w : Work) : Work :=
  let t := tn trunkB
  if w.alive = false ∨ w.enabled iosPage = false ∨ w.flag IOSYNC.CFG IOSYNC.CFG_EN = false ∨ w.nsta ≤ st ∨ w.trkHears t = false
      ∨ data.length ≠ w.get (IOSYNC.SCFG st) IOSYNC.SCFG_INLEN then w
  else w.staSet st fun s => { s with
    inp := if s.gotA || s.gotB then s.inp else data, gotA := s.gotA || !trunkB, gotB := s.gotB || trunkB }

/-- The input qualities of the snapshot at a boundary (R312 to R314). -/
def Work.iosCapture (w : Work) : Work :=
  if w.enabled iosPage = false then w
  else
    let first := w.x.ios.uncertain
    let ran := w.x.ios.started
    let w := w.each w.stations fun w s =>
      let x := w.sta s
      let good := x.gotA || x.gotB
      let old := w.get (IOSYNC.SSTAT s) IOSYNC.SSTAT_QUAL
      let q := if first then 1 else if good then 0 else 2
      let a := IOSYNC.SSTAT s
      let w := ((w.put a IOSYNC.SSTAT_QUAL q).putB a IOSYNC.SSTAT_NOA (!x.gotA)).putB a IOSYNC.SSTAT_NOB (!x.gotB)
      let w := w.when (ran && !good) fun w => w.incSat a IOSYNC.SSTAT_MISSCNT
      let w := w.when (decide (q = 2) && decide (old ≠ 2)) fun w => (w.incSat (IOSYNC.SCNT s) IOSYNC.SCNT_LOSTCNT).irq iosPage 16
      let w := w.put IOSYNC.BADMAP ⟨s, 1⟩ (if q = 2 then 1 else 0)
      w.staSet s fun s => { s with gotA := false, gotB := false }
    w.iosUpd fun x => { x with uncertain := false }

/-- The start frame of a boundary (R310); a cycle paused by a soft reset begins again at the next one (R322). -/
def Work.iosStart (w : Work) : Work :=
  if w.enabled iosPage = false then w.iosUpd fun x => { x with started := false, phase := false, outAt := none }
  else
    let runs := w.iosRuns && !w.x.ios.pause
    let w := w.iosUpd fun x => { x with started := runs, phase := false, outAt := none, pause := false }
    let w := w.putB IOSYNC.STAT IOSYNC.STAT_RUNNING runs
    let cycle := w.rd64 TASK.CYCLE TASK.CYCLEH
    w.when runs fun w => w.queueBoth kIoStart cycle (bytesOfNat 8 cycle)

/-! Output (R310, R313, R315) -/

/-- Bytes put over others from an offset. -/
def bytesOver (bs : List Byte) (off : Nat) (new : List Byte) : List Byte :=
  (bs ++ List.replicate (off + new.length - bs.length) 0).take off ++ new ++ bs.drop (off + new.length)

/-- The forces on the input or output variables (`out`) of a station, or of a mailbox (`mail`), replace their bytes (R303). -/
def Work.forceData (w : Work) (out mail : Bool) (dst : Nat) (bs : List Byte) : List Byte :=
  w.x.task.forces.foldl (fun bs e => match w.activeContent.ioVars.find? fun v => decide (v.id = e.2.1) with
    | some v => if v.out = out ∧ v.mail = mail ∧ v.dst = dst then bytesOver bs v.off ((bytesOfWord e.2.2).take v.len) else bs
    | none => bs) bs

/-- The data of a station's output frame: the stop data in Ready and in Hold entered from it (R297, R315), else the data last released; a
force replaces a variable's bytes except in Ready (R303). -/
def Work.staData (w : Work) (s : Nat) : List Byte :=
  let n := w.get (IOSYNC.SCFG s) IOSYNC.SCFG_OUTLEN
  let bs := if w.atStop then tabGet [] w.activeContent.stopData s else (w.sta s).out
  let bs := if w.x.mode = .ready then bs else w.forceData true false s bs
  (bs ++ List.replicate n 0).take n

/-- The output frame of a station goes out; after the last one the phase is over. -/
def Work.iosSend (w : Work) (s : Nat) : Work :=
  if s < w.nsta then
    (w.iosUpd fun x => { x with outAt := some s }).queueBoth kIoOut (w.get (IOSYNC.SCFG s) IOSYNC.SCFG_NODE) (w.staData s)
  else w.iosUpd fun x => { x with outAt := none }

/-- The output phase of the cycle starts. -/
def Work.iosOutput (w : Work) : Work :=
  if w.x.ios.started = false ∨ w.x.ios.phase then w
  else
    let w := w.each w.stations fun w s => w.putB (IOSYNC.SSTAT s) IOSYNC.SSTAT_UNDELIV false
    let w := (w.wr IOSYNC.UNDMAP 0).iosUpd fun x => { x with phase := true }
    w.iosSend 0

/-- HOLD_OUTPUT_PHASE (R310): at B(k) + WD0, where no release of T0 has started the phase. -/
def holdOutputPhase (w : Work) : Work :=
  if w.alive ∧ (w.x.mode ≠ .run ∨ w.flag TASK.STAT ⟨24, 1⟩) then w.iosOutput else w

/-- A station's node. -/
def Work.staNode (w : Work) (s : Nat) : Nat := w.get (IOSYNC.SCFG s) IOSYNC.SCFG_NODE

/-- IO_ACK_RECEIVED (R310, R464): the response window of its trunk ends, and the next output frame follows the first copy. -/
def ioAckReceived (st : Nat) (trunkB : Bool) (w : Work) : Work :=
  if w.alive ∧ st < w.nsta ∧ w.trkHears (tn trunkB) then
    let next := decide (w.x.ios.outAt = some st)
    (w.windowEnd (tn trunkB) (w.staNode st)).when next fun w => w.iosSend (st + 1)
  else w

/-- IO_ACK_TIMEOUT (R313, R464): the response windows end; without an acknowledgement the frame is UNDELIVERED. -/
def ioAckTimeout (st : Nat) (w : Work) : Work :=
  let w := if w.alive ∧ st < w.nsta then (w.windowEnd 0 (w.staNode st)).windowEnd 1 (w.staNode st) else w
  if w.alive ∧ w.x.ios.outAt = some st then
    let a := IOSYNC.SSTAT st
    let w := ((w.putB a IOSYNC.SSTAT_UNDELIV true).put IOSYNC.UNDMAP ⟨st, 1⟩ 1).incSat (IOSYNC.SCNT st) IOSYNC.SCNT_UNDCNT
    let w := (w.irq iosPage 17).evOccur iosPage st a 2 (w.get (IOSYNC.SCNT st) IOSYNC.SCNT_UNDCNT)
    w.iosSend (st + 1)
  else w

/-! Registers (R322 to R324) -/

/-- The refusals of a write. A node is compared with every other station's of the 32 whose entry is not all 0, which is one not in use
(R324; log entry 80). -/
def Work.iosCheck (w : Work) (a : Nat) (old new : Word) : List (Nat × Nat) :=
  if a = IOSYNC.CFG then
    chk IOSYNC.CFG_NSTA old new (decide (32 < IOSYNC.CFG_NSTA.get new)) rejRange
      ++ chk IOSYNC.CFG_SHARE old new (decide (IOSYNC.CFG_SHARE.get new < 10) || decide (90 < IOSYNC.CFG_SHARE.get new)) rejRange
  else if 0x1A100 ≤ a ∧ a < 0x1A300 ∧ a % 16 = 0 then
    let s := (a - 0x1A100) / 16
    let n := IOSYNC.SCFG_NODE.get new
    let twin := (List.range 32).any fun k => decide (k ≠ s) && decide (w.rd (IOSYNC.SCFG k) ≠ 0) && decide (w.get (IOSYNC.SCFG k) IOSYNC.SCFG_NODE = n)
    chk IOSYNC.SCFG_OUTLEN old new (decide (64 < IOSYNC.SCFG_OUTLEN.get new)) rejRange
      ++ chk IOSYNC.SCFG_INLEN old new (decide (64 < IOSYNC.SCFG_INLEN.get new)) rejRange
      ++ chk IOSYNC.SCFG_NODE old new (decide (0x77 < n) || decide (n = w.node) || twin) rejRange
  else []

/-- A soft reset stops the cycle for one main period (R322). -/
def Work.iosSoftReset (w : Work) : Work :=
  (w.iosUpd fun x => { x with pause := true, started := false, phase := false, outAt := none }).iosBudget

end Sys2Proof.Machine
end

