-- ==== Sys2Proof/Machine/Control.lean ====
section
/-! DEFINITION. The control engine (chapter 10): the lane tick, one step of a loop, modes and cascade, the conditions on its parameter
words. Destinations are released where the lanes' checkpoints are compared. -/

namespace Sys2Proof.Machine

/-- LSTAT.MODE (R339, R347). -/
def lmOff : Nat := 0
def lmMan : Nat := 1
def lmAuto : Nat := 2
def lmCasc : Nat := 3
def lmTrack : Nat := 4

def ctlPageNo : Nat := 0x020

/-- A loop as the lanes hold it. -/
def Work.lp (w : Work) (n : Nat) : LaneLoop := tabGet {} w.x.ctl.loops n
def Work.lpSet (w : Work) (n : Nat) (f : LaneLoop → LaneLoop) : Work :=
  w.upd fun x => { x with ctl := { x.ctl with loops := tabSet x.ctl.loops n (f (tabGet {} x.ctl.loops n)) } }
def Work.lpOn (w : Work) (n : Nat) : Bool := w.enabled ctlPageNo && w.flag (RAM.LCFG n) RAM.LCFG_EN

/-! Arithmetic (R334) -/

/-- A result in the engine's arithmetic: beyond the largest finite value it takes that value and sets OVF; a subnormal becomes 0 with
its sign. -/
def cfix (r : Word) : Word × Bool :=
  if fInf r then (fPack (fSign r) 0x7F7F_FFFF, true)
  else if fExp r = 0 ∧ fFrac r ≠ 0 then (fPack (fSign r) 0, false)
  else (r, false)

/-- A value with the OVF that its computation has raised. -/
structure Fx where
  v : Word
  o : Bool
  deriving DecidableEq, Repr

def fx (v : Word) : Fx := ⟨v, false⟩
def Fx.op (f : Word → Word → Word) (a b : Fx) : Fx :=
  let r := cfix (f a.v b.v)
  ⟨r.1, a.o || b.o || r.2⟩
def Fx.add (a b : Fx) : Fx := Fx.op fAdd a b
def Fx.sub (a b : Fx) : Fx := Fx.op fSub a b
def Fx.mul (a b : Fx) : Fx := Fx.op fMul a b
def Fx.div (a b : Fx) : Fx := Fx.op fDiv a b
def Fx.clamp (a lo hi : Fx) : Fx := ⟨fClamp a.v lo.v hi.v, a.o || lo.o || hi.o⟩
def fOne : Word := 0x3F80_0000

/-- T = LPER × 0.000 25 s in single precision (R336). -/
def periodOf (lper : Nat) : Fx := Fx.mul (fx (fOfInt lper)) (fx (fOfRat 1 4000))

/-- A single rounded to nearest with ties to even, saturated to signed 32 bits (R330). -/
def toInt32 (v : Word) : Word :=
  let (n, d) := fRat v
  let m : Int := (roundEven n.natAbs d : Int)
  let i := if n < 0 then -m else m
  BitVec.ofInt 32 (max (-2147483648) (min i 2147483647))

/-! Cascade (R340) -/

/-- Is loop `m` a valid master of loop `n`? -/
def Work.masterOk (w : Work) (n m : Nat) : Bool :=
  w.lpOn m && decide (m ≠ n) && !(decide ((w.lp m).mode = lmCasc) && decide (w.get (RAM.LCFG m) RAM.LCFG_CASCSRC = n))
def Work.masterOf (w : Work) (n : Nat) : Nat := w.get (RAM.LCFG n) RAM.LCFG_CASCSRC

/-- The slaves of a loop: the enabled loops that name it as their master. -/
def Work.slaves (w : Work) (m : Nat) : List Nat := (List.range 64).filter fun n => w.lpOn n && decide (n ≠ m) && decide (w.masterOf n = m)

/-- The slave whose SPR an open master follows: it has slaves and none of them is in CASC (log entry 46). -/
def Work.openSlave (w : Work) (m : Nat) : Option Nat :=
  if (w.lp m).mode = lmAuto ∨ (w.lp m).mode = lmCasc then
    if (w.slaves m).any fun n => decide ((w.lp n).mode = lmCasc) then none else (w.slaves m).head?
  else none

/-! Modes (R339) -/

/-- A loop takes the mode that MODEREQ asks for, where it is a change (log entry 45); CASC without a valid master is not applied. -/
def Work.lpRequest (w : Work) (n : Nat) : Work :=
  let r := w.get (OPV.MODEREQ n) OPV.MODEREQ_MODE
  let l := w.lp n
  if r = l.req ∨ r = 0 ∨ 4 < r then w
  else if r = lmCasc ∧ w.masterOk n (w.masterOf n) = false then
    w.lpSet n fun l => { l with req := r, sticky := l.sticky ||| 0x0400_0000 }
  else w.lpSet n fun l => { l with req := r, mode := r, flags := l.flags &&& 0x1BF }

/-- The PV source's word and quality (R328, R329). At a tick on a main boundary the words are the snapshot's. -/
def Work.srcWord (w : Work) (atB : Bool) (a : Nat) : Word :=
  match w.forcedReg a with
  | some v => v
  | none => if atB then regsGet w.x.task.snap.regs a else w.rd a

/-- PV, and whether it is bad by its quality, its value or the program's mark. -/
def Work.pvOf (w : Work) (atB : Bool) (n : Nat) : Fx × Bool × Nat :=
  let k := w.get (RAM.LCFG n) RAM.LCFG_PVKIND
  let raw := if k = 0 then w.rd (OPV.PVPROG n)
    else if k = 1 then w.srcWord atB (w.rd (RAM.PVADR n)).toNat
    else fOfInt (w.srcWord atB (w.rd (RAM.PVADR n)).toNat).toInt
  let qa := (w.rd (RAM.PVQADR n)).toNat
  let q := if qa = 0 then 0 else ((w.srcWord atB qa).toNat / 256) % 8
  let bad := decide (2 ≤ q ∧ q ≤ 5) || !fFinite raw || (decide (k = 0) && w.flag (OPV.MODEREQ n) OPV.MODEREQ_PVQ)
  let pv := Fx.add (Fx.mul (fx raw) (fx (w.rd (RAM.PVGAIN n)))) (fx (w.rd (RAM.PVOFS n)))
  (if fFinite raw then pv else fx raw, bad, q)

/-- The word a loop writes to its destination (R330). -/
def Work.destWord (w : Work) (n : Nat) (out : Word) : Fx :=
  let r := Fx.add (Fx.mul (fx out) (fx (w.rd (RAM.OUTGAIN n)))) (fx (w.rd (RAM.OUTOFS n)))
  if w.get (RAM.LCFG n) RAM.LCFG_OUTKIND = 2 then ⟨toInt32 r.v, r.o⟩ else r

/-- A destination word in output units (R339, R342). -/
def Work.destOut (w : Work) (n : Nat) (v : Word) : Fx :=
  let r := if w.get (RAM.LCFG n) RAM.LCFG_OUTKIND = 2 then fOfInt v.toInt else v
  Fx.div (Fx.sub (fx r) (fx (w.rd (RAM.OUTOFS n)))) (fx (w.rd (RAM.OUTGAIN n)))

/-- Has the loop a destination register? -/
def Work.hasDest (w : Work) (n : Nat) : Bool :=
  decide (w.get (RAM.LCFG n) RAM.LCFG_OUTKIND = 1) || decide (w.get (RAM.LCFG n) RAM.LCFG_OUTKIND = 2)

/-- The word last released to a register that is the destination of an enabled loop (R331). -/
def Work.laneWord (w : Work) (a : Nat) : Option Word :=
  ((List.range 64).find? fun n => w.lpOn n && w.hasDest n && decide ((w.rd (RAM.OUTADR n)).toNat = a)).bind fun n =>
    (w.x.ctl.dest.find? fun e => decide (e.1 = n)).map (·.2)

/-- The loop's destination word is staged for the lane checkpoint (R331). -/
def Work.laneStage (w : Work) (n : Nat) : Work :=
  let d := w.destWord n (w.lp n).out
  let w := w.upd fun x => { x with ctl := { x.ctl with
    stepped := x.ctl.stepped ++ [n],
    staged := if w.hasDest n then x.ctl.staged ++ [(n, d.v)] else x.ctl.staged } }
  w.lpSet n fun l => { l with steps := (l.steps + 1) % 2 ^ 32, sticky := if w.hasDest n && d.o then l.sticky ||| 0x0200_0000 else l.sticky }

/-- LSTAT as the lanes hold it (R347). -/
def LaneLoop.stat (l : LaneLoop) : Word := BitVec.ofNat 32 (l.flags * 2 ^ 16 + l.pvq * 2 ^ 8 + l.mode)

/-- LSTAT [24:16] take new levels; each rise is latched (R347). -/
def LaneLoop.setFlags (l : LaneLoop) (f : Nat) : LaneLoop :=
  let rise := f &&& (f ^^^ l.flags)
  { l with flags := f, sticky := l.sticky ||| BitVec.ofNat 32 (rise * 2 ^ 16) }

/-- The flags as a number: bit 0 PVBAD, 1 RAMPING, 2 INTSAT, 3 OUTSAT, 4 RATELIM, 5 DSTFORCED, 6 CASCLOST, 7 CASCOPEN, 8 SPCLAMP. -/
def lstatBits (pvbad ramping intsat outsat ratelim dstforced casclost cascopen spclamp : Bool) : Nat :=
  let b (c : Bool) (k : Nat) : Nat := if c then 2 ^ k else 0
  b pvbad 0 + b ramping 1 + b intsat 2 + b outsat 3 + b ratelim 4 + b dstforced 5 + b casclost 6 + b cascopen 7 + b spclamp 8

/-- One step of the law on good PV (R336, R342). -/
def Work.lpLaw (w : Work) (n : Nat) (pv : Fx) (pvq : Nat) : Work :=
  let l := w.lp n
  let p (a : Nat) : Fx := fx (w.rd a)
  let t := periodOf (w.get (RAM.LPER n) RAM.LPER_N)
  let cascOpen := w.openSlave n
  let eff := if cascOpen.isSome then lmTrack else l.mode
  let trk := match cascOpen with
    | some k => fx (w.lp k).spr
    | none => p (OPV.TRKVAL n)
  let rev := !w.flag (RAM.LCFG n) RAM.LCFG_ACTION
  let sg (a : Fx) : Fx := if rev then a else ⟨fNeg a.v, a.o⟩
  -- set-point
  let lo := p (RAM.SPLO n)
  let hi := p (RAM.SPHI n)
  let tgt0 := if l.mode = lmCasc then fx (w.lp (w.masterOf n)).out else p (OPV.SPTGT n)
  let spclamp := fLt tgt0.v lo.v || fLt hi.v tgt0.v
  let tgt := tgt0.clamp lo hi
  let spr0 := fx l.spr
  let rup := p (RAM.RUP n)
  let rdn := p (RAM.RDN n)
  let sptrk := w.flag (RAM.LCFG n) RAM.LCFG_SPTRK
  let warm := decide (l.start = .warm) && (decide (l.mode = lmAuto) || decide (l.mode = lmCasc))
  let spr0 := if warm && sptrk then pv.clamp lo hi else spr0
  let spr :=
    if (eff = lmMan ∨ eff = lmTrack) ∧ sptrk then pv.clamp lo hi
    else if fLt spr0.v tgt.v then
      (if fLe rup.v fZero then tgt else let s := spr0.add (rup.mul t); ⟨fMin s.v tgt.v, s.o⟩)
    else if fLt tgt.v spr0.v then
      (if fLe rdn.v fZero then tgt else let s := spr0.sub (rdn.mul t); ⟨fMax s.v tgt.v, s.o⟩)
    else spr0
  let ramping := fLt spr.v tgt.v || fLt tgt.v spr.v
  -- terms
  let tf := p (RAM.TF n)
  let a := tf.div (tf.add t)
  let e := sg (spr.sub pv)
  let pt := (p (RAM.KP n)).mul e
  let pvprev := if (l.start = .none ∨ l.start = .warm) ∧ l.flags.testBit 0 = false then fx l.pvprev else pv
  let dt := (a.mul (fx l.dstate)).sub ((((sg (p (RAM.KD n))).mul ((fx fOne).sub a)).mul (pv.sub pvprev)).div t)
  let ff := p (OPV.FF n)
  let out0 := fx l.out
  let istate := if warm then (((out0.sub pt).sub (fx l.dstate)).sub ff).clamp (p (RAM.OUTLO n)) (p (RAM.OUTHI n)) else fx l.istate
  let v := ((pt.add istate).add dt).add ff
  -- output
  let olo := p (RAM.OUTLO n)
  let ohi := p (RAM.OUTHI n)
  let w0 := if eff = lmMan then p (OPV.MANOUT n) else if eff = lmTrack then trk else v
  let outsat := fLt w0.v olo.v || fLt ohi.v w0.v
  let w1 := w0.clamp olo ohi
  let rt := (p (RAM.ORATE n)).mul t
  let rated := fLt fZero (w.rd (RAM.ORATE n))
  let move := w1.sub out0
  let ratelim := if rated then fLt rt.v (fAbs move.v) else l.flags.testBit 4
  let w2 := if rated then w1.clamp (out0.sub rt) (out0.add rt) else w1
  let forced := if w.hasDest n then w.forcedReg (w.rd (RAM.OUTADR n)).toNat else none
  let u := match forced with
    | some fv => w.destOut n fv
    | none => w2
  -- states for the next step
  let inew := if eff = lmAuto ∨ eff = lmCasc then
      istate.add (t.mul (((p (RAM.KI n)).mul e).add ((p (RAM.KAW n)).mul (u.sub v))))
    else ((u.sub pt).sub dt).sub ff
  let intsat := fLt inew.v olo.v || fLt ohi.v inew.v
  let ist := inew.clamp olo ohi
  let ovf := pv.o || spr.o || e.o || pt.o || dt.o || v.o || (rated && move.o) || w2.o || u.o || inew.o
  let bits := lstatBits false ramping intsat outsat ratelim forced.isSome (l.flags.testBit 6) cascOpen.isSome spclamp
  w.lpSet n fun l => { (l.setFlags bits) with
    spr := spr.v, istate := ist.v, dstate := dt.v, pvprev := pv.v, out := u.v, pv := pv.v, err := e.v, pvq := pvq, start := .none,
    sticky := (l.setFlags bits).sticky ||| (if ovf then 0x0200_0000 else 0) }

/-- One step of a loop: a mode request and the loss of a master first, then PV good or bad (R329, R336, R339, R340). -/
def Work.loopStep (w : Work) (atB : Bool) (n : Nat) : Work :=
  let l := w.lp n
  let w := w.lpRequest n
  let w := if (w.lp n).mode = lmCasc ∧ w.masterOk n (w.masterOf n) = false then
      w.lpSet n fun l => { (l.setFlags (l.flags ||| 0x40)) with mode := lmAuto }
    else w
  let (pv, bad, q) := w.pvOf atB n
  let w := if bad then w.lpSet n fun l => { (l.setFlags (l.flags ||| 1)) with pvq := q }
    else
      let w := w.when (decide (l.start = .cold)) fun w => w.lpSet n fun l => { l with spr := pv.v }
      w.lpLaw n pv q
  (w.when l.fresh fun w => w.lpSet n fun l => { l with fresh := false, req := lmMan }).laneStage n

/-- The loops due on a tick (R326). -/
def Work.dueLoops (w : Work) (j : Nat) : List Nat :=
  (List.range 64).filter fun n =>
    let per := w.get (RAM.LPER n) RAM.LPER_N
    w.lpOn n && decide (0 < per) && decide (j % per = w.get (RAM.LPHASE n) RAM.LPHASE_N)

/-- LANE_TICK (R326, R328, R331, R332, R345): in Run, every loop due on the tick steps, in ascending number, and the lane checkpoint of
the tick opens. A checkpoint left open is never released. While the Forms execute nothing TICK goes on counting. -/
def laneTick (w : Work) : Work :=
  let j := w.rd64 CTLENG.TICK CTLENG.TICKH
  if w.x.mode ≠ .run ∨ w.x.role = .standby ∨ w.enabled ctlPageNo = false then w
  else if w.executes = false then w.wr64 CTLENG.TICK CTLENG.TICKH (j + 1)
  else
    let p0 := w.get TASK.MAIN TASK.MAIN_P0
    let due := w.dueLoops j
    let w := w.upd fun x => { x with ctl := { x.ctl with staged := [], stepped := [], agree := [], odd := [], released := false,
                                                         isOpen := decide (due ≠ []) } }
    let w := w.each due fun w n => w.loopStep (decide (j % (4 * p0) = 0)) n
    let w := w.put CTLENG.CTLSTAT CTLENG.CTLSTAT_LOADMAX (max (w.get CTLENG.CTLSTAT CTLENG.CTLSTAT_LOADMAX) (min due.length 16))
    w.wr64 CTLENG.TICK CTLENG.TICKH (j + 1)

/-! What the windows show (R345, R347) -/

/-- A loop's status words, and the maps that follow them. -/
def Work.lpWords (w : Work) (n : Nat) : Work :=
  let l := w.lp n
  let w := w.wr (RAM.LSTAT n) l.stat
  let w := (((w.wr (RAM.LSTICKY n) l.sticky).wr (RAM.PV n) l.pv).wr (RAM.SPR n) l.spr).wr (RAM.ERR n) l.err
  let w := (((w.wr (RAM.OUT n) l.out).wr (RAM.ISTATE n) l.istate).wr (RAM.DSTATE n) l.dstate).wr (RAM.PVPREV n) l.pvprev
  let w := w.wr (RAM.STEPS n) (BitVec.ofNat 32 l.steps)
  let w := w.putB (CTLENG.STKMAP (n / 32)) ⟨n % 32, 1⟩ (decide (l.sticky ≠ 0))
  w.putB (CTLENG.BADMAP (n / 32)) ⟨n % 32, 1⟩ (l.flags.testBit 0)

/-- A loop's status words are shown, and the sources see what has risen (R344). -/
def Work.lpShow (w : Work) (n : Nat) : Work :=
  let l := w.lp n
  let old := w.get (RAM.LSTAT n) ⟨16, 9⟩
  let rise (k : Nat) : Bool := l.flags.testBit k && !old.testBit k
  let rs := decide (w.rd (RAM.LSTICKY n) = 0) && decide (l.sticky ≠ 0)
  let w := w.lpWords n
  let w := w.when rs fun w => w.irq ctlPageNo 16
  let w := w.when (rise 0) fun w => w.irq ctlPageNo 17
  w.when (rise 6) fun w => w.irq ctlPageNo 19

/-- NLOOPS (R345). -/
def Work.ctlCount (w : Work) : Work :=
  w.put CTLENG.CTLSTAT CTLENG.CTLSTAT_NLOOPS ((List.range 64).filter fun n => w.lpOn n).length

/-- A loop's status is shown by itself where no lane checkpoint carries it: enabling, STKCLR, PVBADT. -/
def Work.lpOut (w : Work) (n : Nat) : Work := (w.lpShow n).ctlCount

/-- EN set to 1 (R339): the mode in MODEREQ; OUT from the destination's present value; ISTATE := OUT − FF. -/
def Work.lpEnable (w : Work) (n : Nat) : Work :=
  let r := w.get (OPV.MODEREQ n) OPV.MODEREQ_MODE
  let ok := decide (1 ≤ r ∧ r ≤ 4)
  let casc := decide (r = lmCasc) && !w.masterOk n (w.masterOf n)
  let lo := w.rd (RAM.OUTLO n)
  let hi := w.rd (RAM.OUTHI n)
  let o := if w.hasDest n then (w.destOut n (w.rd (w.rd (RAM.OUTADR n)).toNat)).v else (w.lp n).out
  let out := fClamp o lo hi
  let ist := (Fx.sub (fx out) (fx (w.rd (OPV.FF n)))).v
  (w.lpSet n fun l => { l with
    mode := if ok then (if casc then lmAuto else r) else lmMan, req := if ok then r else lmMan, out := out,
    istate := ist, sticky := if casc then l.sticky ||| 0x0400_0000 else l.sticky, start := .resume }).lpOut n

/-- EN cleared: OFF (R339). -/
def Work.lpDisable (w : Work) (n : Nat) : Work := (w.lpSet n fun l => { l with mode := lmOff, flags := 0 }).lpOut n

/-- The page is enabled, or an image's PARAM section has come into force (R346, R348): every loop is as its EN says. -/
def Work.ctlLoaded (w : Work) : Work :=
  (w.each (List.range 64) fun w n =>
    if w.lpOn n then (if (w.lp n).mode = lmOff then w.lpEnable n else w) else if (w.lp n).mode = lmOff then w else w.lpDisable n).ctlCount

/-- TICK clears on entering Run (R345). -/
def Work.tickClear (w : Work) : Work := w.wr64 CTLENG.TICK CTLENG.TICKH 0

/-- What each enabled loop does at its first step (R333): 0 resume, 1 warm, 2 cold. A loop that has not stepped since a warm or cold
start keeps that start. -/
def Work.ctlRun (w : Work) (kind : Nat) : Work :=
  let w := w.upd fun x => { x with ctl := { x.ctl with staged := [], stepped := [], agree := [], odd := [], isOpen := false } }
  w.each ((List.range 64).filter fun n => w.lpOn n) fun w n =>
    if kind = 2 then
      let out := fClamp (w.rd (OPV.MANOUT n)) (w.rd (RAM.OUTLO n)) (w.rd (RAM.OUTHI n))
      let r := w.get (OPV.MODEREQ n) OPV.MODEREQ_MODE
      (w.lpSet n fun l => { l with mode := lmMan, req := r, istate := fZero, dstate := fZero, out := out, start := .cold, fresh := true }).lpShow n
    else w.lpSet n fun l => { l with start := if kind = 1 then .warm else if l.start = .none then .resume else l.start }

/-- PVBAD_TIMEOUT (R329, R339): PV has stayed bad for PVBADT. -/
def pvbadTimeout (n : Nat) (w : Work) : Work :=
  let l := w.lp n
  if w.executes ∧ w.lpOn n ∧ l.flags.testBit 0 ∧ w.flag (RAM.LCFG2 n) RAM.LCFG2_PVBADACT ∧ (l.mode = lmAuto ∨ l.mode = lmCasc) ∧ n < 64 then
    ((w.lpSet n fun l => { l with mode := lmMan }).lpShow n).irq ctlPageNo 18
  else w

/-- LSTICKY of the loops whose bit is written 1 clears (R345). -/
def Work.stkClear (w : Work) (high : Bool) (v : Word) : Work :=
  w.each ((List.range 32).filter fun b => v.toNat.testBit b) fun w b =>
    let n := b + if high then 32 else 0
    (w.lpSet n fun l => { l with sticky := 0 }).lpShow n

/-- STKCLR (R345): needs the Operator role. -/
def stkclr (p : Party) (high : Bool) (v : Word) (w : Work) : Work :=
  if w.usable ctlPageNo = false ∨ w.present p = false then w
  else if w.roleOf p < 1 then w.refuse ctlPageNo rejRole
  else w.stkClear high v

/-! Conditions on the words (R327, R328, R330, R334, R335, R339, R341, R346, R347) -/

/-- Could `need` more of these (period, phase) pairs fall due on one tick together with those chosen? Congruences that agree in pairs
have a common tick. `fuel` is the number of pairs. -/
def stackUp : Nat → List (Nat × Nat) → Nat → Bool
  | _, _, 0 => true
  | 0, _, _ + 1 => false
  | _ + 1, [], _ + 1 => false
  | fuel + 1, c :: rest, need + 1 =>
    if rest.length < need then false
    else stackUp fuel (rest.filter fun d => decide (c.2 % Nat.gcd c.1 d.1 = d.2 % Nat.gcd c.1 d.1)) need || stackUp fuel rest (need + 1)

/-- Would the loop so timed put more than 16 enabled loops on one tick (R327)? -/
def Work.overTick (w : Work) (n per ph : Nat) : Bool :=
  let others := ((List.range 64).filter fun k => decide (k ≠ n) && w.lpOn k).map fun k => (w.get (RAM.LPER k) RAM.LPER_N, w.get (RAM.LPHASE k) RAM.LPHASE_N)
  stackUp 64 (others.filter fun d => decide (ph % Nat.gcd per d.1 = d.2 % Nat.gcd per d.1)) 16

/-- A status word of a loop (R347): the program reads it in its snapshot. -/
def isLoopStatus (a : Nat) : Bool := decide (kindOf (a / 4096) = .ram) && decide (a % 4 = 0) && decide (0x80 ≤ a % 4096) && decide (a % 4096 ≤ 0xA4)

/-- A register the program reads in its snapshot, of an enabled page (R291, R328, R347). -/
def Work.snapReadable (w : Work) (a : Nat) : Bool :=
  (isLoopStatus a && w.enabled ctlPageNo) || decide (a % 4 = 0) && decide (0x40 ≤ a % 4096) && !isWindow (a / 4096) && decide (kindOf (a / 4096) ≠ .unmapped) && w.enabled (a / 4096)
    && decide (fieldsAt a ≠ [])

/-- A register the program writes: a block-specific register with a field that the Operator role may write. -/
def progWritten (a : Nat) : Bool :=
  decide (a % 4 = 0) && decide (0x40 ≤ a % 4096) && !isWindow (a / 4096)
    && (fieldsAt a).any fun f => (decide (f.acc = .rw) || decide (f.acc = .rwl)) && decide (f.role ≤ 1)

/-- Is the word in [lo, hi], both singles? -/
def fIn (lo hi v : Word) : Bool := fFinite v && fLe lo v && fLe v hi

/-- A float word out of its range (R334, R335), by its offset in the window. -/
def Work.floatBad (w : Work) (n off : Nat) (v : Word) : Bool :=
  let m6 := fOfInt 1000000
  if 0x28 ≤ off ∧ off ≤ 0x30 ∨ off = 0x38 then !fIn fZero m6 v
  else if off = 0x34 then !fIn fZero (fOfInt 600) v
  else if off = 0x40 then !(fFinite v && fLt v (w.rd (RAM.OUTHI n)))
  else if off = 0x44 then !(fFinite v && fLt (w.rd (RAM.OUTLO n)) v)
  else if off = 0x4C then !(fFinite v && fLe v (w.rd (RAM.SPHI n)))
  else if off = 0x50 then !(fFinite v && fLe (w.rd (RAM.SPLO n)) v)
  else if off = 0x48 ∨ off = 0x54 ∨ off = 0x58 then !fIn fZero (fOfInt 1000000000) v
  else if off = 0x14 ∨ off = 0x20 then !fFinite v || (fLe v fZero && fLe fZero v)
  else if off = 0x18 ∨ off = 0x24 then !fFinite v
  else false

/-- The destinations of the other enabled loops. -/
def Work.otherDests (w : Work) (n : Nat) : List Word :=
  ((List.range 64).filter fun k => decide (k ≠ n) && w.lpOn k && w.hasDest k).map fun k => w.rd (RAM.OUTADR k)

/-- The refusals of a write to a window word of loop `n`, beside lock and role. -/
def Work.ramCheck (w : Work) (n a : Nat) (old new : Word) : List (Nat × Nat) :=
  let off := a % 4096
  let held := decide (w.x.mode = .held) || decide (w.x.mode = .ready)
  let m := (w.lp n).mode
  let shut := !held && (decide (m = lmAuto) || decide (m = lmCasc))
  if off = 0x00 then
    let en := decide (RAM.LCFG_EN.get new = 1)
    let per := w.get (RAM.LPER n) RAM.LPER_N
    let ph := w.get (RAM.LPHASE n) RAM.LPHASE_N
    let ok := decide (RAM.LCFG_OUTKIND.get new = 1) || decide (RAM.LCFG_OUTKIND.get new = 2)
    let dest := (w.rd (RAM.OUTADR n)).toNat
    let bad := ok && !(progWritten dest && w.enabled (dest / 4096))
    let dup := en && ok && (w.otherDests n).contains (w.rd (RAM.OUTADR n))
    let open' : List Fld := [RAM.LCFG_EN, RAM.LCFG_ACTION, RAM.LCFG_OPVSRC, RAM.LCFG_PVKIND, RAM.LCFG_OUTKIND, RAM.LCFG_CASCSRC]
    (open'.map fun f => chk f old new shut rejState).flatten
      ++ chk RAM.LCFG_OUTKIND old new (decide (RAM.LCFG_OUTKIND.get new = 3) || dup || bad) rejRange
      ++ chk RAM.LCFG_PVKIND old new (decide (RAM.LCFG_PVKIND.get new = 3)) rejRange
      ++ chk RAM.LCFG_EN old new (en && (decide (per = 0) || w.overTick n per ph || dup || bad)) rejRange
  else if off = 0x04 then
    let per := RAM.LPER_N.get new
    let ph := w.get (RAM.LPHASE n) RAM.LPHASE_N
    chk RAM.LPER_N old new shut rejState
      ++ chk RAM.LPER_N old new (decide (per < 1) || decide (240000 < per) || decide (per ≤ ph) || (w.lpOn n && w.overTick n per ph)) rejRange
  else if off = 0x08 then
    let per := w.get (RAM.LPER n) RAM.LPER_N
    let ph := RAM.LPHASE_N.get new
    chk RAM.LPHASE_N old new shut rejState
      ++ chk RAM.LPHASE_N old new (decide (per ≤ ph) || (w.lpOn n && w.overTick n per ph)) rejRange
  else if off = 0x0C then chk ⟨0, 32⟩ old new shut rejState ++ chk ⟨0, 32⟩ old new (!w.snapReadable new.toNat) rejRange
  else if off = 0x10 then chk ⟨0, 32⟩ old new shut rejState
  else if off = 0x1C then
    chk ⟨0, 32⟩ old new shut rejState
      ++ chk ⟨0, 32⟩ old new (!(progWritten new.toNat && w.enabled (new.toNat / 4096)) || (w.lpOn n && w.hasDest n && (w.otherDests n).contains new)) rejRange
  else if off = 0x3C then chk RAM.LCFG2_PVBADT old new (decide (3600 < RAM.LCFG2_PVBADT.get new)) rejRange
  else if off < 0x3C then chk ⟨0, 32⟩ old new shut rejState ++ chk ⟨0, 32⟩ old new (w.floatBad n off new) rejRange
  else if off ≤ 0x58 then chk ⟨0, 32⟩ old new (w.floatBad n off new) rejRange
  else []

/-- The refusals of a write to a CTLENG word: the OPV words (R334, R346). -/
def Work.ctlCheck (w : Work) (p : Party) (a : Nat) (old new : Word) : List (Nat × Nat) :=
  if 0x20800 ≤ a ∧ a < 0x21000 then
    let n := (a - 0x20800) / 32
    let off := a % 32
    let st := whoOf p = 1 ∧ w.flag (RAM.LCFG n) RAM.LCFG_OPVSRC = false ∧ (w.x.mode = .run ∨ w.x.mode = .hold)
    let m := OPV.MODEREQ_MODE.get new
    if off = 0 then
      (if st then [(0, rejState)] else []) ++ chk OPV.MODEREQ_MODE old new (decide (m = 0) || decide (4 < m)) rejRange
    else if off ≤ 0x14 then (if st then [(0, rejState)] else []) ++ chk ⟨0, 32⟩ old new (!fFinite new) rejRange
    else []
  else []

/-- What follows an accepted write of a window word: EN. -/
def Work.ramWritten (w : Work) (n a : Nat) (old : Word) : Work :=
  if a % 4096 = 0 then
    let was := decide (RAM.LCFG_EN.get old = 1)
    let now := w.flag a RAM.LCFG_EN
    if was = now then w else if now then w.lpEnable n else w.lpDisable n
  else w

/-- A soft reset of the page clears LSTICKY, STEPS and LOADMAX; the loops' other words go on showing them (R344). -/
def Work.ctlSoftReset (w : Work) : Work :=
  let w := w.upd fun x => { x with ctl := { x.ctl with loops := x.ctl.loops.map fun e => (e.1, { e.2 with sticky := 0, steps := 0 }) } }
  (w.each (w.x.ctl.loops.map (·.1)) fun w n => w.lpWords n).ctlCount

end Sys2Proof.Machine
end

