-- ==== Sys2Proof/Machine/Belfry.lean ====
section
/-! DEFINITION. Belfry (chapter 11): alarm points, delays and chatter, annunciation states, suppression, commands, the engineer call
and the dead-man watch, the keep area. -/

namespace Sys2Proof.Machine

def belPage : Nat := 0x024
def Work.belUpd (w : Work) (f : BelfrySt → BelfrySt) : Work := w.upd fun x => { x with bel := f x.bel }
def Work.pa (w : Work) (pt : Nat) : PtAux := tabGet {} w.x.bel.aux pt
def Work.paSet (w : Work) (pt : Nat) (f : PtAux → PtAux) : Work :=
  w.belUpd fun s => { s with aux := tabSet s.aux pt (f (tabGet {} s.aux pt)) }

/-- PSTAT.ASTATE (R391). -/
def asNorm : Nat := 0
def asUnack : Nat := 1
def asAcked : Nat := 2
def asRtnun : Nat := 3
def asLatched : Nat := 4

def isSysPoint (pt : Nat) : Bool := decide (1008 ≤ pt)
def Work.astate (w : Work) (pt : Nat) : Nat := w.get (PT.PSTAT pt) PT.PSTAT_ASTATE
def Work.supmode (w : Work) (pt : Nat) : Nat := w.get (PT.PSTAT pt) PT.PSTAT_SUPMODE
def Work.ptGroup (w : Work) (pt : Nat) : Nat := if isSysPoint pt then 63 else w.get (PT.PCFG pt) PT.PCFG_GROUP

/-- System points are always enabled (R373). -/
def Work.ptOn (w : Work) (pt : Nat) : Bool := isSysPoint pt || w.flag (PT.PCFG pt) PT.PCFG_EN
def Work.points (w : Work) : List Nat := (List.range 1024).filter fun pt => w.ptOn pt

/-- Belfry evaluates (R350). -/
def Work.belOn (w : Work) : Bool :=
  w.enabled belPage && (decide (w.x.mode = .ready) || decide (w.x.mode = .run) || decide (w.x.mode = .hold))

/-! Defaults of the system points where the image has no POINTS section (R373) -/

def Work.noPoints (w : Work) : Bool := decide (w.activeContent.points = [])
def Work.ptPrio (w : Work) (pt : Nat) (cond : Nat) : Nat :=
  if isSysPoint pt && w.noPoints then (if [1009, 1014, 1015, 1016, 1019].contains pt then 2 else 1)
  else if cond = 1 ∨ cond = 4 then w.get (PT.PCFG pt) PT.PCFG_PRIO2 else w.get (PT.PCFG pt) PT.PCFG_PRIO
def Work.ptCall (w : Work) (pt : Nat) : Bool := if isSysPoint pt && w.noPoints then true else w.flag (PT.PCFG pt) PT.PCFG_CALLEN
def Work.ptOffDly (w : Work) (pt : Nat) : Nat := w.get (PT.DLY pt) PT.DLY_OFFDLY
def Work.ptOffEff (w : Work) (pt : Nat) : Nat := if isSysPoint pt then w.ptOffDly pt else w.get (PT.OFFEFF pt) PT.OFFEFF_OFFEFF

/-! Messages (R378) -/

def Work.belSends (w : Work) (pt : Nat) : Bool := decide (w.x.role ≠ .standby) || isSysPoint pt

/-- BELFRY_ALARM of a point. -/
def Work.sendAlarm (w : Work) (pt : Nat) : Work :=
  if w.belSends pt then
    let s := PT.PSTAT pt
    let b2 := w.astate pt + w.supmode pt * 16 + w.get s PT.PSTAT_FIRSTOUT * 64
    let b3 := w.get s PT.PSTAT_ACTLIM + w.get s PT.PSTAT_PRIOACT * 16
    w.queueBoth kBelfryAlarm pt (bytesOfNat 2 pt ++ bytesOfNat 1 b2 ++ bytesOfNat 1 b3 ++ bytesOfWord (w.rd (PT.VALUE pt))
      ++ bytesOfNat 8 w.net ++ bytesOfNat 1 (w.get TIME.STAT TIME.STAT_VALID))
  else w

/-- The points that are call-bearing (R374). -/
def Work.callPoints (w : Work) : List Nat :=
  w.points.filter fun pt => w.ptCall pt && decide (w.supmode pt = 0) && (decide (w.astate pt = asUnack) || decide (w.astate pt = asRtnun))

/-- Seconds left, rounded up. -/
def secsLeft (from' span now : Nat) : Nat := (from' + span - now + 999) / 1000
def Work.escRem (w : Work) : Nat :=
  if w.x.bel.cstate = 1 then secsLeft w.x.bel.escFrom (1000 * w.get BELFRY.BCFG BELFRY.BCFG_ESC1) w.now else 0
def Work.dmRem (w : Work) : Nat :=
  if w.x.bel.wstate = 1 ∨ w.x.bel.wstate = 2 then secsLeft w.x.bel.watchFrom (60000 * w.get BELFRY.BCFG BELFRY.BCFG_DMPER) w.now else 0

/-- BELFRY_CALL. -/
def Work.sendCall (w : Work) : Work :=
  if w.x.role = .standby then w
  else
    let cp := w.callPoints
    let prio := cp.foldl (fun m pt => max m (w.get (PT.PSTAT pt) PT.PSTAT_PRIOACT)) 0
    w.queueBoth kBelfryCall 0 (bytesOfNat 1 w.x.bel.cstate ++ bytesOfNat 1 w.x.bel.wstate ++ bytesOfNat 1 (w.get BELFRY.CALLSTAT BELFRY.CALLSTAT_DUTY)
      ++ bytesOfNat 1 (w.get BELFRY.CALLSTAT BELFRY.CALLSTAT_AUDIBLE) ++ bytesOfNat 2 (cp.headD 0xFFFF) ++ bytesOfNat 1 prio ++ bytesOfNat 1 0
      ++ bytesOfNat 2 w.escRem ++ bytesOfNat 2 w.dmRem)

/-! Call outputs and states (R374 to R377) -/

/-- The CALL outputs (R376): open by their nibbles while Belfry evaluates, all open otherwise. -/
def Work.callOut (w : Work) : Work :=
  let c := w.x.bel.cstate
  let d := w.x.bel.wstate
  let cond := (if 1 ≤ c then 1 else 0) + (if c = 2 then 2 else 0) + (if d = 3 then 4 else 0) + (if d = 2 then 8 else 0)
  let sel := w.get BELFRY.CALLCFG BELFRY.CALLCFG_SEL
  let bit (n : Nat) : Nat := if (sel / 16 ^ n % 16) &&& cond ≠ 0 then 2 ^ n else 0
  let w := w.put BELFRY.CALLSTAT BELFRY.CALLSTAT_OPEN (if w.belOn then bit 0 + bit 1 + bit 2 + bit 3 else 15)
  let w := (w.put BELFRY.CALLSTAT BELFRY.CALLSTAT_CSTATE c).put BELFRY.CALLSTAT BELFRY.CALLSTAT_WSTATE d
  ((w.put BELFRY.TIMERS BELFRY.TIMERS_ESCREM w.escRem).put BELFRY.TIMERS BELFRY.TIMERS_DMREM w.dmRem).putB BELFRY.BSTAT BELFRY.BSTAT_EVALON w.belOn

def Work.audible (w : Work) (b : Bool) : Work := w.putB BELFRY.CALLSTAT BELFRY.CALLSTAT_AUDIBLE b

/-- The watch takes a state (R375): recorded, sent. -/
def Work.watchTo (w : Work) (st : Nat) : Work :=
  let old := w.x.bel.wstate
  let now := w.now
  let w := w.belUpd fun s => { s with wstate := st, watchFrom := if st = 1 then now else s.watchFrom }
  if old = st then w.callOut
  else (((w.evState belPage noSub BELFRY.CALLSTAT 16 old st).irq belPage 18).callOut).sendCall

/-- WATCH_ON (R375). -/
def Work.watchStart (w : Work) : Work := if w.x.bel.wstate = 0 then w.watchTo 1 else w

/-- The call takes a state (R374). -/
def Work.callTo (w : Work) (st : Nat) : Work :=
  let old := w.x.bel.cstate
  let now := w.now
  if old = st then w
  else
    let w := w.belUpd fun s => { s with cstate := st, escFrom := if st = 1 then now else s.escFrom }
    let w := w.when (decide (old < st)) fun w => w.audible true
    let w := (((w.evState belPage noSub BELFRY.CALLSTAT 12 old st).irq belPage 17).callOut).sendCall
    w.when (decide (st = 0) && w.flag BELFRY.BCFG BELFRY.BCFG_DMAUTO) fun w => w.watchStart

/-! Points -/

/-- A point's first-out mark and its group's (R369, R388). -/
def Work.foShow (w : Work) (g : Nat) : Work :=
  let fo := tabGet 0x3FF w.x.bel.fo g
  let pts := w.points.filter fun pt => decide (w.ptGroup pt = g)
  let w := w.put (BELFRY.GSTAT g) BELFRY.GSTAT_FOPT fo
  w.each pts fun w pt => w.putB (PT.PSTAT pt) PT.PSTAT_FIRSTOUT (decide (pt = fo))

/-- The step up of OFFEFF at a counted raise (R360). -/
def Work.chatterRaise (w : Work) (pt : Nat) : Work :=
  let c := PT.CHCFG2 pt
  let chn := w.get c PT.CHCFG2_CHN
  if isSysPoint pt ∨ chn = 0 then w
  else
    let t := w.now
    let ri := w.get (PT.RINGCTL pt) PT.RINGCTL_RI
    let w := w.wr (PT.RING pt ri) (BitVec.ofNat 32 t)
    let ri := (ri + 1) % 8
    let nr := min (w.get (PT.RINGCTL pt) PT.RINGCTL_NR + 1) 8
    let w := ((w.put (PT.RINGCTL pt) PT.RINGCTL_RI ri).put (PT.RINGCTL pt) PT.RINGCTL_NR nr).paSet pt fun a => { a with qstart := t }
    let span := (BitVec.ofNat 32 t - w.rd (PT.RING pt ((ri + 16 - chn) % 8))).toNat
    if chn ≤ nr ∧ span ≤ 1000 * w.get c PT.CHCFG2_CHWIN then
      let w := w.put (PT.RINGCTL pt) PT.RINGCTL_NR 0
      let off := w.ptOffEff pt
      let ceil := w.get (PT.CHCFG1 pt) PT.CHCFG1_CHCEIL
      if off < ceil then
        let off := min (off + w.get (PT.CHCFG1 pt) PT.CHCFG1_CHSTEP) ceil
        let w := (w.put (PT.OFFEFF pt) PT.OFFEFF_OFFEFF off).incSat (PT.OFFEFF pt) PT.OFFEFF_CHUPS
        (w.irq belPage 19).emit belPage 0x08 pt [data6 0x84 0 0 off (off / 256) (span / 1000)]
      else (w.putB (PT.PSTAT pt) PT.PSTAT_CHATLIM true).emit belPage 0x03 pt [data6 0x80 0 18 1 0 0]
    else w

/-- The step down (R360). `elapsed`: CHQUIET has passed. -/
def Work.chatterQuiet (w : Work) (pt : Nat) (elapsed : Bool) : Work :=
  let off := w.ptOffEff pt
  let dly := w.ptOffDly pt
  let a := w.astate pt
  if isSysPoint pt = false ∧ w.get (PT.CHCFG2 pt) PT.CHCFG2_CHN ≠ 0 ∧ dly < off ∧ (a = asNorm ∨ a = asRtnun) ∧ w.supmode pt = 0 ∧ elapsed then
    let t := w.now
    let off := max (off - w.get (PT.CHCFG1 pt) PT.CHCFG1_CHSTEP) dly
    let w := (w.put (PT.OFFEFF pt) PT.OFFEFF_OFFEFF off).paSet pt fun a => { a with qstart := t }
    let w := w.when (decide (off = dly)) fun w => w.putB (PT.PSTAT pt) PT.PSTAT_CHATLIM false
    (w.irq belPage 19).emit belPage 0x08 pt [data6 0x84 0 0 off (off / 256) 0]
  else w

/-- A point takes an annunciation state (R362, R369, R377, R378, R381). `counted`: a raise that enters chatter detection. A Standby announces its
system points by BELFRY_ALARM alone (R379). A re-entry into UNACK (R363) is sent like a change. -/
def Work.toAstate (w : Work) (pt st : Nat) (counted : Bool) : Work :=
  let old := w.astate pt
  let w := w.put (PT.PSTAT pt) PT.PSTAT_ASTATE st
  let w := if old = st then w else
    let w := (w.wr (PT.TCHG pt) (BitVec.ofNat 32 w.now)).emit belPage 0x02 pt [data6 0x80 0 0 old st 0]
    let l := w.get (PT.PSTAT pt) PT.PSTAT_ACTLIM
    let v := (w.rd (PT.VALUE pt)).toNat
    (w.emit belPage 0x08 pt [data6 0x80 0 8 l 0 0]).emit belPage 0x08 pt [data6 0x88 0 0 v (v / 256) (v / 65536)]
  let w := if st = asUnack then
      let g := w.ptGroup pt
      let fo := w.flag (BELFRY.GCFG g) BELFRY.GCFG_FOEN && w.flag (PT.PCFG pt) PT.PCFG_FOEN && !isSysPoint pt
        && decide (tabGet 0x3FF w.x.bel.fo g = 0x3FF)
      let w := w.when fo fun w => (w.belUpd fun s => { s with fo := tabSet s.fo g pt }).foShow g
      let w := (w.irq belPage 16).when (w.ptCall pt && decide (w.x.role ≠ .standby)) fun w => w.audible true
      w.when counted fun w => w.chatterRaise pt
    else w
  if old = st ∧ st ≠ asUnack then w else w.sendAlarm pt

/-- The rank of a condition (R358); conditions are numbered as ACTLIM: 1 LL, 2 L, 3 H, 4 HH, 5 BIT, 6 FAULT. -/
def condRank (c : Nat) : Nat := if c = 0 then 0 else if c = 6 then 3 else if c = 1 ∨ c = 4 then 2 else 1

/-- The raised condition of highest rank; 0 none. -/
def topCond (l : List Nat) : Nat := l.foldl (fun m c => if condRank m < condRank c then c else m) 0

/-- A point's raised conditions become `r` (R362, R363, R365). `fresh`: a new instance of a system point's condition. -/
def Work.setRaised (w : Work) (pt : Nat) (r : List Nat) (fresh : Bool) : Work :=
  let was := (w.pa pt).raised
  let top0 := topCond was
  let top := topCond r
  let mode := w.supmode pt
  let w := w.paSet pt fun a => { a with raised := r }
  let w := w.put (PT.PSTAT pt) PT.PSTAT_ACTLIM top
  let w := w.when (decide (top ≠ 0)) fun w => w.put (PT.PSTAT pt) PT.PSTAT_PRIOACT (w.ptPrio pt top)
  let raise := decide (top0 = 0) && decide (top ≠ 0)
  let higher := decide (top0 ≠ 0) && decide (condRank top0 < condRank top)
  let again := fresh && decide (top0 ≠ 0) && decide (top ≠ 0)
  let ret := decide (top0 ≠ 0) && decide (top = 0)
  let w := w.when (raise || higher || again) fun w => (w.wr (PT.TRAISE pt) (BitVec.ofNat 32 w.now)).incSat (PT.COUNT pt) PT.COUNT_RAISES
  let a := w.astate pt
  if mode ≠ 0 then
    w.when (decide (top0 ≠ top) && decide (mode ≠ 3)) fun w => w.emit belPage 0x02 pt [data6 0x80 0 8 top0 top mode]
  else if raise then w.toAstate pt asUnack true
  else if higher ∨ again then w.toAstate pt asUnack false
  else if ret then
    if a = asUnack then w.toAstate pt asRtnun false
    else if a = asAcked then w.toAstate pt (if w.flag (PT.PCFG pt) PT.PCFG_LATCH && !isSysPoint pt then asLatched else asNorm) false
    else w
  else w

/-- Is the point shelved at this time? -/
def PtAux.shelved (a : PtAux) (t : Nat) : Bool :=
  match a.shelfEnd with
  | some e => decide (t < e)
  | none => false

/-- The suppression mode in force (R365): OOS over SHELVED over SUPPRESSED. A change sends BELFRY_ALARM and is recorded; leaving every
mode with a condition raised enters UNACK. -/
def Work.ptMode (w : Work) (pt : Nat) : Work :=
  let a := w.pa pt
  let t := w.now
  let ran := a.shelfEnd.isSome && !a.shelved t
  let w := w.when ran fun w => (w.paSet pt fun a => { a with shelfEnd := none }).irq belPage 20
  let a := w.pa pt
  let m := if a.oos then 3 else if a.shelved t then 1 else if w.x.bel.sup.contains (w.ptGroup pt) && !isSysPoint pt then 2 else 0
  let rem := match a.shelfEnd with
    | some e => (e - t + 59999) / 60000
    | none => 0
  let w := w.put (PT.TIMER pt) PT.TIMER_SHREM rem
  let old := w.supmode pt
  if old = m then w
  else
    let w := (w.put (PT.PSTAT pt) PT.PSTAT_SUPMODE m).emit belPage 0x02 pt [data6 0x80 0 4 old m 0]
    if m ≠ 0 then (if w.astate pt = asNorm then w.sendAlarm pt else w.toAstate pt asNorm false)
    else if (w.pa pt).raised ≠ [] then w.toAstate pt asUnack false else w.sendAlarm pt

/-- What a system point watches (R373). -/
def Work.sysActive (w : Work) (pt : Nat) : Bool :=
  let h := w.moduleHealth.2
  let fns := List.range 8
  let trunk (t : Nat) : Bool := decide (w.trkState t = tsPassive) || decide (w.trkState t = tsBusoff) || w.flag (TRK.STAT t) TRK.STAT_LONE
  if pt = 1008 then decide (h = 1)
  else if pt = 1009 then decide (h = 2)
  else if pt = 1010 then w.flag TASK.STAT TASK.STAT_FORCED
  else if pt = 1011 then w.x.bel.wdStop
  else if pt = 1012 then w.flag IOSYNC.STAT IOSYNC.STAT_OVERBUDGET
  else if pt = 1013 then decide (w.x.safe.ss = ssUnsealed)
  else if pt = 1014 then fns.any fun f => w.fDeg f
  else if pt = 1015 then fns.any fun f => [0, 1].any fun v => (w.sfn v f).deg && decide (w.graceRem v f ≤ 5)
  else if pt = 1016 then fns.any fun f => (w.sfn 0 f).graceOut || (w.sfn 1 f).graceOut
  else if pt = 1017 then w.x.bel.aux.any fun e => e.2.oos
  else if pt = 1018 then
    w.flag PAIR.CFG PAIR.CFG_PAIRED &&
      ((!w.flag PAIR.STAT PAIR.STAT_LINKUP && !w.flag PAIR.STAT PAIR.STAT_PSEENA && !w.flag PAIR.STAT PAIR.STAT_PSEENB)
        || decide (2 ≤ w.get PAIR.PEER PAIR.PEER_PHEALTH))
  else if pt = 1019 then w.flag PAIR.STAT PAIR.STAT_SPLITRISK
  else if pt = 1020 then trunk 0
  else if pt = 1021 then trunk 1
  else if pt = 1022 then !w.flag TIME.STAT TIME.STAT_VALID || w.flag TIME.STAT TIME.STAT_REFUSING
  else !w.flag (NET.LINK 0) NET.LINK_UP || !w.flag (NET.LINK 1) NET.LINK_UP
    || w.flag (NET.LINK 0) NET.LINK_LANSILENT || w.flag (NET.LINK 1) NET.LINK_LANSILENT

/-- The word a point or a group reads (R305, R352): beneath a force, the program's own value or what its loop released last. -/
def Work.belWord (w : Work) (a : Nat) : Word :=
  match w.forcedReg a with
  | some _ => match w.laneWord a with
    | some v => v
    | none => tabGet (w.rd a) w.x.task.outImg a
  | none => w.rd a

/-- One limit (R357): active at the limit, inactive beyond the deadband. -/
def limitOn (was en high : Bool) (v lim db : Word) : Bool :=
  if en then
    (if was then !(if high then fLt v (fSub lim db) else fLt (fAdd lim db) v) else (if high then fLe lim v else fLe v lim))
  else false

/-- What a point sees (R355 to R357): the conditions active now, or none while they hold; the value; QBAD; STALE. `cap` is the module as
captured at the boundary (R352). -/
def Work.ptInput (w cap : Work) (pt : Nat) : Option (List Nat) × Word × Bool × Bool :=
  let c := PT.PCFG pt
  let was := (w.pa pt).act
  let kind := w.get c PT.PCFG_SRCKIND
  let v0 := w.rd (PT.VALUE pt)
  if isSysPoint pt then (some (if w.sysActive pt then [5] else []), v0, false, false)
  else if kind = 3 ∧ w.x.mode ≠ .run then (none, v0, false, true)
  else
    let sa := (w.rd (PT.SRCADR pt)).toNat
    let qa := (w.rd (PT.QADR pt)).toNat
    let unread := (decide (kind ≠ 3) && !w.snapReadable sa) || (decide (qa ≠ 0) && !w.snapReadable qa)
    let q := if qa = 0 then 0 else ((cap.belWord qa).toNat / 256) % 8
    let raw := if kind = 0 then cap.belWord sa else fOfInt (cap.belWord sa).toInt
    let v := fAdd (fMul raw (w.rd (PT.GAIN pt))) (w.rd (PT.OFS pt))
    let analog := decide (kind ≤ 1)
    let bad := unread || decide (q = 2) || (analog && !fFinite v)
    if unread = false ∧ (q = 3 ∨ q = 4 ∨ q = 5) then (none, v0, false, false)
    else if bad then (some (was.filter (fun k => decide (k ≠ 6)) ++ if w.flag c PT.PCFG_FLTALM then [6] else []), v0, true, false)
    else if analog then
      let db := w.rd (PT.DB pt)
      let en (b : Nat) : Bool := (w.get c PT.PCFG_LIMEN).testBit b
      let on (k b : Nat) (high : Bool) (lim : Word) : List Nat := if limitOn (was.contains k) (en b) high v lim db then [k] else []
      (some (on 1 0 false (w.rd (PT.LIMLL pt)) ++ on 2 1 false (w.rd (PT.LIML pt)) ++ on 3 2 true (w.rd (PT.LIMH pt))
        ++ on 4 3 true (w.rd (PT.LIMHH pt))), v, false, false)
    else
      let bit := if kind = 2 then (cap.belWord sa).getLsbD (w.get c PT.PCFG_SRCBIT) else (cap.belWord (BELFRY.PBIT (pt / 32))).getLsbD (pt % 32)
      (some (if bit = w.flag c PT.PCFG_ALMLVL then [5] else []), if bit then 1 else 0, false, false)

/-- The timers of the conditions: a level that changes starts anew; conditions that hold keep their elapsed counts. -/
def stepSince (a : PtAux) (now last : Nat) (next : List Nat) (hold : Nat → Bool) : List (Nat × Nat) :=
  (List.range 7).map fun k =>
    let s := tabGet now a.since k
    (k, if hold k then s + (now - last) else if a.act.contains k = next.contains k then s else now)

/-- One point is evaluated (R351, R356, R359, R360). -/
def Work.ptEval (w cap : Work) (pt : Nat) : Work :=
  let t := w.now
  let last := w.x.bel.last
  let fresh := w.x.bel.newInst.contains pt
  let w := w.ptMode pt
  let (next, v, qbad, stale) := w.ptInput cap pt
  let a := w.pa pt
  let act := next.getD a.act
  let since := stepSince a t last act fun k => next.isNone || (qbad && decide (k ≠ 6))
  let w := w.paSet pt fun a => { a with act := act, since := since }
  let w := (((w.wr (PT.VALUE pt) v).putB (PT.PSTAT pt) PT.PSTAT_QBAD qbad).putB (PT.PSTAT pt) PT.PSTAT_STALE stale).putB
    (PT.PSTAT pt) PT.PSTAT_COND (decide (act ≠ []))
  let on := 100 * w.get (PT.DLY pt) PT.DLY_ONDLY
  let off := 100 * w.ptOffEff pt
  let held (k : Nat) : Bool := next.isNone || (qbad && decide (k ≠ 6))
  let ran (k span : Nat) : Bool := !held k && decide (tabGet t since k + span ≤ t)
  let up := act.filter fun k => !a.raised.contains k && ran k on
  let keep := a.raised.filter fun k => act.contains k || !ran k off
  let k := topCond (act.filter fun k => !a.raised.contains k)
  let k := if k = 0 then topCond (a.raised.filter fun k => !act.contains k) else k
  let w := w.put (PT.TIMER pt) PT.TIMER_DLYRUN (if k = 0 then 0 else min ((t - tabGet t since k) / 100) 65535)
  let w := if up = [] ∧ keep = a.raised ∧ fresh = false then w else w.setRaised pt (keep ++ up) fresh
  w.chatterQuiet pt (decide ((w.pa pt).qstart + 1000 * w.get (PT.CHCFG2 pt) PT.CHCFG2_CHQUIET ≤ t))

/-! Group suppression (R366) -/

def Work.groupEval (w cap : Work) (g : Nat) : Work :=
  let c := BELFRY.GCFG g
  let a := (w.rd (BELFRY.GSUP g)).toNat
  let t := w.now
  let was := w.x.bel.supAt.contains g
  let read := w.flag c BELFRY.GCFG_SUPEN && w.snapReadable a
  let word := cap.belWord a
  let q := (word.toNat / 256) % 8
  let bad := w.flag c BELFRY.GCFG_SUPQ && (decide (q = 2) || decide (q = 3))
  let level := read && !bad && decide (word.getLsbD (w.get c BELFRY.GCFG_SUPBIT) = w.flag c BELFRY.GCFG_SUPPOL)
  let rel := (w.x.bel.relEnd.find? fun e => decide (e.1 = g)).map (·.2)
  let rel : Option Nat := if read = false ∨ bad ∨ level then none
    else if was then some (t + 1000 * w.get c BELFRY.GCFG_SUPREL) else rel
  let running : Bool := match rel with
    | some e => decide (t < e)
    | none => false
  let sup := level || running
  let w := w.belUpd fun s => { s with
    supAt := if level then g :: s.supAt.filter (fun k => decide (k ≠ g)) else s.supAt.filter (fun k => decide (k ≠ g))
    sup := if sup then g :: s.sup.filter (fun k => decide (k ≠ g)) else s.sup.filter (fun k => decide (k ≠ g))
    relEnd := match rel with
      | some e => if running then tabSet s.relEnd g e else s.relEnd.filter fun r => decide (r.1 ≠ g)
      | none => s.relEnd.filter fun r => decide (r.1 ≠ g) }
  (w.putB (BELFRY.GSTAT g) BELFRY.GSTAT_SUP sup).putB (BELFRY.GSTAT g) BELFRY.GSTAT_RELRUN running

/-! Commands (R370) -/

/-- The points a scope names. -/
def Work.scopePoints (w : Work) (scope target : Nat) : List Nat :=
  w.points.filter fun pt => if scope = 0 then decide (pt = target) else if scope = 1 then decide (w.ptGroup pt = target) else true

/-- ACK of a point (R362). -/
def Work.ptAck (w : Work) (pt : Nat) : Work :=
  let a := w.astate pt
  if a = asUnack then (w.toAstate pt asAcked false).incSat (PT.COUNT pt) PT.COUNT_ACKS
  else if a = asRtnun then
    (w.toAstate pt (if w.flag (PT.PCFG pt) PT.PCFG_LATCH && !isSysPoint pt then asLatched else asNorm) false).incSat (PT.COUNT pt) PT.COUNT_ACKS
  else w

/-- A group's first-out is cleared where none of its points is outside NORM (R369). -/
def Work.foReset (w : Work) (g : Nat) : Work :=
  if w.points.any fun pt => decide (w.ptGroup pt = g) && decide (w.astate pt ≠ asNorm) then w
  else (w.belUpd fun s => { s with fo := s.fo.filter fun e => decide (e.1 ≠ g) }).foShow g

/-- A command takes effect (R362, R367 to R370, R375, R377). -/
def Work.belApply (w : Work) (c : Word) : Work :=
  let cmd := BELFRY.BCMD_CMD.get c
  let scope := BELFRY.BCMD_SCOPE.get c
  let arg := BELFRY.BCMD_ARG.get c
  let tgt := BELFRY.BCMD_TARGET.get c
  let t := w.now
  if cmd = 1 then w.each (w.scopePoints scope tgt) fun w pt => w.ptAck pt
  else if cmd = 2 then w.audible false
  else if cmd = 3 then w.paSet tgt fun a => { a with shelfEnd := some (t + 60000 * arg) }
  else if cmd = 4 then w.paSet tgt fun a => { a with shelfEnd := none }
  else if cmd = 5 then if (w.pa tgt).oos then w else (w.paSet tgt fun a => { a with oos := true }).newInstance 1017
  else if cmd = 6 then w.paSet tgt fun a => { a with oos := false }
  else if cmd = 7 then
    let w := w.each (w.scopePoints scope tgt) fun w pt => if w.astate pt = asLatched then w.toAstate pt asNorm false else w
    if scope = 1 then w.foReset tgt else if scope = 2 then w.each (List.range 64) fun w g => w.foReset g else w
  else if cmd = 8 then w.watchStart
  else if cmd = 9 then w.watchTo 0
  else if cmd = 10 then if w.x.bel.wstate = 0 then w else w.watchTo 1
  else if cmd = 11 then w.put BELFRY.CALLSTAT BELFRY.CALLSTAT_DUTY arg
  else w

/-- What keeps a command from being accepted (R370 to R372, R386): its reason code. Role and state come before the queue's room, the
range last. -/
def Work.belRefusal (w : Work) (src : BelSrc) (c : Word) : Option Nat :=
  let cmd := BELFRY.BCMD_CMD.get c
  let scope := BELFRY.BCMD_SCOPE.get c
  let arg := BELFRY.BCMD_ARG.get c
  let tgt := BELFRY.BCMD_TARGET.get c
  let need := if cmd = 5 ∨ cmd = 6 then 2 else 1
  let role := match src with
    | .party p => if p = .program ∧ ¬ (8 ≤ cmd ∧ cmd ≤ 10) then 0 else w.roleOf p
    | .panel => 1
    | .trunk _ => 1
  let pointBad := decide (scope ≠ 0) || !w.ptOn tgt
  let wide := decide (scope = 3) || (decide (scope = 0) && !w.ptOn tgt) || (decide (scope = 1) && decide (63 < tgt))
  let bad :=
    if cmd = 1 ∨ cmd = 7 then wide
    else if cmd = 3 then pointBad || isSysPoint tgt || decide (arg < 1) || decide (w.get (PT.PANEL tgt) PT.PANEL_SHMAX < arg)
    else if cmd = 4 then pointBad
    else if cmd = 5 then pointBad || isSysPoint tgt
    else if cmd = 6 then pointBad
    else if cmd = 11 then decide (scope = 3) || decide (15 < arg)
    else decide (11 < cmd) || decide (scope = 3)
  if role < need then some rejRole
  else if w.belOn = false ∨ w.get (HDR.PGHEALTH belPage) HDR.PGHEALTH_CLASS = 3 then some rejState
  else if 64 ≤ w.x.bel.cmds.length then some rejBusy
  else if bad then some rejRange else none

/-- A command from any source (R371, R372, R379): refused, or queued and recorded; a Standby passes it over the pair link. -/
def Work.belCommand (w : Work) (src : BelSrc) (c : Word) : Work :=
  if BELFRY.BCMD_CMD.get c = 0 then w
  else match w.belRefusal src c with
    | some code => match src with
      | .party p => (w.refuse belPage code).evRefused belPage noSub BELFRY.BCMD code (whoOf p) (w.userOf p)
      | .panel => w.evRefused belPage noSub BELFRY.BCMD code 2 0
      | .trunk n => w.evRefused belPage noSub BELFRY.BCMD code 3 n
    | none =>
      let user := match src with
        | .party p => w.userOf p
        | .panel => 0
        | .trunk n => n
      let w := w.evCommand belPage noSub c user
      if w.x.role = .standby then w.send (.belfryCmd c) else w.belUpd fun s => { s with cmds := s.cmds ++ [c] }

/-- The word of a command (R386). -/
def bcmd (cmd scope arg target : Nat) : Word :=
  BELFRY.BCMD_CMD.set (BELFRY.BCMD_SCOPE.set (BELFRY.BCMD_ARG.set (BELFRY.BCMD_TARGET.set 0 target) arg) scope) cmd

/-- A write of BCMD by a party. -/
def Work.bcmdWrite (w : Work) (p : Party) (c : Word) : Work :=
  if w.usable belPage = false ∨ w.present p = false then w else w.belCommand (.party p) c

/-- ACK (R370). -/
def ack (p : Party) (scope target : Nat) (w : Work) : Work := w.bcmdWrite p (bcmd 1 scope 0 target)
/-- SILENCE (R370, R377). -/
def silence (p : Party) (w : Work) : Work := w.bcmdWrite p (bcmd 2 0 0 0)
/-- SHELVE (R367, R370). -/
def shelve (p : Party) (pt minutes : Nat) (w : Work) : Work := w.bcmdWrite p (bcmd 3 0 minutes pt)
/-- UNSHELVE (R367, R370). -/
def unshelve (p : Party) (pt : Nat) (w : Work) : Work := w.bcmdWrite p (bcmd 4 0 0 pt)
/-- OOS (R368, R370). -/
def oos (p : Party) (pt : Nat) (w : Work) : Work := w.bcmdWrite p (bcmd 5 0 0 pt)
/-- INSERV (R368, R370). -/
def inserv (p : Party) (pt : Nat) (w : Work) : Work := w.bcmdWrite p (bcmd 6 0 0 pt)
/-- RESET (R369, R370). -/
def belfryReset (p : Party) (scope target : Nat) (w : Work) : Work := w.bcmdWrite p (bcmd 7 scope 0 target)
/-- WATCH_ON (R370, R375). -/
def watchOn (p : Party) (w : Work) : Work := w.bcmdWrite p (bcmd 8 0 0 0)
/-- WATCH_OFF (R370, R375). -/
def watchOff (p : Party) (w : Work) : Work := w.bcmdWrite p (bcmd 9 0 0 0)
/-- DMRESET (R370, R375). -/
def dmreset (p : Party) (w : Work) : Work := w.bcmdWrite p (bcmd 10 0 0 0)
/-- DUTY (R370). -/
def duty (p : Party) (engineer : Nat) (w : Work) : Work := w.bcmdWrite p (bcmd 11 0 engineer 0)

/-- The nodes Belfry takes commands from (R371, R385). -/
def Work.tnodes (w : Work) : List Nat :=
  ([0, 1].map fun i => [BELFRY.TNODE_NODE0, BELFRY.TNODE_NODE1, BELFRY.TNODE_NODE2, BELFRY.TNODE_NODE3].map fun f => w.get (BELFRY.TNODE i) f).flatten

/-- BELFRY_CMD_RX (R371, R379): a command frame; the second copy within 100 ms on the other trunk is discarded. -/
def belfryCmdRx (trunkB : Bool) (src index : Nat) (cmd : Word) (w : Work) : Work :=
  let t := tn trunkB
  if w.trkHears t = false ∨ index ≠ w.node ∨ w.enabled belPage = false then w
  else
    let now := w.now
    let live := w.x.bel.recent.filter fun e => decide (now < e.2.2.2.2 + 100)
    match live.find? fun e => decide (e.1 ≠ t ∧ e.2.1 = src ∧ e.2.2.1 = index ∧ e.2.2.2.1 = cmd) with
    | some e => w.belUpd fun s => { s with recent := eraseFirst e live }
    | none =>
      let w := w.belUpd fun s => { s with recent := live ++ [(t, src, index, cmd, now)] }
      let c := BELFRY.BCMD_CMD.get cmd
      if w.tnodes.contains src = false ∨ src = 0xFF ∨ c = 5 ∨ c = 6 then w.evRefused belPage noSub BELFRY.BCMD rejRole 3 src
      else w.belCommand (.trunk src) cmd

/-! The evaluation (R351) -/

/-- The counts and maps that the page shows (R387 to R389). -/
def Work.belPublish (w : Work) : Work :=
  let pts := w.points
  let count (f : Nat → Bool) : Nat := (pts.filter f).length
  let act (pt : Nat) : Bool := decide (w.astate pt = asUnack) || decide (w.astate pt = asAcked) || decide (w.astate pt = asLatched)
  let un (pt : Nat) : Bool := decide (w.astate pt = asUnack) || decide (w.astate pt = asRtnun)
  let map (f : Nat → Bool) (i : Nat) : Word :=
    BitVec.ofNat 32 ((pts.filter fun pt => decide (pt / 32 = i) && f pt).foldl (fun n pt => n + 2 ^ (pt % 32)) 0)
  let c1 := BitVec.ofNat 32 (count (fun pt => decide (w.astate pt ≠ asNorm)) * 65536 + count un)
  let c2 := BitVec.ofNat 32 (count (fun pt => decide (w.supmode pt = 1)) * 65536 + count (fun pt => decide (w.supmode pt = 3)))
  let c3 := BitVec.ofNat 32 (count (fun pt => decide (w.ptOffDly pt < w.ptOffEff pt)) * 65536 + w.x.bel.sup.length)
  let am := (List.range 32).map fun i => (i, map act i, map un i)
  let nalm (g : Nat) : Nat := count fun pt => decide (w.ptGroup pt = g) && decide (w.astate pt ≠ asNorm)
  let w := ((w.wr BELFRY.CNT1 c1).wr BELFRY.CNT2 c2).wr BELFRY.CNT3 c3
  let w := w.each am fun w e => (w.wr (BELFRY.ACTMAP e.1) e.2.1).wr (BELFRY.UNAMAP e.1) e.2.2
  let w := w.each (List.range 64) fun w g => w.put (BELFRY.GSTAT g) BELFRY.GSTAT_NALM (nalm g)
  w.callOut

/-- The status words that Belfry keeps for a point (R380). -/
def keepWords : List Nat := [0x80, 0x84, 0x8C, 0x90, 0x98, 0x9C, 0xA0, 0xA4, 0xA8, 0xAC, 0xB0, 0xB4, 0xB8, 0xBC]

/-- The keep area is written (R380). `timers`: the once-a-second write of the running timers. -/
def Work.belKeep (w : Work) (timers : Bool) : Work :=
  let words := (w.points.map fun pt => keepWords.map fun o => (PT.PCFG pt + o, w.rd (PT.PCFG pt + o))).flatten
  let id := w.rd SYS.ACTID
  w.belUpd fun s =>
    let esc := if timers then s.escFrom else match s.keep with
      | some k => if k.cstate = s.cstate then k.escFrom else s.escFrom
      | none => s.escFrom
    { s with keep := some ⟨id, words, s.aux.map (fun e => (e.1, { e.2 with act := [], since := [] })), s.fo, s.cstate, s.wstate, esc, s.watchFrom⟩ }

/-- BELFRY_KEEP_WRITE (R380): once per second, while Belfry evaluates. -/
def belfryKeepWrite (w : Work) : Work := if w.belOn then w.belKeep true else w

/-- The call and watch states follow (R374, R375). -/
def Work.callEval (w : Work) : Work :=
  let any := decide (w.callPoints ≠ [])
  let t := w.now
  let w := if any = false then w.callTo 0
    else if w.x.bel.cstate = 0 then w.callTo 1
    else if w.x.bel.cstate = 1 ∧ w.x.bel.escFrom + 1000 * w.get BELFRY.BCFG BELFRY.BCFG_ESC1 ≤ t then w.callTo 2 else w
  let per := 60000 * w.get BELFRY.BCFG BELFRY.BCFG_DMPER
  let pre := 60000 * w.get BELFRY.BCFG BELFRY.BCFG_DMPRE
  if w.x.bel.wstate = 1 ∧ w.x.bel.watchFrom + per ≤ t + pre then w.watchTo 2
  else if w.x.bel.wstate = 2 ∧ w.x.bel.watchFrom + per ≤ t then w.watchTo 3
  else w

/-- What an engine of Belfry evaluates (R350, R351, R379): commands, group suppression, points in ascending number, call and watch. A Standby
evaluates its system points alone. `cap`: the module as captured at the boundary (R352). -/
def Work.belEval (w cap : Work) : Work :=
  let stby := decide (w.x.role = .standby)
  let w := if stby then w else
    let cs := w.x.bel.cmds
    let w := w.each cs fun w c => w.belApply c
    (w.belUpd fun s => { s with cmds := [] }).each (List.range 63) fun w g => w.groupEval cap g
  let w := w.each (w.points.filter fun pt => !stby || isSysPoint pt) fun w pt => w.ptEval cap pt
  let t := w.now
  let w := w.belUpd fun s => { s with newInst := [], last := t }
  let w := w.when (w.x.bel.restored) fun w =>
    (w.when (!stby) fun w => w.audible (decide (w.callPoints ≠ []))).belUpd fun s => { s with restored := false }
  if stby then w else w.callEval

/-- Does the second engine's result differ? It is the same evaluation of the same inputs (R349); `upset`: the words of it that a fault of the
engine disturbs, each with the bits turned over (log entry 140). -/
def Work.enginesDiffer (w : Work) (upset : List (Nat × Word)) : Bool :=
  let other := upset.foldl (fun b e => b.wr e.1 (b.rd e.1 ^^^ e.2)) w
  upset.any fun e => decide (other.rd e.1 ≠ w.rd e.1)

/-- The result on which the engines agree is published. -/
def Work.belResult (w : Work) : Work := (w.belPublish).belKeep false

/-- A retry is counted and recorded (R353). -/
def Work.belRetry (w : Work) : Work :=
  let w := w.incSat BELFRY.BSTAT BELFRY.BSTAT_RETRYCNT
  w.evOccur belPage noSub BELFRY.BSTAT 16 (w.get BELFRY.BSTAT BELFRY.BSTAT_RETRYCNT)

/-- Is an evaluation due at this boundary (R351)? -/
def Work.belDue (w : Work) : Bool := decide (w.get TASK.MAIN TASK.MAIN_P0 ≠ 1) || decide ((w.rd TASK.CYCLE).toNat % 2 = 0)

/-! Timers that run out -/

/-- ALARM_DELAY_EXPIRED (R359): the on-delay or off-delay of a condition runs out; the condition is raised or returns. -/
def alarmDelayExpired (pt cond : Nat) (raised : Bool) (w : Work) : Work :=
  let a := w.pa pt
  if w.belOn = false ∨ pt ≥ 1024 ∨ w.ptOn pt = false ∨ (w.x.role = .standby ∧ isSysPoint pt = false) ∨ a.act.contains cond ≠ raised
      ∨ a.raised.contains cond = raised then w
  else
    let w := w.setRaised pt (if raised then a.raised ++ [cond] else a.raised.filter fun k => decide (k ≠ cond)) false
    let w := if w.x.role = .standby then w else w.callEval
    (w.belPublish).belKeep false

/-- CHATTER_DOWN (R360): CHQUIET has passed without a counted raise. -/
def chatterDown (pt : Nat) (w : Work) : Work :=
  if w.belOn ∧ pt < 1024 ∧ w.ptOn pt ∧ w.x.role ≠ .standby then ((w.chatterQuiet pt true).belPublish).belKeep false else w

/-- SHELF_EXPIRED (R367): a shelf's time runs out. -/
def shelfExpired (pt : Nat) (w : Work) : Work :=
  if w.belOn ∧ pt < 1024 ∧ (w.pa pt).shelfEnd.isSome ∧ w.x.role ≠ .standby then
    let w := (w.paSet pt fun a => { a with shelfEnd := none }).irq belPage 20
    (((w.ptMode pt).callEval).belPublish).belKeep false
  else w

/-- SUPREL_EXPIRED (R366): a group's release delay runs out; its points leave SUPPRESSED. -/
def suprelExpired (g : Nat) (w : Work) : Work :=
  if w.belOn ∧ (w.x.bel.relEnd.any fun e => decide (e.1 = g)) ∧ w.x.role ≠ .standby then
    let w := w.belUpd fun s => { s with relEnd := s.relEnd.filter (fun e => decide (e.1 ≠ g)), sup := s.sup.filter fun k => decide (k ≠ g) }
    let w := (w.putB (BELFRY.GSTAT g) BELFRY.GSTAT_SUP false).putB (BELFRY.GSTAT g) BELFRY.GSTAT_RELRUN false
    let w := w.each (w.points.filter fun pt => decide (w.ptGroup pt = g)) fun w pt => w.ptMode pt
    ((w.callEval).belPublish).belKeep false
  else w

/-- Belfry runs its call and watch states: it evaluates and is no Standby (R379). -/
def Work.belRuns (w : Work) : Bool := w.belOn && decide (w.x.role ≠ .standby)

/-- ESCALATION (R374): ESC1 has run out. -/
def escalation (w : Work) : Work := if w.belRuns ∧ w.x.bel.cstate = 1 then (w.callTo 2).belKeep false else w

/-- DEADMAN_PREWARN (R375). -/
def deadmanPrewarn (w : Work) : Work := if w.belRuns ∧ w.x.bel.wstate = 1 then (w.watchTo 2).belKeep false else w

/-- DEADMAN_STAGE3 (R375). -/
def deadmanStage3 (w : Work) : Work := if w.belRuns ∧ w.x.bel.wstate = 2 then (w.watchTo 3).belKeep false else w

/-- BELFRY_CALL_REPEAT (R378): every 1 s while the call or the watch runs. -/
def belfryCallRepeat (w : Work) : Work :=
  if w.belRuns ∧ (w.x.bel.cstate ≠ 0 ∨ w.x.bel.wstate ≠ 0) then w.sendCall else w

/-! Start and registers (R380, R383, R354 to R366) -/

/-- A cold start announces and records what it ends: the states and modes of points that leave them, the call and the watch (R378, R380,
R381). -/
def Work.belEnds (w : Work) : Work :=
  let c := w.x.bel.cstate
  let d := w.x.bel.wstate
  let w := w.each w.points fun w pt =>
    let m := w.supmode pt
    let w := w.when (decide (w.astate pt ≠ asNorm)) fun w => w.toAstate pt asNorm false
    w.when (decide (m = 1 ∨ m = 2)) fun w =>
      ((w.put (PT.PSTAT pt) PT.PSTAT_SUPMODE 0).emit belPage 0x02 pt [data6 0x80 0 4 m 0 0]).sendAlarm pt
  let w := w.belUpd fun s => { s with cstate := 0, wstate := 0 }
  let w := w.when (decide (c ≠ 0)) fun w => (w.evState belPage noSub BELFRY.CALLSTAT 12 c 0).irq belPage 17
  let w := w.when (decide (d ≠ 0)) fun w => (w.evState belPage noSub BELFRY.CALLSTAT 16 d 0).irq belPage 18
  w.when (decide (c ≠ 0 ∨ d ≠ 0)) fun w => (w.callOut).sendCall

/-- Every point NORM, OFFEFF := OFFDLY, no shelf, no first-out; call IDLE, watch OFF (R380). A cold start (`keepOos`) keeps the OOS marks and
the commands that wait for the evaluation, which goes on. -/
def Work.belInit (w : Work) (keepOos : Bool) : Work :=
  let t := w.now
  let w := w.when keepOos Work.belEnds
  let w := w.belUpd fun s => { s with
    aux := if keepOos then (s.aux.filter (·.2.oos)).map (fun e => (e.1, { oos := true, qstart := t })) else []
    fo := [], cstate := 0, wstate := 0, supAt := [], sup := [], relEnd := [], last := t, restored := false, cmds := if keepOos then s.cmds else [] }
  let w := w.each w.points fun w pt =>
    let m := if (w.pa pt).oos then 3 else 0
    let w := w.wr (PT.PSTAT pt) (BitVec.ofNat 32 (m * 16))
    let w := ((w.put (PT.OFFEFF pt) PT.OFFEFF_OFFEFF (w.ptOffDly pt)).wr (PT.TIMER pt) 0).wr (PT.RINGCTL pt) 0
    w.each (List.range 8) fun w i => w.wr (PT.RING pt i) 0
  let w := w.each (List.range 64) fun w g => w.wr (BELFRY.GSTAT g) 0x03FF_0000
  (w.audible false).callOut

/-- Entering Ready (R380): the keep area is restored where it carries the active image's identity. -/
def Work.belReady (w : Work) : Work :=
  if w.enabled belPage = false then w
  else match w.x.bel.keep with
    | some k =>
      if k.imgid = w.rd SYS.ACTID then
        let t := w.now
        let w := w.belUpd fun s => { s with aux := k.aux, fo := k.fo, cstate := k.cstate, wstate := k.wstate, escFrom := k.escFrom,
                                            watchFrom := k.watchFrom, last := t, restored := true, cmds := [] }
        let w := w.each k.words fun w e => w.wr e.1 e.2
        ((w.audible false).each (List.range 64) fun w g => w.foShow g).callOut
      else w.belInit false
    | none => w.belInit false

/-- A change of module state opens or gives back the CALL outputs (R21, R376). -/
def Work.belMode (w : Work) : Work := w.callOut

/-- The conditions of a point that its mirrored words show active before their delays: of an analog point those its VALUE has passed. -/
def Work.mirActive (w : Work) (pt : Nat) (raised : List Nat) : List Nat :=
  if w.flag (PT.PSTAT pt) PT.PSTAT_COND = false then []
  else
    let c := PT.PCFG pt
    let v := w.rd (PT.VALUE pt)
    let en (b : Nat) : Bool := (w.get c PT.PCFG_LIMEN).testBit b
    let seen :=
      if 2 ≤ w.get c PT.PCFG_SRCKIND then [5]
      else [(1, en 0 && fLe v (w.rd (PT.LIMLL pt))), (2, en 1 && fLe v (w.rd (PT.LIML pt))), (3, en 2 && fLe (w.rd (PT.LIMH pt)) v),
            (4, en 3 && fLe (w.rd (PT.LIMHH pt)) v)].filterMap fun e => if e.2 then some e.1 else none
    let fault := if w.flag (PT.PSTAT pt) PT.PSTAT_QBAD && w.flag c PT.PCFG_FLTALM then [6] else []
    (raised ++ seen ++ fault).eraseDups

/-- Belfry's own state follows the words that a mirror has brought (R379; log entry 126). -/
def Work.belMirrored (w : Work) : Work :=
  let t := w.now
  let w := w.each (w.points.filter fun pt => !isSysPoint pt) fun w pt =>
    let l := w.get (PT.PSTAT pt) PT.PSTAT_ACTLIM
    let raised := if l = 0 then [] else [l]
    let act := w.mirActive pt raised
    let from' := t - 100 * w.get (PT.TIMER pt) PT.TIMER_DLYRUN
    let rem := w.get (PT.TIMER pt) PT.TIMER_SHREM
    let shelf (old : Option Nat) : Option Nat :=
      if rem = 0 then none
      else match old with
        | some e => if (e - t + 59999) / 60000 = rem then some e else some (t + 60000 * rem)
        | none => some (t + 60000 * rem)
    w.paSet pt fun a => { act := act, since := (List.range 7).map (fun k => (k, from')), raised := raised, shelfEnd := shelf a.shelfEnd,
                          oos := decide (w.supmode pt = 3), qstart := t }
  let esc := w.get BELFRY.TIMERS BELFRY.TIMERS_ESCREM
  let dm := w.get BELFRY.TIMERS BELFRY.TIMERS_DMREM
  let span1 := w.get BELFRY.BCFG BELFRY.BCFG_ESC1
  let span2 := 60 * w.get BELFRY.BCFG BELFRY.BCFG_DMPER
  let c := w.get BELFRY.CALLSTAT BELFRY.CALLSTAT_CSTATE
  let d := w.get BELFRY.CALLSTAT BELFRY.CALLSTAT_WSTATE
  let groups := List.range 64
  let fo := groups.filterMap fun g =>
    let f := w.get (BELFRY.GSTAT g) BELFRY.GSTAT_FOPT
    if f = 0x3FF then none else some (g, f)
  let sup := groups.filter fun g => w.flag (BELFRY.GSTAT g) BELFRY.GSTAT_SUP
  let rel := groups.filter fun g => w.flag (BELFRY.GSTAT g) BELFRY.GSTAT_RELRUN
  let relEnd := rel.map fun g => (g, tabGet (t + 1000 * w.get (BELFRY.GCFG g) BELFRY.GCFG_SUPREL) w.x.bel.relEnd g)
  w.belUpd fun s => { s with
    cstate := c, wstate := d, escFrom := t + 1000 * esc - 1000 * span1, watchFrom := t + 1000 * dm - 1000 * span2, fo := fo, sup := sup,
    supAt := sup.filter (fun g => !rel.contains g), relEnd := relEnd, last := t }

/-- A Standby that becomes Duty evaluates from the mirrored states (R379): delays run on from the last mirror. -/
def Work.belTakeover (w : Work) : Work := w.belUpd fun s => { s with cmds := [] }

/-- Is a point record as it stands out of range (R354 to R357, R361, R390)? -/
def Work.ptBad (w : Work) (pt : Nat) (setEn srcChg : Bool) : Bool :=
  let c := PT.PCFG pt
  let kind := w.get c PT.PCFG_SRCKIND
  let chn := w.get (PT.CHCFG2 pt) PT.CHCFG2_CHN
  let off := w.get (PT.DLY pt) PT.DLY_OFFDLY
  let led := w.get (PT.PANEL pt) PT.PANEL_LED
  let r (x lo hi : Nat) : Bool := decide (x < lo) || decide (hi < x)
  let g := w.get c PT.PCFG_GROUP
  let grp := !isSysPoint pt && decide (g = 63)
  let dly := decide (36000 < off) || decide (36000 < w.get (PT.DLY pt) PT.DLY_ONDLY)
  let ch := decide (chn = 1) || decide (8 < chn) || (decide (chn ≠ 0) &&
    (r (w.get (PT.CHCFG1 pt) PT.CHCFG1_CHCEIL) off 36000 || r (w.get (PT.CHCFG1 pt) PT.CHCFG1_CHSTEP) 1 36000
      || r (w.get (PT.CHCFG2 pt) PT.CHCFG2_CHWIN) 1 3600 || r (w.get (PT.CHCFG2 pt) PT.CHCFG2_CHQUIET) 60 43200))
  let panel := (decide (511 < led) && decide (led ≠ 1023)) || decide (1440 < w.get (PT.PANEL pt) PT.PANEL_SHMAX)
  let en := w.flag c PT.PCFG_EN
  let src := en && decide (kind ≠ 3) && (setEn || srcChg) && !w.snapReadable (w.rd (PT.SRCADR pt)).toNat
  let lim := [(0, PT.LIMLL pt), (1, PT.LIML pt), (2, PT.LIMH pt), (3, PT.LIMHH pt)].filterMap fun e =>
    if (w.get c PT.PCFG_LIMEN).testBit e.1 then some (w.rd e.2) else none
  let db := w.rd (PT.DB pt)
  let gaps := (lim.zip (lim.drop 1)).all fun e => fLt e.1 e.2 && fLt db (fSub e.2 e.1)
  let gain := w.rd (PT.GAIN pt)
  let analog := en && decide (kind ≤ 1)
    && !(gaps && fFinite db && fLe fZero db && fFinite gain && !(fLe gain fZero && fLe fZero gain))
  if isSysPoint pt then dly || (decide (511 < led) && decide (led ≠ 1023)) else grp || dly || ch || panel || src || analog

/-- The bits of a system point's record that a write changes (R373, R390). -/
def sysPointMask (off : Nat) : Word :=
  if off = 0 then PT.PCFG_PRIO.mask ||| PT.PCFG_CALLEN.mask else if off = 0x28 then 0xFFFF_FFFF else if off = 0x34 then PT.PANEL_LED.mask else 0

/-- The refusals of a write to the BELFRY page (R366, R379, R384, R389), beside lock and role. -/
def Work.belCheck (w : Work) (p : Party) (a : Nat) (old new : Word) : List (Nat × Nat) :=
  if a = BELFRY.BCFG then
    let per := BELFRY.BCFG_DMPER.get new
    let pre := BELFRY.BCFG_DMPRE.get new
    let esc := BELFRY.BCFG_ESC1.get new
    chk BELFRY.BCFG_DMPER old new (decide (per < 5) || decide (60 < per) || decide (per ≤ pre)) rejRange
      ++ chk BELFRY.BCFG_DMPRE old new (decide (pre < 1) || decide (10 < pre) || decide (per ≤ pre)) rejRange
      ++ chk BELFRY.BCFG_ESC1 old new (decide (esc < 30) || decide (1800 < esc)) rejRange
  else if BELFRY.GSUP 0 ≤ a ∧ a < BELFRY.GSUP 64 then
    let g := (a - BELFRY.GSUP 0) / 8
    let stby := decide (w.x.role = .standby)
    if a = BELFRY.GSUP g then
      chk ⟨0, 32⟩ old new stby rejState
        ++ chk ⟨0, 32⟩ old new (w.flag (BELFRY.GCFG g) BELFRY.GCFG_SUPEN && !w.snapReadable new.toNat) rejRange
    else
      chk BELFRY.GCFG_FOEN old new stby rejState ++ chk BELFRY.GCFG_SUPREL old new stby rejState
        ++ chk BELFRY.GCFG_SUPREL old new (decide (3600 < BELFRY.GCFG_SUPREL.get new)) rejRange
        ++ chk BELFRY.GCFG_SUPBIT old new stby rejState ++ chk BELFRY.GCFG_SUPQ old new stby rejState
        ++ chk BELFRY.GCFG_SUPPOL old new stby rejState ++ chk BELFRY.GCFG_SUPEN old new stby rejState
        ++ chk BELFRY.GCFG_SUPEN old new (decide (BELFRY.GCFG_SUPEN.get new = 1)
            && (decide (g = 63) || !w.snapReadable (w.rd (BELFRY.GSUP g)).toNat)) rejRange
  else if BELFRY.PBIT 0 ≤ a ∧ a < BELFRY.PBIT 32 then
    chk ⟨0, 32⟩ old new (decide (whoOf p = 1) && (decide (w.x.mode = .run) || decide (w.x.mode = .hold))) rejState
  else []

/-- What follows an accepted write of a point record's word (R361, R381). -/
def Work.ptWritten (w : Work) (user pt a : Nat) (old : Word) : Work :=
  let w := w.emit belPage 0x05 pt [data6 (a % 256) 0 old.toNat (old.toNat / 2 ^ 8) (old.toNat / 2 ^ 16) (old.toNat / 2 ^ 24),
    data6 (w.rd a).toNat ((w.rd a).toNat / 2 ^ 8) ((w.rd a).toNat / 2 ^ 16) ((w.rd a).toNat / 2 ^ 24) user (user / 256)]
  let off := a % 256
  let dly := decide (off = 0x28) && decide (PT.DLY_OFFDLY.get old ≠ w.ptOffDly pt)
  let chn := decide (off = 0x30) && decide (PT.CHCFG2_CHN.get old ≠ w.get (PT.CHCFG2 pt) PT.CHCFG2_CHN)
  let w := if dly || chn then
      (w.put (PT.OFFEFF pt) PT.OFFEFF_OFFEFF (w.ptOffDly pt)).put (PT.RINGCTL pt) PT.RINGCTL_NR 0
    else w
  let ceil := w.get (PT.CHCFG1 pt) PT.CHCFG1_CHCEIL
  let w := w.when (decide (off = 0x2C) && decide (w.get (PT.CHCFG2 pt) PT.CHCFG2_CHN ≠ 0) && decide (ceil < w.get (PT.OFFEFF pt) PT.OFFEFF_OFFEFF)) fun w =>
    w.put (PT.OFFEFF pt) PT.OFFEFF_OFFEFF ceil
  if off = 0 ∧ PT.PCFG_EN.get old ≠ w.get a PT.PCFG_EN ∧ isSysPoint pt = false then
    let w := w.paSet pt fun _ => {}
    (w.wr (PT.PSTAT pt) 0).put (PT.OFFEFF pt) PT.OFFEFF_OFFEFF (w.ptOffDly pt)
  else w

/-- What follows an accepted write of the BELFRY page: group-table writes are recorded; CALLCFG acts. -/
def Work.belWritten (w : Work) (user a : Nat) (old : Word) : Work :=
  if BELFRY.GSUP 0 ≤ a ∧ a < BELFRY.GSUP 64 then w.evWrite belPage ((a - BELFRY.GSUP 0) / 8) a old (w.rd a) user
  else if a = BELFRY.CALLCFG then w.callOut else w

/-- A soft reset (R383): RETRYCNT and the points' RAISES and ACKS clear; no point state changes. What the page shows of the states stays. -/
def Work.belSoftReset (w : Work) : Work :=
  let w := w.each w.points fun w pt => w.wr (PT.COUNT pt) 0
  (w.each (List.range 64) fun w g =>
    ((w.foShow g).putB (BELFRY.GSTAT g) BELFRY.GSTAT_SUP (w.x.bel.sup.contains g)).putB (BELFRY.GSTAT g) BELFRY.GSTAT_RELRUN
      (w.x.bel.relEnd.any fun e => decide (e.1 = g))).belPublish

end Sys2Proof.Machine
end

