-- ==== Sys2Proof/Machine/Panels.lean ====
section
/-! DEFINITION. Lantern and Slate (chapter 18): what the annunciator shows and its keys, and the updates of the front label. -/

namespace Sys2Proof.Machine

def lanternPage : Nat := 0x028
def slatePage : Nat := 0x029
def Work.lanternUpd (w : Work) (f : LanternSt → LanternSt) : Work := w.upd fun x => { x with lantern := f x.lantern }
def Work.slateUpd (w : Work) (f : SlateSt → SlateSt) : Work := w.upd fun x => { x with slate := f x.slate }

/-! The annunciator (R552 to R559) -/

/-- The LED of an enabled point (R364, R373, R390). -/
def Work.ptLed (w : Work) (pt : Nat) : Option Nat :=
  let led := w.get (PT.PANEL pt) PT.PANEL_LED
  if (isSysPoint pt && w.noPoints) = true ∨ 512 ≤ led then none else some led

/-- The pattern code of a point (R364). -/
def Work.ptCode (w : Work) (pt : Nat) : Nat :=
  let st := w.astate pt
  if w.supmode pt ≠ 0 then 0
  else if st = asUnack then
    (if w.flag (BELFRY.GCFG (w.ptGroup pt)) BELFRY.GCFG_FOEN && !w.flag (PT.PSTAT pt) PT.PSTAT_FIRSTOUT then 2 else 3)
  else if st = asRtnun then 2
  else if st = asAcked ∨ st = asLatched then 1
  else 0

/-- The code of each point-owned LED: the highest among the points that name it (R555). -/
def Work.ledCodes (w : Work) : List (Nat × Nat) :=
  w.points.foldl (fun l pt => match w.ptLed pt with
    | some led => tabSet l led (max (tabGet 0 l led) (w.ptCode pt))
    | none => l) []

/-- Is the lamp test running (R558)? -/
def Work.lampTesting (w : Work) : Bool := w.opBusy lanternPage

/-- LSTAT.MODE (R556, R571). -/
def Work.lanternMode (w : Work) : Nat :=
  let lit := decide (w.x.mode = .ready) || decide (w.x.mode = .run) || decide (w.x.mode = .hold)
  if w.enabled lanternPage = false ∨ w.x.lantern.dark ∨ (lit = false ∧ w.x.mode ≠ .held) then 0
  else if w.lampTesting then 3
  else if w.x.mode = .held then 2 else 1

/-- A word of SHOWN with the codes of its LEDs replaced. -/
def withCodes (i : Nat) (v : Word) (l : List (Nat × Nat)) : Word :=
  (l.filter fun e => decide (e.1 / 16 = i)).foldl (fun v e => Fld.set ⟨2 * (e.1 % 16), 2⟩ v e.2) v

/-- The patterns in force (R554 to R556, R558). -/
def Work.lanternShow (w : Work) : Work :=
  let m := w.lanternMode
  let own := if m = 1 ∨ m = 2 then w.ledCodes else []
  let pub := w.x.lantern.pub.getD []
  let codes := own.map fun e => (e.1, let c := tabGet 0 pub e.1; if m = 2 ∧ c ≠ 0 then 1 else c)
  let w := w.put LANTERN.LSTAT LANTERN.LSTAT_MODE m
  w.each (List.range 32) fun w i =>
    let base := if m = 3 then 0x5555_5555 else if m = 1 then w.rd (LANTERN.PAT i) else 0
    let v := withCodes i base codes
    if w.rd (LANTERN.SHOWN i) = v then w else w.wr (LANTERN.SHOWN i) v

/-- Belfry has published (R381, R555). -/
def Work.lanternPub (w : Work) : Work :=
  let l := w.ledCodes
  (w.lanternUpd fun s => { s with pub := some l }).lanternShow

/-- What a timer of Belfry has changed is published to Lantern (R351). -/
def Work.belShown (w : Work) : Work := if w.belOn then w.lanternPub else w

/-- LANTERN_KEEPALIVE_LOST (R556): the panel goes dark until the keep-alive is back (log entry 72). -/
def lanternKeepaliveLost (w : Work) : Work := (w.lanternUpd fun s => { s with dark := true }).lanternShow

/-- COM_OVERCURRENT (R559). -/
def comOvercurrent (line : Nat) (w : Work) : Work :=
  if w.alive ∧ w.enabled lanternPage ∧ line < 16 then w.flagIrq lanternPage LANTERN.LSTAT LANTERN.LSTAT_COMSHORT true 18 else w

/-- COMSHORT_CLEAR (R559). -/
def comshortClear (w : Work) : Work := w.when w.alive fun w => w.putB LANTERN.LSTAT LANTERN.LSTAT_COMSHORT false

/-- LAMPTEST (R558, R572). -/
def lamptest (p : Party) (arg : Nat) (w : Work) : Work :=
  w.startOp p lanternPage 1 [.held, .ready, .run, .hold] true fun w =>
    if arg < 1 ∨ 60 < arg then w.refuse lanternPage rejRange
    else (w.opBegin p lanternPage 1 arg []).lanternShow

/-- LAMPTEST_END (R558). -/
def lamptestEnd (w : Work) : Work := if w.lampTesting then (w.opEnd lanternPage opDone 0).lanternShow else w

/-! Keys (R560, R561) -/

/-- What a key does (R561): a command from the panel, or the lamp test. -/
def Work.keyAct (w : Work) (k : Nat) : Work :=
  let f := w.get (LANTERN.KEYMAP k) LANTERN.KEYMAP_FUNC
  let g := w.get (LANTERN.KEYMAP k) LANTERN.KEYMAP_GROUP
  let send (c : Word) : Work := w.belCommand .panel c
  if f = 1 then send (bcmd 1 2 0 0)
  else if f = 2 then send (bcmd 1 1 0 g)
  else if f = 3 then send (bcmd 2 0 0 0)
  else if f = 4 then send (bcmd 7 2 0 0)
  else if f = 5 then send (bcmd 7 1 0 g)
  else if f = 6 then (if w.lampTesting || ! [Mode.held, .ready, .run, .hold].contains w.x.mode then w else lamptest .program 10 w)
  else if f = 7 then send (bcmd 10 0 0 0)
  else if f = 8 then send (bcmd 8 0 0 0)
  else if f = 9 then send (bcmd 9 0 0 0)
  else w

/-- PANEL_KEY_PRESS (R560). -/
def panelKeyPress (k : Nat) (w : Work) : Work :=
  if w.alive = false ∨ w.enabled lanternPage = false ∨ 16 ≤ k ∨ w.flag LANTERN.LSTAT ⟨16 + k, 1⟩ then w
  else ((w.put LANTERN.LSTAT ⟨16 + k, 1⟩ 1).irq lanternPage 16).keyAct k

/-- KEY_STUCK (R560). -/
def keyStuck (k : Nat) (w : Work) : Work :=
  if w.alive = false ∨ w.enabled lanternPage = false ∨ 16 ≤ k ∨ w.flag LANTERN.LSTAT ⟨16 + k, 1⟩ = false ∨ w.x.lantern.stuck.contains k then w
  else (w.flagIrq lanternPage LANTERN.LSTAT LANTERN.LSTAT_KEYSTUCK true 17).lanternUpd fun s => { s with stuck := s.stuck ++ [k] }

/-- PANEL_KEY_RELEASE (R560). -/
def panelKeyRelease (k : Nat) (w : Work) : Work :=
  if w.alive = false ∨ 16 ≤ k then w
  else (w.put LANTERN.LSTAT ⟨16 + k, 1⟩ 0).lanternUpd fun s => { s with stuck := s.stuck.filter fun j => decide (j ≠ k) }

/-- The refusals of a write to the LANTERN page (R561, R571). -/
def Work.lanternCheck (w : Work) (p : Party) (a : Nat) (old new : Word) : List (Nat × Nat) :=
  if LANTERN.PAT 0 ≤ a ∧ a < LANTERN.PAT 32 then
    (if whoOf p = 1 ∧ (w.x.mode = .run ∨ w.x.mode = .hold) then [(0, rejState)] else [])
  else if LANTERN.KEYMAP 0 ≤ a ∧ a < LANTERN.KEYMAP 16 then
    chk LANTERN.KEYMAP_FUNC old new (decide (10 < LANTERN.KEYMAP_FUNC.get new)) rejRange
  else []

/-- What follows a write: PAT shows from the next frame. -/
def Work.lanternWritten (w : Work) (a : Nat) : Work := if LANTERN.PAT 0 ≤ a ∧ a < LANTERN.PAT 32 then w.lanternShow else w

/-- A soft reset restarts the scan (R570). -/
def Work.lanternSoftReset (w : Work) : Work := (w.lanternUpd fun s => { s with stuck := [] }).lanternShow

/-! Slate (R564 to R569, R573, R574) -/

/-- What a region is to show (R564). -/
def Work.slateContent (w : Work) (r : Nat) : List Nat :=
  if r = 0 then (List.range 8).map (fun i => (w.rd (SLATE.NAME i)).toNat) ++ [w.node, w.get SYS.ORDER SYS.ORDER_CODE]
  else if r = 1 then [roleCode w.x.role, if w.x.mode = .failed then 15 else modeCode w.x.mode]
  else if r = 2 then [w.moduleHealth.2, w.get TASK.STAT TASK.STAT_FORCED]
  else if r = 3 then (match w.x.slate.newest with
    | some t => [t.1, t.2.1, t.2.2]
    | none => [])
  else match w.trimRunning with
    | some n => [n, (w.isl n).trimSel, if (w.isl n).trimDown then 1 else 0, if (w.isl n).trimOut then 1 else 0, w.get (LOOP.TRIMZ n) LOOP.TRIMZ_Z, w.get (LOOP.TRIMS n) LOOP.TRIMS_S]
    | none => []

/-- The update-in-progress marker (R568): it lies in Cupola and shows in both pages. -/
def Work.slateMark (w : Work) (b : Bool) : Work := (w.putB SLATE.SSTAT SLATE.SSTAT_MARKER b).putB CUPOLA.TAMPER CUPOLA.TAMPER_SLATEMARK b

/-- May a region start as far as tSPOL goes (R566)? -/
def Work.slateDue (w : Work) (r : Nat) : Bool :=
  decide (r = 4) || (decide (r = 2) && decide (w.x.mode = .failed))
    || match w.x.slate.lastStart.find? fun e => decide (e.1 = r) with
      | some e => decide (e.2 + 10000 ≤ w.now)
      | none => true

/-- The waveforms of some regions start. -/
def Work.slateBegin (w : Work) (rs : List Nat) (full : Bool) : Work :=
  let now := w.now
  let d := rs.map fun r => (r, w.slateContent r)
  let w := w.slateUpd fun s => { s with
    busy := rs, full := full, drawing := d,
    lastStart := s.lastStart.filter (fun e => !rs.contains e.1) ++ rs.map fun r => (r, now) }
  (w.slateMark true).slateShow

/-- The marker found set at Power-up asks for the clean sequence (R568). -/
def Work.slateClean (w : Work) : Work :=
  if w.flag CUPOLA.TAMPER CUPOLA.TAMPER_SLATEMARK && !w.x.slate.cleaning then w.slateRequest 6 else w

/-- Does Slate draw: its page is enabled, or the module is in Power-up, whose end enables it (R73), or Failed, which it shows (R17)? -/
def Work.slateDraws (w : Work) : Bool := w.enabled slatePage || decide (w.x.mode = .powerUp) || decide (w.x.mode = .failed)

/-- SLATE_UPDATE_START (R566 to R568): a region (0 to 4), the full update (5) or the clean sequence (6) that waits starts, once no
waveform runs and tSPOL allows. Nothing starts without a supply. -/
def slateUpdateStart (region : Nat) (w : Work) : Work :=
  let s := w.x.slate
  if w.x.mode = .off ∨ w.slateDraws = false ∨ s.busy ≠ [] ∨ s.cleaning ∨ s.waiting.contains region = false then w
  else if region = 6 then
    let q := 5 :: s.waiting.filter fun r => decide (r ≠ 6 ∧ r ≠ 5)
    ((w.slateUpd fun s => { s with waiting := q, cleaning := true }).slateMark true).slateShow
  else if s.waiting.contains 6 then w
  else if region = 5 then
    if (List.range 5).all fun r => w.slateDue r then
      (w.slateUpd fun s => { s with waiting := [] }).slateBegin [0, 1, 2, 3, 4] true
    else w
  else if s.waiting.contains 5 ∨ w.slateDue region = false then w
  else (w.slateUpd fun s => { s with waiting := s.waiting.filter fun r => decide (r ≠ region) }).slateBegin [region] false

/-- SLATE_UPDATE_END (R567, R568, R573): the picture is drawn, or the clean sequence has left the panel white; an operation whose full update ended is DONE. -/
def slateUpdateEnd (w : Work) : Work :=
  let s := w.x.slate
  if s.cleaning then ((w.slateUpd fun s => { s with cleaning := false, picture := [] }).slateMark false).slateShow
  else if s.busy = [] then w
  else
    let w := w.slateUpd fun s => { s with
      busy := [], full := false, drawing := [], picture := s.picture.filter (fun e => !s.busy.contains e.1) ++ s.drawing }
    let w := ((w.slateMark false).slateShow).incWrap SLATE.UPDCNT SLATE.UPDCNT_N
    if w.alive then
      let w := w.irq slatePage 16
      if s.full && !w.x.slate.waiting.contains 5 && !w.x.slate.waiting.contains 6 then w.opEnd slatePage opDone 0 else w
    else w

/-- HOLDUP_MEASURE (R569): RESERVE in 10 ms; below 2.0 s HOLDUP_AGED. -/
def Work.holdup (w : Work) (reserve : Nat) : Work :=
  let n := min reserve 255
  let aged := decide (n < 200)
  ((w.put SLATE.SSTAT SLATE.SSTAT_RESERVE n).pageReason slatePage 0x01 1 aged).cause 0x0A slatePage 0 aged
def holdupMeasure (reserve : Nat) (w : Work) : Work := if w.alive then w.holdup reserve else w

/-- REDRAW (R574). -/
def redraw (p : Party) (arg : Nat) (w : Work) : Work :=
  w.startOp p slatePage 1 anyButPowerUp true fun w =>
    if arg ≠ 0 then w.refuse slatePage rejRange else (w.opBegin p slatePage 1 arg []).slateRequest 5

/-- CLEAN (R568, R574): the sequence, then a full update. -/
def clean (p : Party) (arg : Nat) (w : Work) : Work :=
  w.startOp p slatePage 2 anyButPowerUp true fun w =>
    if arg ≠ 0 then w.refuse slatePage rejRange else (w.opBegin p slatePage 2 arg []).slateRequest 6

/-- The request of an aborted operation is withdrawn (R574); regions whose picture is not up to date ask again (log entry 74). -/
def Work.slateWithdraw (w : Work) : Work :=
  let w := (w.slateUpd fun s => { s with waiting := s.waiting.filter fun r => decide (r < 5) }).slateShow
  w.each (List.range 5) fun w r =>
    let shown := (w.x.slate.picture.find? fun e => decide (e.1 = r)).map (·.2)
    if shown = some (w.slateContent r) then w else w.slateRequest r

/-- A change of NAME, and the enabling of the page, redraw the identity (R564). -/
def Work.slateWritten (w : Work) (a : Nat) : Work := if SLATE.NAME 0 ≤ a ∧ a < SLATE.NAME 8 then w.slateRequest 0 else w

/-- A soft reset discards the waiting requests (R573). -/
def Work.slateSoftReset (w : Work) : Work := (w.slateUpd fun s => { s with waiting := [] }).slateShow

end Sys2Proof.Machine
end

