-- ==== Sys2Proof/Machine/Recorder.lean ====
section
/-! DEFINITION. The event recorder (chapter 16): appending and repeat counting, the episode log, freeze and thaw, clearing, and the
read window. -/

namespace Sys2Proof.Machine

def evtPage : Nat := 0x014

def Work.evtUpd (w : Work) (f : EvtSt → EvtSt) : Work := w.upd fun x => { x with evt := f x.evt }

/-- The records of an event, as they are stored (R502, R505). -/
def Event.records (e : Event) (rep : Nat) : List Record :=
  e.data.zipIdx.map fun d =>
    { pcycle := e.pcycle, optime := e.optime, repeats := rep, nettime := e.nettime, code := e.code, page := e.page, sub := e.sub,
      tvalid := e.tvalid, queued := e.queued, cont := decide (d.2 ≠ 0), detail := e.detail, data := d.1 }

/-- The 32 bytes of a record (R502, R503). -/
def Record.bytes (r : Record) : List Byte :=
  let b (c : Bool) (k : Nat) : Nat := if c then 2 ^ k else 0
  let src := r.page * 2 ^ 20 + r.sub * 2 ^ 10 + b r.tvalid 9 + b r.queued 8 + b r.cont 7 + b r.detail 6
  bytesOfNat 4 r.pcycle ++ bytesOfNat 6 r.optime ++ bytesOfNat 2 r.repeats ++ bytesOfNat 8 r.nettime ++ bytesOfNat 2 r.code
    ++ bytesOfNat 4 src ++ bytesOfNat 6 r.data

/-- Is the event repeat-counted (R505, R510)? -/
def Event.counted (e : Event) : Bool :=
  let n := e.code % 256
  decide (e.data.length = 1) && decide (n ≠ 0x05) && decide (n ≠ 0x09) && decide (n ≠ 0x0B) && !(decide (0x80 ≤ n) && decide (n ≤ 0x84))

/-- The entry of a repeat table that an event merges into (R510). -/
def repFind (t : List RepEntry) (e : Event) : Option RepEntry :=
  if e.counted then t.find? fun r => decide (r.code = e.code ∧ r.page = e.page ∧ r.sub = e.sub ∧ e.optime ≤ r.optime + 60000) else none

/-- A repeat table with an entry made newest; 64 entries are held. -/
def repTouch (t : List RepEntry) (r : RepEntry) : List RepEntry :=
  (r :: t.filter fun q => !decide (q.code = r.code ∧ q.page = r.page ∧ q.sub = r.sub)).take 64

/-- A record takes a further occurrence. -/
def Record.again (r : Record) (data : Nat) : Record := { r with repeats := min (r.repeats + 1) 0xFFFF, data := data }

/-- The first SEQ of the circular area. -/
def Work.circFirst (w : Work) : Nat := 4096 + ((w.rd EVT.HEADSEQ).toNat + 1 - 4096 - w.x.evt.circ.length)

/-- The number of records in the event store. -/
def Work.evtEmpty (w : Work) : Bool := decide (w.rd EVT.HEADSEQ = 0xFFFF_FFFF)

/-- The record of the event store with a given SEQ (R508, R515). -/
def Work.recordAt (w : Work) (seq : Nat) : Option Record :=
  if w.evtEmpty then none
  else if seq < 4096 then w.x.evt.first[seq]?
  else if w.circFirst ≤ seq then w.x.evt.circ[seq - w.circFirst]? else none

/-- One record is appended to the event store (R508, R509). -/
def Work.storeRecord (w : Work) (r : Record) : Work :=
  let seq := if w.evtEmpty then 0 else (w.rd EVT.HEADSEQ).toNat + 1
  let w := w.wr EVT.HEADSEQ (BitVec.ofNat 32 seq)
  let w := w.wr64 EVT.TOTAL EVT.TOTALH (w.rd64 EVT.TOTAL EVT.TOTALH + 1)
  if seq < 4096 then (w.evtUpd fun s => { s with first := s.first ++ [r] }).putB EVT.STAT EVT.STAT_FIRSTFULL (decide (seq = 4095))
  else
    let w := w.when (decide (seq = 4096 + 61440)) fun w => w.irq evtPage 16
    w.evtUpd fun s => { s with circ := s.circ.drop (s.circ.length - 61439) ++ [r] }

/-- The record at a SEQ is changed. -/
def Work.changeRecord (w : Work) (seq : Nat) (f : Record → Record) : Work :=
  if seq < 4096 then w.evtUpd fun s => { s with first := s.first.modify seq f }
  else w.evtUpd fun s => { s with circ := s.circ.modify (seq - w.circFirst) f }

/-- An event enters the event store: merged or appended (R508, R510). -/
def Work.storeEvent (w : Work) (e : Event) : Work :=
  match (repFind w.x.evt.rep e).bind fun r => (w.recordAt r.seq).map fun _ => r with
  | some r => (w.changeRecord r.seq fun q => q.again (e.data.headD 0)).evtUpd fun s => { s with rep := repTouch s.rep r }
  | none =>
    let w := w.each (e.records 0) fun w r => w.storeRecord r
    if e.counted then
      let r : RepEntry := ⟨e.code, e.page, e.sub, (w.rd EVT.HEADSEQ).toNat, e.optime⟩
      w.evtUpd fun s => { s with rep := repTouch s.rep r }
    else w

/-- EPCOUNT.N follows the log; EPFULL at 4,096 records (R512). -/
def Work.epShow (w : Work) : Work :=
  let n := w.x.evt.epLog.length
  let full := decide (4096 ≤ n)
  (w.put EVT.EPCOUNT EVT.EPCOUNT_N n).flagIrq evtPage EVT.STAT EVT.STAT_EPFULL full 19

/-- An event enters the episode log of its run; a log that has stopped counts its records as dropped (R512). -/
def Work.logEvent (w : Work) (e : Event) : Work :=
  if e.ep = 0 ∨ e.ep ≠ w.x.evt.gen then w
  else match repFind w.x.evt.repEp e with
    | some r => w.evtUpd fun s => { s with epLog := s.epLog.modify r.seq fun q => q.again (e.data.headD 0), repEp := repTouch s.repEp r }
    | none =>
      let n := w.x.evt.epLog.length
      if w.flag EVT.STAT EVT.STAT_EPFULL = false ∧ n + e.data.length ≤ 4096 then
        let w := w.evtUpd fun s => { s with epLog := s.epLog ++ e.records 0,
                                            repEp := if e.counted then repTouch s.repEp ⟨e.code, e.page, e.sub, n, e.optime⟩ else s.repEp }
        w.epShow
      else
        let w := w.flagIrq evtPage EVT.STAT EVT.STAT_EPFULL true 19
        w.put EVT.EPCOUNT EVT.EPCOUNT_DROPPED (min (w.get EVT.EPCOUNT EVT.EPCOUNT_DROPPED + e.data.length) 32767)

/-- An event is recorded: DETAIL goes to the episode log alone. -/
def Work.recordEvent (w : Work) (e : Event) : Work := (if e.detail then w else w.storeEvent e).logEvent e

/-- Records in the freeze queue. -/
def Work.queueDepth (w : Work) : Nat := (w.x.evt.freezeQ.map (·.data.length)).sum

/-- A freeze ends (R513): by THAW of the holder, or otherwise with OVERRAN. The queue is then to be drained (R514). -/
def Work.freezeEnd (w : Work) (auto : Bool) : Work :=
  if w.flag EVT.STAT EVT.STAT_FROZEN then
    let w := (w.putB EVT.STAT EVT.STAT_FROZEN false).put EVT.STAT EVT.STAT_HOLDER 0
    let w := w.when auto fun w => w.flagIrq evtPage EVT.STAT EVT.STAT_OVERRAN true 17
    w.evtUpd fun s => { s with holder := none, draining := true, autoThaw := auto }
  else w

/-- One event is taken: recorded, or, during a freeze, put into the freeze queue with QUEUED set (R513, R514). -/
def Work.takeEvent (w : Work) (e : Event) : Work :=
  if w.flag EVT.STAT EVT.STAT_FROZEN then
    let w := w.evtUpd fun s => { s with freezeQ := s.freezeQ ++ [{ e with queued := true }] }
    let w := w.put EVT.STAT EVT.STAT_QDEPTH (min w.queueDepth 256)
    if 256 ≤ w.queueDepth then w.freezeEnd true else w
  else w.recordEvent e

/-- RECORD_APPEND (R507, R508, R510, R514): the oldest event of the arrival buffer is recorded; after a loss the room it leaves
brings EVENTS_LOST. While a freeze queue drains, events wait. -/
def recordAppend (w : Work) : Work :=
  if w.x.evt.draining then w
  else match w.x.evt.arrivals with
    | [] => w
    | e :: rest =>
      let w := (w.evtUpd fun s => { s with arrivals := rest }).takeEvent e
      if w.x.evt.lostSince = 0 ∨ w.x.evt.draining then w
      else
        let n := w.x.evt.lostSince
        let e := w.event evtPage 0x83 noSub [n % 2 ^ 32] false
        (w.evtUpd fun s => { s with lostSince := 0 }).takeEvent e

/-- THAW_DRAIN (R514): the freeze queue is applied in order; THAWED follows. -/
def thawDrain (w : Work) : Work :=
  if w.x.evt.draining then
    let n := w.queueDepth
    let auto := w.x.evt.autoThaw
    let w := w.each w.x.evt.freezeQ fun w e => w.recordEvent e
    let w := w.evtUpd fun s => { s with freezeQ := [], draining := false, autoThaw := false }
    let w := w.put EVT.STAT EVT.STAT_QDEPTH 0
    w.recordEvent (w.event evtPage 0x84 noSub [n % 65536 + (if auto then 65536 else 0)] false)
  else w

/-- FREEZE (R513, R521). -/
def freeze (p : Party) (arg : Nat) (w : Work) : Work :=
  w.startOp p evtPage 0 anyButPowerUp true fun w =>
    if 60 < arg then w.refuse evtPage rejRange
    else if w.flag EVT.STAT EVT.STAT_FROZEN then w.opNow p evtPage 0x01 arg opFailed 0x80
    else
      let w := thawDrain w
      let w := ((w.putB EVT.STAT EVT.STAT_FROZEN true).put EVT.STAT EVT.STAT_HOLDER (1 + whoOf p)).putB EVT.STAT EVT.STAT_OVERRAN false
      let w := (w.incSat EVT.LOST EVT.LOST_FREEZES).evtUpd fun s => { s with holder := some p }
      w.opNow p evtPage 0x01 arg opDone 0

/-- THAW (R513, R521). -/
def thaw (p : Party) (arg : Nat) (w : Work) : Work :=
  w.startOp p evtPage 0 anyButPowerUp true fun w =>
    if arg ≠ 0 then w.refuse evtPage rejRange
    else if w.x.evt.holder = some p then (w.freezeEnd false).opNow p evtPage 0x02 arg opDone 0
    else w.opNow p evtPage 0x02 arg opFailed 0x81

/-- FREEZE_EXPIRED (R513): the freeze's time has run out. -/
def freezeExpired (w : Work) : Work := if w.alive then w.freezeEnd true else w

/-- CLEAR (R516, R521). -/
def clear (p : Party) (arg : Nat) (w : Work) : Work :=
  w.startOp p evtPage 2 anyButSelfTest true fun w =>
    if arg ≠ 0 then w.refuse evtPage rejRange
    else if w.flag EVT.STAT EVT.STAT_FROZEN then w.opNow p evtPage 0x03 arg opFailed 0x80
    else
      let head := (w.rd EVT.HEADSEQ).toNat
      let user := w.userOf p
      let w := w.evtUpd fun s => { s with first := [], circ := [], rep := [] }
      let w := (w.wr EVT.HEADSEQ 0xFFFF_FFFF).putB EVT.STAT EVT.STAT_FIRSTFULL false
      let w := (w.incSat EVT.CLRINFO EVT.CLRINFO_CLEARS).put EVT.CLRINFO EVT.CLRINFO_USERID user
      let w := w.recordEvent (w.event evtPage 0x82 noSub [head + (user % 65536) * 2 ^ 32] false)
      w.opNow p evtPage 0x03 arg opDone 0

/-- EPREL (R512, R521): the kept log is released. -/
def eprel (p : Party) (arg : Nat) (w : Work) : Work :=
  w.startOp p evtPage 2 anyButPowerUp true fun w =>
    if arg ≠ 0 then w.refuse evtPage rejRange
    else if w.flag EVT.STAT EVT.STAT_EPKEEP = false then w.opNow p evtPage 0x04 arg opFailed 0x82
    else
      let w := (w.putB EVT.STAT EVT.STAT_EPKEEP false).evtUpd fun s => { s with epLog := [], repEp := [] }
      ((w.put EVT.EPCOUNT EVT.EPCOUNT_KIND 0).epShow).opNow p evtPage 0x04 arg opDone 0

/-- An episode opens (R511, R512); of the kinds but VOTEOUT one at a time is open. -/
def Work.openEpisode (w : Work) (kind : Nat) : Work :=
  let s := w.x.evt
  if kind ≠ 4 ∧ s.episodes.contains kind then w
  else
    let w := if s.logging = false then
        if w.flag EVT.STAT EVT.STAT_EPKEEP then w.incSat EVT.EPCOUNT EVT.EPCOUNT_DROPPED
        else
          let w := w.evtUpd fun s => { s with epLog := [], repEp := [], logging := true, gen := s.gen + 1, keepWanted := false }
          (w.put EVT.EPCOUNT EVT.EPCOUNT_KIND kind).epShow
      else w
    let w := (w.evtUpd fun s => { s with episodes := s.episodes ++ [kind] }).putB EVT.STAT EVT.STAT_EPOPEN true
    w.emit evtPage 0x80 noSub [kind]

/-- An episode closes (R511, R512). `excl`: a Form is excluded. -/
def Work.closeEpisode (w : Work) (kind : Nat) (excl : Bool) : Work :=
  let s := w.x.evt
  if s.episodes.contains kind then
    let w := w.emit evtPage 0x81 noSub [kind + modeCode w.x.mode * 256]
    let keep := s.logging && (decide (w.x.mode = .failed) || excl || s.keepWanted)
    let w := w.when keep fun w => w.flagIrq evtPage EVT.STAT EVT.STAT_EPKEEP true 20
    let rest := s.episodes.erase kind
    let w := w.evtUpd fun s => { s with episodes := rest, logging := if rest = [] then false else s.logging }
    w.putB EVT.STAT EVT.STAT_EPOPEN (decide (rest ≠ []))
  else w

/-- EPISODE_TIMER (R511): 10 s have passed since the first release as Duty; a TAKEOVER episode closes. -/
def episodeTimer (w : Work) : Work := if w.alive then w.closeEpisode 5 (decide (w.get PROCTOR.STAT PROCTOR.STAT_EXCL ≠ 0)) else w

/-- A soft reset of the page (R518): a freeze ends; LOST and STAT return to their reset entries. -/
def Work.evtSoftReset (w : Work) (was : Bool) : Work :=
  let w := w.putB EVT.STAT EVT.STAT_EPOPEN (decide (w.x.evt.episodes ≠ []))
  let w := w.put EVT.STAT EVT.STAT_QDEPTH (min w.queueDepth 256)
  if was then
    let w := w.flagIrq evtPage EVT.STAT EVT.STAT_OVERRAN true 17
    w.evtUpd fun s => { s with holder := none, draining := true, autoThaw := true }
  else w

/-- The 32 bytes of slot i of the read window (R515); zeros for a record not held. -/
def Work.windowRecord (w : Work) (i : Nat) : List Byte :=
  let seq := (w.rd EVT.WSEQ).toNat + i
  let r := if w.get EVT.WAREA EVT.WAREA_AREA = 0 then w.recordAt seq else w.x.evt.epLog[seq]?
  match r with
  | some r => r.bytes
  | none => List.replicate 32 0

/-- A word of the read window (R70, R515). -/
def Work.windowWord (w : Work) (a : Nat) : Word :=
  let off := a - 0x180000
  wordOfBytes ((w.windowRecord (off / 32)).drop (off % 32))

end Sys2Proof.Machine
end

