-- ==== Sys2Proof/Machine/Time.lean ====
section
/-! DEFINITION. Network time (chapter 15): the choice of master, the sync frame, samples and steps, the PPS input, SETTIME and
ACCEPTSTEP. -/

namespace Sys2Proof.Machine

def timePage : Nat := 0x015
def trFree : Nat := 0
def trSlave : Nat := 1
def trMaster : Nat := 2
def Work.timeUpd (w : Work) (f : TimeSt → TimeSt) : Work := w.upd fun x => { x with time := f x.time }
def Work.timeRole (w : Work) : Nat := w.get TIME.STAT TIME.STAT_ROLE
def Work.candidate (w : Work) : Bool := w.flag TIME.CFG TIME.CFG_MASTEREN

/-- The time service runs in every module state from Self-test on (R489). -/
def Work.timeRuns (w : Work) : Bool := w.alive && decide (w.x.mode ≠ .powerUp)

/-- Own class (R489). -/
def Work.timeClass (w : Work) : Nat :=
  let t := w.x.time
  if w.flag TIME.STAT TIME.STAT_PPSLOCK ∧ t.wasSet then 0
  else if t.wasSet ∨ t.inherited ∨ (w.timeRole = trSlave ∧ t.sampled ∧ w.flag TIME.STAT TIME.STAT_VALID) then 1
  else 2
def Work.timeShow (w : Work) : Work := w.put TIME.STAT TIME.STAT_CLASS w.timeClass

/-- VALID takes a level; VALIDCHG on either edge (R497, R499). -/
def Work.timeValid (w : Work) (v : Bool) : Work :=
  if w.flag TIME.STAT TIME.STAT_VALID = v then w else ((w.putB TIME.STAT TIME.STAT_VALID v).irq timePage 18).timeShow

/-- Does rank (CLASS, PRIO, NODE) a rank better than b (R489)? -/
def rankLt (a b : Nat × Nat × Nat) : Bool :=
  decide (a.1 < b.1) || (decide (a.1 = b.1) && (decide (a.2.1 < b.2.1) || (decide (a.2.1 = b.2.1) && decide (a.2.2 < b.2.2))))

/-- Own rank. -/
def Work.timeRank (w : Work) : Nat × Nat × Nat := (w.timeClass, w.get TIME.CFG TIME.CFG_PRIO, w.node)

/-- The master followed changes (R499): MCHG and MASTERCHG. -/
def Work.timeMaster (w : Work) (node role : Nat) : Work :=
  let old := w.get TIME.STAT TIME.STAT_MASTER
  let w := (w.put TIME.STAT TIME.STAT_MASTER node).put TIME.STAT TIME.STAT_ROLE role
  let w := if old = node then w else (w.incSat TIME.CNT TIME.CNT_MCHG).irq timePage 17
  w.timeShow

/-- A time step (R494, R496): the clock takes another value, and both are recorded. -/
def Work.timeStep (w : Work) (new : Nat) : Work :=
  let old := w.net
  let bs := bytesOfNat 8 old ++ bytesOfNat 8 new ++ [0, 0]
  let w := (w.wr64 TIME.NOW TIME.NOWH (new % 2 ^ 64)).timeUpd fun t => { t with slew := 0 }
  w.emit timePage 0x0B noSub [natOfBytes (bs.take 6), natOfBytes ((bs.drop 6).take 6), natOfBytes (bs.drop 12)]

/-- A value clipped to a signed 32-bit register. -/
def sat32 (i : Int) : Nat := unsignedOf 32 (max (-(2 ^ 31)) (min i (2 ^ 31 - 1)))

/-- STEPMAX in ns. -/
def Work.stepMax (w : Work) : Int := ((w.rd TIME.STEPMAX).toNat * 1000 : Nat)

/-- An offset beyond STEPMAX that nothing allows is refused (R494). -/
def Work.timeRefuse (w : Work) (offset : Int) : Work :=
  let w := w.incSat TIME.CNT TIME.CNT_REFUSED
  let w := w.wr TIME.PENDOFS (BitVec.ofNat 32 (sat32 (divRounded offset 1000)))
  if w.flag TIME.STAT TIME.STAT_REFUSING then w
  else ((w.setFlag timePage noSub TIME.STAT TIME.STAT_REFUSING true).irq timePage 16).newInstance 1022

/-- A sample of a slave (R494): corrected by rate, stepped to, or refused. -/
def Work.timeSample (w : Work) (offset : Int) (steppedFlag : Bool) : Work :=
  let accept := w.opBusy timePage && (match w.op? timePage with | some o => decide (o.op = 2) | none => false)
  let aborted := accept && (match w.op? timePage with | some o => o.abort | none => false)
  let w := if aborted then w.opEnd timePage opAborted 0x01 else w
  let accept := accept && !aborted
  let small := decide (-w.stepMax ≤ offset) && decide (offset ≤ w.stepMax)
  if small || w.x.time.sampled = false || steppedFlag || accept then
    let w := if small then w.timeUpd fun t => { t with slew := offset } else w.timeStep (Int.toNat ((w.net : Int) + offset))
    let w := (w.timeUpd fun t => { t with sampled := true }).wr TIME.OFFSET (BitVec.ofNat 32 (sat32 offset))
    let w := (w.putB TIME.STAT TIME.STAT_REFUSING false).timeValid true
    let w := if accept then w.opEnd timePage opDone 0 else w
    w.timeShow
  else w.timeRefuse offset

/-- A master is heard within tMLOSS (R498). -/
def Work.mastersHeard (w : Work) : List (Nat × Nat × Nat × Nat) := w.x.time.heard.filter fun e => decide (w.now < e.2.2.2 + 3010)

/-- The time of the frame's SOF by the slave's own clock, T_sof of R493, in ns; the rates are in kbit/s. -/
def Work.sofTime (w : Work) (t : Nat) (ts : TimeSync) : Int :=
  (ts.readTime : Int) - divRounded (25 * ts.valAge : Nat) 2 - (ts.nArb * 1_000_000 / w.rArb t + ts.nData * 1_000_000 / w.rData t : Nat)

/-- TIME_SYNC_RX (R489, R493, R494): a valid frame of another node. -/
def timeSyncRx (trunkB : Bool) (ts : TimeSync) (w : Work) : Work :=
  let t := tn trunkB
  if w.timeRuns = false ∨ w.trkHears t = false then w
  else
    let now := w.now
    let w := w.timeUpd fun s => { s with heard := tabSet s.heard ts.node (ts.cls, ts.prio, now) }
    let rank := (ts.cls, ts.prio, ts.node)
    if w.timeRole = trMaster ∧ rankLt rank w.timeRank = false then w
    else if (w.mastersHeard.any fun e => rankLt (e.2.1, e.2.2.1, e.1) rank) then w
    else
      let sec := ts.txTime / 1_000_000_000
      if trunkB ∧ w.x.time.lastA = some sec ∧ w.timeRole ≠ trMaster then w
      else
        let w := w.timeMaster ts.node trSlave
        let w := (w.timeUpd fun s => { s with inherited := false, lastA := if trunkB then s.lastA else some sec })
        let w := w.putB TIME.STAT TIME.STAT_SRCTRK trunkB
        let u := ts.utcOfs.toNat % 65536 + (if ts.leapIns then 2 ^ 16 else 0) + (if ts.leapDel then 2 ^ 17 else 0)
        let w := w.wr TIME.UTCOFS (BitVec.ofNat 32 u)
        let pdly := if trunkB then w.get TIME.PDLY TIME.PDLY_B else w.get TIME.PDLY TIME.PDLY_A
        w.timeSample (((ts.txTime + pdly : Nat) : Int) - w.sofTime t ts) ts.stepped

/-- MASTER_TIMEOUT (R489, R490): a candidate that has heard no master long enough becomes master and keeps its time. Its coming says
how long (log entry 103). -/
def masterTimeout (w : Work) : Work :=
  if w.timeRuns = false ∨ w.candidate = false ∨ w.timeRole = trMaster
      ∨ (w.timeClass = 2 ∧ w.mastersHeard.any fun e => decide (e.2.1 < 2)) then w
  else
    let synced := decide (w.timeRole = trSlave) && w.x.time.sampled && w.flag TIME.STAT TIME.STAT_VALID
    let w := w.timeUpd fun t => { t with inherited := synced || t.inherited, heard := [] }
    let w := (w.timeMaster w.node trMaster).wr TIME.UTCOFS w.x.time.utcOwn
    if w.x.time.wasSet then w.timeValid true else w

/-- TIME_SYNC_TX (R491, R492, R496): the master queues a TIME_SYNC on both trunks at a whole second of network time. -/
def timeSyncTx (w : Work) : Work :=
  if w.timeRuns = false ∨ w.timeRole ≠ trMaster then w
  else
    let w := w.timeShow
    let u := (w.rd TIME.UTCOFS).toNat
    let step := decide (w.x.time.stepped ≠ 0)
    let flags := (if step then 1 else 0) + u / 2 ^ 16 % 4 * 2 + (if w.flag TIME.STAT TIME.STAT_PPSLOCK then 8 else 0)
    let data := bytesOfNat 8 w.net ++ bytesOfNat 2 u ++ bytesOfNat 1 flags ++ bytesOfNat 1 (w.get TIME.CFG TIME.CFG_PRIO)
      ++ bytesOfNat 4 0xFFFF_FFFF
    let w := w.queueBoth kTimeSync (w.timeClass * 1024 + w.net / 1_000_000_000 % 256) data
    w.timeUpd fun t => { t with stepped := t.stepped - 1 }

/-- TIME_SYNC_DROP (R492). -/
def timeSyncDrop (trunkB : Bool) (w : Work) : Work :=
  let t := tn trunkB
  if (w.trk t).queue.any fun f => decide (f.kind = kTimeSync) then
    ((w.trkSet t fun s => { s with queue := s.queue.filter fun f => decide (f.kind ≠ kTimeSync) }).trkDepth t).incSat TIME.CNT TIME.CNT_DROPPED
  else w

/-- PPS_EDGE (R495, R496): the edge lies `offset` ns after the module's own whole second, taken as the correction to apply. -/
def ppsEdge (offset : Int) (w : Work) : Work :=
  if w.timeRuns = false ∨ w.candidate = false ∨ w.flag TIME.CFG TIME.CFG_PPSEN = false then w
  else
    let w := w.putB TIME.STAT TIME.STAT_PPSLOST false
    let w :=
      if -w.stepMax ≤ offset ∧ offset ≤ w.stepMax then
        (w.timeUpd fun t => { t with slew := offset }).putB TIME.STAT TIME.STAT_REFUSING false
      else if w.x.time.ppsOnce = false then
        (w.timeStep (Int.toNat ((w.net : Int) + offset))).timeUpd fun t => { t with stepped := 4 }
      else w.timeRefuse offset
    let good := decide (-1000 ≤ offset) && decide (offset ≤ 1000)
    let w := w.timeUpd fun t => { t with ppsGood := if good then min (t.ppsGood + 1) 3 else 0 }
    let w := if w.x.time.ppsGood = 3 then
        (w.putB TIME.STAT TIME.STAT_PPSLOCK true).timeUpd fun t => { t with ppsOnce := true }
      else w
    w.timeShow

/-- PPS_LOST (R495). -/
def ppsLost (w : Work) : Work :=
  if w.timeRuns = false ∨ w.candidate = false ∨ w.flag TIME.CFG TIME.CFG_PPSEN = false then w
  else
    let w := w.flagIrq timePage TIME.STAT TIME.STAT_PPSLOST true 19
    ((w.putB TIME.STAT TIME.STAT_PPSLOCK false).timeUpd fun t => { t with ppsGood := 0 }).timeShow

/-- TIME_HOLD_EXPIRED (R497): a master never clears VALID. -/
def timeHoldExpired (w : Work) : Work := if w.timeRuns = false ∨ w.timeRole = trMaster then w else w.timeValid false

/-- SETTIME (R496, R497, R500). -/
def settime (p : Party) (arg : Nat) (w : Work) : Work :=
  w.startOp p timePage 2 anyButPowerUp true fun w =>
    if 1 < arg then w.refuse timePage rejRange
    else if w.candidate = false then w.opNow p timePage 1 arg opFailed 0x80
    else
      let v := w.rd64 TIME.SETVAL TIME.SETVALH
      let d := (v : Int) - (w.net : Int)
      if arg = 0 ∧ w.flag TIME.STAT TIME.STAT_VALID ∧ (w.stepMax < d ∨ d < -w.stepMax) then w.opNow p timePage 1 arg opFailed 0x81
      else
        let w := (w.timeStep v).timeUpd fun t => { t with wasSet := true, stepped := if arg = 1 then 4 else t.stepped }
        let w := if w.timeRole = trMaster then w.timeValid true else w
        w.timeShow.opNow p timePage 1 arg opDone 0

/-- ACCEPTSTEP (R494, R500): BUSY until the next sample. -/
def acceptstep (p : Party) (arg : Nat) (w : Work) : Work :=
  w.startOp p timePage 2 anyButPowerUp true fun w =>
    if arg ≠ 0 then w.refuse timePage rejRange
    else if w.flag TIME.STAT TIME.STAT_REFUSING = false then w.opNow p timePage 2 arg opFailed 0x82
    else w.opBegin p timePage 2 arg []

/-- The refusals of a write to the TIME page (R499). -/
def timeCheck (a : Nat) (old new : Word) : List (Nat × Nat) :=
  let r (n lo hi : Nat) : Bool := decide (n < lo) || decide (hi < n)
  if a = TIME.CFG then chk TIME.CFG_HOLD old new (r (TIME.CFG_HOLD.get new) 1 3600) rejRange
  else if a = TIME.STEPMAX then chk TIME.STEPMAX_US old new (r new.toNat 10 10_000_000) rejRange
  else if a = TIME.PDLY then
    chk TIME.PDLY_A old new (r (TIME.PDLY_A.get new) 0 5000) rejRange ++ chk TIME.PDLY_B old new (r (TIME.PDLY_B.get new) 0 5000) rejRange
  else []

/-- What follows a write to the TIME page: a module that is no candidate is no master; PPSEN 0 takes the PPS away; a slave keeps its own
UTC offset for later and goes on showing its master's. -/
def Work.timeWritten (w : Work) (a : Nat) (old : Word) : Work :=
  if a = TIME.CFG then
    let w := if w.candidate = false ∧ w.timeRole = trMaster then w.timeMaster 0xFF trFree else w
    let w := if w.flag TIME.CFG TIME.CFG_PPSEN ∧ w.candidate then w
      else ((w.putB TIME.STAT TIME.STAT_PPSLOCK false).putB TIME.STAT TIME.STAT_PPSLOST false).timeUpd fun t => { t with ppsGood := 0 }
    w.timeShow
  else if a = TIME.UTCOFS then
    let own := w.rd TIME.UTCOFS
    let w := w.timeUpd fun t => { t with utcOwn := own }
    if w.timeRole = trSlave then w.wr TIME.UTCOFS old else w
  else w

/-- A millisecond of network time passes: 200 ppm of it at most work off the slew (R494). -/
def Work.timeTick (w : Work) : Work :=
  let d := max (-200) (min w.x.time.slew 200)
  let w := w.wr64 TIME.NOW TIME.NOWH (Int.toNat ((w.net : Int) + 1_000_000 + d) % 2 ^ 64)
  w.timeUpd fun t => { t with slew := t.slew - d }

end Sys2Proof.Machine
end

