-- ==== Sys2Proof/Machine/Modes.lean ====
section
/-! DEFINITION. The module's states (R17, R73): entering a state with everything that follows from it, a whole-module reset (R75) and
the entry into Power-up. -/

namespace Sys2Proof.Machine

/-- HELDWHY (R100). -/
def whyNoImage : Nat := 1
def whyNoPermit : Nat := 6
def whyCommitted : Nat := 7
def whyPartner : Nat := 8

/-- What an image supplies for a register: value and mask of the bits (R88). -/
def imgWord (c : ImageContent) (a : Nat) : Option (Word × Word) :=
  match c.pages.find? fun e => decide (e.1 = a) with
  | some e => some e.2
  | none => match (c.params ++ c.points).find? fun e => decide (e.1 = a) with
    | some e => some (e.2, 0xFFFF_FFFF)
    | none => none

/-- A word with the bits an image supplies for it put in. -/
def imgPut (c : ImageContent) (a : Nat) (old : Word) : Word :=
  match imgWord c a with
  | some (v, m) => (old &&& ~~~m) ||| (v &&& m)
  | none => old

/-- On entry into Ready the image's values are written into the trunks' CFG where they differ from the kept ones (R482); IOSYNC checks its
budget at the new rates (R311). -/
def Work.readyTrunk (w : Work) : Work :=
  let c := w.activeContent
  w.each [0, 1] fun w t =>
    let a := TRK.CFG t
    let old := w.rd a
    let new := imgPut c a old
    let new := if t = 0 then new
      else TRK.CFG_HBT.set (TRK.CFG_NODE.set new (w.get (TRK.CFG 0) TRK.CFG_NODE)) (w.get (TRK.CFG 0) TRK.CFG_HBT)
    if new = old then w else ((w.wr a new).trkWritten t a old).iosBudget

/-- Is a Form excluded (R393)? -/
def Work.anyExcluded (w : Work) : Bool := decide (w.get PROCTOR.STAT PROCTOR.STAT_EXCL ≠ 0)

/-- Task instances that have not released are discarded (R297). -/
def Work.discardTasks (w : Work) : Work :=
  w.upd fun x => { x with task := { x.task with run := x.task.run.map fun e => (e.1, { e.2 with running := false }) }
                          proc := { x.proc with isOpen := false, cps := [], agree := [], done := false, closed := false, withheld := false, held := [], heldLane := [] } }

/-- The module enters a state (R17, R73): SYS.STATE shows it, every unlock ends (R63), the POWERUP episode closes (R511), Ready loads
the trunks' CFG (R482), PREQ (R274) and Belfry's keep area (R380), and islands, outputs, safety section and CALL outputs follow
(R21). `why` is HELDWHY. -/
def Work.toMode (w : Work) (m : Mode) (why : Nat) : Work :=
  let was := w.x.mode
  let w := w.upd fun x => { x with mode := m }
  let w := if modeCode m = 0 then w.put SYS.STATE SYS.STATE_STATE 0 else w.setState 0x000 noSub SYS.STATE SYS.STATE_STATE (modeCode m)
  let w := w.put SYS.STATE SYS.STATE_HELDWHY (if m = .held then why else 0)
  if was = m then w
  else
    let w := w.lockAll.slateRequest 1
    let w := w.when (decide (m ≠ .hold)) fun w => w.upd fun x => { x with task := { x.task with holdReady := false } }
    let w := w.when (decide (m = .held) || decide (m = .ready) || decide (m = .failed)) fun w => w.closeEpisode 1 w.anyExcluded
    let w := w.when (decide (m ≠ .run) && decide (m ≠ .hold)) fun w => w.discardTasks
    let w := w.when (decide (m = .ready)) fun w =>
      let w := w.readyTrunk.safeReady
      if was = .run ∨ was = .hold then w else w.belReady
    let w := w.when (decide (m = .failed)) fun w => w.each ([0, 1].filter fun t => w.enabled (trkPage t)) fun w t => w.trkEnter t tsMonitor
    let w := w.safeModule
    let w := w.when (decide (m = .held) || decide (m = .ready) || decide (m = .run) || decide (m = .hold)) fun w => w.keepalive
    let w := w.when (decide (m = .run)) fun w => w.tickClear
    ((w.belMode.trimModeEnd.commandIslands).commandOutputs).lanternShow

/-- A fault the module cannot survive (R17, R96). -/
def Work.fail (w : Work) (code page : Nat) : Work :=
  let w := (w.cause code page 0 true).toMode .failed 0
  w.slateRequest 2

/-- A word at Power-up (R9): kept and fixed fields stay; every other field takes its reset entry. -/
def powerWord (a : Nat) (v : Word) : Word :=
  if isWindow (a / 4096) = false ∧ a % 4096 < 0x40 then resetWord a
  else (fieldsAt a).foldl (fun acc f =>
    let fl : Fld := ⟨f.lo, f.w⟩
    if f.kind = .kept ∨ f.kind = .fixed then acc else fl.set acc f.rst) v

/-- Every register word that may differ from its reset word. -/
def Work.listed (w : Work) : List Nat := (w.base.map (·.1) ++ w.log.map (·.1)).eraseDups

/-- A whole-module reset (R18, R75): the cause is recorded; every register but the kept ones returns to its reset entry, and
everything volatile is lost. Islands, safety section, loop-supply switches and Slate's picture keep their own state; forces
are cleared (R304); a freeze ends (R513); sessions end (R532). `bit` is the bit of RST.CAUSE. -/
def Work.wholeReset (w : Work) (bit : Nat) : Work :=
  let frozen := w.flag EVT.STAT EVT.STAT_FROZEN
  let w := w.each w.listed fun w a => if powerWord a (w.rd a) = w.rd a then w else w.wr a (powerWord a (w.rd a))
  let w := w.each (w.x.health.reasons.filter fun c => decide (reasonClass c = 3)) fun w c => w.showReason c false
  let w := (w.put RST.CAUSE ⟨bit, 1⟩ 1).when (decide (w.x.mode = .failed)) fun w => w.putB RST.CAUSE RST.CAUSE_FAILED_EXIT true
  let w := w.upd fun x => { x with
    mode := .off
    pages := {}
    health := { x.health with
      page := []
      pageGone := []
      causes := x.health.causes.filter fun c => [0x02, 0x03, 0x07, 0x08, 0x0A, 0x0B, 0x0C, 0x0D, 0x0E].contains c.1 }
    evt := { x.evt with rep := [], repEp := [], episodes := [], logging := false, keepWanted := false, holder := none }
    net := { users := x.net.users, ipNow := [] }
    xfer := { fwIdle := x.xfer.fwIdle, fwTrial := x.xfer.fwTrial }
    img := { x.img with activeOk := false, restart := 0 }
    bist := { repairs := x.bist.repairs, records := x.bist.records, ecc := x.bist.ecc, weak := x.bist.weak }
    loops := { x.loops with coldWait := false }
    sens := { closed := x.sens.closed }
    dio := { grp := x.dio.grp.map fun e => (e.1, { vf := e.2.vf, dark := e.2.dark }) }
    trkA := { mboxes := [] }
    trkB := { mboxes := [] }
    ctl := {}
    task := { retA := x.task.retA, retB := x.task.retB, nextB := x.task.nextB, journal := x.task.journal }
    ios := {}
    bel := { keep := x.bel.keep }
    slate := { x.slate with waiting := [], lastStart := [] }
    lantern := {}
    clk := {}
    proc := { lastRot := x.proc.lastRot, bankErrs := x.proc.bankErrs, lats := x.proc.lats }
    pair := {}
    time := {} }
  (w.evtSoftReset frozen)

/-- Entry into Power-up (R73, R75): the power-cycle count rises, the episode log opens, and the causes, bits of RST.CAUSE, are recorded in
it. -/
def Work.enterPowerUp (w : Work) (bits : List Nat) : Work :=
  let w := (w.upd fun x => { x with mode := .powerUp, role := .solo }).incWrap CUPOLA.PCYCLE CUPOLA.PCYCLE_N
  let w := w.put SYS.STATE SYS.STATE_STATE 1
  let w := (w.openEpisode 1).each bits fun w b => w.evFlag 0x003 noSub RST.CAUSE b true
  ((w.slateRequest 1).slateClean).safePowerUp

/-- A reset that leaves the supply on: Power-up follows at once (R75). The logic monitors go on showing the feeds (log entry 128). -/
def Work.resetNow (w : Work) (bit : Nat) : Work :=
  let bits := if w.x.mode = .failed then [bit, 3] else [bit]
  let st := w.rd PWR.LSTAT
  let v := w.rd PWR.VAB
  (((w.wholeReset bit).enterPowerUp bits).wr PWR.LSTAT st).wr PWR.VAB v

end Sys2Proof.Machine
end

