-- ==== Sys2Proof/Machine/Network.lean ====
section
/-! DEFINITION. Plant network and host access (chapter 17): the ports, opening and ending sessions, notification, and the transfer
engine. Page access itself (READ, WRITE) stands with the pages. -/

namespace Sys2Proof.Machine

def netPage (b : Nat) : Nat := 0x01C + b
def xferPage : Nat := 0x01E
def bn (portB : Bool) : Nat := if portB then 1 else 0
def Work.netUpd (w : Work) (f : NetSt → NetSt) : Work := w.upd fun x => { x with net := f x.net }
def Work.xferUpd (w : Work) (f : XferSt → XferSt) : Work := w.upd fun x => { x with xfer := f x.xfer }

/-- Does the module talk on the network, or on the service port? A NET page that is disabled has no port. -/
def Work.netOn (w : Work) (usb : Bool) : Bool := w.alive && (usb || w.enabled (netPage 0) || w.enabled (netPage 1))

/-! Ports (R522 to R524, R544, R546) -/

/-- Does a port of the plant network follow its link: its page is enabled, or the module is in Power-up (R21, R73)? -/
def Work.portUp (w : Work) (b : Nat) : Bool := w.alive && (w.enabled (netPage b) || decide (w.x.mode = .powerUp))

/-- LINK_DOWN (R524, R544): LINK.UP clears, point 1023 rises. -/
def linkDown (portB : Bool) (w : Work) : Work :=
  let b := bn portB
  if w.portUp b then
    let rise := w.flag (NET.LINK b) NET.LINK_UP
    let w := (w.putB (NET.LINK b) NET.LINK_LANSILENT false).setFlag (netPage b) noSub (NET.LINK b) NET.LINK_UP false
    w.when rise fun w => (w.irq (netPage b) 16).newInstance 1023
  else w

/-- LINK_UP (R524). -/
def linkUp (portB : Bool) (w : Work) : Work :=
  let b := bn portB
  if w.portUp b then
    (w.putB (NET.LINK b) NET.LINK_LANSILENT false).setFlag (netPage b) noSub (NET.LINK b) NET.LINK_UP true
  else w

/-- LAN_SILENT (R524). -/
def lanSilent (portB : Bool) (w : Work) : Work :=
  let b := bn portB
  if w.alive ∧ w.enabled (netPage b) ∧ w.flag (NET.LINK b) NET.LINK_UP then
    (w.flagIrq (netPage b) (NET.LINK b) NET.LINK_LANSILENT true 18).newInstance 1023
  else w

/-- PRP_SUPERVISION (R522). -/
def prpSupervision (w : Work) : Work := if w.netOn false then w.send .prpSupervision else w

/-- OTHER_DATAGRAM (R523): ARP (0) and ICMP echo (1) are answered; any other is discarded and counted. -/
def otherDatagram (portB : Bool) (kind : Nat) (w : Work) : Work :=
  let b := bn portB
  if w.alive ∧ w.enabled (netPage b) then
    if kind = 0 then w.send (.arpReply portB)
    else if kind = 1 then w.send (.echoReply portB)
    else w.incSat (NET.CNT2 b) NET.CNT2_DISC
  else w

/-! Users and sessions (R525 to R532) -/

/-- An entry of the user table. -/
def Work.user? (w : Work) (id : Nat) : Option User := w.x.net.users.find? fun u => decide (u.id = id)

/-- SESS.N of both pages (R546). -/
def Work.sessShow (w : Work) : Work :=
  let n := w.x.net.sessions.length
  (w.put (NET.SESS 0) NET.SESS_N n).put (NET.SESS 1) NET.SESS_N n

/-- A message is discarded (R528): AUTHFAIL counts in both pages; the tenth discard from one source within 10 s blocks it. -/
def Work.discard (w : Work) (src : Nat) : Work :=
  let w := w.each [0, 1] fun w b => (w.incSat (NET.CNT2 b) NET.CNT2_AUTHFAIL).when (w.enabled (netPage b)) fun w => w.irq (netPage b) 17
  let now := w.now
  let l := (w.x.net.discards.filter fun e => decide (now < e.2 + 10000)) ++ [(src, now)]
  if 10 ≤ (l.filter fun e => decide (e.1 = src)).length then
    w.netUpd fun n => { n with discards := l.filter fun e => decide (e.1 ≠ src), blocked := n.blocked ++ [src] }
  else w.netUpd fun n => { n with discards := l }

/-- Is a source address ignored (R528)? -/
def Work.isBlocked (w : Work) (src : Nat) : Bool := w.x.net.blocked.contains src

/-- INVALID_MESSAGE (R528). -/
def invalidMessage (src : Nat) (w : Work) : Work :=
  if w.alive = false ∨ w.x.mode = .powerUp ∨ w.isBlocked src then w else w.discard src

/-- SOURCE_BLOCK_END (R528). -/
def sourceBlockEnd (src : Nat) (w : Work) : Work := w.netUpd fun n => { n with blocked := n.blocked.filter fun s => decide (s ≠ src) }

/-- KEYBUF clears at the end of every operation and session (R550). -/
def Work.keybufClear (w : Work) : Work := w.xferUpd fun x => { x with keybuf := [] }

/-- A session ends (R532): its unlocks (R63), a freeze it holds (R513), its latches (R69) and KEYBUF. -/
def Work.endSession (w : Work) (id : Nat) : Work :=
  match w.session? id with
  | none => w
  | some _ =>
    let p := Party.host id
    let w := w.each ((w.x.pages.unlocks.filter fun u => decide (u.party = p)).map (·.page)) fun w page => w.lock page
    let w := w.when (decide (w.x.evt.holder = some p)) fun w => w.freezeEnd true
    let w := w.netUpd fun n => { n with sessions := n.sessions.filter fun s => decide (s.id ≠ id) }
    let w := w.upd fun x => { x with pages := { x.pages with latches := x.pages.latches.filter fun l => decide (l.1 ≠ id) } }
    w.keybufClear.sessShow

/-- Sixteen bytes of a nonce. -/
def nonce16 (bs : List Byte) : List Byte := (bs ++ List.replicate 16 0).take 16

/-- Numbers that no new session may take. -/
def Work.usedSessions (w : Work) : List Nat :=
  w.x.net.sessions.map (·.id) ++ w.x.net.offers.map (·.id) ++ (w.x.net.noOffer.filter fun e => decide (w.now < e.2 + 60000)).map (·.1)

/-- The number a new session takes: the one drawn where it is free, else the lowest free (log entry 63). -/
def Work.sessionNumber (w : Work) (n : Nat) : Nat :=
  let used := w.usedSessions
  if 1 ≤ n ∧ n ≤ 65535 ∧ used.contains n = false then n
  else (((List.range (used.length + 1)).map (· + 1)).find? fun k => !used.contains k).getD 1

/-- STATUS codes of R531. -/
def stOk : Nat := 0
def stBus : Nat := 1
def stRefused : Nat := 2
def stSeqOld : Nat := 3
def stSpan : Nat := 4
def stFull : Nat := 5
def stNotYet : Nat := 6
def stLockedOut : Nat := 7

/-- OPEN_REQ (R526, R527, R531). -/
def openReq (src : Nat) (usb : Bool) (user : Nat) (hostNonce modNonce : List Byte) (session : Nat) (w : Work) : Work :=
  if (w.netOn usb = false ∧ w.x.mode ≠ .powerUp) ∨ w.isBlocked src then w
  else if w.x.mode = .powerUp then w.send (.openChal src stNotYet 0 [])
  else if w.x.net.userLocks.contains user then w.send (.openChal src stLockedOut 0 [])
  else
    let held := (w.x.net.sessions.filter fun s => s.usb == usb).length + (w.x.net.offers.filter fun o => o.usb == usb).length
    if (if usb then 1 else 8) ≤ held then w.send (.openChal src stFull 0 [])
    else
      let id := w.sessionNumber session
      let mn := nonce16 modNonce
      (w.netUpd fun n => { n with offers := n.offers ++ [⟨id, usb, user, nonce16 hostNonce, mn⟩] }).send (.openChal src stOk id mn)

/-- The session key (R526). -/
def sessionKey (secret hn mn : List Byte) (user : Nat) : List Byte := hmac secret (ascii "B960" ++ hn ++ mn ++ bytesOfNat 2 user)

/-- The bytes of OPEN_PROOF before its HMAC (R527, R528). -/
def proofBytes (session : Nat) (hn mn : List Byte) : List Byte :=
  ascii "BPA1" ++ bytesOfNat 1 0x03 ++ bytesOfNat 1 0 ++ bytesOfNat 2 session ++ bytesOfNat 4 0 ++ bytesOfNat 4 0 ++ bytesOfNat 2 8
    ++ bytesOfNat 2 0 ++ hn ++ mn

/-- A failed proof counts toward the lockout of its USERID (R526); the fifth within 60 s locks it, and the lockout is recorded. -/
def Work.proofFailed (w : Work) (user : Nat) : Work :=
  let now := w.now
  let l := (w.x.net.proofFails.filter fun e => decide (now < e.2 + 60000)) ++ [(user, now)]
  if 5 ≤ (l.filter fun e => decide (e.1 = user)).length then
    (w.netUpd fun n => { n with proofFails := l.filter fun e => decide (e.1 ≠ user), userLocks := n.userLocks ++ [user] }).evRefused
      (netPage 0) noSub 0 rejLockout 1 user
  else w.netUpd fun n => { n with proofFails := l }

/-- OPEN_PROOF (R525 to R528): proved, the session opens; a proof of a session already acknowledged is answered again; any other is
discarded and counted. -/
def openProof (src session : Nat) (hostNonce modNonce mac : List Byte) (w : Work) : Work :=
  if w.alive = false ∨ w.x.mode = .powerUp ∨ w.isBlocked src then w
  else
    let good (hn mn : List Byte) (user : Nat) (usb : Bool) : Option User :=
      match w.user? user with
      | some u =>
        if hostNonce = hn ∧ modNonce = mn ∧ mac = hmac (sessionKey u.secret hn mn user) (proofBytes session hn mn) ∧ (user = 1 → usb = true)
        then some u else none
      | none => none
    match w.x.net.offers.find? fun o => decide (o.id = session) with
    | some o =>
      if w.netOn o.usb = false then w
      else match good o.hostNonce o.modNonce o.user o.usb with
      | some u =>
        let w := w.netUpd fun n => { n with
          offers := n.offers.filter fun e => decide (e.id ≠ session)
          sessions := n.sessions ++ [⟨session, o.usb, o.user, u.role, o.hostNonce, o.modNonce, none, 0, 0, 0, 0, []⟩] }
        w.sessShow.send (.openAck session u.role)
      | none =>
        let w := w.discard src
        if o.user = 1 ∧ o.usb = false then w else w.proofFailed o.user
    | none =>
      match w.session? session with
      | some s =>
        if w.netOn s.usb = false then w
        else match good s.hostNonce s.modNonce s.user s.usb with
        | some _ => w.send (.openAck session s.role)
        | none => (w.discard src).proofFailed s.user
      | none => w.discard src

/-- OFFER_WITHDRAWN (R527): the number is not offered again for 60 s. -/
def offerWithdrawn (session : Nat) (w : Work) : Work :=
  if w.x.net.offers.any fun o => decide (o.id = session) then
    let now := w.now
    w.netUpd fun n => { n with
      offers := n.offers.filter fun o => decide (o.id ≠ session)
      noOffer := (n.noOffer.filter fun e => decide (now < e.2 + 60000)) ++ [(session, now)] }
  else w

/-- USER_LOCKOUT_END (R526). -/
def userLockoutEnd (user : Nat) (w : Work) : Work := w.netUpd fun n => { n with userLocks := n.userLocks.filter fun u => decide (u ≠ user) }

/-- What SEQ says of a request (R530): `none`, execute it; else the answer's status and data. -/
def Session.seqRule (s : Session) (seq : Nat) : Option (Nat × List Word) :=
  match s.last with
  | some a => if a.seq < seq then none else if a.seq = seq then some (a.status, a.data) else some (stSeqOld, [])
  | none => if seq = 0 then some (stSeqOld, []) else none

/-- The answer to an executed request is sent and kept (R530). -/
def Work.answer (w : Work) (id seq status : Nat) (data : List Word) : Work :=
  (w.netUpd fun n => { n with sessions := n.sessions.map fun s => if s.id = id then { s with last := some ⟨seq, status, data⟩ } else s }).send
    (.answer id seq status data)

/-- CLOSE (R530, R532). -/
def close (session seq : Nat) (w : Work) : Work :=
  match w.session? session with
  | none => w
  | some s =>
    if w.netOn s.usb = false then w
    else match s.seqRule seq with
      | some (st, d) => w.send (.answer session seq st d)
      | none => (w.answer session seq stOk []).endSession session

/-- SESSION_IDLE (R532). -/
def sessionIdle (session : Nat) (w : Work) : Work := w.endSession session

/-- USB_DETACH (R532). -/
def usbDetach (w : Work) : Work :=
  let w := w.each ((w.x.net.sessions.filter fun s => s.usb).map (·.id)) fun w id => w.endSession id
  w.netUpd fun n => { n with offers := n.offers.filter fun o => !o.usb }

/-! Notification (R533) -/

/-- The five words of IRQSUM. -/
def Work.irqsum (w : Work) : List Word := (List.range 5).map fun i => w.rd (TASK.IRQSUM i)

/-- A sending of NOTIFY, with a SEQ of its own. -/
def Work.notify (w : Work) (id : Nat) (first : Bool) : Work :=
  match w.session? id with
  | none => w
  | some s =>
    let q := w.irqsum
    let seq := s.noteSeq + 1
    let now := w.now
    (w.netUpd fun n => { n with sessions := n.sessions.map fun s =>
      if s.id = id then { s with noteSeq := seq, noteTime := now, noteFirst := if first then seq else s.noteFirst, notified := q } else s }).send
      (.notify id seq q)

/-- IRQSUM as it is now against the last NOTIFY: has a bit risen? -/
def Work.irqRisen (w : Work) (s : Session) : Bool := (w.irqsum.zipIdx).any fun e => decide (e.1 &&& ~~~(s.notified.getD e.2 0) ≠ 0)

/-- NOTIFY_SEND (R533): at most once per 10 ms, to a network session. -/
def notifySend (session : Nat) (w : Work) : Work :=
  match w.session? session with
  | none => w
  | some s =>
    if s.usb = false ∧ w.netOn false ∧ w.irqRisen s ∧ (s.noteSeq = 0 ∨ s.noteTime + 10 ≤ w.now) then w.notify session true else w

/-- NOTIFY_REPEAT (R533): the present IRQSUM, under a new SEQ. -/
def notifyRepeat (session : Nat) (w : Work) : Work :=
  match w.session? session with
  | none => w
  | some s => if s.usb = false ∧ w.netOn false ∧ s.noteAck < s.noteFirst then w.notify session false else w

/-- NOTIFY_ACK (R533). -/
def notifyAck (session seq : Nat) (w : Work) : Work :=
  w.netUpd fun n => { n with sessions := n.sessions.map fun s =>
    if s.id = session ∧ seq ≤ s.noteSeq then { s with noteAck := max s.noteAck seq } else s }

/-- IRQSUM has changed: a bit that fell may rise again (R533). -/
def Work.notifyFall (w : Work) : Work :=
  let q := w.irqsum
  w.netUpd fun n => { n with sessions := n.sessions.map fun s => { s with notified := s.notified.zipWith (fun a b => a &&& b) q } }

/-! Addressing (R545) -/

/-- The four addressing words. -/
def Work.ipWords (w : Work) : List Word := [w.rd (NET.IPADDR 0), w.rd (NET.NETMASK 0), w.rd (NET.GATEWAY 0), w.rd (NET.UDPPORT 0)]

/-- IP_CHANGE_EFFECT (R545): the written addressing comes into force, and every network session ends. -/
def ipChangeEffect (w : Work) : Work :=
  if w.x.net.ipPending then
    let w := w.each ((w.x.net.sessions.filter fun s => !s.usb).map (·.id)) fun w id => w.endSession id
    let q := w.ipWords
    w.netUpd fun n => { n with ipPending := false, ipNow := q }
  else w

/-- The refusals of a write to NET[A] (R545). -/
def Work.netCheck (w : Work) (a : Nat) (old new : Word) : List (Nat × Nat) :=
  let st := decide (w.x.mode ≠ .held) && decide (w.x.mode ≠ .ready)
  let m := ~~~new
  if a = NET.IPADDR 0 then chk NET.IPADDR_A old new st rejState
  else if a = NET.NETMASK 0 then chk NET.NETMASK_M old new st rejState ++ chk NET.NETMASK_M old new (decide (m &&& (m + 1) ≠ 0)) rejRange
  else if a = NET.GATEWAY 0 then chk NET.GATEWAY_G old new st rejState
  else if a = NET.UDPPORT 0 then
    chk NET.UDPPORT_P old new st rejState ++ chk NET.UDPPORT_P old new (decide (NET.UDPPORT_P.get new < 1024)) rejRange
  else []

/-- What follows: NET[B] reads the same values; the change waits for tIPCHG. -/
def Work.netWritten (w : Work) (a : Nat) : Work :=
  if a = NET.IPADDR 0 ∨ a = NET.NETMASK 0 ∨ a = NET.GATEWAY 0 ∨ a = NET.UDPPORT 0 then
    (w.wr (a + 0x1000) (w.rd a)).netUpd fun n => { n with ipPending := true }
  else w

/-! The transfer engine (R534 to R538) -/

/-- Buffer kinds (R548). -/
def kdEvents : Nat := 1
def kdTrend : Nat := 2
def kdImage : Nat := 3
def kdChangeset : Nat := 4
def kdFirmware : Nat := 5

/-- Can the descriptor serve a transfer of this kind (R534, R551)? `none`, yes; else the reason. -/
def Work.descBad (w : Work) (d kind : Nat) : Option Nat :=
  if w.rd (XFER.DADDR d) = 0 ∨ w.get (XFER.DCFG d) XFER.DCFG_KIND ≠ kind ∨ w.get (XFER.DSIZE d) XFER.DSIZE_KIB = 0 then some 0x81
  else if (w.user? (w.get (XFER.DCFG d) XFER.DCFG_USERID)).isNone then some 0x82
  else none

/-- The size of a descriptor's buffer in bytes. -/
def Work.descBytes (w : Work) (d : Nat) : Nat := w.get (XFER.DSIZE d) XFER.DSIZE_KIB * 1024

/-- Messages of a channel outstanding. -/
def Work.outstanding (w : Work) (ch : Nat) : Nat := (w.x.xfer.flights.filter fun f => decide (f.ch = ch)).length

/-- A BLKWR or BLKRD goes out. -/
def Work.launch (w : Work) (ch : Nat) (isRead : Bool) (offset count : Nat) (words : List Word) : Work :=
  let seq := tabGet 0 w.x.xfer.nextSeq ch + 1
  let f : Flight := ⟨ch, seq, isRead, offset, count, words, 1⟩
  let w := w.xferUpd fun x => { x with nextSeq := tabSet x.nextSeq ch seq, flights := x.flights ++ [f] }
  w.send (if isRead then .blkrd ch seq offset count else .blkwr ch seq offset words)

/-- The operation of channel 0, where it runs. -/
def Work.xferOp (w : Work) : Option OpRun := if w.opBusy xferPage then w.op? xferPage else none

/-- The operation of channel 0 ends: its messages are given up and KEYBUF clears. -/
def Work.xferEnd (w : Work) (state reason : Nat) : Work :=
  ((w.opEnd xferPage state reason).xferUpd fun x => { x with flights := x.flights.filter fun f => decide (f.ch ≠ 0) }).keybufClear

/-- Words placed at an offset of the words read so far. -/
def placeWords (l : List Word) (i : Nat) (ws : List Word) : List Word :=
  (l.take i ++ List.replicate (i - l.length) 0) ++ ws ++ l.drop (i + ws.length)

/-- The pending slot (R87). -/
def Work.pendSlot (w : Work) : Slot := if w.flag SYS.IMAGE SYS.IMAGE_ACTIVE then w.x.img.slot0 else w.x.img.slot1
def Work.setPend (w : Work) (s : Slot) : Work :=
  if w.flag SYS.IMAGE SYS.IMAGE_ACTIVE then w.upd fun x => { x with img := { x.img with slot0 := s } }
  else w.upd fun x => { x with img := { x.img with slot1 := s } }

/-- SYS.IMAGE.PEND codes (R101). -/
def pdEmpty : Nat := 0
def pdLoading : Nat := 1
def pdComplete : Nat := 2
def pdVerified : Nat := 3
def pdFaulty : Nat := 4

/-- The bytes a pull has to read, told by its first block (R538): LENGTH of an image, NENT of a change set (R306), the whole buffer of
a package. -/
def Work.pullTotal (w : Work) (op d : Nat) : Nat :=
  let ws := w.x.xfer.pulled
  if op = 1 then (ws.getD 3 0).toNat
  else if op = 3 then 16 + 16 * min ((ws.getD 2 0).toNat % 65536) 1023
  else w.descBytes d

/-- A pull asks for its next blocks: the first alone, then up to 4 (R535). -/
def Work.pullPump (w : Work) (op d : Nat) : Work :=
  let n := if w.x.xfer.pulled = [] then 1 else 4 - w.outstanding 0
  let total := if w.x.xfer.pulled = [] then w.descBytes d else min (w.pullTotal op d) (w.descBytes d)
  w.each (List.range n) fun w _ =>
    let off := w.x.xfer.pullOffset
    if off < total then
      let c := min 256 ((total - off + 3) / 4)
      (w.launch 0 true off c []).xferUpd fun x => { x with pullOffset := off + 4 * c }
    else w

/-- A pull starts. -/
def Work.pullStart (w : Work) (p : Party) (op arg kind : Nat) : Work :=
  if 15 < arg then w.refuse xferPage rejRange
  else match w.descBad arg kind with
    | some r => (w.opBegin p xferPage op arg []).xferEnd opFailed r
    | none =>
      let w := (w.opBegin p xferPage op arg []).xferUpd fun x => { x with
        flights := x.flights.filter (fun f => decide (f.ch ≠ 0)), pullOffset := 0, pulled := [] }
      w.pullPump op arg

/-- PULL_IMAGE (R538, R551). -/
def pullImage (p : Party) (arg : Nat) (w : Work) : Work :=
  w.startOp p xferPage 2 anyButSelfTest true fun w => w.pullStart p 1 arg kdImage

/-- PULL_CHANGESET (R306, R538, R551): the change-set buffer is invalid until it is read whole. -/
def pullChangeset (p : Party) (arg : Nat) (w : Work) : Work :=
  w.startOp p xferPage 2 [.ready, .run, .hold] true fun w =>
    (w.when (decide (arg ≤ 15)) fun w => w.upd fun x => { x with task := { x.task with setBuf := [] } }).pullStart p 3 arg kdChangeset

/-- PULL_FW (R538, R539, R551): the idle bank is no longer LOADED. -/
def pullFw (p : Party) (arg : Nat) (w : Work) : Work :=
  w.startOp p xferPage 2 anyButSelfTest true fun w =>
    (w.when (decide (arg ≤ 15)) fun w => w.putB XFER.FWSTAT XFER.FWSTAT_LOADED false).pullStart p 4 arg kdFirmware

/-- The words of a block of an image reach the pending slot (R89, R102). -/
def Work.imageBlock (w : Work) (total : Nat) : Work :=
  let ws := w.x.xfer.pulled
  let bs := ((ws.map bytesOfWord).flatten).take total
  let w := w.setPend { w.pendSlot with bytes := bs, content := {} }
  let w := w.setState 0x000 noSub SYS.IMAGE SYS.IMAGE_PEND pdLoading
  w.wr SYS.PENDID (ws.getD 2 0)

/-- BLKDATA (R535, R538): the words asked for are taken in; the last block ends the pull. -/
def blkdata (ch seq : Nat) (words : List Word) (content : ImageContent) (w : Work) : Work :=
  match w.x.xfer.flights.find? fun f => decide (f.ch = ch ∧ f.seq = seq) && f.isRead with
  | none => w
  | some f =>
    if words.length ≠ f.count ∨ w.netOn false = false then w
    else match w.xferOp with
      | none => w
      | some o =>
        let w := w.xferUpd fun x => { x with
          flights := x.flights.filter fun g => decide (g ≠ f)
          pulled := placeWords x.pulled (f.offset / 4) words }
        let total := w.pullTotal o.op o.arg
        let w := w.when (decide (o.op = 1)) fun w => w.imageBlock total
        if o.op = 1 ∧ (w.descBytes o.arg < total ∨ 6291456 < total) then w.xferEnd opFailed 0x87
        else
          let w := w.pullPump o.op o.arg
          if w.outstanding 0 ≠ 0 then w
          else if o.op = 1 then
            ((w.setPend { w.pendSlot with content := content }).setState 0x000 noSub SYS.IMAGE SYS.IMAGE_PEND pdComplete).xferEnd opDone 0
          else if o.op = 3 then
            let bs := ((w.x.xfer.pulled.map bytesOfWord).flatten).take total
            (w.upd fun x => { x with task := { x.task with setBuf := bs } }).xferEnd opDone 0
          else if Config.fwSignatureOk w.x.xfer.pulled then
            let w := w.xferUpd fun x => { x with fwIdle := x.pulled }
            (w.flagIrq xferPage XFER.FWSTAT XFER.FWSTAT_LOADED true 17).xferEnd opDone 0
          else w.xferEnd opFailed 0x83

/-- The next record held at or after a SEQ, up to the last of the batch (R536). -/
def Work.nextHeld (w : Work) (seq : Nat) : Option Nat :=
  let last := w.x.xfer.evEnd
  let c := w.circFirst
  if seq ≤ last ∧ (w.recordAt seq).isSome then some seq
  else if seq ≤ c ∧ c ≤ last ∧ (w.recordAt c).isSome then some c
  else none

/-- The records of the next group, at most `n`: what was read, the SEQ after it, the records skipped. -/
def Work.evGroup (w : Work) : Nat → Nat → List Record × Nat × Nat
  | 0, seq => ([], seq, 0)
  | n + 1, seq =>
    match w.nextHeld seq with
    | none => ([], seq, 0)
    | some k => match w.recordAt k with
      | none => ([], seq, 0)
      | some r => let g := w.evGroup n (k + 1); (r :: g.1, g.2.1, g.2.2 + (k - seq))

/-- A push sends its next groups of 32 records while fewer than 4 messages are out (R535, R536). -/
def Work.pushPump (w : Work) (d : Nat) : Work :=
  w.each (List.range (4 - w.outstanding 0)) fun w _ =>
    let x := w.x.xfer
    let room := (w.descBytes d - 32) / 32 - x.evSent
    let g := w.evGroup (min 32 room) x.evNext
    if g.1 = [] then w.xferUpd fun x => { x with truncated := x.truncated || (decide (room = 0) && (w.nextHeld x.evNext).isSome) }
    else
      let bs := (g.1.map Record.bytes).flatten
      let first := (w.nextHeld x.evNext).getD x.evNext
      let w := w.launch 0 false x.evOffset (8 * g.1.length) (wordsOfBytes (8 * g.1.length) bs)
      w.xferUpd fun x => { x with
        evFirst := if x.evSent = 0 then first else x.evFirst, evSent := x.evSent + g.1.length, evSkipped := x.evSkipped + g.2.2,
        evNext := g.2.1, evOffset := x.evOffset + bs.length, evBytes := x.evBytes ++ bs }

/-- PUSH_EVENTS (R536, R551). -/
def pushEvents (p : Party) (arg : Nat) (w : Work) : Work :=
  w.startOp p xferPage 0 anyButPowerUp true fun w =>
    if 15 < arg then w.refuse xferPage rejRange
    else match w.descBad arg kdEvents with
      | some r => (w.opBegin p xferPage 2 arg []).xferEnd opFailed r
      | none =>
        let from' := (w.rd XFER.EVFROM).toNat
        let head := (w.rd EVT.HEADSEQ).toNat
        let last := if w.evtEmpty then 0 else head
        let w := (w.opBegin p xferPage 2 arg []).xferUpd fun x => { x with
          flights := x.flights.filter (fun f => decide (f.ch ≠ 0)), evNext := from', evEnd := last, evFirst := 0, evSent := 0,
          evSkipped := 0, evBytes := [], evOffset := 32, truncated := false }
        w.pushPump arg

/-- Is every record of the batch sent and acknowledged? -/
def Work.batchReady (w : Work) : Bool :=
  match w.xferOp with
  | some o => decide (o.op = 2) && decide (w.outstanding 0 = 0)
      && ((w.nextHeld w.x.xfer.evNext).isNone || w.x.xfer.truncated)
  | none => false

/-- BATCH_COMMIT (R536): the batch descriptor is written at offset 0, and EVFROM advances. -/
def batchCommit (w : Work) : Work :=
  if w.batchReady then
    let x := w.x.xfer
    let d := match w.xferOp with | some o => o.arg | none => 0
    let bs := bytesOfWord (w.rd (XFER.DBUF d)) ++ bytesOfNat 4 x.evFirst ++ bytesOfNat 4 x.evSent ++ bytesOfNat 4 x.evSkipped
      ++ bytesOfWord (crc32 x.evBytes) ++ List.replicate 12 0
    let w := w.when (decide (x.evSent ≠ 0)) fun w => w.wr XFER.EVFROM (BitVec.ofNat 32 x.evNext)
    let w := w.xferEnd opDone (if x.truncated then 0x85 else 0)
    w.launch 0 false 0 8 (wordsOfBytes 8 bs)
  else w

/-- BLKACK (R535). -/
def blkack (ch seq : Nat) (w : Work) : Work :=
  match w.x.xfer.flights.find? fun f => decide (f.ch = ch ∧ f.seq = seq) && !f.isRead with
  | none => w
  | some f =>
    let w := w.xferUpd fun x => { x with flights := x.flights.filter fun g => decide (g ≠ f) }
    match w.xferOp with
    | some o => if ch = 0 ∧ o.op = 2 then w.pushPump o.arg else w
    | none => w

/-- A trend block is dropped and counted, 4 bits a stream (R537, R550). -/
def Work.trendDrop (w : Work) (s : Nat) : Work :=
  (w.incSat XFER.TRDROP ⟨4 * s, 4⟩).irq xferPage 16

/-- BLK_RESEND (R535): sent again, at most five times in all; then the operation fails, or the trend block is dropped. -/
def blkResend (ch seq : Nat) (w : Work) : Work :=
  match w.x.xfer.flights.find? fun f => decide (f.ch = ch ∧ f.seq = seq) with
  | none => w
  | some f =>
    if w.netOn false = false then w
    else if f.sends < 5 then
      let w := w.xferUpd fun x => { x with flights := x.flights.map fun g => if g = f then { g with sends := g.sends + 1 } else g }
      w.send (if f.isRead then .blkrd f.ch f.seq f.offset f.count else .blkwr f.ch f.seq f.offset f.words)
    else
      let w := w.xferUpd fun x => { x with flights := x.flights.filter fun g => decide (g ≠ f) }
      if ch ≠ 0 then w.trendDrop ch
      else if w.xferOp.isSome then w.xferEnd opFailed 0x80 else w

/-! Trend streams (R537) -/

/-- The program of stream s: registers, samples in a block. -/
def Work.trendRegs (w : Work) (s : Nat) : List Nat :=
  (List.range (w.get (XFER.TRCFG (s - 1)) XFER.TRCFG_NREG + 1)).map fun j => (w.rd (XFER.TRADR (s - 1) j)).toNat
def Work.trend (w : Work) (s : Nat) : Trend :=
  (w.x.xfer.trends.find? fun t => decide (t.stream = s)).getD ⟨s, [], 0, 0, 0⟩
def Work.trendSet (w : Work) (t : Trend) : Work :=
  w.xferUpd fun x => { x with trends := x.trends.filter (fun u => decide (u.stream ≠ t.stream)) ++ [t] }

/-- A full block goes to the next slot of its buffer; a predecessor still unacknowledged is dropped. -/
def Work.trendBlock (w : Work) (s : Nat) : Work :=
  let t := w.trend s
  let d := w.get (XFER.TRCFG (s - 1)) XFER.TRCFG_DESC
  let n := (w.trendRegs s).length
  let hdr := bytesOfNat 2 s ++ bytesOfNat 2 n ++ bytesOfNat 4 t.nsamp ++ bytesOfNat 8 t.t0
  let ws := wordsOfBytes 4 hdr ++ t.samples
  let late := decide (w.outstanding s ≠ 0)
  let w := w.when late fun w => (w.xferUpd fun x => { x with flights := x.flights.filter fun f => decide (f.ch ≠ s) }).trendDrop s
  if (w.descBad d kdTrend).isSome then (w.trendSet { t with samples := [], nsamp := 0 }).trendDrop s
  else
    let slots := w.descBytes d / 1024
    let w := w.launch s false (1024 * (t.slot % slots)) 256 ((ws ++ List.replicate 256 0).take 256)
    w.trendSet { t with samples := [], nsamp := 0, slot := (t.slot + 1) % slots }

/-- TREND_SAMPLE (R537): TRPER main cycles have passed; the stream samples the snapshot. -/
def trendSample (s : Nat) (w : Work) : Work :=
  if 1 ≤ s ∧ s ≤ 7 ∧ w.alive ∧ w.enabled xferPage ∧ [Mode.ready, .run, .hold].contains w.x.mode
      ∧ w.flag (XFER.TRCFG (s - 1)) XFER.TRCFG_EN then
    let regs := w.trendRegs s
    let t := w.trend s
    let t := { t with samples := t.samples ++ regs.map (fun a => regsGet w.x.task.snap.regs a), nsamp := t.nsamp + 1,
                      t0 := if t.nsamp = 0 then w.net else t.t0 }
    let w := w.trendSet t
    if 1008 / (4 * regs.length) ≤ t.nsamp then w.trendBlock s else w
  else w

/-! Firmware, image key, user table (R539 to R541) -/

/-- ACTIVATE_FW (R539, R551): a reset into the other bank. -/
def activateFw (p : Party) (arg : Nat) (w : Work) : Work :=
  let modes := if w.x.role = .standby then anyButPowerUp else [.held, .ready]
  w.startOp p xferPage 2 modes true fun w =>
    if arg ≠ 0 then w.refuse xferPage rejRange
    else if w.flag XFER.FWSTAT XFER.FWSTAT_LOADED = false then (w.opBegin p xferPage 5 arg []).xferEnd opFailed 0x84
    else
      let w := (w.putB XFER.FWSTAT XFER.FWSTAT_BANK (!w.flag XFER.FWSTAT XFER.FWSTAT_BANK)).putB XFER.FWSTAT XFER.FWSTAT_LOADED false
      (w.xferUpd fun x => { x with fwTrial := true }).resetNow 5

/-- FW_BOOT_FAIL (R539): back into the previous bank. -/
def fwBootFail (w : Work) : Work :=
  if w.x.xfer.fwTrial ∧ [Mode.powerUp, .selfTest, .failed].contains w.x.mode then
    let w := (w.putB XFER.FWSTAT XFER.FWSTAT_BANK (!w.flag XFER.FWSTAT XFER.FWSTAT_BANK)).putB XFER.FWSTAT XFER.FWSTAT_REVERTED true
    (w.xferUpd fun x => { x with fwTrial := false }).resetNow 5
  else w

/-- KEYBUF's word. -/
def Work.keyWord (w : Work) (i : Nat) : Word := w.x.xfer.keybuf.getD i 0

/-- Words 1 to 8 of KEYBUF. -/
def Work.keyBytes (w : Work) : List Byte := ((List.range 8).map fun i => bytesOfWord (w.keyWord (i + 1))).flatten

/-- The image key (R540). -/
def Work.imageKey (w : Work) : List Byte := if w.x.img.key = [] then factorySecret else w.x.img.key

/-- SETIMGKEY (R540, R551). -/
def setimgkey (p : Party) (arg : Nat) (w : Work) : Work :=
  w.startOp p xferPage 2 [.held] true fun w =>
    let usb := match p with
      | .program => false
      | .host s => match w.session? s with
        | some s => s.usb
        | none => false
    if arg ≠ 0 then w.refuse xferPage rejRange
    else if usb = false then (w.opBegin p xferPage 6 arg []).xferEnd opFailed 0x86
    else
      let k := w.keyBytes
      ((w.opBegin p xferPage 6 arg []).upd fun x => { x with img := { x.img with key := k } }).xferEnd opDone 0

/-- The user table with an entry set or removed. -/
def usersSet (l : List User) (u : Option User) (id : Nat) : List User :=
  match u with
  | none => l.filter fun v => decide (v.id ≠ id)
  | some u => if l.any fun v => decide (v.id = id) then l.map fun v => if v.id = id then u else v else l ++ [u]

/-- Engineer entries of a user table. -/
def engineers (l : List User) : Nat := (l.filter fun u => decide (u.role = 2)).length

/-- USERSET (R541, R550, R551): the entry's sessions end (R532). -/
def userset (p : Party) (arg : Nat) (w : Work) : Work :=
  w.startOp p xferPage 0 anyButPowerUp true fun w =>
    let word := w.keyWord 0
    let id := word.toNat / 65536
    let code := word.toNat % 8
    let role := if code = 4 then 0 else code
    let own := w.roleOf p
    let old := w.user? id
    let users := usersSet w.x.net.users (if code = 0 then none else some ⟨id, role, w.keyBytes⟩) id
    if arg ≠ 0 ∨ 5 ≤ code ∨ id = 0 ∨ id = 65535 then w.refuse xferPage rejRange
    else if whoOf p = 0 ∨ (code ≠ 0 ∧ own < role) ∨ (old.any fun u => decide (own < u.role)) = true then w.refuse xferPage rejRole
    else if (0 < engineers w.x.net.users ∧ engineers users = 0) ∨ 32 < users.length then w.refuse xferPage rejRange
    else
      let by' := w.userOf p
      let w := (w.opBegin p xferPage 7 arg []).netUpd fun n => { n with users := users }
      let w := (w.evCommand xferPage noSub (word &&& 0xFFFF_0007) by').xferEnd opDone 0
      w.each ((w.x.net.sessions.filter fun s => decide (s.user = id)).map (·.id)) fun w s => w.endSession s

/-! Writes to the XFER page (R548 to R550) -/

/-- Is the descriptor in use by a channel (R548)? -/
def Work.descInUse (w : Work) (d : Nat) : Bool :=
  (match w.xferOp with
    | some o => decide (1 ≤ o.op ∧ o.op ≤ 4) && decide (o.arg = d)
    | none => false)
  || (List.range 7).any fun i => w.flag (XFER.TRCFG i) XFER.TRCFG_EN && decide (w.get (XFER.TRCFG i) XFER.TRCFG_DESC = d)

/-- The refusals of a write. -/
def Work.xferCheck (w : Work) (a : Nat) (old new : Word) : List (Nat × Nat) :=
  if 0x1E100 ≤ a ∧ a < 0x1E200 then
    let d := (a - 0x1E100) / 16
    let k := XFER.DCFG_KIND.get new
    (if w.descInUse d then [(0, rejBusy)] else [])
      ++ (if a % 16 = 4 then chk XFER.DCFG_KIND old new (decide (k = 0) || decide (5 < k)) rejRange
          else if a % 16 = 12 then chk XFER.DSIZE_KIB old new (decide (XFER.DSIZE_KIB.get new = 0)) rejRange else [])
  else if 0x1E300 ≤ a ∧ a < 0x1EA00 then
    if a % 256 = 0 then chk XFER.TRCFG_TRPER old new (decide (XFER.TRCFG_TRPER.get new = 0)) rejRange
    else if a % 256 ≤ 0x80 then chk ⟨0, 32⟩ old new (!w.snapReadable new.toNat) rejRange else []
  else []

/-- What follows a write: KEYBUF is held apart; a changed stream starts anew. -/
def Work.xferWritten (w : Work) (a : Nat) (v : Word) : Work :=
  if 0x1E080 ≤ a ∧ a < 0x1E0C0 then
    let i := (a - 0x1E080) / 4
    w.xferUpd fun x => { x with keybuf := (x.keybuf ++ List.replicate (16 - x.keybuf.length) 0).set i v }
  else if 0x1E300 ≤ a ∧ a < 0x1EA00 ∧ a % 256 ≤ 0x80 then
    let s := (a - 0x1E200) / 256
    w.xferUpd fun x => { x with trends := x.trends.filter fun t => decide (t.stream ≠ s) }
  else w

/-- A soft reset of XFER ends the trend transfers in progress (R547). -/
def Work.xferSoftReset (w : Work) : Work :=
  w.xferUpd fun x => { x with flights := x.flights.filter (fun f => decide (f.ch = 0)), trends := [], keybuf := [] }

end Sys2Proof.Machine
end

