-- ==== Sys2Proof/Machine/Power.lean ====
section
/-! DEFINITION. Supplies, loop-group supplies and Cupola (chapter 20). -/

namespace Sys2Proof.Machine

def pwrPage : Nat := 0x001
def cupolaPage : Nat := 0x005

/-- The fields of one logic feed. -/
def feedOk (b : Bool) : Fld := if b then PWR.LSTAT_BOK else PWR.LSTAT_AOK
def feedLow (b : Bool) : Fld := if b then PWR.LSTAT_BLOW else PWR.LSTAT_ALOW
def feedOver (b : Bool) : Fld := if b then PWR.LSTAT_BOVER else PWR.LSTAT_AOVER
def feedV (b : Bool) : Fld := if b then PWR.VAB_VB else PWR.VAB_VA

/-- A feed's measured voltage, 10 mV. -/
def Work.feedPut (w : Work) (b : Bool) (mv : Nat) : Work := w.put PWR.VAB (feedV b) (min (mv / 10) 65535)

/-- CARRY (R594): the higher connected feed, or both within 0.3 V of each other. -/
def Work.carry (w : Work) : Work :=
  let a := w.flag PWR.LSTAT PWR.LSTAT_AOK
  let b := w.flag PWR.LSTAT PWR.LSTAT_BOK
  let va := w.get PWR.VAB PWR.VAB_VA
  let vb := w.get PWR.VAB PWR.VAB_VB
  let c := if a && b then (if va ≤ vb + 30 ∧ vb ≤ va + 30 then 3 else if vb < va then 1 else 2) else if a then 1 else if b then 2 else 0
  w.put PWR.LSTAT PWR.LSTAT_CARRY c

/-- A feed counts as present, or no longer does (R595, R607): ALOST, BLOST on the fall. -/
def Work.feedOkSet (w : Work) (b ok : Bool) : Work :=
  let fell := w.flag PWR.LSTAT (feedOk b) && !ok
  (w.setFlag pwrPage noSub PWR.LSTAT (feedOk b) ok).when fell fun w => w.irq pwrPage (if b then 17 else 16)

/-- A feed at a voltage: above the rising threshold it is present, below the falling one absent (R595); a disconnected one is absent. -/
def Work.feedAt (w : Work) (b : Bool) (mv : Nat) : Work :=
  let was := w.flag PWR.LSTAT (feedOk b)
  let ok := !w.flag PWR.LSTAT (feedOver b) && (decide (17500 ≤ mv) || (was && decide (16500 ≤ mv)))
  ((w.feedPut b mv).feedOkSet b ok).carry

/-- Every tamper flag. -/
def tamperFlags : List Fld := [CUPOLA.TAMPER_COVER, CUPOLA.TAMPER_TEMPHI, CUPOLA.TAMPER_TEMPLO]

/-- The copy in retained memory (R605). -/
def Work.cupolaSave (w : Work) : Work :=
  let t := w.now
  let n := (w.rd CUPOLA.PCYCLE).toNat
  w.upd fun x => { x with cupola := ⟨t, n⟩ }

/-- LOGIC_SUPPLY_RISE (R17, R73, R595, R605): an unpowered module enters Power-up. -/
def logicSupplyRise (va vb : Nat) (w : Work) : Work :=
  if w.x.mode ≠ .off ∨ (va < 17500 ∧ vb < 17500) then w
  else
    let w := w.slateUpd fun s => { s with busy := [], full := false, cleaning := false, drawing := [] }
    let w := w.enterPowerUp [0]
    (w.feedAt false va).feedAt true vb

/-- LOGIC_FEED_CHANGE (R594): nothing but the feed's own status changes; a reversed feed is absent. -/
def logicFeedChange (feedB : Bool) (mv : Int) (w : Work) : Work := if w.x.mode = .off then w else w.feedAt feedB mv.toNat

/-- RIDE_THROUGH (R596). -/
def rideThrough (w : Work) : Work := if w.x.mode = .off then w else (w.incSat PWR.CNT PWR.CNT_DIPS).irq pwrPage 20

/-- BOTH_FEEDS_LOST (R18, R75, R596, R605): the copy is made, and a whole-module reset leaves the module unpowered. -/
def bothFeedsLost (w : Work) : Work :=
  if w.x.mode = .off then w
  else (w.cupolaSave).wholeReset 0

/-- LOW_WARNING (R595): below 18.0 V for 10 ms, above 18.5 V for 100 ms. -/
def lowWarning (feedB : Bool) (mv : Nat) (w : Work) : Work :=
  if w.x.mode = .off then w
  else
    let low := if mv < 18000 then true else if 18500 < mv then false else w.flag PWR.LSTAT (feedLow feedB)
    let rise := low && !w.flag PWR.LSTAT (feedLow feedB)
    ((w.feedPut feedB mv).setFlag pwrPage noSub PWR.LSTAT (feedLow feedB) low).when rise fun w => w.irq pwrPage 18

/-- OVERVOLTAGE_DISCONNECT (R595). -/
def overvoltageDisconnect (feedB : Bool) (mv : Nat) (w : Work) : Work :=
  if w.x.mode = .off ∨ w.flag PWR.LSTAT (feedOver feedB) then w
  else
    let w := (w.feedPut feedB mv).setFlag pwrPage noSub PWR.LSTAT (feedOver feedB) true
    let w := (w.irq pwrPage 19).incSat PWR.CNT PWR.CNT_OVTRIPS
    (w.feedOkSet feedB false).carry

/-- OVERVOLTAGE_RECONNECT (R595, R606). -/
def overvoltageReconnect (feedB : Bool) (mv : Nat) (w : Work) : Work :=
  if w.x.mode = .off ∨ w.flag PWR.LSTAT (feedOver feedB) = false ∨ 32000 < mv then w
  else (w.setFlag pwrPage noSub PWR.LSTAT (feedOver feedB) false).feedAt feedB mv

/-- VL[n] (R608): reported by the lowest awake island of the group that holds LSUP. -/
def Work.vlShow (w : Work) (g mv : Nat) : Work :=
  let awake (k : Nat) : Bool :=
    let i := w.isl (8 * (g - 1) + k)
    i.lsup && decide (i.st ≠ isDark) && decide (i.st ≠ isWake)
  let a := PWR.VL (g - 1)
  let v := if (List.range 8).any awake then
      BitVec.ofNat 32 (2 ^ 31 + (if mv < 18000 then 2 ^ 30 else 0) + min (mv / 10) 65535) else 0
  if g < 1 ∨ 6 < g ∨ w.rd a = v then w else w.wr a v

/-- The loop-group supplies whose voltage is known are shown again. -/
def Work.vlFollow (w : Work) : Work := w.each w.x.loops.vl fun w e => w.vlShow e.1 e.2

/-- VL_SUPPLY_CHANGE (R22, R129, R598, R608): a supply lost opens its switches; on its return they take their retained state. -/
def vlSupplyChange (group mv : Nat) (w : Work) : Work :=
  if group < 1 ∨ 6 < group then w
  else
    let was := !w.x.loops.vlDown.contains group
    let up := decide (mv ≠ 0)
    let w := w.upd fun x => { x with loops := { x.loops with
      vl := tabSet x.loops.vl group mv
      vlDown := if up then x.loops.vlDown.filter (fun g => decide (g ≠ group)) else (if was then x.loops.vlDown ++ [group] else x.loops.vlDown) } }
    if was = up then w
    else w.each ((List.range 8).map fun k => 8 * (group - 1) + k) fun w n => w.islSet n fun i => { i with switch := up && i.lsup }

/-! Cupola (R601 to R605, R609, R610) -/

/-- CUPOLA_COPY (R605). -/
def cupolaCopy (w : Work) : Work := if w.x.mode = .off then w else w.cupolaSave

/-- The supercapacitor's measurement (R602, R609). -/
def Work.capTake (w : Work) (capMf vcapMv : Nat) : Work :=
  let days := capMf * 6000 / 86400
  let w := ((w.put CUPOLA.CAP CUPOLA.CAP_RESERVE (min days 255)).put CUPOLA.CAP CUPOLA.CAP_C (min capMf 4095)).put CUPOLA.CAP CUPOLA.CAP_VCAP (min vcapMv 4095)
  w.cause 0x0B cupolaPage 0 (decide (days < 60))

/-- CAP_MEASURE (R602). -/
def capMeasure (capMf vcapMv : Nat) (w : Work) : Work := if w.alive then w.capTake capMf vcapMv else w

/-- TAMPER_EVENT (R604): 0 cover, 1 too hot, 2 too cold; powered or not. -/
def tamperEvent (kind : Nat) (w : Work) : Work :=
  match tamperFlags[kind]? with
  | none => w
  | some f =>
    if w.flag CUPOLA.TAMPER f then w
    else if w.x.mode = .off then w.putB CUPOLA.TAMPER f true
    else (w.setFlag cupolaPage noSub CUPOLA.TAMPER f true).irq cupolaPage 16

/-- CLRTAMPER (R610): the flags cleared are recorded with the user. -/
def clrtamper (p : Party) (arg : Nat) (w : Work) : Work :=
  w.startOp p cupolaPage 2 [.held, .ready, .run, .hold] true fun w =>
    if arg ≠ 0 then w.refuse cupolaPage rejRange
    else
      let old := w.rd CUPOLA.TAMPER
      let w := w.each tamperFlags fun w f => w.putB CUPOLA.TAMPER f false
      (w.evWrite cupolaPage noSub CUPOLA.TAMPER old (w.rd CUPOLA.TAMPER) (w.userOf p)).opNow p cupolaPage 1 arg opDone 0

end Sys2Proof.Machine
end

