-- ==== Sys2Proof/Machine/Pages.lean ====
section
/-! DEFINITION. Writing a word of a register page or a data window (chapter 02): what a write touches, what refuses it, what it changes
(R8, R50, R62, R624), the unlock it renews (R63) and the effects the blocks give it. The header's words have their own meanings. -/

namespace Sys2Proof.Machine

/-- Is a word of the register space answered with a bus error (R36, R68)? -/
def Work.busError (w : Work) (a : Nat) : Bool :=
  let page := a / 4096
  w.alive = false || decide (a % 4 ≠ 0) || decide (kindOf page = .unmapped)
    || (if isWindow page || decide (0x40 ≤ a % 4096) then !w.usable page else false)

/-- A field as a place in its word. -/
def FDesc.fld (f : FDesc) : Fld := ⟨f.lo, f.w⟩

/-- The fields of a word as this page has them: NET[B] reads NET[A]'s addressing and TRK[B] reads TRK[A]'s NODE and HBT (R482, R545). -/
def fieldsOn (a : Nat) : List FDesc :=
  (fieldsAt a).map fun f =>
    if (0x1D040 ≤ a ∧ a ≤ 0x1D04C) ∨ (a = TRK.CFG 1 ∧ (f.lo = 0 ∨ f.lo = 18)) then { f with acc := .ro } else f

/-- The bits of a system point's record that stay as they are (R373, R390). -/
def frozenMask (a : Nat) : Word :=
  if kindOf (a / 4096) = .pt ∧ isSysPoint ((a - 0x140000) / 256) then ~~~(sysPointMask (a % 256)) else 0

/-- The word written, with the bits that cannot change put back. -/
def effective (a : Nat) (old v : Word) : Word := (v &&& ~~~(frozenMask a)) ||| (old &&& frozenMask a)

/-- MBDATA fills a shadow that the register does not show, so that a write always acts (R485; log entry 82). -/
def isMbData (a : Nat) : Bool := decide (kindOf (a / 4096) = .trk) && decide (0x100 ≤ a % 4096) && decide (a % 4096 < 0x140)

/-- Does a write touch a field (R624)? -/
def touches (a : Nat) (old v : Word) (f : FDesc) : Bool :=
  match f.acc with
  | .ro => false
  | .rw => isMbData a || decide (f.fld.get v ≠ f.fld.get old)
  | .rwl => decide (f.fld.get v ≠ f.fld.get old)
  | .wo => true
  | .w1c => decide (f.fld.get v ≠ 0)
  | .w1s => decide (f.fld.get v ≠ 0)

/-- The fields a write touches. -/
def touched (a : Nat) (old v : Word) : List FDesc := (fieldsOn a).filter (touches a old v)

/-- A word with the RW and RWL fields of a write put in, and the W1C fields that it clears cleared. -/
def written (a : Nat) (old v : Word) : Word :=
  (fieldsOn a).foldl (fun acc f => match f.acc with
    | .rw => f.fld.set acc (f.fld.get v)
    | .rwl => f.fld.set acc (f.fld.get v)
    | .w1c => acc &&& ~~~(v &&& f.fld.mask)
    | _ => acc) old

/-- Lock and role of a touched field (R62, R624). The SAFE page's password words need its unlock (R284). -/
def Work.fieldRefusal (w : Work) (p : Party) (page : Nat) (f : FDesc) : Option Nat :=
  if f.acc = .rwl ∨ (page = safePage ∧ f.acc = .wo) then
    match w.unlock? page with
    | some u => if u.party ≠ p then some rejLocked else if min (w.roleOf p) u.role < f.role then some rejRole else none
    | none => some rejLocked
  else if w.roleOf p < f.role then some rejRole else none

/-- The refusal at the lowest bit position; of several at one place the first found (R624). -/
def lowest (l : List (Nat × Nat)) : Option Nat :=
  (l.foldl (fun (m : Option (Nat × Nat)) e => match m with
    | none => some e
    | some b => if e.1 < b.1 then some e else some b) none).map (·.2)

/-! Conditions of the blocks whose chapters have no file of their own before this one -/

/-- TASK (R318, R320). -/
def Work.taskCheck (w : Work) (a : Nat) (old new : Word) : List (Nat × Nat) :=
  let st := decide (w.x.mode = .run) || decide (w.x.mode = .hold)
  if a = TASK.MAIN then
    let ovr := TASK.MAIN_OVRMAX.get new
    let wd := TASK.MAIN_WD0.get new
    let p0 := TASK.MAIN_P0.get new
    let late := decide (10 * p0 < wd)
    let long := ([1, 2, 3].any fun i => decide (60000 < p0 * w.get (TASK.TCFG i) TASK.TCFG_MULT))
    chk TASK.MAIN_P0 old new st rejState ++ chk TASK.MAIN_P0 old new (decide (p0 < 1) || decide (1000 < p0) || late || long) rejRange
      ++ chk TASK.MAIN_WD0 old new st rejState ++ chk TASK.MAIN_WD0 old new (decide (wd < 1) || decide (10000 < wd) || late) rejRange
      ++ chk TASK.MAIN_OVRMAX old new st rejState ++ chk TASK.MAIN_OVRMAX old new (decide (ovr = 0)) rejRange
  else if a = TASK.TCFG 1 ∨ a = TASK.TCFG 2 ∨ a = TASK.TCFG 3 then
    let m := TASK.TCFG_MULT.get new
    let ph := TASK.TCFG_PHASE.get new
    let long := decide (60000 < w.get TASK.MAIN TASK.MAIN_P0 * m)
    chk TASK.TCFG_MULT old new st rejState ++ chk TASK.TCFG_MULT old new (decide (m < 2) || decide (1000 < m) || decide (m ≤ ph) || long) rejRange
      ++ chk TASK.TCFG_PHASE old new st rejState ++ chk TASK.TCFG_PHASE old new (decide (m ≤ ph)) rejRange
      ++ chk TASK.TCFG_EN old new st rejState
      ++ chk TASK.TCFG_EN old new (decide (TASK.TCFG_EN.get new = 1) && (decide (m < 2) || decide (1000 < m) || decide (m ≤ ph) || long)) rejRange
  else if a = TASK.FVAR ∨ a = TASK.FVAL then chk ⟨0, 32⟩ old new (w.opBusy 0x010) rejBusy
  else []

/-- PROCTOR (R413, R420). -/
def Work.procCheck (w : Work) (a : Nat) (old new : Word) : List (Nat × Nat) :=
  let lease := PROCTOR.CFG_LEASE.get new
  let per := PROCTOR.CFG_RECPER.get new
  if a = PROCTOR.CFG then
    chk PROCTOR.CFG_LEASE old new (decide (lease < 2)) rejRange
      ++ chk PROCTOR.CFG_RECPER old new (decide (per < 1) || decide (168 < per)) rejRange
      ++ chk PROCTOR.CFG_QUAD old new (decide (w.x.mode ≠ .held) && decide (w.x.mode ≠ .ready)) rejState
  else []

/-- PAIR (R453). -/
def Work.pairCheck (w : Work) (a : Nat) (old new : Word) : List (Nat × Nat) :=
  let st := decide (w.x.mode = .ready) || decide (w.x.mode = .run) || decide (w.x.mode = .hold)
  let node := PAIR.CFG_PNODE.get new
  let settle := PAIR.CFG_SETTLE.get new
  if a = PAIR.CFG then
    chk PAIR.CFG_SETTLE old new (decide (settle < 1) || decide (1440 < settle)) rejRange
      ++ chk PAIR.CFG_MIRAGE old new (decide (PAIR.CFG_MIRAGE.get new = 0)) rejRange
      ++ chk PAIR.CFG_PNODE old new st rejState ++ chk PAIR.CFG_PNODE old new (decide (0x77 < node) || decide (node = w.node)) rejRange
      ++ chk PAIR.CFG_PREF old new st rejState ++ chk PAIR.CFG_PAIRED old new st rejState
  else []

/-- The measuring codes (R591). -/
def clkCode (c : Nat) : Bool :=
  decide (c < 23) || (decide (32 ≤ c) && decide (c < 92)) || decide (c = 92) || decide (c = 93)

/-- CLK (R591). -/
def Work.clkCheck (w : Work) (a : Nat) (old new : Word) : List (Nat × Nat) :=
  let busy := w.opBusy 0x002 && decide (w.get (HDR.OPSTAT 0x002) HDR.OPSTAT_OP = 1)
  if a = CLK.FMCTL then
    chk CLK.FMCTL_BASE old new busy rejBusy ++ chk CLK.FMCTL_BASE old new (!clkCode (CLK.FMCTL_BASE.get new)) rejRange
      ++ chk CLK.FMCTL_TARGET old new busy rejBusy ++ chk CLK.FMCTL_TARGET old new (!clkCode (CLK.FMCTL_TARGET.get new)) rejRange
  else if a = CLK.FMWIN then
    chk CLK.FMWIN_N old new busy rejBusy ++ chk CLK.FMWIN_N old new (decide (CLK.FMWIN_N.get new = 0)) rejRange
  else []

/-- TRK, with the shadow words and the commit, whose conditions read the word written (R485, R486). -/
def Work.trkWriteCheck (w : Work) (p : Party) (t a : Nat) (old new v : Word) : List (Nat × Nat) :=
  if isMbData a then
    let m := w.get (TRK.MBSEL t) TRK.MBSEL_SEL
    let run := decide (w.x.mode = .run) || decide (w.x.mode = .hold)
    if whoOf p = 1 ∧ w.flag (TRK.MBCFG t m) TRK.MBCFG_OWN = false ∧ run then [(0, rejState)]
    else if w.flag (TRK.MBCFG t m) TRK.MBCFG_DIR = false then [(0, rejRange)] else []
  else
    let m := (a - TRK.MBCFG t 0) / 16
    let own := decide (TRK.MBSTAT t 0 ≤ a) && decide ((a - TRK.MBCFG t 0) % 16 = 4) && decide (TRK.MBSTAT_TXREQ.get v = 1) && !w.mbOwner p t m
    w.trkCheck p t a old new ++ (if own then [(2, rejState)] else [])

/-- The conditions of the block that a write of one of its words has to meet. -/
def Work.blockCheck (w : Work) (p : Party) (a : Nat) (old new v : Word) : List (Nat × Nat) :=
  let page := a / 4096
  match kindOf page with
  | .loop => w.loopCheck p (loopOf page) a old new
  | .sens => w.sensCheck (page - 0x080) a old new
  | .dio => w.dioCheck p a old new
  | .safe => w.safeCheck p a old new
  | .task => w.taskCheck a old new
  | .iosync => w.iosCheck a old new
  | .ctleng => w.ctlCheck p a old new
  | .ram => w.ramCheck (page - 0x100) a old new
  | .belfry => if a = BELFRY.BCMD then (match w.belRefusal (.party p) v with
      | some c => if BELFRY.BCMD_CMD.get v = 0 then [] else [(0, c)]
      | none => []) else w.belCheck p a old new
  | .pt => if w.x.role = .standby then [(0, rejState)] else []
  | .proctor => w.procCheck a old new
  | .pair => w.pairCheck a old new
  | .trk => w.trkWriteCheck p (page - 0x018) a old new v
  | .time => timeCheck a old new
  | .net => w.netCheck a old new
  | .xfer => w.xferCheck a old new
  | .lantern => w.lanternCheck p a old new
  | .clk => w.clkCheck a old new
  | .rst => if p = .program then [(0, rejRole)] else []
  | _ => []

/-- Why a write of a block's word is refused, if it is (R624). -/
def Work.judge (w : Work) (p : Party) (a : Nat) (v : Word) : Option Nat :=
  let old := w.rd a
  let v := effective a old v
  let t := touched a old v
  if t = [] then none
  else
    let gates := if a = SAFE.PREQ ∧ p ≠ .program then []
      else t.filterMap fun f => (w.fieldRefusal p (ctlPage (a / 4096)) f).map fun c => (f.lo, c)
    lowest (gates ++ w.blockCheck p a old (written a old v) v)

/-- FLVAR and FLVAL show the force-table entry that FIDX names (R320). -/
def Work.forceShow (w : Work) : Work :=
  let i := w.get TASK.FIDX TASK.FIDX_IDX
  let w := match w.x.task.forces.find? fun e => decide (e.1 = i) with
    | some e => (w.wr TASK.FLVAR (BitVec.ofNat 32 e.2.1)).wr TASK.FLVAL e.2.2
    | none => (w.wr TASK.FLVAR 0).wr TASK.FLVAL 0
  (w.put TASK.FCOUNT TASK.FCOUNT_N w.x.task.forces.length).putB TASK.STAT TASK.STAT_FORCED (decide (w.x.task.forces ≠ []))

/-- PWBUF, NPWBUF and PWLEN are held apart: they read 0 (R284). -/
def Work.pwStore (w : Work) (a : Nat) (v : Word) : Work :=
  if a = SAFE.PWLEN then w.safeUpd fun s => { s with pwlen := v }
  else if SAFE.PWBUF 0 ≤ a ∧ a < SAFE.PWBUF 8 then w.safeUpd fun s => { s with pwbuf := tabSet s.pwbuf ((a - SAFE.PWBUF 0) / 4) v }
  else if SAFE.NPWBUF 0 ≤ a ∧ a < SAFE.NPWBUF 8 then w.safeUpd fun s => { s with npwbuf := tabSet s.npwbuf ((a - SAFE.NPWBUF 0) / 4) v }
  else w

/-- What a block does on an accepted write of one of its words: `old` the word before, `v` the word written. -/
def Work.blockWritten (w : Work) (p : Party) (a : Nat) (old v : Word) : Work :=
  let page := a / 4096
  let user := w.userOf p
  match kindOf page with
  | .loop => let n := loopOf page
    let w := w.loopWritten user n a old
    if a = LOOP.HCFG n ∨ a = LOOP.RBCFG n then w.loopShow n else if a = LOOP.CFG n then w.routeCheck else w
  | .sens =>
    let off := a % 4096
    let w := w.sensWritten (page - 0x080) a old
    if 0x100 ≤ off ∧ off < 0x300 ∧ off % 0x40 = 8 ∧ v.toNat.testBit 9 then w.senClearK (8 * (page - 0x080) + (off - 0x100) / 0x40) else w
  | .dio => let g := page - 0x090
    if a = DIO.GCTL g then (if DIO.GCTL_VFACK.get v = 1 then w.vfAckReach g else w) else w.dioWritten g a old
  | .safe => if a = SAFE.CLOGSEQ then w.clogShow else if a = SAFE.PREQ then w.preqReleased old else w.pwStore a v
  | .task => if a = TASK.FIDX then w.forceShow else if a = TASK.MAIN then w.iosBudget else w
  | .iosync => w.iosBudget
  | .ctleng => if 0x2005C ≤ a ∧ a ≤ 0x20060 then w.stkClear (decide (a = 0x20060)) v else w
  | .ram => w.ramWritten (page - 0x100) (a) old
  | .belfry => if a = BELFRY.BCMD then w.belCommand (.party p) v else w.belWritten user a old
  | .pt => w.ptWritten user ((a - 0x140000) / 256) a old
  | .trk => let t := page - 0x018
    if isMbData a then w.mbShadow t (w.get (TRK.MBSEL t) TRK.MBSEL_SEL) ((a % 4096 - 0x100) / 4) v
    else
      let m := (a - TRK.MBCFG t 0) / 16
      if TRK.MBSTAT t 0 ≤ a ∧ (a - TRK.MBCFG t 0) % 16 = 4 ∧ TRK.MBSTAT_TXREQ.get v = 1 then (if w.mbSends t m then w.mbCommit t m else w)
      else if a = TRK.CFG t then (w.trkWritten t a old).iosBudget
      else w.trkWritten t a old
  | .time => w.timeWritten a old
  | .net => w.netWritten a
  | .xfer => w.xferWritten a v
  | .lantern => w.lanternWritten a
  | .slate => w.slateWritten a
  | _ => w

/-- The holder's unlock counts anew from an RWL write (R63). -/
def Work.renew (w : Work) (page : Nat) : Work :=
  let t := w.now
  if (w.unlock? page).isSome then
    (w.upd fun x => { x with pages := { x.pages with
      unlocks := x.pages.unlocks.map fun u => if u.page = page then { u with since := t } else u } }).put (HDR.PGKEY page) HDR.PGKEY_REMAIN 255
  else w

/-- An accepted write of a block's word. -/
def Work.store (w : Work) (p : Party) (a : Nat) (v : Word) : Work :=
  let old := w.rd a
  let v := effective a old v
  let t := touched a old v
  if t = [] then w
  else
    let new := written a old v
    let w := if new = old ∨ isMbData a then w else w.wr a new
    let w := w.blockWritten p a old v
    if t.any fun f => decide (f.acc = .rwl) then w.renew (ctlPage (a / 4096)) else w

/-- A refused write of a block's word (R50); a refused command of Belfry is recorded too (R372). -/
def Work.refuseWord (w : Work) (p : Party) (a code : Nat) : Work :=
  let w := w.refuse (ctlPage (a / 4096)) code
  if a = BELFRY.BCMD then w.evRefused belPage noSub BELFRY.BCMD code (whoOf p) (w.userOf p) else w

/-- A write that changes EN or the source of a point record (R361). -/
def ptChange (old new : Work) (pt : Nat) : Bool × Bool :=
  (!old.flag (PT.PCFG pt) PT.PCFG_EN && new.flag (PT.PCFG pt) PT.PCFG_EN,
   decide (old.rd (PT.SRCADR pt) ≠ new.rd (PT.SRCADR pt)) || decide (old.get (PT.PCFG pt) PT.PCFG_SRCKIND ≠ new.get (PT.PCFG pt) PT.PCFG_SRCKIND))

/-- The first word of an access that is refused, with its place in the access and its code, or what the accepted access leaves. Words
take effect in ascending order; a point record is judged as it stands after the access (R361, R390). -/
def Work.writeWords (p : Party) : List (Nat × Word) → Nat → Work → Nat × Option Nat × Work
  | [], i, w => (i, none, w)
  | (a, v) :: t, i, w =>
    match w.judge p a v with
    | some c => (i, some c, w)
    | none => Work.writeWords p t (i + 1) (w.store p a v)

/-- The points whose records an access writes, with the place of their first word. -/
def pointsOf (ws : List (Nat × Word)) : List (Nat × Nat) :=
  ((ws.zipIdx).filterMap fun e => if kindOf (e.1.1 / 4096) = .pt then some ((e.1.1 - 0x140000) / 256, e.2) else none).foldl
    (fun l e => if l.any (fun f => decide (f.1 = e.1)) then l else l ++ [e]) []

/-- A write of consecutive words of blocks as one indivisible access (R40, R531): whole, or refused with the place of the first word
refused and changing nothing (R50). -/
def Work.writeAll (w : Work) (p : Party) (ws : List (Nat × Word)) : Option (Nat × Nat) × Work :=
  match Work.writeWords p ws 0 w with
  | (i, some c, _) => (some (i, c), w.refuseWord p ((ws.getD i (0, 0)).1) c)
  | (_, none, w') =>
    match (pointsOf ws).find? fun e => let c := ptChange w w' e.1; decide (w.x.role ≠ .standby) && w'.ptBad e.1 c.1 c.2 with
    | some e => (some (e.2, rejRange), w.refuse belPage rejRange)
    | none => (none, w')

/-- One word. -/
def Work.writeWord (w : Work) (p : Party) (a : Nat) (v : Word) : Work := (w.writeAll p [(a, v)]).2

end Sys2Proof.Machine
end

