-- ==== Sys2Proof/Machine/Images.lean ====
section
/-! DEFINITION. The configuration image (R87 to R92): its layout, the checks of R90, the pages it uses. -/

namespace Sys2Proof.Machine

/-- A little-endian number of `n` bytes at an offset. -/
def leAt (bs : List Byte) (off n : Nat) : Nat := natOfBytes ((bs.drop off).take n)

/-- One entry of the section directory (R88). -/
structure Section where
  type : Nat
  off : Nat
  len : Nat
  crc : Nat
  deriving DecidableEq, Repr

/-- NSECT and the directory (R88). -/
def imgNsect (bs : List Byte) : Nat := leAt bs 0x10 2
def imgDir (bs : List Byte) : List Section :=
  (List.range (imgNsect bs)).map fun i =>
    let o := 0x20 + 16 * i
    ⟨leAt bs o 2, leAt bs (o + 4) 4, leAt bs (o + 8) 4, leAt bs (o + 12) 4⟩

/-- The directory of an image whose NSECT lies in its range; none otherwise, so that no check reads a senseless one. -/
def imgSections (bs : List Byte) : List Section := if 1 ≤ imgNsect bs ∧ imgNsect bs ≤ 32 then imgDir bs else []

/-- IMGID, RESTART and LENGTH (R88). -/
def imgId (bs : List Byte) : Word := BitVec.ofNat 32 (leAt bs 8 4)
def imgRestart (bs : List Byte) : Nat := leAt bs 0x12 1

/-- The CRC that the directory gives of the SAFE section; 0 with none (R284). -/
def imgSafeCrc (bs : List Byte) : Word :=
  match (imgSections bs).find? fun s => decide (s.type = 7) with
  | some s => BitVec.ofNat 32 s.crc
  | none => 0

/-- Do two sections share a byte? -/
def Section.overlaps (a b : Section) : Bool := decide (a.off < b.off + b.len) && decide (b.off < a.off + a.len)

/-- No two elements of a list are related. -/
def noPair {α : Type} (r : α → α → Bool) : List α → Bool
  | [] => true
  | a :: t => (t.all fun b => !r a b) && noPair r t

/-- Checks 1 and 2 of R90. -/
def imgFormatOk (bs : List Byte) : Bool :=
  let n := imgNsect bs
  let dir := imgSections bs
  decide (bs.take 4 = ascii "B960") && decide (leAt bs 4 4 = 0x1_0000) && decide (leAt bs 0x0C 4 = bs.length) && decide (bs.length ≤ 6_291_456)
    && decide (1 ≤ n) && decide (n ≤ 32) && decide (imgRestart bs ≤ 2) && (((bs.drop 0x13).take 13).all fun b => decide (b = 0))
    && decide (0x20 + 16 * n + 32 ≤ bs.length)
    && (dir.all fun s => decide (0x20 + 16 * n ≤ s.off) && decide (s.off + s.len ≤ bs.length - 32) && decide (1 ≤ s.type) && decide (s.type ≤ 8))
    && noPair Section.overlaps dir && noPair (fun a b => decide (a.type = b.type)) dir

/-- Check 3. -/
def imgCrcOk (bs : List Byte) : Bool :=
  (imgSections bs).all fun s => decide (crc32 ((bs.drop s.off).take s.len) = BitVec.ofNat 32 s.crc)

/-- Check 4. -/
def imgHmacOk (key bs : List Byte) : Bool := decide (hmac key (bs.take (bs.length - 32)) = bs.drop (bs.length - 32))

/-- Check 5. -/
def imgRequiredOk (bs : List Byte) : Bool := [1, 2, 3, 4].all fun t => (imgSections bs).any fun s => decide (s.type = t)

/-- The block types of R43. -/
def blockTypes : List Nat :=
  [0x01, 0x02, 0x03, 0x04, 0x05, 0x06, 0x10, 0x11, 0x12, 0x18, 0x20, 0x21, 0x28, 0x29, 0x30, 0x31, 0x38, 0x40, 0x48, 0x49, 0x50, 0x60, 0x61, 0x62]

/-- Check 6: every block carries MAJOR 1 (R44). -/
def imgRevsOk (c : ImageContent) : Bool :=
  (blockTypes.all fun t => decide ((c.revs.filter fun r => decide (r.1 = t)) = [(t, 1)])) && (c.revs.all fun r => blockTypes.contains r.1)

/-- Does the image use a page: settings for it, or something of its chapter, or a register that the program writes (R37, R38)?
Every image uses Belfry, whose system points have settings without a POINTS section (R373; log entry 121). -/
def usesPage (c : ImageContent) (page : Nat) : Bool :=
  (c.pages.any fun e => decide (e.1 / 4096 = page)) || (c.owners.any fun e => decide (e.1 / 4096 = page))
    || (decide (page = 0x020) && decide (c.params ≠ []))
    || decide (page = 0x024)
    || (decide (page = 0x030) && decide (c.safe ≠ []))

/-- The gated pages (R33), and those enabled during Power-up (R37). -/
def earlyPages : List Nat := [0x018, 0x019, 0x01C, 0x01D, 0x01E, 0x028, 0x029]
def gatedPages : List Nat :=
  earlyPages ++ [0x01A, 0x020, 0x024, 0x030] ++ (List.range 48).map (0x040 + ·) ++ (List.range 4).map (0x080 + ·) ++ (List.range 8).map (0x090 + ·)
def ungatedPages : List Nat := [0x000, 0x001, 0x002, 0x003, 0x004, 0x005, 0x008, 0x009, 0x00A, 0x00B, 0x00C, 0x00E, 0x010, 0x014, 0x015]

/-- The bits of a word whose value an image supplies: its cfg fields, and the trunks' kept CFG (R9, R90, R482). -/
def cfgMask (a : Nat) : Word :=
  if a = TRK.CFG 0 ∨ a = TRK.CFG 1 then
    (fieldsAt a).foldl (fun m f => if f.kind = .kept then m ||| f.fld.mask else m) 0
  else (fieldsAt a).foldl (fun m f => if f.kind = .cfg ∧ f.acc ≠ .ro then m ||| f.fld.mask else m) 0

/-- The module as it would stand in Held with an image's values in its registers: what check 8 judges a value against. -/
def Work.withImage (w : Work) (c : ImageContent) : Work :=
  let w := w.upd fun x => { x with mode := .held, role := .solo }
  let w := w.each (gatedPages.filter fun p => usesPage c p) fun w p => w.put (HDR.PGCTL p) HDR.PGCTL_EN 1
  w.each (c.pages.map (fun e => (e.1, e.2.1, e.2.2)) ++ (c.params ++ c.points).map fun e => (e.1, e.2, (0xFFFF_FFFF : Word))) fun w e =>
    w.wr e.1 ((w.rd e.1 &&& ~~~e.2.2) ||| (e.2.1 &&& e.2.2))

/-- Does an entry of an image fit: its register exists, the image supplies the bits it gives, and a write in Held would take them
(R90 check 8)? `w` is the module with the image's values in. -/
def Work.entryFits (w : Work) (a : Nat) (mask : Word) : Bool :=
  let v := w.rd a
  let far := v ^^^ mask
  decide (a % 4 = 0) && decide (fieldsAt a ≠ []) && decide (mask &&& ~~~(cfgMask a) = 0)
    && !((w.blockCheck .program a far v v).any fun e => decide (e.2 = rejRange))

/-- Check 8 of R90. -/
def Work.imgContentOk (w : Work) (c : ImageContent) : Bool :=
  let w := w.withImage c
  (c.pages.all fun e => decide (0x40 ≤ e.1 % 4096) && !isWindow (e.1 / 4096) && w.entryFits e.1 e.2.2)
    && (c.params.all fun e => decide (kindOf (e.1 / 4096) = .ram) && w.entryFits e.1 (cfgMask e.1))
    && (c.points.all fun e => decide (kindOf (e.1 / 4096) = .pt) && decide (cfgMask e.1 ≠ 0))
    && ((pointsOf (c.points.map fun e => (e.1, e.2))).all fun p => !w.ptBad p.1 true true)
    && (c.keys.all fun k => capBit (kindOf k.1) 1 && decide (1 ≤ k.2.1) && decide (k.2.1 ≤ 3))

/-- The reason of the first of the checks of R90 that a slot fails; none where it is verified. -/
def Work.imageFault (w : Work) (s : Slot) : Option Nat :=
  if imgFormatOk s.bytes = false then some 0x81
  else if imgCrcOk s.bytes = false then some 0x82
  else if imgHmacOk w.imageKey s.bytes = false then some 0x83
  else if imgRequiredOk s.bytes = false ∨ imgRevsOk s.content = false ∨ 1984 < s.content.outWords ∨ w.imgContentOk s.content = false then some 0x84
  else none

/-- HELDWHY of a failed check (R100). -/
def heldWhyOf (reason : Nat) : Nat := if reason = 0x82 then 2 else if reason = 0x83 then 3 else if reason = 0x81 then 4 else 5

/-- The active slot. -/
def Work.actSlot (w : Work) : Slot := if w.flag SYS.IMAGE SYS.IMAGE_ACTIVE then w.x.img.slot1 else w.x.img.slot0

end Sys2Proof.Machine
end

