-- ==== Sys2Proof/Machine/Gates.lean ====
section
/-! DEFINITION. Gates, soft resets and the taking of an image's values (R9, R36 to R38, R47, R48, R584): what opening, resetting and
closing a page does, block by block; ends of operations by other causes than their own (R58, R59). -/

namespace Sys2Proof.Machine

/-! Ends of operations -/

/-- An operation that is BUSY ends for a cause that is not its own completion: an abort sampled, its maximum duration, its gate
closed, its session lost. The block puts back what its chapter says. -/
def Work.opStop (w : Work) (page state reason : Nat) : Work :=
  if w.opBusy page = false then w
  else
    let op := w.get (HDR.OPSTAT page) HDR.OPSTAT_OP
    match kindOf page with
    | .loop =>
      let n := loopOf page
      if op = 1 then (w.trimLeave n true).opEnd page state reason
      else if reason = 2 then w.hartTimeout n
      else (w.hartPassOver n).opEnd page state reason
    | .xfer => w.xferEnd state reason
    | .lantern => (w.opEnd page state reason).lanternShow
    | .slate => (w.opEnd page state reason).slateWithdraw
    | .safe => w.pwClear.opEnd page state reason
    | .task => (w.upd fun x => { x with task := { x.task with due := false } }).opEnd page state reason
    | .clk =>
      if op = 2 then
        let go := w.x.clk.switching.filter fun e => w.flag CLK.REFSTAT ⟨w.get CLK.REFNOW ⟨e.1, 1⟩, 1⟩
        let w := (w.upd fun x => { x with clk := { x.clk with switching := go } }).putB CLK.REFSTAT CLK.REFSTAT_SWITCHING (!go.isEmpty)
        w.opEnd page state reason
      else w.opEnd page state reason
    | .bist =>
      let w := w.upd fun x => { x with bist := { x.bist with retestForm := none } }
      (w.opEnd page state reason).closeEpisode 2 w.anyExcluded
    | .pair => (w.upd fun x => { x with pair := { x.pair with swap := none } }).opEnd page state reason
    | .time => if op = 2 ∧ reason = 2 then w.opEnd page opFailed 0x83 else w.opEnd page state reason
    | _ => w.opEnd page state reason

/-! Values -/

/-- A word with its cfg fields taken from an image; their reset entry where the image gives none (R9). -/
def cfgWord (c : ImageContent) (a : Nat) (old : Word) : Word :=
  let src := imgPut c a (resetWord a)
  effective a old ((fieldsAt a).foldl (fun acc f => if f.kind = .cfg ∧ f.acc ≠ .ro then f.fld.set acc (f.fld.get src) else acc) old)

/-- The image whose values the pages take: none until Image check has passed (R37). -/
def Work.liveContent (w : Work) : ImageContent :=
  if w.x.img.activeOk then w.activeContent else {}

/-- Is a word one of a page's block-specific words, or of its windows? -/
def inPage (page a : Nat) : Bool := decide (ctlPage (a / 4096) = page) && (isWindow (a / 4096) || decide (0x40 ≤ a % 4096))

/-- Every word of a page that an image or the past may have given a value other than its reset word. -/
def Work.pageWords (w : Work) (c : ImageContent) (page : Nat) : List Nat :=
  ((w.listed ++ c.pages.map (·.1) ++ c.params.map (·.1) ++ c.points.map (·.1)).filter (inPage page)).eraseDups

/-- A word as a soft reset leaves it (R9, R48): kept and fixed fields stay, cfg fields are taken from the image, every other field takes
its reset entry. `status`: RO fields stay, too. -/
def softWord (c : ImageContent) (status : Bool) (a : Nat) (old : Word) : Word :=
  let v := (fieldsAt a).foldl (fun acc f =>
    if f.kind = .val ∧ (status = false ∨ f.acc ≠ .ro) then f.fld.set acc f.rst else acc) old
  cfgWord c a v

/-- The keys that an image sets for a page (R62). -/
def Work.loadKeys (w : Work) (c : ImageContent) (page : Nat) : Work :=
  w.upd fun x => { x with pages := { x.pages with
    keys := x.pages.keys.filter (fun k => decide (k.1 ≠ page)) ++ c.keys.filter (fun k => decide (k.1 = page)) } }

/-- SAFE.PENDSIG (R284). -/
def Work.pendSig (w : Work) : Work := w.wr SAFE.PENDSIG (if w.x.img.activeOk then imgSafeCrc w.actSlot.bytes else 0)

/-- What a page does when its cfg fields have taken other values: `old` is the module before. -/
def Work.cfgTaken (w old : Work) (page : Nat) : Work :=
  let changed := (w.listed.filter (inPage page)).filter fun a => decide (old.rd a ≠ w.rd a)
  match kindOf page with
  | .loop => (w.loopCfgChanged (loopOf page) (old.rd (LOOP.CFG (loopOf page)))).routeCheck
  | .sens => w.each changed fun w a => w.sensWritten (page - 0x080) a (old.rd a)
  | .dio => w.each changed fun w a => w.dioWritten (page - 0x090) a (old.rd a)
  | .ctleng => w.ctlLoaded
  | .safe => w.pendSig
  | .task => w.iosBudget
  | .iosync => w.iosBudget
  | .time => (w.timeWritten TIME.CFG (old.rd TIME.CFG)).timeWritten TIME.UTCOFS (old.rd TIME.UTCOFS)
  | .xfer => w.each changed fun w a => w.xferWritten a (w.rd a)
  | .lantern => w.lanternShow
  | .slate => if changed.any fun a => decide (SLATE.NAME 0 ≤ a) then w.slateRequest 0 else w
  | _ => w

/-- An enabled page takes the cfg fields and the keys of the active image (R9, R37). -/
def Work.loadPage (w : Work) (page : Nat) : Work :=
  let c := w.liveContent
  let old := w
  let w := w.each (w.pageWords c page) fun w a => if cfgWord c a (w.rd a) = w.rd a then w else w.wr a (cfgWord c a (w.rd a))
  (w.loadKeys c page).cfgTaken old page

/-! Soft reset -/

/-- What a block does at a soft reset beside its registers' entries: `old` is the module before. -/
def Work.blockReset (w old : Work) (page : Nat) : Work :=
  match kindOf page with
  | .loop =>
    let a := LOOP.STAT (loopOf page)
    let keep (w : Work) (f : Fld) : Work := w.putB a f (old.flag a f)
    (w.each [LOOP.STAT_LSFAULT, LOOP.STAT_COMPLIANCE, LOOP.STAT_OVERCUR] keep).loopShow (loopOf page)
  | .sens => w.sensStart (page - 0x080)
  | .dio => w.dioStart (page - 0x090) false
  | .safe => w.pendSig.clogShow.safeReview.pwShow
  | .task =>
    let w := ((w.wr TASK.CYCLE (old.rd TASK.CYCLE)).wr TASK.CYCLEH (old.rd TASK.CYCLEH)).forceShow
    (w.each (List.range 5) fun w i => w.wr (TASK.IRQSUM i) (old.rd (TASK.IRQSUM i))).iosBudget
  | .iosync => w.iosSoftReset
  | .ctleng => w.ctlSoftReset.ctlLoaded
  | .belfry => (w.put BELFRY.BSTAT BELFRY.BSTAT_RETRYCNT 0).belSoftReset
  | .trk => w.trkSoftReset (page - 0x018)
  | .evt => w.evtSoftReset (old.flag EVT.STAT EVT.STAT_FROZEN)
  | .net =>
    let n := page - 0x01C
    (w.put (NET.CNT2 n) NET.CNT2_AUTHFAIL (old.get (NET.CNT2 n) NET.CNT2_AUTHFAIL)).wr (NET.SESS n) (old.rd (NET.SESS n))
  | .xfer => w.xferSoftReset
  | .lantern => (w.put LANTERN.LSTAT LANTERN.LSTAT_KEYS (old.get LANTERN.LSTAT LANTERN.LSTAT_KEYS)).lanternSoftReset
  | .slate => w.slateSoftReset
  | _ => w

/-- A soft reset of the block-specific registers (R48), and what the blocks' chapters add to it or except from it (R425, R452, R499,
R607). -/
def Work.resetFields (w : Work) (page : Nat) : Work :=
  let c := w.liveContent
  match kindOf page with
  | .time => w.wr TIME.CNT 0
  | .pair => w.put PAIR.MIRST PAIR.MIRST_DMAX 0
  | .pwr => w.put PWR.DRAW PWR.DRAW_MAX 0
  | k =>
    let status := decide (k = .belfry)
    let old := w
    let w := w.each (w.pageWords c page) fun w a => if softWord c status a (w.rd a) = w.rd a then w else w.wr a (softWord c status a (w.rd a))
    w.blockReset old page

/-- The header at a soft reset (R48, R66): interrupts and OPSTAT return to 0, PGSTAT to its reset value but READY, the unlock ends;
EN and PGHEALTH stay (log entry 83). Upper words latched for a session are let go (R69). -/
def Work.resetHeaderFields (w : Work) (page : Nat) : Work :=
  let w := w.upd fun x => { x with pages := { x.pages with latches := x.pages.latches.filter fun l => decide (l.2.1 / 4096 ≠ page) } }
  let st := HDR.PGSTAT_READY.set (resetWord (HDR.PGSTAT page)) (w.get (HDR.PGSTAT page) HDR.PGSTAT_READY)
  ((((w.wr (HDR.IRQSTAT page) 0).wr (HDR.IRQEN page) 0).wr (HDR.OPSTAT page) 0).wr (HDR.PGSTAT page) st).lock page

/-- A soft reset of a page (R48). -/
def Work.softResetPage (w : Work) (page : Nat) : Work := (w.resetHeaderFields page).resetFields page

/-! Gates -/

/-- What a block does when its gate opens, beside what a soft reset does. -/
def Work.blockStart (w old : Work) (page : Nat) : Work :=
  match kindOf page with
  | .loop => (w.loopCfgChanged (loopOf page) (old.rd (LOOP.CFG (loopOf page)))).loopShow (loopOf page) |>.routeCheck
  | .dio => w.dioStart (page - 0x090) true
  | .trk => w
  | .slate => (w.slateUpd fun s => { s with waiting := old.x.slate.waiting }).slateRequest 0
  | .net => w.wr (NET.LINK (page - 0x01C)) (old.rd (NET.LINK (page - 0x01C)))
  | .belfry => if w.x.mode = .ready ∨ w.x.mode = .run ∨ w.x.mode = .hold then w.belReady else w
  | _ => w

/-- A gated page is enabled (R36, R37): EN and READY, its registers as after a soft reset, its cfg fields and keys from the active
image. -/
def Work.enablePage (w : Work) (page : Nat) : Work :=
  if w.enabled page then w
  else
    let old := w
    let w := (w.put (HDR.PGCTL page) HDR.PGCTL_EN 1).softResetPage page
    let w := (w.put (HDR.PGSTAT page) HDR.PGSTAT_READY 1).loadKeys w.liveContent page
    w.blockStart old page

/-- A gate goes into closing (R584): EN reads 0, new accesses are answered with a bus error. -/
def Work.closeGate (w : Work) (page : Nat) : Work :=
  if w.enabled page = false ∨ capBit (kindOf page) 4 = false then w
  else
    let w := w.put (HDR.PGCTL page) HDR.PGCTL_EN 0
    w.upd fun x => { x with pages := { x.pages with closing := x.pages.closing ++ [page] } }

/-- A closing gate has closed (R584): the port went idle, or it is isolated (`forced`) and GATE_FORCED set. -/
def Work.gateShut (w : Work) (page : Nat) (forced : Bool) : Work :=
  if w.x.pages.closing.contains page = false then w
  else
    let again := w.x.pages.reopen.contains page
    let w := w.upd fun x => { x with pages := { x.pages with
      closing := x.pages.closing.filter fun q => decide (q ≠ page)
      reopen := x.pages.reopen.filter fun q => decide (q ≠ page) } }
    let w := (w.put (HDR.PGSTAT page) HDR.PGSTAT_READY 0).when forced fun w => w.put (HDR.PGSTAT page) HDR.PGSTAT_GATE_FORCED 1
    let w := w.opStop page opFailed 0x03
    if again then w.enablePage page else w

/-- The pages take the values of the active image, and the gates follow it (R37): every gated page that it uses is enabled, every one
that only the former image used is closed, other than the seven of Power-up. -/
def Work.followImage (w : Work) (former : Option ImageContent) : Work :=
  let c := w.activeContent
  let w := w.each ((ungatedPages ++ gatedPages).filter fun p => w.enabled p) fun w p => w.loadPage p
  let w := match former with
    | some f => w.each (gatedPages.filter fun p => usesPage f p && !usesPage c p && !earlyPages.contains p) fun w p => w.closeGate p
    | none => w
  w.each (gatedPages.filter fun p => usesPage c p) fun w p =>
    if w.x.pages.closing.contains p then w.upd fun x => { x with pages := { x.pages with reopen := x.pages.reopen ++ [p] } } else w.enablePage p

end Sys2Proof.Machine
end

