-- ==== Sys2Proof/Machine/Program.lean ====
section
/-! DEFINITION. The program's side of Timetable (chapter 09): how a released image takes effect (R39, R292), safe values, overruns and
traps (R296, R299, R300), the retained copies (R293), how the program starts and stops (R294, R297), forces and on-line changes
(R302 to R309). -/

namespace Sys2Proof.Machine

def taskPage : Nat := 0x010
def Work.taskUpd (w : Work) (f : TaskSt → TaskSt) : Work := w.upd fun x => { x with task := f x.task }
def Work.trun (w : Work) (i : Nat) : TaskRun := tabGet {} w.x.task.run i
def Work.trunSet (w : Work) (i : Nat) (f : TaskRun → TaskRun) : Work :=
  w.taskUpd fun t => { t with run := tabSet t.run i (f (tabGet {} t.run i)) }
def Work.cycle (w : Work) : Nat := w.rd64 TASK.CYCLE TASK.CYCLEH

/-! Words of the output image -/

/-- Does the control engine own a register's word: the destination of an enabled loop, or an OPV word that a host writes (R330, R346)? -/
def Work.engineOwns (w : Work) (a : Nat) : Bool :=
  ((List.range 64).any fun n => w.lpOn n && w.hasDest n && decide ((w.rd (RAM.OUTADR n)).toNat = a))
    || (decide (0x20800 ≤ a) && decide (a < 0x21000) && w.flag (RAM.LCFG ((a - 0x20800) / 32)) RAM.LCFG_OPVSRC)

/-- A word is put into a register through the program's output path: a word of a page's header acts when this command has released
the image; every other as a write by the program (R39, R41). -/
def Work.putOut (w : Work) (a : Nat) (v : Word) : Work :=
  if w.busError a then w
  else if isWindow (a / 4096) = false ∧ a % 4096 < 0x40 then w.taskUpd fun t => { t with hdr := t.hdr ++ [(a, v)] }
  else
    let w := if kindOf (a / 4096) = .loop ∧ a % 4096 = 0x44 then w.upd fun x => { x with loops := { x.loops with coldWait := false } } else w
    w.writeWord .program a v

/-- A register word as the output path carries it: a force replaces it (R303). -/
def Work.putForced (w : Work) (a : Nat) (v : Word) : Work := w.putOut a ((w.forcedReg a).getD v)

/-- A word that its task does not own is discarded, with XWRITE and a record (R292). -/
def Work.discardWord (w : Work) (a : Nat) : Work :=
  (w.setFlag taskPage noSub TASK.STAT TASK.STAT_XWRITE true).evRefused (ctlPage (a / 4096)) noSub a rejState 0 0

/-- One word of a released image (R292, R303): it is the task's that wrote it; the program's own value is kept beneath a force. -/
def Work.releaseWord (w : Work) (e : OutWord) : Work :=
  if w.activeContent.owners.contains (e.addr, e.task) = false ∨ w.engineOwns e.addr then w.discardWord e.addr
  else (w.taskUpd fun t => { t with outImg := tabSet t.outImg e.addr e.val }).putForced e.addr e.val

/-- Output data of a released image for a station: their task owns them, or they are discarded (R292). -/
def Work.releaseStation (w : Work) (e : OutData) : Work :=
  if w.activeContent.safeData.any fun d => decide (d.1 = e.dst) && decide (d.2.1 = e.task) then w.staSet e.dst fun s => { s with out := e.data }
  else w.discardWord (IOSYNC.SCFG e.dst)

/-! Retained variables (R293) -/

/-- The variables of a program hold these values. -/
def setVars (vars : List VarEnt) (l : List (Nat × BitVec 64)) : List VarEnt :=
  vars.map fun e => match l.find? fun f => decide (f.1 = e.id) with
    | some f => { e with val := f.2 }
    | none => e

/-- One retained copy is written, the two in turn (R293, R333, R346). -/
def Work.retain (w : Work) (vars : List (Nat × BitVec 64)) : Work :=
  let opv := ((w.listed.filter fun a => decide (0x20800 ≤ a) && decide (a < 0x21000))).map fun a => (a, w.rd a)
  let c : RetCopy := { valid := true, table := w.activeContent.retTable, cycle := w.cycle, vars := vars, loops := w.x.ctl.loops, opv := opv }
  w.taskUpd fun t =>
    { (if t.nextB then { t with retB := some c } else { t with retA := some c }) with nextB := !t.nextB, vars := setVars t.vars vars }

/-! Release -/

/-- The mirror of a released cycle goes to a Standby over the pair link, closed by cycle, layout and signature (R431, R432). -/
def Work.mirrorSend (w : Work) (sig : BitVec 128) : Work :=
  if w.x.role = .duty ∧ w.flag PAIR.STAT PAIR.STAT_LINKUP then
    let k := min (Config.deltaKib w.cycle) 4095
    ((w.put PAIR.MIRST PAIR.MIRST_DLAST k).put PAIR.MIRST PAIR.MIRST_DMAX (max k (w.get PAIR.MIRST PAIR.MIRST_DMAX))).send (.mirror w.cycle k w.activeContent.layout sig)
  else w

/-- A task of the image has released: its run ends, OVR and TRAP clear, its time is shown (R296, R299, R319). -/
def Work.taskReleased (w : Work) (i : Nat) (t0 : Nat) : Work :=
  let r := w.trun i
  let n := min (if i = 0 then t0 else w.cycle - r.relAt) 65535
  let a := TASK.TIME i
  let w := (w.put a TASK.TIME_LAST n).put a TASK.TIME_MAX (max n (w.get a TASK.TIME_MAX))
  let w := (w.setFlag taskPage i TASK.STAT ⟨24 + i, 1⟩ false).setFlag taskPage i TASK.STAT ⟨20 + i, 1⟩ false
  w.trunSet i fun r => { r with running := false, late := false, consec := if r.late then r.consec else 0 }

/-- May the program's data enter a transmit mailbox (R475)? `k` is the trunk times 64 plus the mailbox. -/
def Work.mailOut (w : Work) (k : Nat) : Bool :=
  decide (k < 128) && w.enabled (trkPage (k / 64)) && w.mbSends (k / 64) (k % 64) && !w.flag (TRK.MBCFG (k / 64) (k % 64)) TRK.MBCFG_OWN

/-- A transmit mailbox's shadow takes the program's own data, with the forces on its variables (R303). -/
def Work.mailFill (w : Work) (k : Nat) : Work :=
  w.mboxSet (k / 64) (k % 64) fun b => { b with shadow := pad64 (w.forceData true true k (tabGet [] w.x.task.outMail k)) }

/-- Data of transmit mailboxes leave with the image; a PERIODIC mailbox commits (R475, R478). Their task owns the mailbox, or they are
discarded (R292). -/
def Work.releaseMail (w : Work) (e : OutData) : Work :=
  if w.mailOut e.dst = false then w
  else if w.activeContent.mailOwners.contains (e.dst, e.task) = false then w.discardWord (TRK.MBCFG (e.dst / 64) (e.dst % 64))
  else
    let w := (w.taskUpd fun t => { t with outMail := tabSet t.outMail e.dst e.data }).mailFill e.dst
    if w.flag (TRK.MBCFG (e.dst / 64) (e.dst % 64)) TRK.MBCFG_PERIODIC then w.mbCommit (e.dst / 64) (e.dst % 64) else w

/-- The agreed image is released (R400 phase 4, R292): of the tasks that end in it, words to the registers, data to the stations and
mailboxes; retained variables, the mirror; the output phase begins. `sig`: its signature; `held`: the places of words withheld (R404). -/
def Work.release (w : Work) (cp : Checkpoint) (sig : BitVec 128) (held : List Nat) : Work :=
  let stop := w.x.safe.wdStop && cp.tasks.contains ((w.activeContent.owners.find? fun o => decide (o.1 = SAFE.PREQ)).elim 0 (·.2))
  let words := (cp.words.zipIdx.filter fun e => !held.contains e.2).map (·.1)
  let w := w.upd fun x => { x with loops := { x.loops with coldWait := false } }
  let w := w.each (cp.mail.filter fun e => cp.tasks.contains e.task) fun w e => w.releaseMail e
  let w := w.each (words.filter fun e => cp.tasks.contains e.task) fun w e => w.releaseWord e
  let w := if stop ∧ w.x.safe.wdStop then (w.safeUpd fun s => { s with wdStop := false }).safeAct else w
  let w := w.each (cp.station.filter fun e => cp.tasks.contains e.task) fun w e => w.releaseStation e
  let w := w.each cp.tasks fun w i => w.taskReleased i cp.releaseTime
  let w := (w.retain cp.retained).taskUpd fun t => { t with released := true }
  ((w.mirrorSend sig).iosOutput.commandIslands.shedRelease).commandOutputs

/-! Safe values, overrun, trap -/

/-- The safe values of a task's outputs (R299): fixed, or hold last; 0b1111 for PREQ.STOP (R274). -/
def Work.safeRelease (w : Work) (i : Nat) : Work :=
  let c := w.activeContent
  let mine := (c.owners.filter fun o => decide (o.2 = i)).map (·.1)
  let w := w.each (c.safeVals.filter fun e => mine.contains e.1 && decide (e.1 ≠ SAFE.PREQ)) fun w e => match e.2 with
    | some v => if w.engineOwns e.1 then w else w.putForced e.1 v
    | none => w
  let w := w.each (c.safeData.filter fun e => decide (e.2.1 = i)) fun w e => match e.2.2 with
    | some bs => w.staSet e.1 fun s => { s with out := bs }
    | none => w
  let w := if mine.contains SAFE.PREQ then w.safeOverrun else w
  w.commandIslands.commandOutputs

/-- A task overruns (R299): safe values, OVR, OVRCNT, a record; OVRMAX in a row stop the program at the next boundary (R300). `counts`: the
cycle counts toward OVRMAX (R411). -/
def Work.overrun (w : Work) (i : Nat) (counts : Bool) : Work :=
  let w := w.safeRelease i
  let w := (w.setFlag taskPage i TASK.STAT ⟨24 + i, 1⟩ true).incSat TASK.OVRCNT ⟨8 * i, 8⟩
  let w := (w.evOccur taskPage i TASK.OVRCNT (8 * i) (w.get TASK.OVRCNT ⟨8 * i, 8⟩)).irq taskPage 16
  let w := w.trunSet i fun r => { r with late := true }
  if counts then
    let w := w.trunSet i fun r => { r with consec := r.consec + 1 }
    if w.get TASK.MAIN TASK.MAIN_OVRMAX ≤ (w.trun i).consec then w.taskUpd fun t => { t with wdDue := true } else w
  else w

/-- TASK_OVERRUN (R299, R401): a deadline passes with the task's image not released. -/
def taskOverrun (i : Nat) (w : Work) : Work :=
  if 4 ≤ i ∨ w.x.mode ≠ .run ∨ w.x.role = .standby ∨ (w.trun i).running = false ∨ w.x.proc.withheld then w
  else
    let split := w.flag PROCTOR.STAT PROCTOR.STAT_SPLIT
    w.overrun i (!split)

/-- A task instance traps in every Form (R296): it ends and releases nothing. -/
def Work.taskTrap (w : Work) (i : Nat) : Work :=
  let w := (w.setFlag taskPage i TASK.STAT ⟨20 + i, 1⟩ true).incSat TASK.TRAPCNT ⟨8 * i, 8⟩
  let w := (w.evOccur taskPage i TASK.TRAPCNT (8 * i) (w.get TASK.TRAPCNT ⟨8 * i, 8⟩)).irq taskPage 17
  (w.trunSet i fun r => { r with running := false }).overrun i true

/-! Start and stop -/

/-- The variables as the image declares them (R294). -/
def Work.initVars (w : Work) : List VarEnt := w.activeContent.vars.map fun v => ⟨v.id, v.ty, v.loose, v.init⟩

/-- The variables of the program: before its first start, as the image declares them. -/
def Work.progVars (w : Work) : List VarEnt := if w.x.task.vars = [] then w.initVars else w.x.task.vars

/-- One change applied to the variables (R306). -/
def olcEntry (vars : List VarEnt) (e : OlcEnt) : List VarEnt :=
  if e.kind = 4 then vars.filter fun v => decide (v.id ≠ e.id)
  else vars.map fun v => if v.id = e.id then (if e.kind = 3 then { v with ty := e.ty, val := e.val } else { v with val := e.val }) else v

/-- The newer valid retained copy of the active image (R293, R294). -/
def Work.retained (w : Work) : Option RetCopy :=
  let t := w.activeContent.retTable
  let ok (c : Option RetCopy) : Option RetCopy := match c with
    | some c => if c.valid ∧ c.table = t then some c else none
    | none => none
  match ok w.x.task.retA, ok w.x.task.retB with
  | some a, some b => some (if a.cycle < b.cycle then b else a)
  | some a, none => some a
  | none, b => b

/-- Do copies exist and both fail their checks (R294)? -/
def Work.retainBad (w : Work) : Bool :=
  match w.x.task.retA, w.x.task.retB with
  | some a, some b => !a.valid && !b.valid
  | some a, none => !a.valid
  | none, some b => !b.valid
  | none, none => false

/-- The control engine takes up what a warm start finds (R333, R346). -/
def Work.warmLoops (w : Work) (c : RetCopy) : Work :=
  let w := w.upd fun x => { x with ctl := { x.ctl with loops := c.loops } }
  w.each (c.opv.filter fun e => decide (0x20800 ≤ e.1) && decide (e.1 < 0x21000) && w.flag (RAM.LCFG ((e.1 - 0x20800) / 32)) RAM.LCFG_OPVSRC)
    fun w e => w.wr e.1 e.2

/-! The Forms' STATEFUL regions (R405) -/

/-- A word's part in a state hash: the first 128 bits of SHA-256 over its byte address and itself. -/
def hashWord (a : Nat) (v : Word) : BitVec 128 := wordsHash [BitVec.ofNat 32 a, v]

/-- The word that an image gives a STATEFUL address; none outside its regions. -/
def stateWord (c : ImageContent) (a : Nat) : Option Word :=
  (c.stateful.find? fun r => decide (r.base ≤ a) && decide (a < r.base + 4 * r.len) && decide (a % 4 = r.base % 4)).map fun r =>
    r.init.getD ((a - r.base) / 4) 0

/-- A Form's memory as a start of the program leaves it. -/
def startMem (c : ImageContent) : FormMem :=
  { words := []
    hash := c.stateful.foldl (fun h r => (List.range r.len).foldl (fun h i => h ^^^ hashWord (r.base + 4 * i) (r.init.getD i 0)) h) 0 }

/-- A write to a STATEFUL word updates the hash; another region has none. -/
def FormMem.write (m : FormMem) (c : ImageContent) (e : Nat × Word) : FormMem :=
  match stateWord c e.1 with
  | some v0 => { words := tabSet m.words e.1 e.2, hash := m.hash ^^^ hashWord e.1 (tabGet v0 m.words e.1) ^^^ hashWord e.1 e.2 }
  | none => m

/-- The program starts in every Form from one and the same memory. -/
def Work.formsStart (w : Work) : Work :=
  let m := startMem w.activeContent
  w.upd fun x => { x with proc := { x.proc with mem := [(0, m), (1, m), (2, m), (3, m)] } }

/-- A cold start (R294, R309, R380): initial values, the journal discarded, Belfry initialised but for OOS marks. -/
def Work.coldStart (w : Work) (why : Nat) : Work :=
  let v := w.initVars
  let w := w.taskUpd fun t => { t with vars := v, journal := [] }
  let w := (w.put TASK.OLCSTAT TASK.OLCSTAT_JCOUNT 0).put TASK.STAT TASK.STAT_STARTKIND why
  (w.when (w.enabled belPage) fun w => w.belInit true).ctlRun 2

/-- A warm start from a retained copy (R294): retained variables, the journal reapplied oldest first. -/
def Work.warmStart (w : Work) (c : RetCopy) : Work :=
  let v := w.x.task.journal.foldl olcEntry (setVars w.initVars c.vars)
  let w := (w.taskUpd fun t => { t with vars := v }).put TASK.STAT TASK.STAT_STARTKIND 1
  (w.warmLoops c).ctlRun 1

/-- The figures that run since RUN begin anew, and the alarm of a watchdog stop ends (R300, R319, R422, R425). -/
def Work.runFigures (w : Work) : Work :=
  let w := w.each (List.range 4) fun w i => w.put (TASK.TIME i) TASK.TIME_MAX 0
  let w := w.each (List.range 4) fun w f => w.put (FORM.SKEW f) FORM.SKEW_MAX 0
  ((w.put PROCTOR.CKSTAT PROCTOR.CKSTAT_SKEWMAX 0).setFlag taskPage noSub TASK.STAT TASK.STAT_XWRITE false).belUpd fun b =>
    { b with wdStop := false }

/-- The program starts, warm (1) or cold (2): R294 at the boundary. A warm start without a valid copy of the active image is cold. -/
def Work.startProgram (w : Work) (kind : Nat) : Work :=
  let w := (w.taskUpd fun t => { t with run := [], wdDue := false }).formsStart
  if kind = 1 then
    match w.retained with
    | some c => w.warmStart c
    | none => (w.when w.retainBad fun w => w.cause 0x0E taskPage 0 true).coldStart 3
  else w.coldStart 2

/-- The program stops (R297, R300, R319): Ready, unfinished instances discarded, STOPWHY. A watchdog stop raises its alarm. -/
def Work.stopProgram (w : Work) (why : Nat) : Work :=
  let w := w.put TASK.STAT TASK.STAT_STOPWHY why
  let w := w.when (decide (why = 3)) fun w => (w.irq taskPage 18).belUpd fun b => { b with wdStop := true }
  (w.taskUpd fun t => { t with wdDue := false, run := [] }).toMode .ready 0

/-! Forces (R302 to R305) -/

/-- FORCE record (R504): set, changed or removed. -/
def Work.evForce (w : Work) (id : Nat) (what : Nat) (v : Word) (user : Nat) : Work :=
  (w.emit taskPage 0x09 noSub
    [data6 id (id / 2 ^ 8) (id / 2 ^ 16) (id / 2 ^ 24) what 0,
     data6 v.toNat (v.toNat / 2 ^ 8) (v.toNat / 2 ^ 16) (v.toNat / 2 ^ 24) user (user / 256)]).irq taskPage 19

/-- The register of an identity that names one (R302). -/
def regOf (id : Nat) : Option Nat := if 0x8000_0000 ≤ id then some ((id - 0x8000_0000) * 4) else none

/-- Is an identity an input or output variable's? -/
def Work.isIoVar (w : Work) (id : Nat) : Bool := w.activeContent.ioVars.any fun v => decide (v.id = id)

/-- Why an identity cannot be forced (R302, R321, R342). -/
def Work.forceFault (w : Work) (id : Nat) : Option Nat :=
  match regOf id with
  | some a =>
    if kindOf (a / 4096) = .safe ∧ a ≠ SAFE.PREQ then some 0x88
    else if isWindow (a / 4096) = false ∧ (w.snapReadable a || (progWritten a && w.enabled (a / 4096))) then none else some 0x86
  | none => match w.progVars.find? fun v => decide (v.id = id) with
    | some v => if w.isIoVar id ∧ v.ty ≠ 9 then none else some 0x86
    | none => if w.isIoVar id then none else some 0x81

/-- The table is changed; FORCED follows, with its alarm and Slate's word (R304, R320, R564). -/
def Work.setForces (w : Work) (l : List (Nat × Nat × Word)) : Work := (w.taskUpd fun t => { t with forces := l }).forceShow

/-- The lowest empty entry. -/
def freeEntry (l : List (Nat × Nat × Word)) : Nat := ((List.range 256).find? fun i => !(l.any fun e => decide (e.1 = i))).getD 0

/-- What a program-written register carries beneath a force: what its loop released last, or the program (R303, R332). -/
def Work.beneath (w : Work) (a : Nat) : Word :=
  match w.laneWord a with
  | some v => v
  | none => tabGet (w.rd a) w.x.task.outImg a

/-- In Ready and Hold a force, or its removal, acts on the output image at its boundary (R303): on a program-written register, or on the
mailbox of an output variable. A station's data take it as they are sent. -/
def Work.forceOut (w : Work) (id : Nat) : Work :=
  if w.x.mode ≠ .ready ∧ w.x.mode ≠ .hold then w
  else match regOf id with
    | some a => if progWritten a then w.putOut a ((w.forcedReg a).getD (w.beneath a)) else w
    | none => match w.activeContent.ioVars.find? fun v => decide (v.id = id) with
      | some v => if v.out ∧ v.mail ∧ w.mailOut v.dst then w.mailFill v.dst else w
      | none => w

/-- Before the first force on a register that no image has released its present word is kept as the program's own (log entry 201). -/
def Work.keepOwn (w : Work) (id : Nat) : Work :=
  match regOf id with
  | some a =>
    if progWritten a ∧ (w.x.task.outImg.any fun e => decide (e.1 = a)) = false then
      w.taskUpd fun t => { t with outImg := tabSet t.outImg a (w.rd a) }
    else w
  | none => w

/-- FORCE_SET takes effect at its boundary: its end and reason. -/
def Work.forceSetNow (w : Work) (user : Nat) : Work × Nat × Nat :=
  let id := (w.rd TASK.FVAR).toNat
  let v := w.rd TASK.FVAL
  let l := w.x.task.forces
  match w.forceFault id with
  | some r => (w, opFailed, r)
  | none => match l.find? fun e => decide (e.2.1 = id) with
    | some _ => (((w.setForces (l.map fun e => if e.2.1 = id then (e.1, id, v) else e)).evForce id 2 v user).forceOut id, opDone, 0)
    | none =>
      if 256 ≤ l.length then (w, opFailed, 0x87)
      else ((((w.keepOwn id).setForces (l ++ [(freeEntry l, id, v)])).evForce id 1 v user).forceOut id, opDone, 0)

/-- One force is removed. -/
def Work.forceDrop (w : Work) (user : Nat) (e : Nat × Nat × Word) : Work :=
  ((w.setForces (w.x.task.forces.filter fun f => decide (f.2.1 ≠ e.2.1))).evForce e.2.1 3 e.2.2 user).forceOut e.2.1

/-- FORCE_CLR takes effect at its boundary. -/
def Work.forceClrNow (w : Work) (user : Nat) : Work × Nat × Nat :=
  let id := (w.rd TASK.FVAR).toNat
  match w.x.task.forces.find? fun e => decide (e.2.1 = id) with
  | some e => (w.forceDrop user e, opDone, 0)
  | none =>
    if (regOf id).isNone ∧ w.isIoVar id = false ∧ (w.progVars.any fun v => decide (v.id = id)) = false
    then (w, opFailed, 0x81) else (w, opDone, 0)

/-- Every force is removed (R304). -/
def Work.forceClrAll (w : Work) (user : Nat) : Work := w.each w.x.task.forces fun w e => w.forceDrop user e

/-! On-line change (R306 to R309) -/

/-- The bytes of a value by its type (R306). -/
def typeBytes (ty : Nat) : Nat :=
  if ty = 1 ∨ ty = 2 ∨ ty = 5 then 1 else if ty = 3 ∨ ty = 6 then 2 else if ty = 9 then 8 else 4

/-- The entries of the change-set buffer: a value lies in the low bytes of VALUE that its type takes (R306). -/
def olcEnts (bs : List Byte) (n : Nat) : List OlcEnt :=
  (List.range n).map fun e =>
    let o := 16 + 16 * e
    ⟨leAt bs o 1, leAt bs (o + 1) 1, leAt bs (o + 4) 4, BitVec.ofNat 64 (leAt bs (o + 8) (typeBytes (leAt bs (o + 1) 1)))⟩

/-- The checks of R307: the reason, with the failing entry (0xFFFF: no entry), or the entries. -/
def Work.olcCheck (w : Work) : (Nat × Nat) ⊕ List OlcEnt :=
  let bs := w.x.task.setBuf
  let n := leAt bs 8 2
  let body := (bs.drop 16).take (16 * n)
  let es := olcEnts bs n
  let first (f : OlcEnt → Bool) : Option Nat := (es.zipIdx.find? fun e => f e.1).map (·.2)
  let vars := w.progVars
  let known (e : OlcEnt) : Bool := vars.any fun v => decide (v.id = e.id)
  let shape (e : OlcEnt) : Bool := decide (e.kind < 1) || decide (4 < e.kind) || (decide (e.kind ≠ 4) && (decide (e.ty < 1) || decide (9 < e.ty)))
  let typed (e : OlcEnt) : Bool := decide (e.kind ≤ 2) && (vars.any fun v => decide (v.id = e.id) && decide (v.ty ≠ e.ty))
  let bound (e : OlcEnt) : Bool := decide (3 ≤ e.kind) && (vars.any fun v => decide (v.id = e.id) && !v.loose)
  let forced (e : OlcEnt) : Bool := decide (3 ≤ e.kind) && (w.x.task.forces.any fun f => decide (f.2.1 = e.id))
  if bs.take 4 ≠ ascii "OLC1" ∨ BitVec.ofNat 32 (leAt bs 4 4) ≠ w.rd SYS.ACTID ∨ n < 1 ∨ 1023 < n ∨ leAt bs 10 2 ≠ 0
      ∨ body.length ≠ 16 * n ∨ crc32 body ≠ BitVec.ofNat 32 (leAt bs 12 4) then .inl (0x84, 0xFFFF)
  else match first shape with
  | some i => .inl (0x84, i)
  | none => match first (fun e => !known e) with
    | some i => .inl (0x81, i)
    | none => match first typed with
      | some i => .inl (0x82, i)
      | none => match first bound with
        | some i => .inl (0x83, i)
        | none => match first forced with
          | some i => .inl (0x80, i)
          | none => if 4096 < w.x.task.journal.length + n then .inl (0x85, 0xFFFF) else .inr es

/-- The set is applied whole at its boundary (R308, R309): into the variables and the journal; entries beneath a force are recorded. -/
def Work.olcNow (w : Work) (es : List OlcEnt) : Work :=
  let vars := w.progVars
  let id := (w.rd SYS.ACTID).toNat
  let w := w.taskUpd fun t => { t with vars := es.foldl olcEntry vars, journal := t.journal ++ es }
  let w := (w.put TASK.OLCSTAT TASK.OLCSTAT_JCOUNT w.x.task.journal.length).incWrap TASK.OLCSETS TASK.OLCSETS_N
  let w := w.emit taskPage 0x0C noSub [data6 id (id / 2 ^ 8) (id / 2 ^ 16) (id / 2 ^ 24) es.length (es.length / 256)]
  w.each (es.zipIdx.filter fun e => w.x.task.forces.any fun f => decide (f.2.1 = e.1.id)) fun w e =>
    w.emit taskPage 0x0D noSub [data6 e.1.id (e.1.id / 2 ^ 8) (e.1.id / 2 ^ 16) (e.1.id / 2 ^ 24) e.2 (e.2 / 256)]

/-! The operations (R297, R321): each waits for its boundary -/

/-- An operation of the TASK page begins: on a Standby every one is refused with STATE; an ARG that does not fit, with RANGE. -/
def Work.taskOp (w : Work) (p : Party) (op arg role : Nat) (modes : List Mode) (fits : Bool) (body : Work → Work) : Work :=
  w.startOp p taskPage role modes (decide (w.x.role ≠ .standby)) fun w =>
    if fits = false then w.refuse taskPage rejRange
    else body ((w.opBegin p taskPage op arg []).taskUpd fun t => { t with due := true })

/-- RUN: an ARG that does not fit the state it starts from is refused with RANGE; a cold start needs the Engineer. -/
def run (p : Party) (arg : Nat) (w : Work) : Work :=
  if w.reachable taskPage ∧ w.present p ∧ w.opBusy taskPage = false ∧ w.x.role ≠ .standby
      ∧ ((w.x.mode = .ready ∧ arg ≠ 1 ∧ arg ≠ 2) ∨ (w.x.mode = .hold ∧ arg ≠ 0)) ∧ 1 ≤ w.roleOf p then w.refuse taskPage rejRange
  else w.taskOp p 1 arg (if arg = 2 then 2 else 1) (if p = .program then [] else [.ready, .hold]) true id

/-- STOP. -/
def stop (p : Party) (arg : Nat) (w : Work) : Work := w.taskOp p 2 arg 1 (if p = .program then [.run] else [.run, .hold]) (decide (arg = 0)) id

/-- HOLD. -/
def hold (p : Party) (arg : Nat) (w : Work) : Work :=
  if w.reachable taskPage ∧ w.present p ∧ w.opBusy taskPage = false ∧ w.x.role ≠ .standby
      ∧ ((w.x.mode = .ready ∧ arg ≠ 1 ∧ arg ≠ 2) ∨ (w.x.mode = .run ∧ arg ≠ 0)) ∧ 1 ≤ w.roleOf p then w.refuse taskPage rejRange
  else w.taskOp p 3 arg (if arg = 2 then 2 else 1) (if p = .program then [.run] else [.ready, .run]) true id

/-- FORCE_SET, FORCE_CLR, FORCE_CLRALL. -/
def forceSet (p : Party) (arg : Nat) (w : Work) : Work := w.taskOp p 4 arg 2 [.ready, .run, .hold] (decide (arg = 0)) id
def forceClr (p : Party) (arg : Nat) (w : Work) : Work := w.taskOp p 5 arg 2 [.ready, .run, .hold] (decide (arg = 0)) id
def forceClrall (p : Party) (arg : Nat) (w : Work) : Work := w.taskOp p 6 arg 2 [.ready, .run, .hold] (decide (arg = 0)) id

/-- OLC_APPLY: the whole set is checked before anything changes (R307). -/
def olcApply (p : Party) (arg : Nat) (w : Work) : Work :=
  w.taskOp p 7 arg 2 [.ready, .run, .hold] (decide (arg = 0)) fun w =>
    match w.olcCheck with
    | .inl (r, i) => ((w.put TASK.OLCSTAT TASK.OLCSTAT_REJENT i).taskUpd fun t => { t with due := false }).opEnd taskPage opFailed r
    | .inr _ => w

end Sys2Proof.Machine
end

