-- ==== Sys2Proof/Machine/Bist.lean ====
section
/-! DEFINITION. Memory repair (R81 to R86) and the tests of a Form: spares, soft and fuse repairs, repair records, corrected errors. -/

namespace Sys2Proof.Machine

def bistPage : Nat := 0x004
def formPage (f : Nat) : Nat := 0x008 + f
def Work.bistUpd (w : Work) (f : BistSt → BistSt) : Work := w.upd fun x => { x with bist := f x.bist }

/-! Arrays and spares (R81, R84) -/

/-- Is an array identity one of a Form's ten arrays? -/
def arrayOfForm (f a : Nat) : Bool := decide (a / 64 = f) && decide (a % 64 < 10)

/-- The shared arrays: the delay banks and the halves of the Belfry memory. -/
def sharedArrays : List Nat := [0x30, 0x31, 0x34, 0x35]

/-- Every repairable array. -/
def allArrays : List Nat := ((List.range 4).map fun f => (List.range 10).map fun k => 64 * f + k).flatten ++ sharedArrays

/-- Spare rows and columns of an array. -/
def sparesOf (a : Nat) (isRow : Bool) : Nat :=
  if sharedArrays.contains a ∨ a % 64 < 2 then (if isRow then 4 else 2) else (if isRow then 8 else 4)

/-- The spares of a kind that an array uses. -/
def Work.sparesUsed (w : Work) (a : Nat) (isRow : Bool) : List Nat :=
  (w.x.bist.repairs.filter fun r => decide (r.array = a) && decide (r.isRow = isRow)).map (·.spare)

/-- The lowest free spare of a kind. -/
def Work.freeSpare (w : Work) (a : Nat) (isRow : Bool) : Option Nat :=
  (List.range (sparesOf a isRow)).find? fun s => !(w.sparesUsed a isRow).contains s

/-- The use of an array's scarcer spare kind, in eighths. -/
def Work.spareEighths (w : Work) (a : Nat) : Nat :=
  max ((w.sparesUsed a true).length * 8 / sparesOf a true) ((w.sparesUsed a false).length * 8 / sparesOf a false)

/-- SPARES, REPCNT and the health that spare use gives (R86, R107). Of arrays that use their spares equally the first is named, and none
used reads 0 (DESIGN CHOICE, log entry 182). -/
def Work.spareShow (w : Work) : Work :=
  let top := allArrays.foldl (fun acc a => if acc.2 < w.spareEighths a then (a, w.spareEighths a) else acc) (0, 0)
  let w := (w.put BIST.SPARES BIST.SPARES_WORSTARR top.1).put BIST.SPARES BIST.SPARES_WORSTPCT (divRounded (top.2 * 100 : Nat) 8).toNat
  let n := (w.x.bist.repairs.filter (·.fused)).length
  let w := (w.put BIST.REPCNT BIST.REPCNT_FUSED n).put BIST.REPCNT BIST.REPCNT_SOFT (w.x.bist.repairs.length - n)
  w.each allArrays fun w a => (w.cause 0x02 bistPage a (decide (4 < w.spareEighths a))).cause 0x03 bistPage a (decide (w.spareEighths a = 8))

/-! Repairs (R82 to R85) -/

/-- Bytes 0 to 28 of a repair record (R84). -/
def RepairRec.body (r : RepairRec) : List Byte :=
  bytesOfNat 1 r.kind ++ bytesOfNat 1 r.array ++ bytesOfNat 2 r.addr ++ bytesOfNat 1 r.spare ++ bytesOfNat 1 r.found ++ bytesOfNat 2 0
    ++ bytesOfNat 4 r.pcycle ++ bytesOfNat 8 r.optime ++ bytesOfNat 8 r.nettime ++ bytesOfNat 1 (if r.tvalid then 1 else 0)

/-- The 32 bytes of a repair record (R84). -/
def RepairRec.bytes (r : RepairRec) : List Byte := r.body ++ bytesOfNat 3 r.check

/-- A repair record; the area has room for 8,192, and they are never cleared (R84): a further one is not kept (DESIGN CHOICE, log entry
181). -/
def Work.repairRecord (w : Work) (kind array addr spare found : Nat) : Work :=
  let r : RepairRec :=
    ⟨kind, array, addr, spare, found, (w.rd CUPOLA.PCYCLE).toNat, w.now, w.net, w.flag TIME.STAT TIME.STAT_VALID, 0⟩
  let r := { r with check := crc24 r.body }
  if w.x.bist.records.length < 8192 then w.bistUpd fun b => { b with records := b.records ++ [r] } else w

/-- One repair is put in force, on the lowest free spare; `none` where there is none. A new fault in an array starts its repairs'
Power-ups anew (R85). -/
def Work.repairOne (w : Work) (array : Nat) (isRow : Bool) (addr found : Nat) : Option Work :=
  (w.freeSpare array isRow).map fun s =>
    let w := w.bistUpd fun b => { b with
      repairs := (b.repairs.map fun r => if r.array = array then { r with powerUps := 0 } else r) ++ [⟨array, isRow, addr, s, 0, false⟩] }
    w.repairRecord (if isRow then 1 else 2) array addr s found

/-- One fault that MBIST finds, and whether it is repaired (R82). -/
def Work.repairFault (w : Work) (f : MemFault) (found : Nat) : Work × Bool :=
  let go (w : Option Work) (isRow : Bool) (l : List Nat) : Option Work :=
    l.foldl (fun acc a => acc.bind fun w => w.repairOne f.array isRow a found) w
  let r := if f.verified then
      match f.shape with
      | .row a => go (some w) true [a]
      | .column a => go (some w) false [a]
      | .other rows => go (some w) true rows
    else none
  match r with
  | some w => (w, true)
  | none => (w, false)

/-- The faults of a memory test, and whether every one is repaired. -/
def Work.repairAll (w : Work) (l : List MemFault) (found : Nat) : Work × Bool :=
  let r := l.foldl (fun acc f => let q := acc.1.repairFault f found; (q.1, acc.2 && q.2)) (w, true)
  (r.1.spareShow, r.2)

/-- The weak words of a Form that lie in one row: which array and row a word lies in is `Config.weakRow`. -/
def sameWeakRow (f : Nat) (p : Fin 10 × Fin 65536) (e : Nat × Nat) : Bool := decide (e.1 = f) && decide (Config.weakRow e.2 = p)

/-- The rows marked weak are repaired at the Form's MBIST, each once; where no spare row is left a row stays weak (R83). -/
def Work.repairWeak (w : Work) (f : Nat) : Work :=
  let rows := ((w.x.bist.weak.filter fun e => decide (e.1 = f)).map fun e => Config.weakRow e.2).eraseDups
  w.each rows fun w p =>
    match w.repairOne (64 * f + p.1.val) true p.2.val 3 with
    | some w => w.bistUpd fun b => { b with weak := b.weak.filter fun e => !sameWeakRow f p e }
    | none => w

/-- A Form's MBIST: repairs and the result (R79, R82). -/
def Work.formMbist (w : Work) (f : Nat) (faults : List MemFault) (found : Nat) : Work × Bool :=
  (w.repairWeak f).repairAll (faults.filter fun q => arrayOfForm f q.array) found

/-- FORMSTAT of a Form: LPASS, MPASS, EXCL, RETESTED (R106). -/
def Work.formStat (w : Work) (f k : Nat) (b : Bool) : Work := w.putB BIST.FORMSTAT ⟨4 * f + k, 1⟩ b
def Work.formStatOf (w : Work) (f k : Nat) : Bool := w.flag BIST.FORMSTAT ⟨4 * f + k, 1⟩

/-- LASTTEST := now (R425). -/
def Work.testedNow (w : Work) (f : Nat) : Work := w.wr64 (FORM.LASTTEST f) (FORM.LASTTESTH f) w.now

/-- LBIST, then MBIST of a Form outside Self-test: a failed LBIST ends the test. -/
def Work.formTest (w : Work) (f : Nat) (lbist : Bool) (faults : List MemFault) : Work × Bool :=
  let w := w.formStat f 0 lbist
  if lbist = false then (w, false)
  else
    let r := w.formMbist f faults 2
    let w := r.1.formStat f 1 r.2
    (if r.2 then w.testedNow f else w, r.2)

/-! Fuses (R85) -/

/-- The free fuse entries of a Form. -/
def fuseFld (f : Nat) : Fld := ⟨8 * f, 8⟩

/-- FUSE_FULL follows a Form's free entries. -/
def Work.fuseShow (w : Work) (f : Nat) : Work := w.cause 0x07 bistPage f (decide (w.get BIST.FUSEFREE (fuseFld f) = 0))

/-- FUSE_REPAIR: during a Form's MBIST at Self-test, at most two entries. -/
def Work.fuseRepair (w : Work) (f : Nat) : Work :=
  let powered := decide (2000 ≤ w.get PWR.VAB PWR.VAB_VA) || decide (2000 ≤ w.get PWR.VAB PWR.VAB_VB)
  let l := w.x.bist.repairs.filter fun r => arrayOfForm f r.array && !r.fused && decide (3 ≤ r.powerUps)
  let n := if powered then min (w.get BIST.FUSEFREE (fuseFld f)) (2 - tabGet 0 w.x.bist.fuseNow f) else 0
  let w := w.each (l.take n) fun w r =>
    let w := w.bistUpd fun b => { b with
      repairs := b.repairs.map fun q => if q = r then { q with fused := true } else q
      fuseNow := tabSet b.fuseNow f (tabGet 0 b.fuseNow f + 1) }
    (w.put BIST.FUSEFREE (fuseFld f) (w.get BIST.FUSEFREE (fuseFld f) - 1)).repairRecord (if r.isRow then 0x11 else 0x12) r.array r.addr r.spare 1
  w.spareShow.fuseShow f

/-! Corrected errors (R83, R96, R425) -/

/-- 24 h of operating time in ms. -/
def day24 : Nat := 86400000

/-- FCNT.CECC and ECC_RATE follow the corrected errors of the last 24 h. -/
def Work.eccShow (w : Work) (f : Nat) : Work :=
  let n := (w.x.bist.ecc.filter fun e => decide (e.1 = f) && decide (w.now < e.2.2 + day24)).length
  if w.get (FORM.FCNT f) FORM.FCNT_CECC = min n 0xFFFF then w
  else
    let on := decide (10 < n)
    (((w.put (FORM.FCNT f) FORM.FCNT_CECC (min n 0xFFFF)).pageReason (formPage f) 2 1 on).cause 0x08 (formPage f) 2 on)

/-- Errors of more than 24 h ago are forgotten. -/
def Work.eccAge (w : Work) : Work :=
  let w := w.bistUpd fun b => { b with ecc := b.ecc.filter fun e => decide (w.now < e.2.2 + day24) }
  w.each (List.range 4) fun w f => w.eccShow f

/-- ECC_CORRECTED (R83): a second correction at a word within 24 h marks its row weak. -/
def eccCorrected (form word : Nat) (w : Work) : Work :=
  if w.alive = false ∨ 4 ≤ form then w
  else
    let w := w.eccAge
    let twice := w.x.bist.ecc.any fun e => decide (e.1 = form) && decide (e.2.1 = word)
    let w := w.bistUpd fun b => { b with
      ecc := b.ecc ++ [(form, word, w.now)]
      weak := if twice && !b.weak.contains (form, word) then b.weak ++ [(form, word)] else b.weak }
    let w := w.eccShow form
    w.evOccur (formPage form) noSub (FORM.FCNT form) 0 (w.get (FORM.FCNT form) FORM.FCNT_CECC)

end Sys2Proof.Machine
end

