-- ==== Sys2Proof/Machine/Forms.lean ====
section
/-! DEFINITION. Forms, Proctor, Roll Call and Recess (chapter 12): places and service, hall passes, vote-outs, resynchronisation, the
main and lane checkpoints, delay banks, splits and rotations. -/

namespace Sys2Proof.Machine

def proctorPage : Nat := 0x00C
def pairPage : Nat := 0x00E
def Work.procUpd (w : Work) (f : ProcSt → ProcSt) : Work := w.upd fun x => { x with proc := f x.proc }
def Work.pairUpd (w : Work) (f : PairSt → PairSt) : Work := w.upd fun x => { x with pair := f x.pair }

/-! Places and service (R393, R394, R421) -/

/-- FSTAT.PLACE (R425). -/
def plUndecided : Nat := 0
def plVoting : Nat := 1
def plJoining : Nat := 2
def plTest : Nat := 3
def plIdle : Nat := 4
def plSplit : Nat := 5
def plExcluded : Nat := 6

def allForms : List Nat := [0, 1, 2, 3]
def Work.place (w : Work) (f : Nat) : Nat := w.get (FORM.FSTAT f) FORM.FSTAT_PLACE
def Work.formsIn (w : Work) (p : Nat) : List Nat := allForms.filter fun f => decide (w.place f = p)
def Work.voters (w : Work) : List Nat := w.formsIn plVoting

/-- One bit per Form. -/
def maskOf (l : List Nat) : Nat := (allForms.filter l.contains).foldl (fun n f => n + 2 ^ f) 0

/-- Quad mode holds while no Form is excluded and Proctor decides (R79, R413, R417). -/
def Work.quadOn (w : Work) : Bool :=
  w.flag PROCTOR.CFG PROCTOR.CFG_QUAD && !w.flag PROCTOR.STAT PROCTOR.STAT_FALLBACK && decide (w.formsIn plExcluded = [])

/-- More than half of the voting set, and at least two Forms (R394). -/
def needed (n : Nat) : Nat := max 2 (n / 2 + 1)

/-- Does the module serve at all? A Standby's Forms do not vote (R395). -/
def Work.serves (w : Work) : Bool := [Mode.imageCheck, .held, .ready, .run, .hold].contains w.x.mode && decide (w.x.role ≠ .standby)

/-- SERVICE (R394). -/
def Work.serviceNow (w : Work) : Nat :=
  let n := w.voters.length
  if w.serves = false ∨ n < 2 then 0
  else if n = 2 then 4
  else if n = 4 ∧ w.quadOn then 3
  else if w.flag PROCTOR.STAT PROCTOR.STAT_FALLBACK ∨ w.formsIn plExcluded ≠ [] then 2
  else 1
def Work.service (w : Work) : Nat := w.get PROCTOR.STAT PROCTOR.STAT_SERVICE

/-- Does Recess run (R394, R413)? -/
def Work.recessRuns (w : Work) : Bool := decide (w.serviceNow = 1) && !w.flag PROCTOR.CFG PROCTOR.CFG_QUAD

/-- Operating time at which the next rotation falls due. -/
def Work.rotDueAt (w : Work) : Nat := w.x.proc.lastRot + w.get PROCTOR.CFG PROCTOR.CFG_RECPER * 3600000

/-- RECNEXT (R422). -/
def Work.recnextShow (w : Work) : Work :=
  let v := if w.recessRuns then BitVec.ofNat 32 ((w.rotDueAt - w.now + 999) / 1000) else 0xFFFF_FFFF
  if w.rd PROCTOR.RECNEXT = v then w else w.wr PROCTOR.RECNEXT v

/-- PROCTOR.STAT and SYS.STATE.FORMS follow the places (R100, R421). -/
def Work.procShow (w : Work) : Work :=
  let a := PROCTOR.STAT
  let v := w.rd a
  let v := PROCTOR.STAT_VOTESET.set v (maskOf w.voters)
  let v := PROCTOR.STAT_JOIN.set v (maskOf (w.formsIn plJoining))
  let v := PROCTOR.STAT_RECESS.set v (maskOf (w.formsIn plTest ++ w.formsIn plIdle))
  let v := PROCTOR.STAT_EXCL.set v (maskOf (w.formsIn plExcluded))
  let w := if w.rd a = v then w else w.wr a v
  let w := w.setState proctorPage noSub a PROCTOR.STAT_SERVICE w.serviceNow
  let n := if w.formsIn plUndecided ≠ [] then 0 else if w.formsIn plExcluded = [] then 2 else 1
  (if w.get SYS.STATE SYS.STATE_FORMS = n then w else w.put SYS.STATE SYS.STATE_FORMS n).recnextShow

/-- A Form takes a place (R393, R425). -/
def Work.setPlace (w : Work) (f p : Nat) : Work :=
  if w.place f = p then w
  else
    let was := w.place f
    let w := (w.setState (formPage f) noSub (FORM.FSTAT f) FORM.FSTAT_PLACE p).irq (formPage f) 16
    let w := if p = plExcluded ∨ was = plExcluded then w.formStat f 2 (decide (p = plExcluded)) else w
    let w := w.when (decide (p = plExcluded)) fun w => w.blockFault (formPage f) 1 1 true
    w.procShow

/-- A Form is excluded; two left that are not make the module Failed (R394, R408). -/
def Work.excludeForm (w : Work) (f : Nat) : Work :=
  let w := w.setPlace f plExcluded
  if 2 ≤ (w.formsIn plExcluded).length then w.fail 0x11 proctorPage else w

/-! Hall passes (R414, R415) -/

/-- The passes there are: kind times 256 plus number. -/
def isPass (r : Nat) : Bool :=
  decide (r < 32) || (decide (256 ≤ r) && decide (r < 264)) || (decide (512 ≤ r) && decide (r < 640)) || decide (r = 768) || decide (r = 1024)

/-- Is a resource held under a pass of this list? -/
def heldBy (l : List Pass) (r : Nat) : Bool := l.any fun p => decide (p.res = r)

/-- The passes held become these; a mailbox shows CLAIMED while its own is held (R476, R486). -/
def Work.passSet (w : Work) (l : List Pass) : Work :=
  let old := w.x.proc.passes
  let w := (w.procUpd fun s => { s with passes := l }).put PROCTOR.HPSTAT PROCTOR.HPSTAT_HELD l.length
  let boxes := ((old ++ l).map (·.res)).filter fun r => decide (512 ≤ r) && decide (r < 640) && decide (heldBy old r ≠ heldBy l r)
  w.each boxes fun w r => w.putB (TRK.MBSTAT ((r - 512) / 64) (r % 64)) TRK.MBSTAT_CLAIMED (heldBy l r)

def Work.leaseEnd (w : Work) : Nat := w.cycle + w.get PROCTOR.CFG PROCTOR.CFG_LEASE

/-- A Form claims a resource: the lowest-lettered claimant owns it, the others concur. -/
def Work.claim (w : Work) (f r : Nat) : Work :=
  let l := w.x.proc.passes
  if isPass r = false then w
  else match l.find? fun p => decide (p.res = r) with
    | none => w.passSet (l ++ [⟨r, f, w.leaseEnd, []⟩])
    | some p =>
      if p.owner = f then w
      else
        let o := min p.owner f
        let c := max p.owner f
        w.passSet (l.map fun q => if q.res = r then { q with owner := o, concur := c :: q.concur.filter fun g => decide (g ≠ o) && decide (g ≠ c) } else q)

/-- A pass after its owner has lost it: the next concurring voting Form's, or free. -/
def Work.passNext (w : Work) (p : Pass) : Option Pass :=
  ((w.voters.filter fun g => p.concur.contains g && decide (g ≠ p.owner)).head?).map fun g =>
    { p with owner := g, lapse := w.leaseEnd, concur := p.concur.filter fun q => decide (q ≠ g) }

/-- A Form's passes are revoked. -/
def Work.revoke (w : Work) (f : Nat) : Work :=
  let l := w.x.proc.passes
  let n := (l.filter fun p => decide (p.owner = f)).length
  let w := w.put PROCTOR.HPSTAT PROCTOR.HPSTAT_REVOKED (min (w.get PROCTOR.HPSTAT PROCTOR.HPSTAT_REVOKED + n) 0xFFFF)
  w.passSet (l.filterMap fun p => if p.owner = f then w.passNext p else some { p with concur := p.concur.filter fun g => decide (g ≠ f) })

/-- The passes of agreeing Forms are renewed. -/
def Work.renewPasses (w : Work) (agree : List Nat) : Work :=
  w.passSet (w.x.proc.passes.map fun p => if agree.contains p.owner then { p with lapse := w.leaseEnd } else p)

/-- PASS_LAPSE. -/
def passLapse (resource : Nat) (w : Work) : Work :=
  match w.x.proc.passes.find? fun p => decide (p.res = resource) with
  | some p =>
    if w.alive = false ∨ w.cycle < p.lapse then w
    else (w.passSet (w.x.proc.passes.filterMap fun q => if q.res = resource then w.passNext q else some q)).incSat PROCTOR.HPSTAT PROCTOR.HPSTAT_LAPSED
  | none => w

/-! Rotations end (R412, R423) -/

/-- Has a rotation come to a stage? -/
def Rotation.is (r : Rotation) (s : RotStage) : Bool := decide (r.stage = s)

/-- A rotation ends or is abandoned: `reason` of a RECESS_NOW. -/
def Work.rotEnd (w : Work) (state reason : Nat) : Work :=
  match w.x.proc.rot with
  | none => w
  | some r =>
    let t := w.now
    let w := (w.procUpd fun s => { s with rot := none, lastRot := t }).irq proctorPage 21
    (w.when r.host fun w => w.opEnd proctorPage state reason).recnextShow

/-- A rotation is abandoned before its handover checkpoint has released. -/
def Work.rotAbandon (w : Work) (reason : Nat) : Work :=
  match w.x.proc.rot with
  | none => w
  | some _ =>
    let w := w.incSat PROCTOR.CNT3 PROCTOR.CNT3_ABANDONED
    (w.evOccur proctorPage noSub PROCTOR.CNT3 0 (w.get PROCTOR.CNT3 PROCTOR.CNT3_ABANDONED)).rotEnd opFailed reason

/-! Resynchronisation (R409) -/

/-- The donor: the lowest-lettered voting Form of the last agreement. -/
def Work.donorNow (w : Work) : Option Nat :=
  match w.voters.filter w.x.proc.donor.contains with
  | f :: _ => some f
  | [] => w.voters.head?

/-- The copy engine's pass is given back when no receiver is left. -/
def Work.copyFree (w : Work) : Work :=
  if w.x.proc.resync = [] ∧ (w.x.proc.passes.any fun p => decide (p.res = 768)) then w.passSet (w.x.proc.passes.filter fun p => decide (p.res ≠ 768)) else w

/-- A voted-out Form's test has ended or is abandoned: its VOTEOUT episode closes (R511). -/
def Work.outEnd (w : Work) (f : Nat) : Work :=
  if w.x.proc.outs.contains f then
    (w.procUpd fun s => { s with outs := s.outs.filter fun g => decide (g ≠ f) }).closeEpisode 4 w.anyExcluded
  else w

/-- A Form begins to receive. A recess test under way is abandoned; a rotation's with it. -/
def Work.beginResync (w : Work) (f : Nat) : Work :=
  match w.donorNow with
  | none => w
  | some d =>
    let w := match w.x.proc.rot with
      | some r => if r.is .test ∧ r.outg = f then w.rotEnd opFailed 0x82 else w
      | none => w
    let w := (w.procUpd fun s => { s with resync := s.resync ++ [(f, d, false)] }).put (FORM.RESYNC f) FORM.RESYNC_PASSES 0
    ((w.setPlace f plJoining).outEnd f).claim d 768

/-- A place of the service is filled from the Forms on recess (R408, R409); `tests`: also from those in RECESS_TEST. -/
def Work.refill (w : Work) (tests : List Nat) : Work :=
  let want := if w.quadOn then 4 else 3
  if want ≤ w.voters.length + (w.formsIn plJoining).length ∨ w.formsIn plUndecided ≠ [] then w
  else match w.formsIn plIdle, tests.filter (w.formsIn plTest).contains with
    | f :: _, _ => w.beginResync f
    | [], f :: _ => w.beginResync f
    | [], [] => w

/-! Vote-outs (R408) -/

/-- LASTFAULT (R422). -/
def Work.lastFault (w : Work) (forms : List Nat) (cls : Nat) : Work :=
  w.wr PROCTOR.LASTFAULT (BitVec.ofNat 32 (maskOf forms * 2 ^ 28 + cls * 2 ^ 24 + w.cycle % 2 ^ 24))

/-- Receivers whose donor has left begin anew with the next one; a receiver that has left does not join. -/
def Work.resyncLose (w : Work) (f : Nat) : Work :=
  let d := w.donorNow
  (w.procUpd fun s => { s with resync := (s.resync.filter fun e => decide (e.1 ≠ f)).map fun e =>
    if e.2.1 = f then (e.1, d.getD 0, false) else e }).copyFree

/-- A Form is voted out: counted and recorded, into RECESS_TEST, its passes revoked, a rotation abandoned where R412 says so, and
another Form begins to take its place. -/
def Work.voteOut (w : Work) (f cls : Nat) : Work :=
  let w := if w.x.proc.outs.contains f then w else (w.openEpisode 4).procUpd fun s => { s with outs := s.outs ++ [f] }
  let w := (w.incSat PROCTOR.CNT1 PROCTOR.CNT1_VOTEOUT).incSat (FORM.FCNT f) FORM.FCNT_VOTEOUT
  let w := (w.put (FORM.FSTAT f) FORM.FSTAT_LASTWHY cls).lastFault [f] cls
  let w := (w.evOccur proctorPage f PROCTOR.CNT1 16 (w.get PROCTOR.CNT1 PROCTOR.CNT1_VOTEOUT)).irq proctorPage 16
  let w := w.procUpd fun s => { s with cps := s.cps.filter (fun e => decide (e.form ≠ f)), agree := s.agree.filter (fun g => decide (g ≠ f)),
                                       donor := s.donor.filter (fun g => decide (g ≠ f)), latNext := s.latNext.filter (fun g => decide (g ≠ f)) }
  let w := ((w.setPlace f plTest).revoke f).resyncLose f
  let done := w.x.proc.done
  let w := match w.x.proc.rot with
    | some r =>
      if r.is .test ∨ ((r.is .leave ∨ (r.is .handover ∧ done)) ∧ f ≠ r.inc) then w
      else w.rotAbandon (if f = r.inc ∧ r.is .handover then 0x81 else 0x82)
    | none => w
  w.refill (allForms.filter fun g => decide (g ≠ f))

/-! Splits (R411, R447) -/

/-- Is the partner of a Duty ready (R447): the link is up and its last health report shows STBYRDY? -/
def Work.partnerReady (w : Work) : Bool :=
  w.flag PAIR.STAT PAIR.STAT_LINKUP && (match w.x.pair.report with
    | some r => r.stbyRdy
    | none => false)

/-- PSTATE (R454). -/
def psSolo : Nat := 0
def psCold : Nat := 1
def psReady : Nat := 2
def psTaking : Nat := 3
def psDuty : Nat := 4
def psOut : Nat := 5
def Work.pstate (w : Work) : Nat := w.get PAIR.STAT PAIR.STAT_PSTATE
def Work.setPstate (w : Work) (p : Nat) : Work := w.setState pairPage noSub PAIR.STAT PAIR.STAT_PSTATE p

/-- A split: every Form of the voting set goes to SPLIT_TEST; a Duty with a ready partner relinquishes. -/
def Work.splitNow (w : Work) : Work :=
  let vs := w.voters
  let w := (w.incSat PROCTOR.CNT2 PROCTOR.CNT2_SPLITS).lastFault vs 7
  let w := w.evOccur proctorPage noSub PROCTOR.CNT2 16 (w.get PROCTOR.CNT2 PROCTOR.CNT2_SPLITS)
  let w := ((w.setFlag proctorPage noSub PROCTOR.STAT PROCTOR.STAT_SPLIT true).irq proctorPage 18).openEpisode 3
  let w := match w.x.proc.rot with
    | some r => if r.is .test then w else w.rotAbandon 0x82
    | none => w
  let w := w.procUpd fun s => { s with
    split := vs.map fun f => (f, s.cps.find? fun e => decide (e.form = f))
    resync := []
    agree := []
    donor := []
    latNext := []
    closed := true
    done := true
    isOpen := false }
  let w : Work := w.each (w.formsIn plJoining) fun w f => w.setPlace f plIdle
  let w : Work := w.each vs fun w f => (w.setPlace f plSplit).revoke f
  let w : Work := w.copyFree.upd fun x => { x with ctl := { x.ctl with isOpen := false, staged := [] } }
  if w.x.role = .duty ∧ w.pstate = psDuty ∧ w.partnerReady then
    let s : Swap := ⟨false, 0, w.cycle, 8, false⟩
    (((w.send .relinquish).pairUpd fun p => { p with swap := some s }).setPstate psOut)
  else w

/-- A voting set of fewer than two Forms is a split (R394). -/
def Work.splitIfFew (w : Work) : Work :=
  if w.voters.length < 2 ∧ w.flag PROCTOR.STAT PROCTOR.STAT_SPLIT = false ∧ w.serves ∧ w.alive then w.splitNow else w

/-! The main checkpoint (R400, R401, R403, R417) -/

/-- A number of 64 bits as two words, least significant first. -/
def pairWords (v : BitVec 64) : List Word := [v.setWidth 32, (v >>> 32).setWidth 32]

/-- Output data as words, the last one filled up with zeros. -/
def dataWords (e : OutData) : List Word := wordsOfBytes ((e.data.length + 3) / 4) e.data

/-- The words of the compared set of a presentation, in the order of R396: the output image, retained variables, loop states, CYCLE with each
task's next segment and overrun state, forces and journal count, claims, COMPARED variables (log entry 202). -/
def Compared.words (c : Compared) (cp : Checkpoint) : List Word :=
  let tasks := (List.range 4).flatMap fun i => [BitVec.ofNat 32 (cp.segs.getD i 0), if c.late.getD i false then 1 else 0]
  cp.words.map (·.val) ++ (cp.station ++ cp.mail).flatMap dataWords ++ cp.retained.flatMap (fun e => pairWords e.2) ++ c.loops ++ c.cycle ++ tasks
    ++ c.forces ++ cp.claims.map (fun r => BitVec.ofNat 32 r) ++ cp.compared

/-- The checkpoint signature (R397). -/
def Compared.signature (c : Compared) (cp : Checkpoint) : BitVec 128 := wordsHash (c.words cp)

/-- What every Form's compared set has in common at B(k). -/
def Work.comparedNow (w : Work) : Compared :=
  let states (n : Nat) : List Word := let l := w.lp n; [l.istate, l.dstate, l.pvprev, l.spr, l.out, l.stat]
  { loops := ((List.range 64).filter fun n => w.lpOn n).flatMap states
    cycle := pairWords (BitVec.ofNat 64 w.cycle)
    late := (List.range 4).map fun i => w.flag TASK.STAT ⟨24 + i, 1⟩
    forces := w.x.task.forces.flatMap (fun e => [BitVec.ofNat 32 e.2.1, e.2.2]) ++ [BitVec.ofNat 32 w.x.task.journal.length] }

/-- Do two presentations agree? Under the fallback voter only the words are compared. -/
def Work.agreeing (w : Work) (a b : Shown) : Bool :=
  let words := decide (a.cp.words = b.cp.words) && decide (a.cp.station = b.cp.station) && decide (a.cp.mail = b.cp.mail)
  if w.flag PROCTOR.STAT PROCTOR.STAT_FALLBACK then words else words && decide (a.sig = b.sig)

/-- The presentations of the Forms that vote now. -/
def Work.votes (w : Work) : List Shown := w.x.proc.cps.filter fun e => decide (w.place e.form = plVoting)

/-- The bit-wise majority of three words. -/
def majority (a b c : Word) : Word := (a &&& b) ||| (a &&& c) ||| (b &&& c)
def majorityB (a b c : Byte) : Byte := (a &&& b) ||| (a &&& c) ||| (b &&& c)

/-- The value an image gives an address; 0 where it gives none. -/
def wordAt (l : List OutWord) (a : Nat) : Word := ((l.find? fun e => decide (e.addr = a)).map (·.val)).getD 0

/-- The data an image gives a station or mailbox; none where it gives none. -/
def dataAt (l : List OutData) (d : Nat) : List Byte := ((l.find? fun e => decide (e.dst = d)).map (·.data)).getD []

/-- The bit-wise majority of the output data of three images, for those of the first. -/
def majorityData (a b c : List OutData) : List OutData :=
  a.map fun e => { e with data := (e.data.zip ((dataAt b e.dst).zip (dataAt c e.dst))).map fun x => majorityB x.1 x.2.1 x.2.2 }

/-- The image that the fallback voter releases of three presentations (R417). -/
def fallbackImage (a b c : Checkpoint) : Checkpoint :=
  { a with words := a.words.map fun e => { e with val := majority e.val (wordAt b.words e.addr) (wordAt c.words e.addr) }
           station := majorityData a.station b.station c.station
           mail := majorityData a.mail b.mail c.mail }

/-- The agreement of the presentations made so far: its Forms, the image and its signature. -/
def Work.agreement (w : Work) : Option (List Nat × Checkpoint × BitVec 128) :=
  let vs := w.votes
  let n := w.voters.length
  let like (c : Shown) : List Nat := (vs.filter fun e => w.agreeing c e).map (·.form)
  match vs.find? fun e => decide (needed n ≤ (like e).length) with
  | some e => some (like e, e.cp, e.sig)
  | none =>
    if w.flag PROCTOR.STAT PROCTOR.STAT_FALLBACK = false then none
    else match vs with
      | [a, b, c] => let m := fallbackImage a.cp b.cp c.cp; some (like { a with cp := m }, m, w.x.proc.common.signature m)
      | _ => none

/-- Phase 4: the agreed image is released, once (R400, R403, R404). -/
def Work.tryRelease (w : Work) : Work :=
  if w.x.proc.isOpen = false ∨ w.x.proc.done then w
  else match w.agreement with
    | none => w
    | some (fs, c, sig) =>
      let t := ((w.x.proc.cps.getLast?).map fun e => e.cp.releaseTime).getD c.releaseTime
      let held := w.x.proc.held
      let w := w.procUpd fun s => { s with agree := fs, donor := fs, done := true, held := [], relHalf := 1 - s.relHalf }
      let w := w.renewPasses fs
      let w := if w.x.role = .duty ∧ w.flag PAIR.STAT PAIR.STAT_LINKUP then w.each (fs.take 1) fun w f => w.claim f 1024 else w
      w.release { c with releaseTime := t } sig held

/-- A latent divergence (R407). -/
def Work.latent (w : Work) (f : Nat) : Work :=
  let w := w.incSat PROCTOR.CNT1 PROCTOR.CNT1_LATENT
  let t := w.now
  let w := w.procUpd fun s => { s with lats := (s.lats.filter fun e => decide (t < e.2 + day24)) ++ [(f, t)] }
  let n := (w.x.proc.lats.filter fun e => decide (e.1 = f)).length
  let w := (w.put (FORM.FSTAT f) FORM.FSTAT_LAT24 (min n 255)).lastFault [f] 6
  let w := (w.evOccur proctorPage f PROCTOR.CNT1 0 (w.get PROCTOR.CNT1 PROCTOR.CNT1_LATENT)).irq proctorPage 17
  if 3 ≤ n then w.voteOut f 6 else w.procUpd fun s => { s with latNext := s.latNext ++ [f] }

/-- LAT24 counts 24 h (R425). -/
def Work.latAge (w : Work) : Work :=
  let t := w.now
  let live := w.x.proc.lats.filter fun e => decide (t < e.2 + day24)
  if live = w.x.proc.lats then w
  else
    let w := w.procUpd fun s => { s with lats := live }
    w.each allForms fun w f => w.put (FORM.FSTAT f) FORM.FSTAT_LAT24 (min (live.filter fun e => decide (e.1 = f)).length 255)

/-- The state hash over a loop's parameter RAM and loop states, which every lane holds alike (R325, R331, R405). -/
def Work.laneHash (w : Work) (n : Nat) : BitVec 128 :=
  let l := w.lp n
  let base := RAM.LCFG n
  let params := (List.range 23).map fun i => (base + 4 * i, w.rd (base + 4 * i))
  let states := [(RAM.LSTAT n, l.stat), (RAM.SPR n, l.spr), (RAM.OUT n, l.out), (RAM.ISTATE n, l.istate), (RAM.DSTATE n, l.dstate), (RAM.PVPREV n, l.pvprev)]
  (params ++ states).foldl (fun h e => h ^^^ hashWord e.1 e.2) 0

/-- The state hash of a Form (R405): its STATEFUL regions, with the lane's loop states and parameter RAM. -/
def Work.stateHash (w : Work) (f : Nat) : BitVec 128 :=
  (List.range 64).foldl (fun h n => h ^^^ w.laneHash n) (tabGet {} w.x.proc.mem f).hash

/-- Does Roll Call run at the checkpoint of this cycle (R406)? -/
def Work.rollDue (w : Work) : Bool := decide ((w.trun 0).relAt % 256 = 0)

/-- Roll Call (R406, R407): the state hashes by the agreement rule; no agreement is a split. -/
def Work.rollCall (w : Work) : Work :=
  let vs := w.votes
  let like (h : BitVec 128) : List Nat := (vs.filter fun e => decide (e.hash = h)).map (·.form)
  match vs.find? fun e => decide (needed w.voters.length ≤ (like e.hash).length) with
  | some e =>
    let odd := w.voters.filter fun f => !(like e.hash).contains f
    (w.put PROCTOR.RCSTAT PROCTOR.RCSTAT_ODD (maskOf odd)).each odd fun w f => w.latent f
  | none => (w.put PROCTOR.RCSTAT PROCTOR.RCSTAT_ODD (maskOf w.voters)).splitNow

/-- Phase 6: the window closes (R400, R412). `over`: it has ended; otherwise it closes when every voting Form has presented. -/
def Work.tryClose (w : Work) (last : Bool) : Work :=
  let s := w.x.proc
  let shown (f : Nat) : Bool := s.cps.any fun e => decide (e.form = f)
  if s.isOpen = false ∨ s.closed ∨ w.votes = [] ∨ (last = false ∧ (w.voters.all shown) = false) then w
  else
    let trail := (w.votes.map fun e => e.cp.trail).foldl max 0
    let w := w.put PROCTOR.CKSTAT PROCTOR.CKSTAT_SKEWLAST (min trail 65535)
    let w := w.put PROCTOR.CKSTAT PROCTOR.CKSTAT_SKEWMAX (max (w.get PROCTOR.CKSTAT PROCTOR.CKSTAT_SKEWMAX) (min trail 65535))
    if s.agree = [] then w.splitNow
    else
      let odd := w.voters.filter fun f => !s.agree.contains f
      let w := w.procUpd fun s => { s with closed := true, isOpen := false }
      let w := w.each odd fun w f => w.voteOut f (if shown f then 1 else 2)
      let w := match w.x.proc.rot with
        | some r => if r.is .handover then w.procUpd fun s => { s with rot := some { r with stage := .leave } } else w
        | none => w
      (if w.rollDue then w.rollCall else w).splitIfFew

/-- After a presentation or a vote-out the open checkpoint is judged anew. -/
def Work.judgeMain (w : Work) : Work := (w.tryRelease.tryClose false).splitIfFew

/-- What a Form presents: its checkpoint with the signature that its checkpoint unit computes and, at Roll Call, its state hash. -/
def Work.shownBy (w : Work) (form : Nat) (cp : Checkpoint) : Shown :=
  ⟨form, cp, w.x.proc.common.signature cp, if w.rollDue then w.stateHash form else 0⟩

/-- FORM_PRESENTATION (R395, R400, R401): in Run, of a voting Form, once a cycle. -/
def formPresentation (form : Nat) (cp : Checkpoint) (w : Work) : Work :=
  let s := w.x.proc
  if w.x.mode ≠ .run ∨ w.x.role = .standby ∨ w.pstate = psOut ∨ 4 ≤ form ∨ w.place form ≠ plVoting ∨ s.isOpen = false ∨ s.closed
      ∨ (s.cps.any fun e => decide (e.form = form)) then w
  else
    let n := min cp.trail 65535
    let w := (w.put (FORM.SKEW form) FORM.SKEW_LAST n).put (FORM.SKEW form) FORM.SKEW_MAX (max n (w.get (FORM.SKEW form) FORM.SKEW_MAX))
    let w := w.each cp.claims fun w r => if r < 768 then w.claim form r else w
    let w := w.procUpd fun s => { s with mem := tabSet s.mem form (cp.writes.foldl (FormMem.write · w.activeContent ·) (tabGet {} s.mem form)) }
    let new := w.shownBy form cp
    let w := w.procUpd fun s => { s with cps := s.cps ++ [new] }
    let w := w.procUpd fun s =>
      let like := s.cps.any fun e => s.agree.contains e.form && w.agreeing e new
      if s.done && like then { s with agree := s.agree ++ [form], donor := s.donor ++ [form] } else s
    w.judgeMain

/-- CHECKPOINT_WINDOW_CLOSE (R400): the window of the first presentation has ended. -/
def checkpointWindowClose (w : Work) : Work := if w.x.mode = .run ∧ w.x.role ≠ .standby then w.tryClose true else w

/-! Form faults (R408) -/

/-- UNCORR_ERROR (R83, R408, R409): class 4, for a Form that votes, holds or joins; its presentation of the cycle is discarded. -/
def uncorrError (form : Nat) (w : Work) : Work :=
  if w.alive = false ∨ 4 ≤ form ∨ (w.place form ≠ plVoting ∧ w.place form ≠ plJoining) then w
  else (w.voteOut form 4).judgeMain

/-- TRAP (R296, R408): a Form alone is voted out, class 3; every Form: the task's safe values. -/
def trap (i : Nat) (alone : Option Nat) (w : Work) : Work :=
  if 4 ≤ i ∨ w.x.mode ≠ .run ∨ w.x.role = .standby ∨ (w.trun i).running = false then w
  else match alone with
    | some f => if f < 4 ∧ w.place f = plVoting then (w.voteOut f 3).judgeMain else w
    | none => w.taskTrap i

/-! The lane checkpoint (R402, R331) -/

/-- The tick's destinations are released; a word withheld by a bank error keeps its last value (R404). -/
def Work.laneRelease (w : Work) : Work :=
  let held := w.x.proc.heldLane
  let go := w.x.ctl.staged.filter fun e => !held.contains e.1
  let w := w.upd fun x => { x with ctl := { x.ctl with released := true, dest := go.foldl (fun d e => tabSet d e.1 e.2) x.ctl.dest } }
  let w := w.procUpd fun s => { s with heldLane := [] }
  let w := w.each go fun w e => w.putForced (w.rd (RAM.OUTADR e.1)).toNat e.2
  let w := w.each w.x.ctl.stepped fun w n => w.lpShow n
  w.commandIslands.commandOutputs

/-- The lane checkpoint is judged; `over`: tLWIN has ended. -/
def Work.laneJudge (w : Work) (last : Bool) : Work :=
  let vs := w.voters
  let ok := vs.filter w.x.ctl.agree.contains
  let w := if w.x.ctl.released = false ∧ needed vs.length ≤ ok.length then w.laneRelease else w
  let seen (f : Nat) : Bool := w.x.ctl.agree.contains f || w.x.ctl.odd.contains f
  let out := vs.filter fun f => (w.x.ctl.released && w.x.ctl.odd.contains f) || (last && !seen f)
  let w := if last ∨ vs.all seen then w.upd fun x => { x with ctl := { x.ctl with isOpen := false, staged := [], stepped := [] } } else w
  if out = [] then w else (w.each out fun w f => w.voteOut f 5).judgeMain

/-- LANE_PRESENTATION: `agrees`: the lane's words are those the other lanes present. -/
def lanePresentation (form : Nat) (agrees : Bool) (w : Work) : Work :=
  let c := w.x.ctl
  if w.x.mode ≠ .run ∨ w.x.role = .standby ∨ 4 ≤ form ∨ w.place form ≠ plVoting ∨ c.isOpen = false ∨ c.agree.contains form ∨ c.odd.contains form then w
  else
    let w := w.upd fun x => { x with ctl := if agrees then { x.ctl with agree := x.ctl.agree ++ [form] } else { x.ctl with odd := x.ctl.odd ++ [form] } }
    w.laneJudge false

/-- LANE_WINDOW_END. -/
def laneWindowEnd (w : Work) : Work := if w.x.mode = .run ∧ w.x.role ≠ .standby ∧ w.x.ctl.isOpen then w.laneJudge true else w

/-! Delay banks (R403, R404) -/

/-- BANKnLOST. -/
def bankLost (b : Nat) : Fld := if b = 0 then PROCTOR.STAT_BANK0LOST else PROCTOR.STAT_BANK1LOST

/-- A bank is lost: its flag, BANK_LOST; both gives OUTPUT_PATH, Failed. -/
def Work.loseBank (w : Work) (b : Nat) : Work :=
  if w.flag PROCTOR.STAT (bankLost b) then w
  else
    let w := ((w.setFlag proctorPage noSub PROCTOR.STAT (bankLost b) true).irq proctorPage 20).blockFault proctorPage 2 5 true
    if w.flag PROCTOR.STAT (bankLost (1 - b)) then (w.pageReason proctorPage 4 3 true).fail 0x12 proctorPage
    else if w.get PROCTOR.STAT PROCTOR.STAT_BANK = b then w.procUpd fun s => { s with moveBank := true } else w

/-- BANK_ECC_ERROR. -/
def bankEccError (bank word : Nat) (uncorr : Bool) (w : Work) : Work :=
  if w.alive = false ∨ 2 ≤ bank ∨ 4096 ≤ word then w
  else
    let w := w.incSat PROCTOR.CNT2 PROCTOR.CNT2_BANKERR
    let w := w.evOccur proctorPage bank PROCTOR.CNT2 0 (w.get PROCTOR.CNT2 PROCTOR.CNT2_BANKERR)
    if uncorr = false then w
    else
      let w := w.lastFault [] 9
      let inUse := decide (w.get PROCTOR.STAT PROCTOR.STAT_BANK = bank)
      if inUse ∧ w.flag PROCTOR.STAT (bankLost (1 - bank)) then (w.pageReason proctorPage 4 3 true).fail 0x12 proctorPage
      else
        let stg := (1 - w.x.proc.relHalf) * 1984
        let w := if inUse = false then w
          else if stg ≤ word ∧ word < stg + 1984 then w.procUpd fun s => { s with held := s.held ++ [word - stg] }
          else if 3968 ≤ word ∧ word < 4032 then w.procUpd fun s => { s with heldLane := s.heldLane ++ [word - 3968] }
          else w
        let t := w.now
        let again := w.x.proc.bankErrs.any fun e => decide (e.1 = bank) && decide (t < e.2 + day24)
        let w := w.procUpd fun s => { s with bankErrs := (s.bankErrs.filter fun e => decide (t < e.2 + day24)) ++ [(bank, t)] }
        if again then w.loseBank bank else w

/-! Proctor's rails (R416, R417) -/

/-- A swap is chosen: S is the next boundary (R445). -/
def Work.swapBegin (w : Work) (cold : Bool) (why : Nat) : Work :=
  let s : Swap := ⟨cold, 0, w.cycle + 1, why, false⟩
  w.pairUpd fun p => { p with swap := some s }

/-- RAIL_DISAGREE: the checkpoint is withheld, and the fallback voter takes over from the next one; a Duty with a ready partner
starts a swap at once (R447). -/
def railDisagree (w : Work) : Work :=
  if w.alive = false ∨ w.serves = false ∨ w.flag PROCTOR.STAT PROCTOR.STAT_FALLBACK ∨ w.x.proc.fbNext then w
  else
    let w := (w.lastFault [] 8).blockFault proctorPage 1 4 true
    if w.x.proc.voterBad then (w.pageReason proctorPage 4 3 true).fail 0x12 proctorPage
    else
      let s := w.x.proc
      let w := if s.isOpen ∧ s.done = false then
          let ts := match s.cps with
            | e :: _ => e.cp.tasks
            | [] => [0]
          let w := w.procUpd fun s => { s with withheld := true, done := true, closed := true, isOpen := false, held := [] }
          w.each ts fun w i => (w.trunSet i fun r => { r with running := false, consec := 0 }).setFlag taskPage i TASK.STAT ⟨24 + i, 1⟩ false
        else w
      let w := (w.procUpd fun s => { s with fbNext := true }).upd fun x => { x with ctl := { x.ctl with isOpen := false, staged := [] } }
      if w.x.role = .duty ∧ w.pstate = psDuty ∧ w.partnerReady ∧ w.x.pair.swap = none then w.swapBegin false 4 else w

/-- The fallback voter takes its place: three Forms vote, the fourth goes on recess. -/
def Work.fallbackOn (w : Work) : Work :=
  let w := ((w.procUpd fun s => { s with fbNext := false }).setFlag proctorPage noSub PROCTOR.STAT PROCTOR.STAT_FALLBACK true).irq proctorPage 19
  let w := match w.x.proc.rot with
    | some r => if r.is .test then w else w.rotAbandon 0x82
    | none => w
  (w.each (w.voters.drop 3) fun w f => w.setPlace f plIdle).procShow

/-! Recess (R412, R423) -/

/-- May a rotation begin now: Recess runs, a Form is idle, and nothing that R412 names is in progress? -/
def Work.rotReady (w : Work) : Bool :=
  w.recessRuns && decide (w.x.proc.rot = none) && decide (w.x.proc.resync = []) && !w.flag PROCTOR.STAT PROCTOR.STAT_SPLIT
    && !w.opBusy bistPage && !w.x.proc.fbNext && decide (w.formsIn plIdle ≠ []) && decide (w.pstate ≠ psOut)

/-- A rotation begins: the voting Form tested longest ago goes out, the Form on recess comes in. -/
def Work.rotBegin (w : Work) (host : Bool) : Work :=
  let t (f : Nat) : Nat := w.rd64 (FORM.LASTTEST f) (FORM.LASTTESTH f)
  match w.voters, w.formsIn plIdle with
  | v :: vs, f :: _ =>
    let outg := vs.foldl (fun b g => if t g < t b then g else b) v
    let r : Rotation := ⟨f, outg, .resync, host⟩
    (w.procUpd fun s => { s with rot := some r }).beginResync f
  | _, _ => w

/-- ROTATION_DUE: its coming says that RECPER hours have passed (log entry 103). -/
def rotationDue (w : Work) : Work := if w.alive ∧ w.rotReady then w.rotBegin false else w

/-- RECESS_NOW. -/
def recessNow (p : Party) (arg : Nat) (w : Work) : Work :=
  w.startOp p proctorPage 2 [.held, .ready, .run, .hold] true fun w =>
    if arg ≠ 0 then w.refuse proctorPage rejRange
    else if w.rotReady then (w.opBegin p proctorPage 1 arg []).rotBegin true
    else w.opNow p proctorPage 1 arg opFailed 0x80

/-- RECESS_NOW ends by an abort or a time-out: an abort takes the rotation back, the incoming Form to RECESS_IDLE. -/
def Work.recessStop (w : Work) (state reason : Nat) : Work :=
  match w.x.proc.rot with
  | some r =>
    if state = opAborted ∧ (r.is .resync ∨ r.is .handover) ∧ r.host then
      let w := w.procUpd fun s => { s with rot := none, resync := s.resync.filter fun e => decide (e.1 ≠ r.inc) }
      ((w.setPlace r.inc plIdle).copyFree).opEnd proctorPage state reason
    else if state = opAborted then w
    else (w.procUpd fun s => { s with rot := some { r with host := false } }).opEnd proctorPage state reason
  | none => w.opEnd proctorPage state reason

/-- RECESS_TEST_END (R82, R393, R408, R412). -/
def recessTestEnd (form : Nat) (lbist : Bool) (faults : List MemFault) (w : Work) : Work :=
  if w.alive = false ∨ 4 ≤ form ∨ w.place form ≠ plTest ∨ w.x.role = .standby then w
  else
    let r := w.formTest form lbist faults
    let w := r.1
    let w := match w.x.proc.rot with
      | some q =>
        if q.is .test ∧ q.outg = form then
          let w := w.incSat PROCTOR.CNT3 PROCTOR.CNT3_ROTATIONS
          (w.evOccur proctorPage noSub PROCTOR.CNT3 16 (w.get PROCTOR.CNT3 PROCTOR.CNT3_ROTATIONS)).rotEnd opDone 0
        else w
      | none => w
    if r.2 then ((w.setPlace form plIdle).outEnd form).refill [] else (w.excludeForm form).outEnd form

/-- RESYNC_PASS_COMPLETE (R409, R410): `clean`: no line of it has been written since. -/
def resyncPassComplete (form dur : Nat) (clean : Bool) (w : Work) : Work :=
  if w.alive = false ∨ (w.x.proc.resync.any fun e => decide (e.1 = form) && !e.2.2) = false then w
  else
    let w := (w.incSat (FORM.RESYNC form) FORM.RESYNC_PASSES).put (FORM.RESYNC form) FORM.RESYNC_DUR (min dur 0xFF_FFFF)
    let w := w.detail (formPage form) noSub (FORM.RESYNC form) 24 (w.get (FORM.RESYNC form) FORM.RESYNC_PASSES)
    if clean ∨ w.x.mode ≠ .run then w.procUpd fun s => { s with resync := s.resync.map fun e => if e.1 = form then (e.1, e.2.1, true) else e } else w

/-! Split tests end (R411) -/

/-- SPLIT_TESTS_DONE: `passed`: the Forms whose tests pass. -/
def splitTestsDone (passed : List Nat) (w : Work) : Work :=
  if w.alive = false ∨ w.flag PROCTOR.STAT PROCTOR.STAT_SPLIT = false then w
  else
    let sf := w.formsIn plSplit
    let w := w.each sf fun w f =>
      if passed.contains f then ((w.formStat f 0 true).formStat f 1 true).testedNow f else w.setPlace f plExcluded
    let ok := sf.filter passed.contains
    if ok.length + (w.formsIn plIdle).length < 3 then w.fail 0x11 proctorPage
    else
      let said := ok.map fun f => (w.x.proc.split.find? fun e => decide (e.1 = f)).bind (·.2)
      let same := match said with
        | some c :: t => t.all fun d => match d with
          | some d => w.agreeing c d
          | none => false
        | _ => false
      let w := (w.procUpd fun s => { s with split := [] }).setFlag proctorPage noSub PROCTOR.STAT PROCTOR.STAT_SPLIT false
      let w := w.closeEpisode 3 w.anyExcluded
      let n := if w.quadOn then 4 else 3
      let w := w.each (ok.take n) fun w f => w.setPlace f plVoting
      let w := w.each (ok.drop n) fun w f => w.setPlace f plIdle
      let w := if w.x.role ≠ .standby ∧ w.pstate ≠ psOut ∧ (w.x.mode = .run ∨ w.x.mode = .hold) then
          (if same then w.ctlRun 0 else (w.startProgram 1).runFigures) else w
      w.procShow.refill []

/-! At a main boundary (R400, R407, R409, R412) -/

/-- Before the boundary: a window that is still open ends. -/
def Work.procWindowEnds (w : Work) : Work := if w.x.mode = .run ∧ w.x.role ≠ .standby then w.tryClose true else w

/-- A Form whose pass is complete holds the donor's STATEFUL regions and votes from this boundary; outside Run and Hold a rotation exchanges places at once. -/
def Work.procJoin (w : Work) : Work :=
  let swift := decide (w.x.mode ≠ .run) && decide (w.x.mode ≠ .hold)
  let inc := match w.x.proc.rot with
    | some r => if r.is .resync then some r.inc else none
    | none => none
  let ready := w.x.proc.resync.filter fun e => e.2.2 || (swift && decide (inc = some e.1))
  w.each (ready.map fun e => (e.1, e.2.1)) fun w e =>
    let f := e.1
    let w := (w.procUpd fun s => { s with resync := s.resync.filter (fun e => decide (e.1 ≠ f)), mem := tabSet s.mem f (tabGet {} s.mem e.2) }).copyFree
    let w := w.setPlace f plVoting
    match w.x.proc.rot with
    | some r =>
      if r.inc = f ∧ r.is .resync then
        if w.x.mode = .run then w.procUpd fun s => { s with rot := some { r with stage := .handover } }
        else ((w.procUpd fun s => { s with rot := some { r with stage := .test } }).setPlace r.outg plTest).revoke r.outg
      else w
    | none => w

/-- What Proctor does at a boundary, before tasks are released. -/
def Work.procBoundary (w : Work) : Work :=
  let w := if w.x.proc.fbNext then w.fallbackOn else w
  let w := if w.x.proc.moveBank then
      ((w.procUpd fun s => { s with moveBank := false }).setState proctorPage noSub PROCTOR.STAT PROCTOR.STAT_BANK (1 - w.get PROCTOR.STAT PROCTOR.STAT_BANK)).irq proctorPage 20
    else w
  let w := w.each w.x.proc.latNext fun w f => match w.donorNow with
    | some _ =>
      let w := w.procUpd fun s => { s with donor := s.donor.filter (fun g => decide (g ≠ f)) }
      ((w.setPlace f plJoining).revoke f).beginResync f
    | none => w
  let w := w.procUpd fun s => { s with latNext := [] }
  let w := match w.x.proc.rot with
    | some r =>
      if r.is .leave then
        let w := w.procUpd fun s => { s with rot := some { r with stage := .test } }
        if w.place r.outg = plVoting then (w.setPlace r.outg plTest).revoke r.outg else w
      else w
    | none => w
  let w := w.procJoin
  let many := decide (w.x.proc.rot = none) && !w.quadOn
  let w := if many then w.each (w.voters.drop 3) fun w f => w.setPlace f plIdle else w
  let w := if w.flag PROCTOR.STAT PROCTOR.STAT_SPLIT then w else w.refill []
  let w := w.put PROCTOR.RCSTAT PROCTOR.RCSTAT_TOGO ((256 - w.cycle % 256) % 256)
  w.procShow

/-- The checkpoint of the cycle opens as T0 is released; what the Forms' compared sets have in common is taken then (log entry 202). -/
def Work.procOpen (w : Work) : Work :=
  let c := w.comparedNow
  w.procUpd fun s => { s with isOpen := true, common := c, cps := [], agree := [], done := false, closed := false, withheld := false }

end Sys2Proof.Machine
end

