-- ==== Sys2Proof/Machine/Pair.lean ====
section
/-! DEFINITION. Redundant pair and fail-over (chapter 13): the link and the mirror, the Standby, claims, takeovers, yields, planned
swaps and returns. -/

namespace Sys2Proof.Machine

/-! What a module knows of its partner -/

def Work.paired (w : Work) : Bool := w.flag PAIR.CFG PAIR.CFG_PAIRED
def Work.linkUp (w : Work) : Bool := w.flag PAIR.STAT PAIR.STAT_LINKUP
def Work.pnode (w : Work) : Nat := w.get PAIR.CFG PAIR.CFG_PNODE
def Work.ownLayout (w : Work) : Word := w.activeContent.layout
def Work.mage (w : Work) : Nat := w.get PAIR.MIRST PAIR.MIRST_MAGE
def Work.isStandby (w : Work) : Bool := decide (w.x.role = .standby)
def Work.isDuty (w : Work) : Bool := decide (w.x.role = .duty) && decide (w.pstate = psDuty)
def Work.inService (w : Work) : Bool := decide (w.x.mode = .ready) || decide (w.x.mode = .run) || decide (w.x.mode = .hold)

/-- tLOST of the partner, in ms: three main periods and 2 ms (R23, R24). -/
def Work.tLost (w : Work) : Nat := 3 * w.get TASK.MAIN TASK.MAIN_P0 + 2

/-- The module that acts as preferred in claim and epoch ties (R428). -/
def Work.preferred (w : Work) : Bool :=
  if w.flag PAIR.STAT PAIR.STAT_PREFCONFLICT then decide (w.node < w.pnode) else w.flag PAIR.CFG PAIR.CFG_PREF

/-- The state of the Duty that the module hears, on the pair link or on either trunk. -/
def Work.dutyState (w : Work) : Option Nat :=
  let ofHb (h : Option Heartbeat) : Option Nat := match h with
    | some h => if h.role = 1 then some h.state else none
    | none => none
  let link : Option Nat := match w.x.pair.peer with
    | some p => if w.linkUp ∧ p.role = 1 then some p.state else none
    | none => none
  (link.or (ofHb (w.seen? 0 w.pnode))).or (ofHb (w.seen? 1 w.pnode))

/-- A trunk on which the module is not isolated: not bus-off, not lone, and an own frame acknowledged since the partner's last
heartbeat there (R441). -/
def Work.trkQualifies (w : Work) (t : Nat) : Bool :=
  w.trkSends t && decide (w.trkState t ≠ tsBusoff) && !w.flag (TRK.STAT t) TRK.STAT_LONE && (w.trk t).ackSince

/-- The Duty is flagged lost on a trunk, and the trunk qualifies. -/
def Work.evidence (w : Work) (t : Nat) : Bool :=
  w.isStandby && w.x.pair.dutyAt.isSome && (w.seen? t w.pnode).isNone && w.trkQualifies t

/-- No own frame has been acknowledged on a trunk for tLOST. -/
def Work.noAck (w : Work) (t : Nat) : Bool := match (w.trk t).lastAck with
  | some a => decide (a + w.tLost ≤ w.now)
  | none => true

/-! STAT and what follows from it (R437, R441, R446, R454) -/

/-- PSEENA, PSEENB, EVA, EVB, ISOLATED and SPLITRISK. -/
def Work.pairSee (w : Work) : Work :=
  let s := PAIR.STAT
  if w.paired = false then w
  else
    let seenA := (w.seen? 0 w.pnode).isSome
    let seenB := (w.seen? 1 w.pnode).isSome
    let w := (w.putB s PAIR.STAT_PSEENA seenA).putB s PAIR.STAT_PSEENB seenB
    let w := (w.putB s PAIR.STAT_EVA (w.evidence 0)).putB s PAIR.STAT_EVB (w.evidence 1)
    let down := !w.linkUp
    let role (t : Nat) : Option Nat := (w.seen? t w.pnode).map (·.role)
    let iso := if w.x.role = .duty then down && w.noAck 0 && w.noAck 1 && !w.flag PAIR.PEER PAIR.PEER_PCLAIM
      else w.isStandby && down && !seenA && !seenB && !w.trkQualifies 0 && !w.trkQualifies 1
    let rise := iso && !w.flag s PAIR.STAT_ISOLATED
    let w := (w.setFlag pairPage noSub s PAIR.STAT_ISOLATED iso).when rise fun w => w.irq pairPage 19
    let want := if w.x.role = .duty then 2 else 1
    let risk := down && (w.x.pair.lostAt.isSome || w.flag s PAIR.STAT_LINKBAD) && decide (w.x.role ≠ .solo)
      && (decide (role 0 = some want) || decide (role 1 = some want))
    let rise := risk && !w.flag s PAIR.STAT_SPLITRISK
    let w := w.setFlag pairPage noSub s PAIR.STAT_SPLITRISK risk
    w.when rise fun w => (w.incSat PAIR.CNT2 PAIR.CNT2_SPLITRISK).irq pairPage 17

/-- Do the conditions of R446 hold? -/
def Work.settleOk (w : Work) : Bool :=
  w.flag PAIR.CFG PAIR.CFG_PREF && w.flag PAIR.CFG PAIR.CFG_AUTORET && !w.flag PAIR.STAT PAIR.STAT_PREFCONFLICT && w.isStandby
    && decide (w.pstate = psReady) && decide (w.moduleHealth.2 ≤ 1) && w.linkUp && decide (w.dutyState.isSome) && decide (w.x.pair.swap = none)

/-- SETREM (R446). -/
def Work.settleShow (w : Work) : Work :=
  if w.settleOk then
    let from' := w.x.pair.settleFrom.getD w.now
    let n := (from' + 60000 * w.get PAIR.CFG PAIR.CFG_SETTLE - w.now + 59999) / 60000
    (w.pairUpd fun p => { p with settleFrom := some from' }).put PAIR.SETREM PAIR.SETREM_M n
  else
    let w := w.pairUpd fun p => { p with settleFrom := none }
    if w.get PAIR.SETREM PAIR.SETREM_M = 0xFFFF then w else w.put PAIR.SETREM PAIR.SETREM_M 0xFFFF

/-- STBYRDY takes a level. -/
def Work.setReady (w : Work) (b : Bool) : Work :=
  if w.flag PAIR.STAT PAIR.STAT_STBYRDY = b then w else (w.setFlag pairPage noSub PAIR.STAT PAIR.STAT_STBYRDY b).irq pairPage 18

/-- STBYRDY, CLAIMABLE and the state that follows (R437, R439). While the link is lost STBYRDY keeps its value. -/
def Work.stbyEval (w : Work) : Work :=
  if w.isStandby = false then
    let w := w.setReady false
    if w.flag PAIR.STAT PAIR.STAT_CLAIMABLE then w.putB PAIR.STAT PAIR.STAT_CLAIMABLE false else w
  else if w.pstate = psTaking then w
  else
    let all := w.inService && decide (3 ≤ w.voters.length) && decide (w.x.pair.peerLayout = some w.ownLayout)
      && decide (w.mage ≤ w.get PAIR.CFG PAIR.CFG_MIRAGE)
    let rdy := if w.linkUp then all else w.flag PAIR.STAT PAIR.STAT_STBYRDY
    let w := w.setReady rdy
    let w := w.putB PAIR.STAT PAIR.STAT_CLAIMABLE
      (rdy || (w.flag PAIR.CFG PAIR.CFG_COLDTAKE && w.inService && decide ((w.formsIn plExcluded).length ≤ 1)))
    let want := if rdy then psReady else psCold
    let w := if w.pstate = want then w else
      let t := w.now
      (w.setPstate want).pairUpd fun p => { p with enteredAt := t }
    w.settleShow

/-! Forms of a Standby (R436) -/

/-- A tested Form is refilled and takes the place of the holding Form tested longest ago, which then starts its own test; with fewer
than three holding it only fills the place. -/
def Work.standbyRotate (w : Work) : Work :=
  if w.isStandby = false then w
  else match w.formsIn plIdle ++ w.formsIn plJoining with
    | [] => w
    | f :: _ =>
      let t (g : Nat) : Nat := w.rd64 (FORM.LASTTEST g) (FORM.LASTTESTH g)
      let w := w.procUpd fun s => { s with resync := [] }
      let holding := w.voters
      let w := (w.setPlace f plJoining).setPlace f plVoting
      match holding with
      | g :: gs =>
        if holding.length < 3 then w
        else w.setPlace (gs.foldl (fun b h => if t h < t b then h else b) g) plTest
      | [] => w

/-! Changes of role (R439 to R445) -/

/-- The module takes a role and a pair state, for a reason (LASTCHG). -/
def Work.takeRole (w : Work) (r : Role) (ps why : Nat) : Work :=
  let w := w.upd fun x => { x with role := r }
  let w := (w.setState 0x000 noSub SYS.STATE SYS.STATE_ROLE (roleCode r)).setPstate ps
  let w := if why = 0 then w else
    (w.wr PAIR.LASTCHG (BitVec.ofNat 32 (why * 2 ^ 28 + w.cycle % 2 ^ 24))).evValue pairPage noSub PAIR.LASTCHG 28 why
  (((w.irq pairPage 16).slateRequest 1).procShow).pairSee

/-- Everything that follows a role follows it (R124, R168, R223, R379). -/
def Work.roleFollows (w : Work) : Work := ((((w.hartRoleChange).commandIslands).commandOutputs).belMode).lanternShow

/-- Step 1 of R442. -/
def Work.epochUp (w : Work) : Work := w.wr PAIR.EPOCH (BitVec.ofNat 32 (max (w.rd PAIR.EPOCH).toNat w.x.pair.peerEpoch + 1))

/-- A Standby follows its Duty's state, or shows Ready while it hears none (R435). -/
def Work.follow (w : Work) : Work :=
  if w.isStandby = false ∨ w.x.img.activeOk = false ∨ w.flag SYS.STATE SYS.STATE_PERMIT = false ∨ w.pstate = psTaking
      ∨ (w.inService = false ∧ w.x.mode ≠ .held) then w
  else
    let go (m : Mode) (why : Nat) : Work := if w.x.mode = m then w else (w.toMode m why).procShow
    match w.dutyState with
    | some 4 => if w.x.mode = .held then w.put SYS.STATE SYS.STATE_HELDWHY whyPartner else go .held whyPartner
    | some 5 => go .ready 0
    | some 6 => go .run 0
    | some 7 => go .hold 0
    | some _ => w
    | none => go .ready 0

/-- The module becomes Standby: on leaving Image check, by a yield, or at the end of SWAP_OUT. -/
def Work.becomeStandby (w : Work) (why : Nat) : Work :=
  let t := w.now
  let w := w.when (decide (w.x.mode = .run) || decide (w.x.mode = .hold)) fun w => w.put TASK.STAT TASK.STAT_STOPWHY 4
  let w := w.discardTasks.taskUpd fun s => { s with run := [] }
  let w := w.upd fun x => { x with ctl := { x.ctl with isOpen := false, staged := [] }, loops := { x.loops with coldWait := false } }
  let w := w.pairUpd fun p => { p with enteredAt := t, swap := none, yielding := none, claiming := false, mirror := {}, matched := {},
                                       based := true, peerLayout := none, warm := false, relinq := false, settleFrom := none }
  let w := (w.putB PAIR.STAT PAIR.STAT_MATCH false).put PAIR.MIRST PAIR.MIRST_MAGE 255
  let w := w.takeRole .standby psCold why
  let w := w.when (w.linkUp) fun w => w.send .baseRequest
  let w := w.follow.roleFollows
  w.standbyRotate.stbyEval

/-- A mirrored register word is put in force as the new Duty's own (R137, R227, R379): Belfry's are in place already. -/
def Work.takeWord (w : Work) (a : Nat) (v : Word) : Work :=
  match kindOf (a / 4096) with
  | .belfry => w
  | .pt => w
  | .ram => w.wr a v
  | .ctleng => w.wr a v
  | _ =>
    let w := if w.activeContent.owners.any fun o => decide (o.1 = a) then w.taskUpd fun t => { t with outImg := tabSet t.outImg a v } else w
    w.putForced a v

/-- The loop states that the mirror has brought (R333). -/
def Work.takeLoops (w : Work) (l : List (Nat × Word)) : Work :=
  let here (n : Nat) : Bool := l.any fun e => decide (kindOf (e.1 / 4096) = .ram) && decide (RAM.LCFG n ≤ e.1) && decide (e.1 < RAM.LCFG (n + 1))
  w.each ((List.range 64).filter here) fun w n =>
    w.lpSet n fun q => { q with mode := w.get (RAM.LSTAT n) RAM.LSTAT_MODE, pvq := w.get (RAM.LSTAT n) RAM.LSTAT_PVQ,
                                flags := w.get (RAM.LSTAT n) ⟨16, 9⟩, spr := w.rd (RAM.SPR n), istate := w.rd (RAM.ISTATE n),
                                dstate := w.rd (RAM.DSTATE n), pvprev := w.rd (RAM.PVPREV n), out := w.rd (RAM.OUT n),
                                req := w.get (OPV.MODEREQ n) OPV.MODEREQ_MODE }

/-- The warm start of a takeover or swap, from the last matched checkpoint (R442, R445). -/
def Work.warmTakeover (w : Work) : Work :=
  let m := w.x.pair.matched
  let vars := m.journal.foldl olcEntry (setVars w.initVars m.vars)
  let w := (w.taskUpd fun t => { t with run := [], vars := vars, journal := m.journal }).formsStart
  let w := ((w.setForces m.forces).put TASK.OLCSTAT TASK.OLCSTAT_JCOUNT m.journal.length).put TASK.STAT TASK.STAT_STARTKIND 1
  let w := w.each m.words fun w e => w.takeWord e.1 e.2
  ((w.takeLoops m.words).runFigures.belTakeover.ctlRun 1).tickClear

/-- The cold start of a takeover or swap: outputs follow the first release (R442, R445). -/
def Work.coldTakeover (w : Work) : Work :=
  let w := w.upd fun x => { x with loops := { x.loops with coldWait := true } }
  if w.x.mode = .run ∨ w.x.mode = .hold then (w.startProgram 2).runFigures.tickClear else w

/-- The Standby becomes Duty at a boundary. -/
def Work.becomeDuty (w : Work) (why : Nat) (warm : Bool) : Work :=
  let w := w.takeRole .duty psDuty why
  let w := (w.pairUpd fun p => { p with swap := none, claiming := false, warm := false, relinq := false, yielding := none }).setReady false
  let w := w.putB PAIR.STAT PAIR.STAT_CLAIMABLE false
  let w := if warm then w.warmTakeover else w.coldTakeover
  let w := (w.iosUpd fun s => { s with uncertain := true }).each (w.formsIn plTest) fun w f => (w.setPlace f plIdle).outEnd f
  (w.procShow.refill []).roleFollows.settleShow

/-! The link (R428 to R430) -/

/-- The partner's presence or health changes: PEER, and a new instance of point 1018 (R373, R452). -/
def Work.peerChanged (w : Work) : Work := (w.irq pairPage 20).newInstance 1018

/-- The partner's health class and claim, as a message shows them. -/
def Work.peerTake (w : Work) (state health role : Nat) : Work :=
  let old := w.get PAIR.PEER PAIR.PEER_PHEALTH
  let w := ((w.put PAIR.PEER PAIR.PEER_PSTATE state).put PAIR.PEER PAIR.PEER_PHEALTH health).put PAIR.PEER PAIR.PEER_PROLE role
  w.when (decide (old ≠ w.get PAIR.PEER PAIR.PEER_PHEALTH)) fun w => w.peerChanged

/-- A Duty has been heard now. -/
def Work.dutyHeard (w : Work) : Work :=
  let t := w.now
  w.pairUpd fun p => { p with dutyAt := some t, swap := p.swap.map fun s => { s with heard := true } }

/-- LANEnUP. -/
def laneUp (n : Nat) : Fld := if n = 0 then PAIR.STAT_LANE0UP else PAIR.STAT_LANE1UP

/-- The bytes of a pair heartbeat (R430). -/
def pairHbBytes (h : PairHb) : List Byte :=
  let body := bytesOfNat 1 h.node ++ bytesOfNat 1 h.role ++ bytesOfNat 1 h.state ++ bytesOfNat 1 (h.health % 4 + if h.claimable then 4 else 0)
    ++ bytesOfNat 4 h.epoch ++ bytesOfNat 4 h.cycle ++ bytesOfNat 4 h.phase
  body ++ bytesOfWord (crc32 body)

/-- The heartbeat that twenty bytes are; none where CHECK is wrong. -/
def pairHbOf (bs : List Byte) : Option PairHb :=
  let n := leAt bs
  if bs.length = 20 ∧ crc32 (bs.take 16) = BitVec.ofNat 32 (n 16 4) then
    some ⟨n 0 1, n 1 1, n 2 1, n 3 1 % 4, (n 3 1).testBit 2, n 4 4, n 8 4, n 12 4⟩
  else none

/-- PAIR_HEARTBEAT_TX. -/
def pairHeartbeatTx (w : Work) : Work :=
  if w.alive = false ∨ w.paired = false then w
  else w.send (.pairHeartbeat (pairHbBytes ⟨w.node, roleCode w.x.role, modeCode w.x.mode, w.moduleHealth.2, w.flag PAIR.STAT PAIR.STAT_CLAIMABLE,
    (w.rd PAIR.EPOCH).toNat, (w.rd TASK.CYCLE).toNat, Config.phase w.now⟩))

/-- A valid heartbeat of the partner on a lane. -/
def Work.pairHeard (w : Work) (lane : Nat) (hb : PairHb) : Work :=
  let w := w.setFlag pairPage lane PAIR.STAT (laneUp lane) true
  if w.linkUp = false then w
  else
    let w := w.pairUpd fun p => { p with peer := some hb, peerEpoch := max p.peerEpoch hb.epoch }
    let w := (w.peerTake hb.state hb.health hb.role).putB PAIR.PEER PAIR.PEER_PCLAIM hb.claimable
    let w := w.put PAIR.PEER PAIR.PEER_PAGE 0
    let w := if hb.role = 1 then
        let w := w.dutyHeard
        if w.isStandby ∧ w.rd TASK.CYCLE ≠ BitVec.ofNat 32 hb.cycle then w.wr TASK.CYCLE (BitVec.ofNat 32 hb.cycle) else w
      else w
    w.follow.stbyEval

/-- PAIR_HEARTBEAT_RX: bytes that are no valid heartbeat change nothing. -/
def pairHeartbeatRx (lane : Nat) (bytes : List Byte) (w : Work) : Work :=
  if w.alive = false ∨ w.paired = false ∨ 2 ≤ lane then w
  else match pairHbOf bytes with
    | some hb => w.pairHeard lane hb
    | none => w

/-- PAIR_LINK_UP: the identities are exchanged; the link is accepted only where each names the other. -/
def pairLinkUp (node serial pnode : Nat) (pref : Bool) (w : Work) : Work :=
  if w.alive = false ∨ w.paired = false ∨ w.linkUp then w
  else if node ≠ w.pnode ∨ pnode ≠ w.node then
    (w.evValue pairPage noSub PAIR.STAT 23 serial).setFlag pairPage noSub PAIR.STAT PAIR.STAT_LINKBAD true
  else
    let w := w.setFlag pairPage noSub PAIR.STAT PAIR.STAT_LINKBAD false
    let w := w.setFlag pairPage noSub PAIR.STAT PAIR.STAT_PREFCONFLICT (decide (pref = w.flag PAIR.CFG PAIR.CFG_PREF))
    let w := (w.setFlag pairPage noSub PAIR.STAT PAIR.STAT_LINKUP true).pairUpd fun p => { p with lostAt := none, based := true }
    let w := w.put PAIR.PEER PAIR.PEER_PAGE 0
    let w := if w.isDuty then w.send (.mirrorBase w.cycle) else w
    (w.peerChanged.pairSee).stbyEval

/-- PAIR_LINK_LOST. -/
def pairLinkLost (w : Work) : Work :=
  if w.linkUp = false then w
  else
    let t := w.now
    let age := w.mage
    let w := (w.setFlag pairPage noSub PAIR.STAT PAIR.STAT_LINKUP false).pairUpd fun p => { p with lostAt := some t, lostAge := age, peer := none }
    let w := (w.setFlag pairPage 0 PAIR.STAT PAIR.STAT_LANE0UP false).setFlag pairPage 1 PAIR.STAT PAIR.STAT_LANE1UP false
    let w := w.putB PAIR.STAT PAIR.STAT_MATCH false
    let w := if w.pstate ≠ psOut ∧ w.x.pair.swap ≠ none then (w.pairUpd fun p => { p with swap := none }).opEnd pairPage opFailed 0x81
      else if w.pstate ≠ psOut then w.opEnd pairPage opFailed 0x81 else w
    (w.peerChanged.pairSee).follow.stbyEval

/-- PAIR_LANE_LOST. -/
def pairLaneLost (lane : Nat) (w : Work) : Work :=
  if w.alive = false ∨ 2 ≤ lane then w else w.setFlag pairPage lane PAIR.STAT (laneUp lane) false

/-! The mirror (R431 to R433) -/

/-- A set that arrives upon one that is held. -/
def mirrorOver (m old : MirrorSet) : MirrorSet :=
  { words := m.words ++ old.words.filter fun e => !(m.words.any fun f => decide (f.1 = e.1))
    vars := m.vars ++ old.vars.filter fun e => !(m.vars.any fun f => decide (f.1 = e.1))
    forces := m.forces
    journal := m.journal
    set := m.set ++ old.set.filter fun e => !(m.set.any fun f => decide (f.1 = e.1)) }

/-- The signature over a holding Form's copy of the compared set (R397, R432). -/
def mirrorSig (m : MirrorSet) : BitVec 128 :=
  wordsHash ((List.range (m.set.foldl (fun n e => max n (e.1 + 1)) 0)).map fun i => tabGet 0 m.set i)

/-- MIRROR_DELTA: a complete delta or base copy, closed by the Duty's cycle, layout identity and signature, which the holding Forms' own must
equal. A Standby's force table is the mirrored one (R304). -/
def mirrorDelta (cycle : Nat) (layout : Word) (sig : BitVec 128) (kib : Nat) (m : MirrorSet) (w : Work) : Work :=
  if w.alive = false ∨ w.isStandby = false ∨ w.linkUp = false ∨ w.pstate = psTaking then w
  else
    let k := min kib 4095
    let w := (w.put PAIR.MIRST PAIR.MIRST_DLAST k).put PAIR.MIRST PAIR.MIRST_DMAX (max k (w.get PAIR.MIRST PAIR.MIRST_DMAX))
    let w := w.pairUpd fun p => { p with peerLayout := some layout }
    if layout ≠ w.ownLayout then (w.putB PAIR.STAT PAIR.STAT_MATCH false).stbyEval
    else
      let w := w.pairUpd fun p => { p with mirror := mirrorOver m p.mirror }
      let bel := m.words.filter fun e => decide (kindOf (e.1 / 4096) = .belfry)
        || (decide (kindOf (e.1 / 4096) = .pt) && decide (e.1 < PT.PCFG 1008))
      let w := w.each bel fun w e => w.wr e.1 e.2
      let w := if bel = [] then w else (w.belMirrored.belPublish).lanternPub.lanternShow
      if mirrorSig w.x.pair.mirror = sig then
        let w := w.pairUpd fun p => { p with matched := p.mirror, matchCycle := cycle, based := false }
        let w := if w.x.task.forces = m.forces then w else w.setForces m.forces
        let w := (w.put PAIR.MIRST PAIR.MIRST_MAGE 0).putB PAIR.STAT PAIR.STAT_MATCH true
        let w := if w.opBusy pairPage ∧ w.get (HDR.OPSTAT pairPage) HDR.OPSTAT_OP = 2 then w.opEnd pairPage opDone 0 else w
        w.stbyEval
      else
        let w := (w.putB PAIR.STAT PAIR.STAT_MATCH false).pairUpd fun p => { p with based := true }
        (w.send .baseRequest).stbyEval

/-! Health reports (R438) -/

/-- The report of a Standby. -/
def Work.healthMsg (w : Work) : HealthMsg :=
  let fs := allForms.filter fun f => decide (w.place f ≠ plExcluded)
  let oldest := fs.foldl (fun t f => min t (w.rd64 (FORM.LASTTEST f) (FORM.LASTTESTH f))) w.now
  let h := w.moduleHealth
  ⟨modeCode w.x.mode, h.2, w.flag PAIR.STAT PAIR.STAT_STBYRDY, w.flag PAIR.STAT PAIR.STAT_CLAIMABLE, maskOf fs, h.1, w.mage,
    (w.now - oldest) / 3600000, w.ownLayout⟩

/-- The message's bytes. -/
def healthBytes (m : HealthMsg) : List Byte :=
  bytesOfNat 1 m.state ++ bytesOfNat 1 (m.health + (if m.stbyRdy then 4 else 0) + (if m.claimable then 8 else 0) + 16 * m.forms)
    ++ bytesOfNat 1 m.reason ++ bytesOfNat 1 m.mage ++ bytesOfNat 4 m.hours ++ bytesOfWord m.layout

/-- HEALTH_REPORT. -/
def healthReport (w : Work) : Work :=
  if w.alive = false ∨ w.isStandby = false then w
  else
    let m := w.healthMsg
    (w.when w.linkUp fun w => w.send (.pairHealth m)).queueBoth kPairHealth 0 (healthBytes m)

/-- PAIR_HEALTH_RX. -/
def pairHealthRx (m : HealthMsg) (w : Work) : Work :=
  if w.alive = false ∨ w.x.role ≠ .duty then w
  else
    let w := w.pairUpd fun p => { p with report := some m }
    (w.peerTake m.state m.health 2).putB PAIR.PEER PAIR.PEER_PCLAIM m.claimable

/-! Claim, takeover, yield (R437, R440 to R444) -/

/-- STBYRDY_HOLD_EXPIRED. -/
def stbyrdyHoldExpired (w : Work) : Work :=
  if w.alive = false ∨ w.isStandby = false ∨ w.linkUp ∨ w.pstate = psTaking then w else (w.setReady false).stbyEval

/-- CLAIM_WAIT_EXPIRED: the claim takes effect at the next boundary. -/
def claimWaitExpired (w : Work) : Work :=
  let live := w.linkUp || (List.range 2).any fun t => (w.trk t).lastAck.isSome && w.trkSends t && !w.flag (TRK.STAT t) TRK.STAT_LONE
  if w.alive = false ∨ w.isStandby = false ∨ (w.pstate ≠ psCold ∧ w.pstate ≠ psReady) ∨ w.dutyState.isSome ∨ live = false
      ∨ w.flag PAIR.STAT PAIR.STAT_CLAIMABLE = false then w
  else (w.openEpisode 5).pairUpd fun p => { p with claiming := true }

/-- The claim takes effect: Duty, in Ready; the image's RESTART decides what follows (R94, R440). -/
def Work.claimNow (w : Work) : Work :=
  if w.x.pair.claiming = false then w
  else if w.dutyState.isSome ∨ w.isStandby = false ∨ w.flag PAIR.STAT PAIR.STAT_CLAIMABLE = false then w.pairUpd fun p => { p with claiming := false }
  else
    let rest := imgRestart w.actSlot.bytes
    let w := if w.x.mode = .ready then w else w.toMode .ready 0
    let w := w.epochUp.takeRole .duty psDuty 1
    let w := (w.pairUpd fun p => { p with claiming := false, swap := none }).setReady false
    let w := (w.putB PAIR.STAT PAIR.STAT_CLAIMABLE false).upd fun x => { x with img := { x.img with restart := rest } }
    let w := (w.iosUpd fun s => { s with uncertain := true }).each (w.formsIn plTest) fun w f => (w.setPlace f plIdle).outEnd f
    (w.procShow.refill []).belTakeover.roleFollows.settleShow

/-- TAKEOVER_EVIDENCE: a fresh mirror is taken over warm, another cold where COLDTAKE allows it. -/
def takeoverEvidence (w : Work) : Work :=
  let w := if w.alive then w.pairSee else w
  if w.alive = false ∨ w.isStandby = false ∨ (w.pstate ≠ psCold ∧ w.pstate ≠ psReady) ∨ w.linkUp
      ∨ w.flag PAIR.STAT PAIR.STAT_EVA = false ∨ w.flag PAIR.STAT PAIR.STAT_EVB = false then w
  else
    let fresh := (match w.x.pair.lostAt with
      | some t => decide (w.now ≤ t + w.tLost + w.get TASK.MAIN TASK.MAIN_P0)
      | none => false) && decide (w.x.pair.lostAge ≤ w.get PAIR.CFG PAIR.CFG_MIRAGE)
    if w.flag PAIR.STAT PAIR.STAT_CLAIMABLE = false ∨ (fresh = false ∧ w.flag PAIR.CFG PAIR.CFG_COLDTAKE = false) then w
    else
      let w := ((w.openEpisode 5).epochUp.setPstate psTaking).pairUpd fun p => { p with warm := fresh, relinq := false, claiming := false }
      w.each (w.formsIn plTest) fun w f => (w.setPlace f plIdle).outEnd f

/-- RELINQUISH_RX (R447). -/
def relinquishRx (w : Work) : Work :=
  if w.alive = false ∨ w.isStandby = false ∨ w.pstate ≠ psReady ∨ w.linkUp = false then w
  else
    let w := ((w.openEpisode 5).epochUp.setPstate psTaking).pairUpd fun p => { p with warm := true, relinq := true, claiming := false }
    w.each (w.formsIn plTest) fun w f => (w.setPlace f plIdle).outEnd f

/-- TAKEOVER_DUTY: the first own boundary at least tLOAD after the evidence. -/
def takeoverDuty (w : Work) : Work :=
  if w.alive = false ∨ w.pstate ≠ psTaking then w
  else
    let p := w.x.pair
    let w := w.incSat PAIR.CNT1 PAIR.CNT1_TAKEOVERS
    w.becomeDuty (if p.relinq then 8 else if p.warm then 2 else 3) p.warm

/-- A yield (R443, R444). -/
def Work.yieldNow (w : Work) (why : Nat) : Work := (w.incSat PAIR.CNT2 PAIR.CNT2_YIELDS).becomeStandby why

/-- YIELD: the isolated Duty's next boundary. -/
def yield (w : Work) : Work :=
  if w.alive = false ∨ w.isDuty = false ∨ w.linkUp ∨ w.noAck 0 = false ∨ w.noAck 1 = false then w
  else if w.flag PAIR.PEER PAIR.PEER_PCLAIM then w.yieldNow 6 else w.pairSee

/-- DUTY_CONFLICT: the lower EPOCH, or the module that is not preferred, yields at the next boundary. -/
def dutyConflict (peerEpoch : Nat) (w : Work) : Work :=
  if w.alive = false ∨ w.isDuty = false then w
  else
    let e := (w.rd PAIR.EPOCH).toNat
    let w := w.pairUpd fun p => { p with peerEpoch := max p.peerEpoch peerEpoch }
    if e < peerEpoch ∨ (e = peerEpoch ∧ w.preferred = false) then w.pairUpd fun p => { p with yielding := some 7 } else w

/-! Planned swap and return (R445 to R447) -/

/-- Why a SWAP cannot be done (R456), or whether it is a cold one. -/
def Work.swapJudge (w : Work) (arg : Nat) : Nat ⊕ Bool :=
  if w.paired = false then .inl 0x80
  else if w.linkUp = false then .inl 0x81
  else
    let theirs : Option Word := if w.isStandby then w.x.pair.peerLayout else w.x.pair.report.map (·.layout)
    let differ := decide (theirs.isSome) && decide (theirs ≠ some w.ownLayout)
    if differ ∧ arg = 0 then .inl 0x83
    else
      let warm := if w.isStandby then w.flag PAIR.STAT PAIR.STAT_STBYRDY else w.partnerReady
      let cold := if w.isStandby then w.inService && decide (3 ≤ w.voters.length)
        else match w.x.pair.report with
          | some r => decide (5 ≤ r.state) && decide (r.state ≤ 7) && decide (3 ≤ (allForms.filter fun f => r.forms.testBit f).length)
          | none => false
      if (if differ then cold else warm) then .inr differ else .inl 0x82

/-- SWAP. -/
def swap (p : Party) (arg : Nat) (w : Work) : Work :=
  w.startOp p pairPage 2 [.ready, .run, .hold] true fun w =>
    if 1 < arg then w.refuse pairPage rejRange
    else match w.swapJudge arg with
      | .inl r => w.opNow p pairPage 1 arg opFailed r
      | .inr cold =>
        let w := (w.opBegin p pairPage 1 arg []).swapBegin cold 4
        if w.isStandby then w.send (.swapRequest cold) else w

/-- A Duty that cannot hand over at S: S moves, four times at most; the operation fails where it would move once more (DEDUCED from
tSWAPOP of R451, 6 × P0 + 1 ms: log entry 167). -/
def Work.swapMoves (w : Work) (s : Swap) : Work :=
  if 4 ≤ s.moves then (w.pairUpd fun p => { p with swap := none }).opEnd pairPage opFailed 0x82
  else w.pairUpd fun p => { p with swap := some { s with moves := s.moves + 1, at_ := s.at_ + 1 } }

/-- SWAP_BOUNDARY, B(S): the old Duty executes nothing more; the Standby becomes Duty. -/
def swapBoundary (w : Work) : Work :=
  if w.alive = false ∨ w.linkUp = false ∨ w.inService = false then w
  else if w.isDuty then
    let differ := match w.x.pair.report with
      | some r => decide (r.layout ≠ w.ownLayout)
      | none => false
    let s := w.x.pair.swap.getD ⟨differ, 0, w.cycle + 1, 4, false⟩
    let ready := if s.cold then (match w.x.pair.report with
        | some r => decide (5 ≤ r.state) && decide (r.state ≤ 7)
        | none => false) else w.partnerReady
    if ready then
      let s := { s with at_ := w.cycle + 1, heard := false }
      let w := (w.discardTasks.pairUpd fun p => { p with swap := some s }).setPstate psOut
      w.upd fun x => { x with ctl := { x.ctl with isOpen := false, staged := [] } }
    else w.swapMoves s
  else if w.isStandby then
    let why := (w.x.pair.swap.map (·.why)).getD 4
    let cold := decide (w.x.pair.peerLayout.isSome) && decide (w.x.pair.peerLayout ≠ some w.ownLayout)
    let warmOk := decide (w.pstate = psReady) && w.flag PAIR.STAT PAIR.STAT_MATCH && decide (w.mage = 0)
    let coldOk := cold && decide (3 ≤ w.voters.length)
    if warmOk ∨ coldOk then
      ((w.incSat PAIR.CNT1 PAIR.CNT1_SWAPS).epochUp.becomeDuty why (!cold)).opEnd pairPage opDone 0
    else match w.x.pair.swap with
      | some s => w.swapMoves s
      | none => w
  else w

/-- SWAP_CONFIRM, B(S + 1): STBY_COLD where the new Duty has been heard; else Duty again. -/
def swapConfirm (w : Work) : Work :=
  if w.alive = false ∨ w.x.role ≠ .duty ∨ w.pstate ≠ psOut then w
  else
    let s := w.x.pair.swap.getD ⟨false, 0, w.cycle, 4, false⟩
    if s.heard then
      let w := if s.why = 8 then w else w.incSat PAIR.CNT1 PAIR.CNT1_SWAPS
      (w.becomeStandby s.why).opEnd pairPage opDone 0
    else
      let w := ((w.pairUpd fun p => { p with swap := none }).setPstate psDuty).opEnd pairPage opFailed 0x85
      (if w.x.mode = .run ∧ w.flag PROCTOR.STAT PROCTOR.STAT_SPLIT = false then w.ctlRun 0 else w).roleFollows

/-- AUTO_RETURN (R446): its coming says that SETTLE has run out (log entry 103). -/
def autoReturn (w : Work) : Work :=
  if w.alive = false ∨ w.settleOk = false ∨ w.x.pair.settleFrom = none then w
  else ((w.swapBegin false 5).send (.swapRequest false)).settleShow

/-- A Duty that enters Degraded-Replace (R447). -/
def Work.drSwap (w : Work) : Work :=
  if w.isDuty ∧ w.flag PAIR.CFG PAIR.CFG_DRSWAP ∧ w.partnerReady ∧ w.get PAIR.PEER PAIR.PEER_PHEALTH ≤ 1 ∧ w.x.pair.swap = none
  then w.swapBegin false 4 else w

/-- REBASE. -/
def rebase (p : Party) (arg : Nat) (w : Work) : Work :=
  w.startOp p pairPage 2 anyButSelfTest true fun w =>
    if arg ≠ 0 then w.refuse pairPage rejRange
    else if w.paired = false then w.opNow p pairPage 2 arg opFailed 0x80
    else if w.isStandby = false then w.opNow p pairPage 2 arg opFailed 0x84
    else if w.linkUp = false then w.opNow p pairPage 2 arg opFailed 0x81
    else ((w.opBegin p pairPage 2 arg []).pairUpd fun q => { q with based := true }).send .baseRequest

/-- STANDBY_FORM_TEST_END (R436). -/
def standbyFormTestEnd (form : Nat) (lbist : Bool) (faults : List MemFault) (w : Work) : Work :=
  if w.alive = false ∨ w.isStandby = false ∨ 4 ≤ form ∨ w.place form ≠ plTest then w
  else
    let r := w.formTest form lbist faults
    let w := r.1.outEnd form
    if r.2 then ((w.setPlace form plIdle).standbyRotate).stbyEval else (w.excludeForm form).stbyEval

/-! Heartbeats on the trunks (R23, R465) -/

/-- HEARTBEAT_RX. -/
def heartbeatRx (trunkB : Bool) (src : Nat) (hb : Heartbeat) (w : Work) : Work :=
  let t := tn trunkB
  if w.trkHears t = false ∨ 0x78 ≤ src ∨ src = w.node then w
  else
    let w := w.trkSeen t src hb
    if w.paired = false ∨ src ≠ w.pnode then w
    else
      let w := w.trkSet t fun s => { s with ackSince := false }
      let w := w.pairUpd fun p => { p with peerEpoch := max p.peerEpoch hb.epoch }
      let w := if w.linkUp then w else w.peerTake hb.state hb.health hb.role
      let w := if hb.role = 1 then w.dutyHeard else w
      (w.pairSee.follow).stbyEval

/-- NODE_LOST. -/
def nodeLost (trunkB : Bool) (node : Nat) (w : Work) : Work :=
  if w.alive = false then w
  else
    let w := w.trkLost (tn trunkB) node
    if w.paired = false ∨ node ≠ w.pnode then w else (w.peerChanged.pairSee).follow.stbyEval

/-! At a main boundary -/

/-- MAGE counts the cycles that a Standby in Run sees pass (R432). -/
def Work.mageCount (w : Work) : Work :=
  if w.isStandby ∧ w.x.mode = .run ∧ w.mage < 254 then w.put PAIR.MIRST PAIR.MIRST_MAGE (w.mage + 1) else w

/-- What the pair does at a boundary: a yield or a claim takes effect. -/
def Work.pairBoundary (w : Work) : Work :=
  if w.paired = false ∧ w.x.role = .solo then w
  else
    let w := match w.x.pair.yielding with
      | some why => if w.isDuty then w.yieldNow why else w.pairUpd fun p => { p with yielding := none }
      | none => w
    w.claimNow.mageCount.pairSee.stbyEval

end Sys2Proof.Machine
end

