-- ==== Sys2Proof/Machine/Clock.lean ====
section
/-! DEFINITION. Clock islands, references and their supervision (R575 to R583, R588 to R593). -/

namespace Sys2Proof.Machine

def clkPage : Nat := 0x002
def Work.clkUpd (w : Work) (f : ClkSt → ClkSt) : Work := w.upd fun x => { x with clk := f x.clk }

/-- The order of switches (R578). -/
def switchOrder : List Nat := [0, 9, 5, 6, 7, 8, 1, 10, 12, 2, 15, 14, 3, 11, 13, 4, 16, 17, 18]

def refBadFld (r : Nat) : Fld := if r = 0 then CLK.REFSTAT_REF0BAD else CLK.REFSTAT_REF1BAD
def refStopFld (r : Nat) : Fld := if r = 0 then CLK.REFSTAT_REF0STOP else CLK.REFSTAT_REF1STOP
def Work.refBad (w : Work) (r : Nat) : Bool := w.flag CLK.REFSTAT (refBadFld r)

/-- The reference an island uses. -/
def Work.refOf (w : Work) (i : Nat) : Nat := w.get CLK.REFNOW ⟨i, 1⟩

/-- A sequence of switches to a reference is queued, in the order of R578; islands on it already are skipped. -/
def Work.switchTo (w : Work) (l : List Nat) (r : Nat) : Work :=
  let go := switchOrder.filter fun i => l.contains i && decide (w.refOf i ≠ r) && !(w.x.clk.switching.any fun e => decide (e.1 = i))
  if go = [] then w
  else (w.clkUpd fun c => { c with switching := c.switching ++ go.map fun i => (i, r) }).putB CLK.REFSTAT CLK.REFSTAT_SWITCHING true

/-- A reference becomes BAD (R580, R581): no switch to it is waited for any longer, and every island on it goes to the other; both BAD: a
whole-module reset (R75). -/
def Work.refLose (w : Work) (r : Nat) : Work :=
  if w.refBad r then w
  else if w.refBad (1 - r) then w.resetNow 2
  else
    let w := ((w.setFlag clkPage r CLK.REFSTAT (refBadFld r) true).irq clkPage 16).blockFault clkPage 1 6 true
    let w := w.clkUpd fun c => { c with switching := c.switching.filter fun e => decide (e.2 ≠ r) }
    let w := w.switchTo ((List.range 19).filter fun i => decide (w.refOf i = r)) (1 - r)
    if w.flag CLK.REFSTAT CLK.REFSTAT_SWITCHING && w.x.clk.switching.isEmpty then
      let w := (w.putB CLK.REFSTAT CLK.REFSTAT_SWITCHING false).irq clkPage 17
      if w.get (HDR.OPSTAT clkPage) HDR.OPSTAT_OP = 2 then w.opEnd clkPage opFailed 0x80 else w
    else w

/-- REF_STOPPED. -/
def refStopped (ref : Nat) (w : Work) : Work :=
  if w.alive = false ∨ w.x.mode = .powerUp ∨ 2 ≤ ref ∨ w.flag CLK.REFSTAT (refStopFld ref) then w
  else (w.setFlag clkPage ref CLK.REFSTAT (refStopFld ref) true).refLose ref

/-- The judge becomes BAD (R581). -/
def Work.judgeBad (w : Work) : Work :=
  if w.flag CLK.REFSTAT CLK.REFSTAT_JUDGEBAD then w
  else ((w.setFlag clkPage 2 CLK.REFSTAT CLK.REFSTAT_JUDGEBAD true).irq clkPage 19).blockFault clkPage 2 6 true

/-- A deviation as REFDEV shows it. -/
def dev16 (d : Int) : Nat := unsignedOf 16 (max (-32768) (min d 32767))

/-- SUPERVISOR_WINDOW (R580): the references against the judge, in 0.001 %. -/
def supervisorWindow (dev0 dev1 : Int) (w : Work) : Work :=
  if w.alive = false ∨ w.x.mode = .powerUp then w
  else
    let w := (w.put CLK.REFDEV CLK.REFDEV_DEV0 (dev16 dev0)).put CLK.REFDEV CLK.REFDEV_DEV1 (dev16 dev1)
    let far (d : Int) : Bool := decide (2000 < d.natAbs)
    let judge := w.flag CLK.REFSTAT CLK.REFSTAT_JUDGEBAD
    if w.refBad 0 then (if far dev1 && !judge then w.refLose 1 else w)
    else if w.refBad 1 then (if far dev0 && !judge then w.refLose 0 else w)
    else if far (dev0 - dev1) = false then (if far dev0 && far dev1 then w.judgeBad else w)
    else if judge ∨ (far dev0 && far dev1) then (w.refLose 0).refLose 1
    else if far dev0 then w.refLose 0
    else if far dev1 then w.refLose 1
    else if Config.refPick dev0 dev1 then w.refLose 1 else w.refLose 0

/-- What the gap of a switch does to its island (R579). -/
def Work.gap (w : Work) (i gapNs : Nat) : Work :=
  if i = 9 then w.wr64 TIME.NOW TIME.NOWH (w.net + gapNs)
  else if i = 10 ∨ i = 11 then
    let t := i - 10
    match (w.trk t).attempt with
    | some a => ((w.txFailed t a .form).arbitrate t)
    | none => w
  else w

/-- ISLAND_SWITCH (R578): the next island of the sequence has been moved. -/
def islandSwitch (gapNs : Nat) (w : Work) : Work :=
  if w.alive = false then w
  else match w.x.clk.switching with
    | [] => w
    | (i, r) :: rest =>
      let w := ((w.clkUpd fun c => { c with switching := rest }).put CLK.REFNOW ⟨i, 1⟩ r).incSat CLK.CNT CLK.CNT_SWITCHES
      let w := (w.evOccur clkPage i CLK.CNT 16 (w.get CLK.CNT CLK.CNT_SWITCHES)).gap i gapNs
      if rest = [] then
        let w := (w.putB CLK.REFSTAT CLK.REFSTAT_SWITCHING false).irq clkPage 17
        if w.get (HDR.OPSTAT clkPage) HDR.OPSTAT_OP = 2 then w.opEnd clkPage opDone 0 else w
      else w

/-- CLOCK_CHECK (R582): one clock against its tolerance; BADCLK follows the last check. -/
def clockCheck (code : Nat) (inTol : Bool) (w : Work) : Work :=
  if w.alive = false ∨ clkCode code = false then w
  else
    let a := CLK.BADCLK (code / 32)
    let f : Fld := ⟨code % 32, 1⟩
    if w.flag a f = !inTol then w
    else
      let w := (w.setFlag clkPage code a f (!inTol)).when (!inTol) fun w => (w.irq clkPage 18).pageReason clkPage 3 2 true
      if code = 92 ∨ code = 93 then w.cause 0x0C clkPage (256 + code) (!inTol)
      else if code = 3 ∨ 32 ≤ code then w.cause 0x09 clkPage (256 + code) (!inTol) else w

/-! Loss of lock (R583) -/

/-- An island's PLL locked and its clock running, or neither. -/
def Work.lockSet (w : Work) (i : Nat) (b : Bool) : Work := (w.putB CLK.LOCKMAP ⟨i, 1⟩ b).putB CLK.RUNMAP ⟨i, 1⟩ b

/-- PLL_LOCK_LOSS. -/
def pllLockLoss (island : Nat) (w : Work) : Work :=
  if w.alive = false ∨ 19 ≤ island ∨ w.flag CLK.LOCKMAP ⟨island, 1⟩ = false then w
  else
    let w := (w.lockSet island false).incSat CLK.CNT CLK.CNT_LOCKLOSS
    (w.evOccur clkPage island CLK.CNT 0 (w.get CLK.CNT CLK.CNT_LOCKLOSS)).clkUpd fun c => { c with losing := c.losing ++ [(island, false)] }

/-- An island stays stopped. -/
def Work.islandStops (w : Work) (i : Nat) : Work :=
  let w := (w.clkUpd fun c => { c with losing := c.losing.filter (fun e => decide (e.1 ≠ i)), stopped := c.stopped ++ [i] }).pageReason clkPage 4 2 true
  if 1 ≤ i ∧ i ≤ 4 then
    let f := i - 1
    let w := if w.place f = plVoting ∨ w.place f = plJoining then w.voteOut f 2 else w
    (((w.excludeForm f).outEnd f).judgeMain)
  else if i = 0 ∨ (5 ≤ i ∧ i ≤ 9) then w.fail 0x13 clkPage
  else w.cause 0x09 clkPage (512 + i) true

/-- PLL_LOCK_TIMEOUT: the other reference is tried; after it, or where it is BAD, the island stays stopped. -/
def pllLockTimeout (island : Nat) (w : Work) : Work :=
  match w.x.clk.losing.find? fun e => decide (e.1 = island) with
  | none => w
  | some (_, second) =>
    if w.alive = false then w
    else
      let other := 1 - w.refOf island
      if second ∨ w.refBad other then w.islandStops island
      else
        let w := (w.put CLK.REFNOW ⟨island, 1⟩ other).incSat CLK.CNT CLK.CNT_SWITCHES
        w.clkUpd fun c => { c with losing := c.losing.map fun e => if e.1 = island then (island, true) else e }

/-- A PLL that relocks has done so by the next tick unless PLL_LOCK_TIMEOUT has come. -/
def Work.clkTick (w : Work) : Work :=
  let l := w.x.clk.losing
  if l = [] then w else (w.each l fun w e => w.lockSet e.1 true).clkUpd fun c => { c with losing := [] }

/-- The clocks at the end of Power-up (R580, R590): both references tried; the PLLs lock on the preferred one. -/
def Work.clkStart (w : Work) (osc0 osc1 : Bool) : Work :=
  let bad (r : Nat) : Bool := if r = 0 then !osc0 else !osc1
  let w := w.each [0, 1] fun w r => if bad r then
      ((w.setFlag clkPage r CLK.REFSTAT (refBadFld r) true).irq clkPage 16).blockFault clkPage 1 6 true else w
  let pref := CLK.REFPREF_MAP.get (imgPut w.activeContent CLK.REFPREF 0)
  let map := if !osc0 then 2 ^ 19 - 1 else if !osc1 then 0 else pref
  ((w.put CLK.REFNOW CLK.REFNOW_MAP map).put CLK.LOCKMAP CLK.LOCKMAP_MAP (2 ^ 19 - 1)).put CLK.RUNMAP CLK.RUNMAP_MAP (2 ^ 19 - 1)

/-! The measuring counter and SWITCH (R591, R592) -/

/-- Does the clock of a measuring code run? -/
def Work.clockRuns (w : Work) (code : Nat) : Bool :=
  if code < 2 then !w.flag CLK.REFSTAT (refStopFld code)
  else if code < 4 then true
  else if code < 23 then w.flag CLK.RUNMAP ⟨code - 4, 1⟩
  else if 32 ≤ code ∧ code < 80 then decide ((w.isl (code - 32)).st ≠ isDark)
  else if 80 ≤ code ∧ code < 84 then !w.x.sens.dark.contains (code - 80)
  else if 84 ≤ code ∧ code < 92 then !(w.dgrp (code - 84)).dark
  else !w.x.safe.dark

/-- MEASURE. -/
def measure (p : Party) (arg : Nat) (w : Work) : Work :=
  w.startOp p clkPage 1 anyButPowerUp true fun w =>
    if arg ≠ 0 then w.refuse clkPage rejRange
    else if w.clockRuns (w.get CLK.FMCTL CLK.FMCTL_BASE) && w.clockRuns (w.get CLK.FMCTL CLK.FMCTL_TARGET) then w.opBegin p clkPage 1 arg []
    else w.opNow p clkPage 1 arg opFailed 0x81

/-- MEASURE_DONE: the window is over. -/
def measureDone (count : Nat) (w : Work) : Work :=
  if w.alive ∧ w.opBusy clkPage ∧ w.get (HDR.OPSTAT clkPage) HDR.OPSTAT_OP = 1 then
    (w.wr CLK.FMRES (BitVec.ofNat 32 (min count 0xFFFF_FFFF))).opEnd clkPage opDone 0
  else w

/-- SWITCH. -/
def switch (p : Party) (arg : Nat) (w : Work) : Work :=
  w.startOp p clkPage 2 anyButSelfTest true fun w =>
    let i := arg % 256
    let r := arg / 256
    if 2 ≤ r ∨ (19 ≤ i ∧ i ≠ 0xFF) then w.refuse clkPage rejRange
    else if w.refBad r then w.opNow p clkPage 2 arg opFailed 0x80
    else
      let w := (w.opBegin p clkPage 2 arg []).switchTo (if i = 0xFF then List.range 19 else [i]) r
      if w.x.clk.switching = [] then w.opEnd clkPage opDone 0 else w

end Sys2Proof.Machine
end

