-- ==== Sys2Proof/Machine/Start.lean ====
section
/-! DEFINITION. Start-up, self-test, image check, the configuration slots, and the SYS and BIST operations (chapter 03). -/

namespace Sys2Proof.Machine

def sysPage : Nat := 0x000

/-! Power-up (R73, R87, R602, R605) -/

/-- Cupola at Power-up (R605): its check word fails, or not; the copy is made. -/
def Work.cupolaStart (w : Work) (ok : Bool) : Work :=
  let w := if ok then w
    else
      let c := w.x.cupola
      let w := (w.wr64 CUPOLA.OPTIME CUPOLA.OPTIMEH c.copyTime).wr CUPOLA.PCYCLE (BitVec.ofNat 32 (c.copyCycle + 1))
      let w := w.each tamperFlags fun w f => w.setFlag cupolaPage noSub CUPOLA.TAMPER f true
      ((w.irq cupolaPage 16).slateMark true).put RST.CAUSE RST.CAUSE_CUPOLA_LOST 1
  w.cupolaSave

/-- The repairs at Power-up (R80, R85): fuse repairs alone where the records cannot be read. -/
def Work.repairLoad (w : Work) (ok : Bool) : Work :=
  let w := w.bistUpd fun b => { b with
    repairs := (if ok then b.repairs else b.repairs.filter (·.fused)).map fun r => { r with powerUps := r.powerUps + 1 }
    lbistRun := []
    mbistRun := []
    fuseNow := [] }
  (w.cause 0x0D bistPage 0 (!ok)).spareShow

/-- The slot selector (R87): the valid copy with the higher sequence number. -/
def Work.selectSlot (w : Work) : Work :=
  let a := w.x.img.selA
  let b := w.x.img.selB
  let s := if a.valid ∧ (b.valid = false ∨ b.seq ≤ a.seq) then a.slot else if b.valid then b.slot else a.slot
  if w.get SYS.IMAGE SYS.IMAGE_ACTIVE = s then w else w.put SYS.IMAGE SYS.IMAGE_ACTIVE s

/-- POWER_UP_DONE (R73; each tamper flag that is set is recorded, R604). -/
def powerUpDone (osc0 osc1 cupolaOk repairOk : Bool) (capMf vcapMv reserve : Nat) (w : Work) : Work :=
  if w.x.mode ≠ .powerUp then w
  else
    let set := tamperFlags.filter fun f => w.flag CUPOLA.TAMPER f
    let w := w.each set fun w f => w.evFlag cupolaPage noSub CUPOLA.TAMPER f.lo true
    let w := (w.cupolaStart cupolaOk).capTake capMf vcapMv
    if osc0 = false ∧ osc1 = false then
      let w := (w.setFlag clkPage 0 CLK.REFSTAT CLK.REFSTAT_REF0BAD true).setFlag clkPage 1 CLK.REFSTAT CLK.REFSTAT_REF1BAD true
      w.fail 0x13 clkPage
    else
      let w := ((w.selectSlot.clkStart osc0 osc1).repairLoad repairOk).eccAge
      let w := w.each ungatedPages fun w p => w.put (HDR.PGSTAT p) HDR.PGSTAT_READY 1
      let w := w.each earlyPages fun w p => w.enablePage p
      let w := w.holdup reserve
      let w := w.slateClean
      w.toMode .selfTest 0

/-! Self-test (R77 to R80) -/

/-- Has the first pass of the schedule ended: every Form's LBIST has run, and the MBIST of each that passed it? -/
def Work.firstPassOver (w : Work) : Bool :=
  allForms.all fun f => w.x.bist.lbistRun.contains f && (w.x.bist.mbistRun.contains f || !w.formStatOf f 0 || w.formStatOf f 3)

/-- A Form has passed both tests. -/
def Work.formPassed (w : Work) (f : Nat) : Bool := w.formStatOf f 0 && w.formStatOf f 1

/-- A Form that fails its retest is excluded. -/
def Work.retestFails (w : Work) (f : Nat) : Work := w.setPlace f plExcluded

/-- Has a Form's part in the first pass ended: its LBIST failed, or its MBIST has run? -/
def Work.memoryOver (w : Work) (f : Nat) : Bool :=
  w.x.bist.lbistRun.contains f && (w.x.bist.mbistRun.contains f || !w.formStatOf f 0)

/-- Is it a Form's turn in the schedule of R77: its LBIST comes after the LBIST of the Form before it, which runs alongside the MBIST of
the Form before that one? -/
def Work.lbistTurn (w : Work) (f : Nat) : Bool :=
  !w.x.bist.lbistRun.contains f && ((List.range f).all fun g => w.x.bist.lbistRun.contains g && (decide (f ≤ g + 1) || w.memoryOver g))

/-- LBIST_DONE: in the first pass in its turn, or the retest of a Form whose LBIST failed. -/
def lbistDone (form : Nat) (pass : Bool) (w : Work) : Work :=
  if w.x.mode ≠ .selfTest ∨ 4 ≤ form ∨ w.place form ≠ plUndecided then w
  else if w.lbistTurn form then
    let w := (w.bistUpd fun b => { b with lbistRun := b.lbistRun ++ [form] }).formStat form 0 pass
    w.detail (formPage form) noSub BIST.FORMSTAT (4 * form) (if pass then 1 else 0)
  else if w.firstPassOver ∧ w.formStatOf form 0 = false ∧ w.formStatOf form 3 = false then
    let w := (w.formStat form 3 true).formStat form 0 pass
    let w := w.detail (formPage form) noSub BIST.FORMSTAT (4 * form) (if pass then 1 else 0)
    if pass then w else w.retestFails form
  else w

/-- MBIST_DONE: repairs, fuses, and the result. -/
def mbistDone (form : Nat) (faults : List MemFault) (w : Work) : Work :=
  if w.x.mode ≠ .selfTest ∨ 4 ≤ form ∨ w.place form ≠ plUndecided ∨ w.formStatOf form 0 = false ∨ w.formPassed form then w
  else
    let second := w.x.bist.mbistRun.contains form || w.formStatOf form 3
    if second ∧ w.firstPassOver = false then w
    else
      let r := w.formMbist form faults 1
      let w := (r.1.fuseRepair form).formStat form 1 r.2
      let w := w.bistUpd fun b => { b with mbistRun := b.mbistRun ++ [form] }
      let w := w.detail (formPage form) noSub BIST.FORMSTAT (4 * form + 1) (if r.2 then 1 else 0)
      let w := if r.2 then w.testedNow form else w
      if second then
        let w := w.formStat form 3 true
        if r.2 then w else w.retestFails form
      else w

/-- Does a cause of a page's reason hold? -/
def Work.pageCause (w : Work) (page code : Nat) : Bool :=
  w.x.health.causes.any fun c => decide (c.2.1 = page) && (decide (c.2.2 = code) || decide (256 ≤ c.2.2 ∧ page = clkPage ∧ c.2.2 / 256 + 2 = code))

/-- The Degraded-Replace reasons, of the module and of its pages, whose cause no longer holds (R97). -/
def Work.goneNow (w : Work) : Work :=
  let g := w.x.health.reasons.filter fun c => decide (reasonClass c = 2) && !(w.x.health.causes.any fun e => decide (e.1 = c))
  let pg := w.x.health.page.filter fun e => decide (e.2.2 = 2) && !w.pageCause e.1 e.2.1
  w.upd fun x => { x with health := { x.health with gone := g, pageGone := pg } }

/-- The places with which service begins (R79). -/
def Work.beginService (w : Work) : Work :=
  let ok := allForms.filter fun f => w.formPassed f && decide (w.place f = plUndecided)
  let w := w.each (ok.take 3) fun w f => w.setPlace f plVoting
  w.each (ok.drop 3) fun w f => w.setPlace f plIdle

/-- SELF_TEST_DONE: the results of the blocks outside the Forms (R80), and the service that begins. -/
def selfTestDone (rails voter belfry retained : Bool) (bankFaults : List MemFault) (w : Work) : Work :=
  if w.x.mode ≠ .selfTest ∨ (allForms.all fun f => w.formPassed f || decide (w.place f = plExcluded)) = false then w
  else
    let bank (b : Nat) (w : Work) : Work × Bool := w.repairAll (bankFaults.filter fun q => decide (q.array = 0x30 + b)) 1
    let r0 := bank 0 w
    let r1 := bank 1 r0.1
    let rb := r1.1.repairAll (bankFaults.filter fun q => decide (q.array = 0x34) || decide (q.array = 0x35)) 1
    let w := rb.1
    let w := if retained then w.cause 0x0E taskPage 0 false
      else (w.taskUpd fun t => { t with retA := t.retA.map fun c => { c with valid := false }
                                        retB := t.retB.map fun c => { c with valid := false } }).cause 0x0E taskPage 0 true
    let w := if rails then w else ((w.blockFault proctorPage 1 4 true).setFlag proctorPage noSub PROCTOR.STAT PROCTOR.STAT_FALLBACK true).irq proctorPage 19
    let w := if voter then w else (w.blockFault proctorPage 3 4 true).procUpd fun s => { s with voterBad := true }
    let w := if r0.2 then w else w.loseBank 0
    let w := if r1.2 then w else w.loseBank 1
    let w := if w.x.proc.moveBank then
        (w.procUpd fun s => { s with moveBank := false }).setState proctorPage noSub PROCTOR.STAT PROCTOR.STAT_BANK 1 else w
    let w := w.goneNow
    if w.x.mode = .failed then w
    else if belfry = false ∨ rb.2 = false then w.fail 0x10 belPage
    else if rails = false ∧ voter = false then (w.pageReason proctorPage 4 3 true).fail 0x12 proctorPage
    else if 2 ≤ (w.formsIn plExcluded).length then w.fail 0x11 proctorPage
    else
      let w := (w.xferUpd fun x => { x with fwTrial := false }).toMode .imageCheck 0
      w.beginService.procShow

/-! Image check (R90, R93, R94, R427) -/

/-- The module enters the state that Image check or START leads to. -/
def Work.enterHeldOrReady (w : Work) (restart : Nat) : Work :=
  if w.flag SYS.STATE SYS.STATE_PERMIT then
    ((w.upd fun x => { x with img := { x.img with restart := restart } }).toMode .ready 0)
  else w.toMode .held whyNoPermit

/-- A paired module leaves Image check as a Standby (R427, R435). -/
def Work.standbyStart (w : Work) : Work :=
  let t := w.now
  let w := (w.takeRole .standby psCold 0).pairUpd fun p => { p with enteredAt := t, based := true }
  let w := w.enterHeldOrReady 0
  (w.follow.standbyRotate).procShow.stbyEval

/-- IMAGE_CHECK_DONE. -/
def imageCheckDone (w : Work) : Work :=
  if w.x.mode ≠ .imageCheck then w
  else
    let s := w.actSlot
    if s.bytes = [] then w.toMode .held whyNoImage
    else match w.imageFault s with
      | some r => (w.detail sysPage noSub SYS.IMAGE 8 r).toMode .held (heldWhyOf r)
      | none =>
        let w := w.detail sysPage noSub SYS.IMAGE 8 0
        let w := (w.upd fun x => { x with img := { x.img with activeOk := true } }).followImage none
        if w.paired then w.standbyStart
        else ((w.enterHeldOrReady (imgRestart s.bytes)).procShow).refill []

/-- RESTART_RUN (R94): the first main boundary in Ready. -/
def restartRun (w : Work) : Work :=
  let k := w.x.img.restart
  if w.x.mode ≠ .ready ∨ w.isStandby ∨ (k ≠ 1 ∧ k ≠ 2) then w
  else ((w.upd fun x => { x with img := { x.img with restart := 0 } }).startProgram k).runFigures.toMode .run 0

/-! SYS operations (R91, R93, R104) -/

/-- SYS.IMAGE.PEND (R89, R101). -/
def Work.pend (w : Work) : Nat := w.get SYS.IMAGE SYS.IMAGE_PEND

/-- VERIFY and COMMIT need a pending image that is whole. -/
def Work.imageOp (w : Work) (p : Party) (op arg : Nat) : Work :=
  if arg ≠ 0 then w.refuse sysPage rejRange
  else if w.pend < 2 then (w.put SYS.IMAGE SYS.IMAGE_PENDWHY 0x80).opNow p sysPage op arg opFailed 0x80
  else w.opBegin p sysPage op arg []

/-- A check of R90 fails. -/
def Work.pendFails (w : Work) (r : Nat) : Work :=
  ((w.put SYS.IMAGE SYS.IMAGE_PEND pdFaulty).put SYS.IMAGE SYS.IMAGE_PENDWHY r).opEnd sysPage opFailed r

/-- The end of the checks of a pending slot that a write has meanwhile returned to LOADING: it is not whole (R89, R104). -/
def Work.pendTaken (w : Work) : Work := (w.put SYS.IMAGE SYS.IMAGE_PENDWHY 0x80).opEnd sysPage opFailed 0x80

/-- VERIFY. -/
def verify (p : Party) (arg : Nat) (w : Work) : Work := w.startOp p sysPage 2 anyButSelfTest true fun w => w.imageOp p 1 arg

/-- VERIFY_DONE. -/
def verifyDone (w : Work) : Work :=
  if w.alive ∧ w.opBusy sysPage ∧ w.get (HDR.OPSTAT sysPage) HDR.OPSTAT_OP = 1 then
    if w.pend < 2 then w.pendTaken
    else match w.imageFault w.pendSlot with
    | some r => w.pendFails r
    | none => (w.put SYS.IMAGE SYS.IMAGE_PEND pdVerified).opEnd sysPage opDone 0
  else w

/-- COMMIT. -/
def commit (p : Party) (arg : Nat) (w : Work) : Work := w.startOp p sysPage 2 [.held, .ready] true fun w => w.imageOp p 2 arg

/-- The older copy of the selector is rewritten, and the former active slot becomes the pending one, VERIFIED (R91; log entries 113,
183). -/
def Work.swapSlots (w : Work) : Work :=
  let s := 1 - w.get SYS.IMAGE SYS.IMAGE_ACTIVE
  let a := w.x.img.selA
  let b := w.x.img.selB
  let n : Selector := ⟨s, max a.seq b.seq + 1, true⟩
  let former := w.actSlot
  let w := w.upd fun x => { x with img := (if b.valid = false ∨ (a.valid ∧ b.seq ≤ a.seq) then { x.img with selB := n } else { x.img with selA := n }) }
  let w := (w.put SYS.IMAGE SYS.IMAGE_ACTIVE s).put SYS.IMAGE SYS.IMAGE_PEND
    (if former.bytes = [] then pdEmpty else pdVerified)
  let id (x : Slot) : Word := if x.bytes = [] then 0 else imgId x.bytes
  (w.wr SYS.PENDID (id former)).wr SYS.ACTID (id w.actSlot)

/-- COMMIT_SWAP: the pending slot is verified, and becomes active (R37, R91, R304, R309); a module that has left Held and Ready takes no
image (R59, R104). -/
def commitSwap (w : Work) : Work :=
  if w.alive ∧ w.opBusy sysPage ∧ w.get (HDR.OPSTAT sysPage) HDR.OPSTAT_OP = 2 then
    if w.pend < 2 then w.pendTaken
    else match w.imageFault w.pendSlot with
    | some r => w.pendFails r
    | none =>
      if w.x.mode ≠ .held ∧ w.x.mode ≠ .ready then w.opEnd sysPage opFailed 0x04
      else
      let former := w.activeContent
      let user := match w.op? sysPage with
        | some o => w.userOf o.party
        | none => 0
      let w := (w.forceClrAll user).swapSlots
      let w := w.upd fun x => { x with img := { x.img with activeOk := true, restart := 0 } }
      let w := w.setFlag sysPage noSub SYS.STATE SYS.STATE_PERMIT false
      let w := w.taskUpd fun t => { t with journal := [], vars := [], outImg := [], outMail := [], run := [] }
      let w := (w.put TASK.OLCSTAT TASK.OLCSTAT_JCOUNT 0).put TASK.OLCSETS TASK.OLCSETS_N 0
      let w := (w.toMode .held whyCommitted).followImage (some former)
      (w.pendSig.safeCommitted.procShow).opEnd sysPage opDone 0
  else w

/-- START: the role follows PAIRED of the image that is started (R427, R439). -/
def start (p : Party) (arg : Nat) (w : Work) : Work :=
  w.startOp p sysPage 2 [.held] w.x.img.activeOk fun w =>
    if arg ≠ 0 then w.refuse sysPage rejRange
    else
      let w := (w.opBegin p sysPage 3 arg []).setFlag sysPage noSub SYS.STATE SYS.STATE_PERMIT true
      let w := if w.paired then
          (if w.isStandby then w.follow.stbyEval else if w.x.role = .duty then w.enterHeldOrReady 0 else w.standbyStart)
        else
          let w := if w.x.role = .solo then w else w.takeRole .solo psSolo 0
          ((w.enterHeldOrReady 0).procShow).refill []
      w.opEnd sysPage opDone 0

/-- WITHHOLD. -/
def withhold (p : Party) (arg : Nat) (w : Work) : Work :=
  w.startOp p sysPage 2 [.ready] true fun w =>
    if arg ≠ 0 then w.refuse sysPage rejRange
    else
      let w := (w.opBegin p sysPage 4 arg []).setFlag sysPage noSub SYS.STATE SYS.STATE_PERMIT false
      let w := (w.upd fun x => { x with img := { x.img with restart := 0 } }).toMode .held whyNoPermit
      (w.stbyEval).opEnd sysPage opDone 0

/-- RESET: Power-up at once (R75). -/
def reset (p : Party) (arg : Nat) (w : Work) : Work :=
  w.startOp p sysPage 2 anyButPowerUp true fun w => if arg ≠ 0 then w.refuse sysPage rejRange else w.resetNow 1

/-! BIST operations (R97, R108) -/

/-- RETEST. -/
def retest (p : Party) (form : Nat) (w : Work) : Work :=
  w.startOp p bistPage 2 [.held, .ready, .run, .hold] (decide (4 ≤ form) || decide (w.place form = plExcluded)) fun w =>
    if 4 ≤ form then w.refuse bistPage rejRange
    else ((w.opBegin p bistPage 1 form []).bistUpd fun b => { b with retestForm := some form }).openEpisode 2

/-- RETEST_DONE: a Form that passes stays excluded until CLEAR_HEALTH; one that fails has passed no longer (log entry 184). -/
def retestDone (lbist : Bool) (faults : List MemFault) (w : Work) : Work :=
  match w.x.bist.retestForm with
  | none => w
  | some f =>
    if w.alive = false ∨ w.opBusy bistPage = false then w
    else
      let r := w.formTest f lbist faults
      let w := r.1.bistUpd fun b => { b with retestForm := none, passedRetest := b.passedRetest.filter (fun g => decide (g ≠ f)) ++ (if r.2 then [f] else []) }
      let w := if r.2 then (w.blockFault (formPage f) 1 1 false).goneNow else w.blockFault (formPage f) 1 1 true
      (w.opEnd bistPage opDone 0).closeEpisode 2 w.anyExcluded

/-- CLEAR_HEALTH: the Degraded-Replace reasons whose cause has gone; the Forms that passed RETEST go on recess. -/
def clearHealth (p : Party) (arg : Nat) (w : Work) : Work :=
  w.startOp p bistPage 2 anyButSelfTest true fun w =>
    if arg ≠ 0 then w.refuse bistPage rejRange
    else
      let w := w.each w.x.bist.passedRetest fun w f => if w.place f = plExcluded then w.setPlace f plIdle else w
      let w := w.bistUpd fun b => { b with passedRetest := [] }
      let w := w.each w.x.health.gone fun w c => w.showReason c false
      let stale := w.x.health.pageGone.filter fun e => !w.pageCause e.1 e.2.1
      let w := w.each stale fun w e => w.pageReason e.1 e.2.1 e.2.2 false
      (((w.procShow.refill []).standbyRotate).stbyEval).opNow p bistPage 2 arg opDone 0

end Sys2Proof.Machine
end

