-- ==== Sys2Proof/Machine/Boundary.lean ====
section
/-! DEFINITION. The main boundary (R290): what falls due at it, in the rule's order, and the release of the tasks. -/

namespace Sys2Proof.Machine

/-! Operations of the TASK page that fall due (R297, R302 to R309, R321) -/

/-- HOLD from Run: an instance that runs in overrun is discarded; a lower task between segments stays suspended. -/
def Work.holdTasks (w : Work) : Work :=
  let w := w.each (List.range 4) fun w i =>
    if (w.trun i).running ∧ (i = 0 ∨ (w.trun i).late) then w.trunSet i fun r => { r with running := false, late := false } else w
  let w := w.procUpd fun s => { s with isOpen := false, cps := [], agree := [], done := false, closed := false, withheld := false,
                                       held := [], heldLane := [] }
  w.upd fun x => { x with ctl := { x.ctl with isOpen := false, staged := [] } }

/-- One operation acts: what it leaves, its end and its reason. -/
def Work.taskAct (w : Work) (o : OpRun) : Work × Nat × Nat :=
  let m := w.x.mode
  let user := w.userOf o.party
  let started (w : Work) : Work := w.upd fun x => { x with img := { x.img with restart := 0 } }
  let readyHold (w : Work) : Work := (w.taskUpd fun t => { t with holdReady := true }).toMode .hold 0
  if w.x.role = .standby then (w, opFailed, 4)
  else match o.op with
    | 1 =>
      if m = .ready then ((started (w.startProgram o.arg)).runFigures.toMode .run 0, opDone, 0)
      else if m = .hold then ((w.runFigures.toMode .run 0).ctlRun 0, opDone, 0)
      else (w, opFailed, 4)
    | 2 => if m = .run ∨ m = .hold then (w.stopProgram (if o.party = .program then 2 else 1), opDone, 0) else (w, opFailed, 4)
    | 3 =>
      if m = .run then (w.holdTasks.toMode .hold 0, opDone, 0)
      else if m = .ready then (readyHold (started (w.startProgram o.arg)), opDone, 0)
      else (w, opFailed, 4)
    | 4 => w.forceSetNow user
    | 5 => w.forceClrNow user
    | 6 => (w.forceClrAll user, opDone, 0)
    | _ => match w.olcCheck with
      | .inl (r, i) => (w.put TASK.OLCSTAT TASK.OLCSTAT_REJENT i, opFailed, r)
      | .inr es => (w.olcNow es, opDone, 0)

/-- The operation that waits acts at its boundary; a latched abort is sampled before. Then a watchdog stop that is due (R300). -/
def Work.taskDue (w : Work) : Work :=
  let w := match w.op? taskPage with
    | some o =>
      if w.x.task.due = false then w
      else
        let w := w.taskUpd fun t => { t with due := false }
        if o.abort then w.opEnd taskPage opAborted 1
        else match w.taskAct o with
          | (w, st, r) => w.opEnd taskPage st r
    | none => w
  if w.x.task.wdDue = false then w
  else if (w.x.mode = .run ∨ w.x.mode = .hold) ∧ w.x.role ≠ .standby then w.stopProgram 3
  else w.taskUpd fun t => { t with wdDue := false }

/-! The snapshot (R291, R295) -/

/-- The interrupt summary (R295): bit b of IRQSUM[i] is the request of page 32 i + b (R52). -/
def Work.irqsumNow (w : Work) : Work :=
  w.each (List.range 5) fun w i =>
    let req := (List.range 32).filter fun b => decide (kindOf (32 * i + b) ≠ .unmapped) && !isWindow (32 * i + b)
      && decide (w.rd (HDR.IRQSTAT (32 * i + b)) &&& w.rd (HDR.IRQEN (32 * i + b)) ≠ 0)
    w.wr (TASK.IRQSUM i) (BitVec.ofNat 32 (req.foldl (fun n b => n + 2 ^ b) 0))

/-- The data that the program's receive mailboxes hold (R475, R477). -/
def Work.mailNow (w : Work) : List (Nat × List Byte) :=
  ((List.range 128).filter fun k => w.enabled (trkPage (k / 64)) && w.flag (TRK.MBCFG (k / 64) (k % 64)) TRK.MBCFG_EN
    && !w.flag (TRK.MBCFG (k / 64) (k % 64)) TRK.MBCFG_DIR && !w.flag (TRK.MBCFG (k / 64) (k % 64)) TRK.MBCFG_OWN).map fun k =>
    (k, (w.mbox (k / 64) (k % 64)).visible)

/-- S(k) as captured: the interrupt summary, the stations' input qualities and data, every register, the receive mailboxes. -/
def Work.capture (w : Work) : Work :=
  let w := w.irqsumNow.iosCapture
  let snap : Snapshot := { regs := regsCommit w.log w.base, stations := w.stations.map fun s => (s, (w.sta s).inp), mail := w.mailNow }
  (w.taskUpd fun t => { t with snap := snap, released := false }).notifyFall

/-- One force put into a captured register list. -/
def snapForce (l : List (Nat × Word)) (id : Nat) (v : Word) : List (Nat × Word) :=
  match regOf id with
  | some a => if progWritten a then l else regsSet l a v
  | none => l

/-- The forces on snapshot registers and input variables replace their captured values (R303). -/
def Work.snapForces (w : Work) : Work :=
  w.taskUpd fun t => { t with snap :=
    { regs := t.forces.foldl (fun l e => snapForce l e.2.1 e.2.2) t.snap.regs
      stations := t.snap.stations.map fun e => (e.1, w.forceData false false e.1 e.2)
      mail := t.snap.mail.map fun e => (e.1, w.forceData false true e.1 e.2) } }

/-! Release of the tasks (R288, R290, R299, R401) -/

/-- Does the release of a lower task fall on this boundary (R288)? -/
def Work.lowerDue (w : Work) (i : Nat) : Bool :=
  let c := TASK.TCFG i
  let m := w.get c TASK.TCFG_MULT
  w.flag c TASK.TCFG_EN && decide (m ≠ 0) && decide (w.cycle % m = w.get c TASK.TCFG_PHASE)

/-- An instance of a task begins at this boundary; the overrun of an instance that trapped is over (R296). A lower task keeps the snapshot of
its release (R291). -/
def Work.taskBegin (w : Work) (i : Nat) : Work :=
  let k := w.cycle
  let snap := if i = 0 then {} else w.x.task.snap
  let w := w.when (w.flag TASK.STAT ⟨20 + i, 1⟩) fun w => w.setFlag taskPage i TASK.STAT ⟨24 + i, 1⟩ false
  w.trunSet i fun r => { r with running := true, relAt := k, late := false, snap := snap }

/-- A lower task is released; a release that finds its instance running is skipped (R299). -/
def Work.releaseLower (w : Work) (i : Nat) : Work :=
  if w.lowerDue i = false ∨ (w.trun i).running then w else w.taskBegin i

/-- In a split the Forms execute nothing: safe values at each boundary, no cycle counts toward OVRMAX (R401, R411). -/
def Work.splitCycle (w : Work) : Work :=
  w.each (0 :: [1, 2, 3].filter w.lowerDue) fun w i => (w.overrun i false).trunSet i fun r => { r with running := false, late := false }

/-- The tasks of the cycle are released; T0 that still runs skips it, and no checkpoint opens (R299). -/
def Work.releaseTasks (w : Work) : Work :=
  if w.x.mode = .run ∧ w.x.role ≠ .standby ∧ w.pstate ≠ psOut ∧ w.flag PROCTOR.STAT PROCTOR.STAT_SPLIT then w.splitCycle
  else if w.executes = false then w
  else
    let w := if (w.trun 0).running then w else (w.taskBegin 0).procOpen
    w.each [1, 2, 3] Work.releaseLower

/-! The boundary -/

/-- Belfry's evaluation at a boundary (R351, R353): the engines' results are compared, a disagreement repeats the evaluation once from the same
inputs, and a second one makes the module Failed; nothing of a disagreeing evaluation is published. `cap`: the module as captured. What is about
to disturb the second engine does so here, once. -/
def Work.belBoundary (w cap : Work) : Work :=
  let upsets := w.x.upsets
  let w := if upsets = [] then w else w.upd fun x => { x with upsets := [] }
  if w.belOn = false then w
  else if (w.belEval cap).enginesDiffer (upsets.getD 0 []) = false then (w.belEval cap).belResult.lanternPub
  else
    let w := w.belRetry
    if (w.belEval cap).enginesDiffer (upsets.getD 1 []) = false then (w.belEval cap).belResult.lanternPub else w.fail 0x10 belPage

/-- MAIN_BOUNDARY (R290): the module states that have main boundaries are Held, Ready, Run and Hold (log entry 117). Pair and
Proctor act at the boundary before the capture, Belfry evaluates after the heartbeat (R351; log entry 118). -/
def mainBoundary (w : Work) : Work :=
  if [Mode.held, .ready, .run, .hold].contains w.x.mode = false then w
  else
    let w := w.procWindowEnds
    let w := w.wr64 TASK.CYCLE TASK.CYCLEH (w.cycle + 1)
    let w := w.procBoundary.pairBoundary
    if w.alive = false then w
    else
      let cap := w.capture
      let w := cap.taskDue.snapForces.iosStart
      let w := w.when (decide (w.x.role ≠ .solo)) fun w => w.sendHeartbeat
      let w := w.when w.belDue fun w => w.belBoundary cap
      w.releaseTasks

end Sys2Proof.Machine
end

