-- ==== Sys2Proof/Machine/Access.lean ====
section
/-! DEFINITION. Access to any word of register space (chapter 02): the page header's words (R42 to R66), a whole access of consecutive
words (R40, R531), host reads with their latches (R69), READ and WRITE (R530, R531), and the rows of single registers. -/

namespace Sys2Proof.Machine

/-- Is a word one of a page's header (R34)? -/
def isHdr (a : Nat) : Bool := !isWindow (a / 4096) && decide (a % 4096 < 0x40)

/-! PGCTL (R36 to R38, R47, R48, R584, R624) -/

/-- A page that the running program uses: one that the active image uses, and Timetable's and the engines' own (log entry 87). -/
def Work.inUse (w : Work) (page : Nat) : Bool :=
  (decide (w.x.mode = .run) || decide (w.x.mode = .hold))
    && (usesPage w.activeContent page || decide (kindOf page = .task) || decide (kindOf page = .ctleng) || decide (kindOf page = .trk)
      || decide (kindOf page = .dio))

/-- Why a write of PGCTL is refused, field by field. -/
def Work.ctlRefusal (w : Work) (p : Party) (page : Nat) (v : Word) : List (Nat × Nat) :=
  let role := w.roleOf p
  let gated := capBit (kindOf page) 4
  let en := HDR.PGCTL_EN.get v = 1
  let enTouched := gated && decide (w.enabled page ≠ decide en)
  let shut := enTouched && decide (HDR.PGCTL_EN.get v = 0)
  let served := decide (w.x.mode = .ready) || decide (w.x.mode = .run) || decide (w.x.mode = .hold)
  let srst := capBit (kindOf page) 3 && decide (HDR.PGCTL_SRST.get v = 1)
  let lock := decide (HDR.PGCTL_LOCKREQ.get v = 1) && (w.unlock? page).isSome
  (if enTouched && decide (role < 2) then [(0, rejRole)] else [])
    ++ (if shut && served && usesPage w.activeContent page then [(0, rejInUse)] else [])
    ++ (if srst && decide (role < 2) then [(1, rejRole)] else [])
    ++ (if srst && w.opBusy page then [(1, rejBusy)] else [])
    ++ (if srst && w.inUse page then [(1, rejInUse)] else [])
    ++ (if lock && decide (role < w.get (HDR.PGKEY page) HDR.PGKEY_HOLDER) then [(2, rejRole)] else [])

/-- EN takes a value: an opening or reopening, or the beginning of a closure (R584). -/
def Work.enWrite (w : Work) (page : Nat) (en : Bool) : Work :=
  if capBit (kindOf page) 4 = false ∨ w.enabled page = en then w
  else if en = false then w.closeGate page
  else if w.x.pages.closing.contains page then
    if w.x.pages.reopen.contains page then w
    else w.upd fun x => { x with pages := { x.pages with reopen := x.pages.reopen ++ [page] } }
  else w.enablePage page

/-- A soft reset through PGCTL: of a page whose gate is closed only the header returns to its values. -/
def Work.srstWrite (w : Work) (page : Nat) : Work :=
  if capBit (kindOf page) 3 = false then w
  else if w.enabled page then w.softResetPage page
  else w.resetHeaderFields page

/-- An accepted write of PGCTL. -/
def Work.ctlStore (w : Work) (page : Nat) (v : Word) : Work :=
  let w := w.enWrite page (decide (HDR.PGCTL_EN.get v = 1))
  let w := if HDR.PGCTL_SRST.get v = 1 then w.srstWrite page else w
  if HDR.PGCTL_LOCKREQ.get v = 1 then w.lock page else w

/-! PGKEY (R61 to R64) -/

/-- Why a write of PGKEY is refused: KEY's conditions, then ROLE's. -/
def Work.keyRefusal (w : Work) (p : Party) (page : Nat) (v : Word) : List (Nat × Nat) :=
  let r := HDR.PGKEY_ROLE.get v
  let other := match w.unlock? page with
    | some u => decide (u.party ≠ p)
    | none => false
  (if w.x.pages.lockouts.contains page then [(0, rejLockout)] else [])
    ++ (if other then [(0, rejLocked)] else [])
    ++ (if r = 0 ∨ 4 ≤ r then [(16, rejRange)] else [])
    ++ (if w.roleOf p < r then [(16, rejRole)] else [])

/-- A wrong key: it is recorded, and the third within 60 s starts the lockout, which is recorded too (log entry 85). -/
def Work.wrongKey (w : Work) (p : Party) (page : Nat) : Work :=
  let now := w.now
  let l := (w.x.pages.wrong.filter fun e => decide (now < e.2 + 60000)) ++ [(page, now)]
  let n := (l.filter fun e => decide (e.1 = page)).length
  let w := (w.upd fun x => { x with pages := { x.pages with wrong := l } }).evOccur page noSub (HDR.PGKEY page) 0 n
  if n < 3 then w
  else
    let w := w.upd fun x => { x with pages := { x.pages with
      wrong := l.filter (fun e => decide (e.1 ≠ page)), lockouts := x.pages.lockouts ++ [page] } }
    w.evRefused page noSub (HDR.PGKEY page) rejLockout (whoOf p) (w.userOf p)

/-- A write of PGKEY that is not refused: the page is unlocked, or the key was wrong. -/
def Work.keyStore (w : Work) (p : Party) (page : Nat) (v : Word) : Work :=
  let r := HDR.PGKEY_ROLE.get v
  let good := w.x.pages.keys.any fun k => decide (k.1 = page) && decide (k.2.1 = r) && decide (k.2.2 = HDR.PGKEY_KEY.get v)
  if good then
    let t := w.now
    let w := w.upd fun x => { x with pages := { x.pages with
      unlocks := x.pages.unlocks.filter (fun u => decide (u.page ≠ page)) ++ [⟨page, p, r, t⟩] } }
    (w.put (HDR.PGKEY page) HDR.PGKEY_HOLDER r).put (HDR.PGKEY page) HDR.PGKEY_REMAIN 255
  else w.wrongKey p page

/-! OPCMD (R54, R56, R58) -/

/-- The operation that a page's OP names. -/
def opOf (p : Party) (page op arg : Nat) : Option (Work → Work) :=
  match kindOf page, op with
  | .sys, 1 => some (verify p arg)
  | .sys, 2 => some (commit p arg)
  | .sys, 3 => some (start p arg)
  | .sys, 4 => some (withhold p arg)
  | .sys, 5 => some (reset p arg)
  | .bist, 1 => some (retest p arg)
  | .bist, 2 => some (clearHealth p arg)
  | .cupola, 1 => some (clrtamper p arg)
  | .clk, 1 => some (measure p arg)
  | .clk, 2 => some (switch p arg)
  | .proctor, 1 => some (recessNow p arg)
  | .pair, 1 => some (swap p arg)
  | .pair, 2 => some (rebase p arg)
  | .task, 1 => some (run p arg)
  | .task, 2 => some (stop p arg)
  | .task, 3 => some (hold p arg)
  | .task, 4 => some (forceSet p arg)
  | .task, 5 => some (forceClr p arg)
  | .task, 6 => some (forceClrall p arg)
  | .task, 7 => some (olcApply p arg)
  | .evt, 1 => some (freeze p arg)
  | .evt, 2 => some (thaw p arg)
  | .evt, 3 => some (clear p arg)
  | .evt, 4 => some (eprel p arg)
  | .time, 1 => some (settime p arg)
  | .time, 2 => some (acceptstep p arg)
  | .xfer, 1 => some (pullImage p arg)
  | .xfer, 2 => some (pushEvents p arg)
  | .xfer, 3 => some (pullChangeset p arg)
  | .xfer, 4 => some (pullFw p arg)
  | .xfer, 5 => some (activateFw p arg)
  | .xfer, 6 => some (setimgkey p arg)
  | .xfer, 7 => some (userset p arg)
  | .lantern, 1 => some (lamptest p arg)
  | .slate, 1 => some (redraw p arg)
  | .slate, 2 => some (clean p arg)
  | .safe, 1 => some (sealStart p arg)
  | .safe, 2 => some (setpwStart p arg)
  | .loop, 1 => some (trim p (loopOf page) arg)
  | .loop, 2 => some (hartcmd p (loopOf page) arg)
  | _, _ => none

/-- A START (R56); an OP that the block does not have is refused with RANGE (log entry 6). -/
def Work.opStart (w : Work) (p : Party) (page op arg : Nat) : Work :=
  match opOf p page op arg with
  | some f => f w
  | none => if w.opBusy page then w.refuse page rejBusy else w.refuse page rejRange

/-- An ABORT is latched while the operation is BUSY (R58). -/
def Work.opLatch (w : Work) (page : Nat) : Work :=
  if w.opBusy page then
    w.upd fun x => { x with pages := { x.pages with ops := x.pages.ops.map fun o => if o.page = page then { o with abort := true } else o } }
  else w

/-- A write of OPCMD, on a page that has operations (R46). -/
def Work.cmdStore (w : Work) (p : Party) (page : Nat) (v : Word) : Work :=
  let cmd := HDR.OPCMD_CMD.get v
  if capBit (kindOf page) 0 = false then w
  else if cmd = 1 then w.opStart p page (HDR.OPCMD_OP.get v) (HDR.OPCMD_ARG.get v)
  else if cmd = 2 then w.opLatch page
  else w

/-- Why a write of OPCMD is refused: CMD 0b11; a START, by what it does to WREJ. -/
def Work.cmdRefusal (w : Work) (p : Party) (page : Nat) (v : Word) : Option Nat :=
  if capBit (kindOf page) 0 = false then none
  else if HDR.OPCMD_CMD.get v = 3 then some rejRange
  else if HDR.OPCMD_CMD.get v = 1 then
    let w' := (w.put (HDR.PGSTAT page) HDR.PGSTAT_WREJ 0).cmdStore p page v
    if w'.flag (HDR.PGSTAT page) HDR.PGSTAT_WREJ then some (w'.get (HDR.PGSTAT page) HDR.PGSTAT_WREJ_CODE) else none
  else none

/-! Any word -/

/-- The bits of the interrupt registers (R51). -/
def irqMask : Word := 0xFFFF_0007

/-- Why a write of a header word is refused. -/
def Work.hdrRefusal (w : Work) (p : Party) (a : Nat) (v : Word) : Option Nat :=
  let page := a / 4096
  if a % 4096 = 0x0C then lowest (w.ctlRefusal p page v)
  else if a % 4096 = 0x20 then w.cmdRefusal p page v
  else if a % 4096 = 0x28 then lowest (w.keyRefusal p page v)
  else none

/-- An accepted write of a header word (R47 to R54). -/
def Work.hdrStore (w : Work) (p : Party) (a : Nat) (v : Word) : Work :=
  let page := a / 4096
  let off := a % 4096
  if off = 0x0C then w.ctlStore page v
  else if off = 0x10 then
    let w := if HDR.PGSTAT_WREJ.get v = 1 then w.put a HDR.PGSTAT_WREJ 0 else w
    if HDR.PGSTAT_GATE_FORCED.get v = 1 then w.put a HDR.PGSTAT_GATE_FORCED 0 else w
  else if off = 0x14 then w.wr a (w.rd a &&& ~~~(v &&& irqMask &&& ~~~(w.irqsNow page)))
  else if off = 0x18 then w.wr a (v &&& irqMask)
  else if off = 0x1C then w.wr (HDR.IRQSTAT page) (w.rd (HDR.IRQSTAT page) ||| (v &&& irqMask))
  else if off = 0x20 then w.cmdStore p page v
  else if off = 0x28 then w.keyStore p page v
  else w

/-- Why a write of a word is refused, if it is. -/
def Work.wordRefusal (w : Work) (p : Party) (a : Nat) (v : Word) : Option Nat := if isHdr a then w.hdrRefusal p a v else w.judge p a v

/-- What the words of PROCTOR and PAIR give once written. -/
def Work.serviceWritten (w : Work) (a : Nat) : Work :=
  if a = PROCTOR.CFG then w.procShow.recnextShow
  else if a = PAIR.CFG then w.pairSee.stbyEval.settleShow
  else w

/-- An accepted write of a word. -/
def Work.wordStore (w : Work) (p : Party) (a : Nat) (v : Word) : Work :=
  if isHdr a then w.hdrStore p a v
  else
    let old := w.rd a
    let w := w.store p a v
    if w.rd a = old then w else w.serviceWritten a

/-- Words in ascending order: the place and code of the first that is refused, or what they leave. -/
def Work.accessWords (p : Party) : List (Nat × Word) → Nat → Work → Option (Nat × Nat) × Work
  | [], _, w => (none, w)
  | (a, v) :: t, i, w =>
    match w.wordRefusal p a v with
    | some c => (some (i, c), w)
    | none => Work.accessWords p t (i + 1) (w.wordStore p a v)

/-- A refusal is noted on the page concerned (R50, R531). -/
def Work.refuseAt (w : Work) (p : Party) (a code : Nat) : Work := if isHdr a then w.refuse (a / 4096) code else w.refuseWord p a code

/-- A write of consecutive words as one indivisible access (R40, R531): whole, or refused and changing nothing else (R50). -/
def Work.access (w : Work) (p : Party) (ws : List (Nat × Word)) : Option (Nat × Nat) × Work :=
  match Work.accessWords p ws 0 w with
  | (some (i, c), _) => (some (i, c), w.refuseAt p ((ws.getD i (0, 0)).1) c)
  | (none, w') =>
    match (pointsOf ws).find? fun e => let c := ptChange w w' e.1; decide (w.x.role ≠ .standby) && w'.ptBad e.1 c.1 c.2 with
    | some e => (some (e.2, rejRange), w.refuse belPage rejRange)
    | none => (none, w')

/-- One word written by a party: a bus error changes nothing (R68). -/
def Work.write1 (w : Work) (p : Party) (a : Nat) (v : Word) : Work :=
  if w.present p = false ∨ w.busError a then w else (w.access p [(a, v)]).2

/-! Reads by a host (R49, R69, R70) -/

/-- The live counters wider than 32 bits: the lowest words. -/
def wideCounters : List Nat := [CUPOLA.OPTIME, TASK.CYCLE, CTLENG.TICK, TIME.NOW, EVT.TOTAL]

/-- A read of a lowest word latches the upper word for the session. -/
def Work.latch (w : Work) (session a : Nat) : Work :=
  if wideCounters.contains a then
    let v := w.rd (a + 4)
    w.upd fun x => { x with pages := { x.pages with
      latches := x.pages.latches.filter (fun l => decide (l.1 ≠ session) || decide (l.2.1 ≠ a + 4)) ++ [(session, a + 4, v)] } }
  else w

/-- What a session reads at an address. -/
def Work.hostWord (w : Work) (session a : Nat) : Word :=
  if kindOf (a / 4096) = .evw then w.windowWord a
  else if isHdr a ∧ a % 4096 = 0x10 then
    match w.unlock? (a / 4096) with
    | some u => if u.party = .host session then HDR.PGSTAT_LOCKED.set (w.rd a) 0 else w.rd a
    | none => w.rd a
  else match w.x.pages.latches.find? fun l => decide (l.1 = session) && decide (l.2.1 = a) with
    | some l => l.2.2
    | none => w.rd a

/-- The addresses of an access. -/
def spanOf (addr count : Nat) : List Nat := (List.range count).map fun i => addr + 4 * i

/-- Does an access span a page boundary, or nothing (R531)? -/
def badSpan (addr count : Nat) : Bool := decide (count = 0) || decide (addr / 4096 ≠ (addr + 4 * (count - 1)) / 4096)

/-- A request of a session is acted on by its SEQ (R530). -/
def Work.request (w : Work) (session seq : Nat) (act : Work → Work) : Work :=
  match w.session? session with
  | none => w
  | some s =>
    if w.netOn s.usb = false then w
    else match s.seqRule seq with
      | some (st, d) => w.send (.answer session seq st d)
      | none => act w

/-- The words that a READ answers, each low word latched before the words after it. -/
def Work.readWords (session : Nat) : List Nat → Work → List Word × Work
  | [], w => ([], w)
  | a :: t, w =>
    let v := w.hostWord session a
    match Work.readWords session t (w.latch session a) with
    | (vs, w) => (v :: vs, w)

/-- READ (R530, R531). -/
def read (session seq addr count : Nat) (w : Work) : Work :=
  w.request session seq fun w =>
    if badSpan addr count then w.answer session seq stSpan []
    else if (spanOf addr count).any w.busError then w.answer session seq stBus []
    else match Work.readWords session (spanOf addr count) w with
      | (vs, w) => w.answer session seq stOk vs

/-- WRITE (R530, R531). -/
def write (session seq addr : Nat) (data : List Word) (w : Work) : Work :=
  w.request session seq fun w =>
    let as := spanOf addr data.length
    if badSpan addr data.length then w.answer session seq stSpan []
    else if as.any w.busError then w.answer session seq stBus []
    else match w.access (.host session) (as.zip data) with
      | (some (i, c), w) => w.answer session seq stRefused [BitVec.ofNat 32 i, BitVec.ofNat 32 c]
      | (none, w) => w.answer session seq stOk []

/-! The rows of single registers -/

/-- REG_WRITE (R624). A task's write to a word that the control engine owns is discarded (R292, R330, R346). -/
def regWrite (p : Party) (addr : Nat) (v : Word) (w : Work) : Work :=
  if p = .program ∧ w.busError addr = false ∧ w.engineOwns addr then w.discardWord addr else w.write1 p addr v

/-- LATCHED_COUNTER_READ (R69). -/
def latchedCounterRead (session addr : Nat) (w : Work) : Work :=
  if w.present (.host session) = false ∨ w.busError addr then w else w.latch session addr

/-- A header word of a page written by a party. -/
def Work.writeHdr (w : Work) (p : Party) (a : Nat) (v : Word) : Work := if isHdr a then w.write1 p a v else w

/-- PAGE_ENABLE, GATE_CLOSE (R37, R38, R584). -/
def pageEnable (p : Party) (page : Nat) (w : Work) : Work := w.writeHdr p (HDR.PGCTL page) 1
def gateClose (p : Party) (page : Nat) (w : Work) : Work := w.writeHdr p (HDR.PGCTL page) 0

/-- PGCTL's EN kept. -/
def Work.enBit (w : Work) (page : Nat) : Word := if w.enabled page then 1 else 0

/-- SOFT_RESET, LOCKREQ (R47, R48, R63). -/
def softReset (p : Party) (page : Nat) (w : Work) : Work := w.writeHdr p (HDR.PGCTL page) (w.enBit page ||| 2)
def lockReq (p : Party) (page : Nat) (w : Work) : Work := w.writeHdr p (HDR.PGCTL page) (w.enBit page ||| 4)

/-- PGKEY_WRITE (R62). -/
def pgkeyWrite (p : Party) (page : Nat) (v : Word) (w : Work) : Work := w.writeHdr p (HDR.PGKEY page) v

/-- An access that is pending at a port when it is isolated is answered with an error (R68): the program's gives a trap of its task, a
host's is the request under way. -/
def Work.portError (w : Work) : PortAccess → Work
  | .task i => w.taskTrap i
  | .host session seq => w.request session seq fun w => w.answer session seq stBus []

/-- GATE_CLOSE_COMPLETE (R584): `pending` is the access that keeps the port busy at the bound, none where the port went idle. -/
def gateCloseComplete (page : Nat) (pending : Option PortAccess) (w : Work) : Work :=
  match pending with
  | none => w.gateShut page false
  | some q => if w.x.pages.closing.contains page then (w.portError q).gateShut page true else w

/-- KEY_LOCKOUT_END (R64). -/
def keyLockoutEnd (page : Nat) (w : Work) : Work :=
  w.upd fun x => { x with pages := { x.pages with lockouts := x.pages.lockouts.filter fun q => decide (q ≠ page) } }

/-- UNLOCK_TIMEOUT (R63): its coming says that 300 s have passed without an RWL write by the holder (log entry 103). -/
def unlockTimeout (page : Nat) (w : Work) : Work := w.lock page

/-- IRQSET_WRITE (R51). -/
def irqsetWrite (p : Party) (page : Nat) (v : Word) (w : Work) : Work := w.writeHdr p (HDR.IRQSET page) v

/-- OP_ABORT (R58). -/
def opAbort (p : Party) (page : Nat) (w : Work) : Work := w.writeHdr p (HDR.OPCMD page) 2

/-- A page's operation ends by an abort or a time-out. -/
def Work.opQuit (w : Work) (page state reason : Nat) : Work :=
  if kindOf page = .proctor then w.recessStop state reason else w.opStop page state reason

/-- Can the operation of a page sample its abort now (the sampling points of the operation tables)? -/
def Work.mayAbort (w : Work) (page : Nat) (o : OpRun) : Bool :=
  match kindOf page, o.op with
  | .sys, op => decide (op = 1 ∨ op = 2)
  | .loop, 2 => match (w.isl (loopOf page)).txn with
    | some t => decide (t.kind ≠ .pass) || !t.sent
    | none => true
  | .pair, 1 => decide (w.pstate ≠ psOut)
  | .slate, 1 => w.x.slate.waiting.contains 5
  | .slate, 2 => w.x.slate.waiting.contains 6
  | .task, _ => w.x.task.due
  | _, _ => true

/-- OP_ABORT_SAMPLED (R58). -/
def opAbortSampled (page : Nat) (w : Work) : Work :=
  match w.op? page with
  | some o => if w.alive ∧ o.abort ∧ w.opBusy page ∧ w.mayAbort page o then w.opQuit page opAborted 1 else w
  | none => w

/-- OP_TIMEOUT (R59). -/
def opTimeout (page : Nat) (w : Work) : Work := if w.alive ∧ w.opBusy page then w.opQuit page opFailed 2 else w

/-- TRIM_WRITE (R140). -/
def trimWrite (p : Party) (n : Nat) (span : Bool) (v : Word) (w : Work) : Work :=
  if 48 ≤ n then w else w.write1 p (if span then LOOP.TRIMS n else LOOP.TRIMZ n) v

/-- SETCLR (R211). -/
def setclr (p : Party) (ch : Nat) (w : Work) : Work :=
  if 32 ≤ ch then w else w.write1 p (SCH.SETCFG ch) (SCH.SETCFG_SETCLR.set (w.rd (SCH.SETCFG ch)) 1)

/-- VFACK (R231). -/
def vfack (p : Party) (g : Nat) (w : Work) : Work :=
  if 8 ≤ g then w else w.write1 p (DIO.GCTL g) (DIO.GCTL_VFACK.set (w.rd (DIO.GCTL g)) 1)

/-- PARAM_WRITE (R341). -/
def paramWrite (p : Party) (addr : Nat) (v : Word) (w : Work) : Work := if kindOf (addr / 4096) = .ram then w.write1 p addr v else w

end Sys2Proof.Machine
end

