-- ==== Sys2Proof/Machine/Run.lean ====
section
/-! DEFINITION. What every command has in common: it begins with nothing sent, and ends with the header words that a released image
carries (R39), the module's health, Proctor's view and Slate's requests following from what it changed; and the passing of 1 ms while no
command waits. -/

namespace Sys2Proof.Machine

/-- A command begins: nothing has been sent yet. -/
def begin (s : State) : Work := { base := s.regs, log := [], x := { s.x with out := [] } }

/-- The words of page headers that the released image carries act, as writes by the program (R39); an interrupt bit that a source has set
within the command stays set (R53). -/
def Work.drainHdr (w : Work) : Work :=
  let l := w.x.task.hdr
  if l = [] then w else (w.each l fun w e => w.write1 .program e.1 e.2).taskUpd fun t => { t with hdr := [] }

/-- SYS.PGHEALTH follows the module's health (R66, R67, R96): a change of class sets the HEALTH source and asks Slate for it (R564); a
Duty that enters Degraded-Replace hands over (R447). -/
def Work.syncHealth (w : Work) : Work :=
  let a := HDR.PGHEALTH 0x000
  let old := w.get a HDR.PGHEALTH_CLASS
  let h := w.moduleHealth
  if old = h.2 ∧ w.get a HDR.PGHEALTH_REASON = h.1 then w
  else
    let w := (w.put a HDR.PGHEALTH_CLASS h.2).put a HDR.PGHEALTH_REASON h.1
    if old = h.2 then w
    else
      let w := (w.irq 0x000 2).slateRequest 2
      if old < 2 ∧ h.2 = 2 then w.drSwap else w

/-- Proctor's view follows a change of state or role, Slate's a change of FORCED (R304, R421, R564). -/
def Work.syncMode (w : Work) (s : State) : Work :=
  let w := if w.x.mode = s.x.mode ∧ w.x.role = s.x.role then w else w.procShow
  if w.get TASK.STAT TASK.STAT_FORCED = s.get TASK.STAT TASK.STAT_FORCED then w else w.slateRequest 2

/-- What a command's effect entails, whatever the command. -/
def Work.settle (w : Work) (s : State) : Work := ((w.drainHdr.syncMode s).vlFollow).syncHealth

/-- The state that a command leaves: its registers in canonical form, whatever list it began with. -/
def finish (s : State) (w : Work) : State :=
  let w := w.settle s
  { regs := regsCommit (w.log ++ w.base) [], x := w.x, pending := s.pending }

/-- A command runs: every one ends in a next state. -/
def runCmd (s : State) (f : Work → Work) : Host.Outcome State Fault Refusal := .next (finish s (f (begin s)))

/-! The passing of 1 ms (log entry 5) -/

/-- REMAIN of every unlock (R61, R63). -/
def Work.remainShow (w : Work) : Work :=
  w.each w.x.pages.unlocks fun w u =>
    let n := min ((u.since + 300000 - w.now + 999) / 1000) 255
    let a := HDR.PGKEY u.page
    if w.get a HDR.PGKEY_REMAIN = n then w else w.put a HDR.PGKEY_REMAIN n

/-- GRACEREM of every function in degraded mode (R268, R285). -/
def Work.graceTick (w : Work) : Work :=
  w.eachFn fun w v f =>
    if (w.sfn v f).deg = false ∨ w.rd (SAFE.FSTAT v f) = w.fstatWord v f then w else w.wr (SAFE.FSTAT v f) (w.fstatWord v f)

/-- Ages of a trunk: RXAGE, ACKAGE, HEARD, and AGE of every mailbox that has carried a frame (R483, R484, R486). -/
def Work.trkTick (w : Work) (t : Nat) : Work :=
  if w.enabled (trkPage t) = false then w
  else
    let a := TRK.AGES t
    let w := (w.incSat a TRK.AGES_RXAGE).incSat a TRK.AGES_ACKAGE
    let w := if 3002 < w.get a TRK.AGES_RXAGE ∧ w.flag (TRK.STAT t) TRK.STAT_HEARD then w.putB (TRK.STAT t) TRK.STAT_HEARD false else w
    let w := if w.now % 1000 ≠ 0 then w
      else
        let n := min (Config.busLoad t w.now) 1000
        (w.put (TRK.LOAD t) TRK.LOAD_LAST n).put (TRK.LOAD t) TRK.LOAD_MAX (max n (w.get (TRK.LOAD t) TRK.LOAD_MAX))
    w.each ((w.trk t).mboxes.map (·.1)) fun w m => if w.rd (TRK.MBRX t m) = 0 then w else w.incSat (TRK.MBRX t m) TRK.MBRX_AGE

/-- A free 16-bit reading. -/
def Work.meter (w : Work) (k : Nat) : Nat := (Config.meter k w.now).toNat

/-- The larger of two signed 16-bit readings. -/
def maxSigned16 (a b : Nat) : Nat := if (BitVec.ofNat 16 a).toInt < (BitVec.ofNat 16 b).toInt then b else a

/-- What a digital group measures (R239, R246): its supply and output current; each output's switch current, and each input's with
WBEN = 1. -/
def Work.dioMeter (w : Work) (g : Nat) : Work :=
  let w := (w.put (DIO.VFMEAS g) DIO.VFMEAS_VF (w.meter (64 + g))).put (DIO.VFMEAS g) DIO.VFMEAS_IGRP (w.meter (72 + g))
  w.each (groupChs g) fun w ch =>
    let measures := decide (w.dioMode ch = 2) || (decide (w.dioMode ch = 1) && w.flag (DCH.CFG ch) DCH.CFG_WBEN)
    w.put (DCH.CUR ch) DCH.CUR_I (if measures then w.meter (80 + ch) else 0)

/-- The raw state of the pins of a digital group, sampled (R219): a free reading (log entry 23). -/
def Work.dioSample (w : Work) (g : Nat) : Work :=
  w.each (groupChs g) fun w ch => (w.dchSet ch fun c => { c with raw := decide (w.meter (144 + ch) % 2 = 1) }).dioShowCh ch

/-- What the safety section does and measures unbidden: the tests of R264 and R265 that now run, at most one of them a dark pulse, external
voltage that has gone (R267), test-pulse sources in current limit and VS (R284, R285). Free readings (log entry 23). -/
def Work.safeMeter (w : Work) : Work :=
  if w.x.safe.dark then w
  else
    let dark := w.meter 208 % 8
    let tests := if w.safeRuns then (List.range 4).filter fun n => if (w.sout n).on then decide (n = dark) else (w.meter 208 / 8).testBit n else []
    let w := w.safeUpd fun s => { s with tests := tests }
    let fell := w.meter 209
    let w := w.each ((List.range 4).filter fun n => (w.sout n).hsext || (w.sout n).lsext) fun w n => w.soutSet n fun o =>
      { o with hsext := o.hsext && !fell.testBit n, lsext := o.lsext && !fell.testBit (n + 4) }
    if w.safeSeen = false then w
    else
      let w := w.each [0, 1] fun w v =>
        ((w.putB (SAFE.PSTAT v) SAFE.PSTAT_TPF0 ((w.meter 210).testBit (2 * v))).putB (SAFE.PSTAT v) SAFE.PSTAT_TPF1
          ((w.meter 210).testBit (2 * v + 1)))
      ((w.put SAFE.VSMEAS SAFE.VSMEAS_VS (w.meter 211)).safeView 0).safeView 1

/-- Measurements that no command brings, every 100 ms (R608 currents, draw and temperature; R209 rail currents; R164 carrier), and PRP's
counts, every second (R524, R546): free readings (log entry 23). -/
def Work.meterTick (w : Work) : Work :=
  if w.now % 100 ≠ 0 then w
  else
    let w := (w.put PWR.IAB PWR.IAB_IA (w.meter 0)).put PWR.IAB PWR.IAB_IB (w.meter 1)
    let w := (w.put PWR.DRAW PWR.DRAW_NOW (w.meter 2)).put PWR.DRAW PWR.DRAW_MAX (max (w.get PWR.DRAW PWR.DRAW_MAX) (w.meter 2))
    let w := (w.put PWR.TEMP PWR.TEMP_NOW (w.meter 3)).put PWR.TEMP PWR.TEMP_MAX (maxSigned16 (w.get PWR.TEMP PWR.TEMP_MAX) (w.meter 3))
    let w := w.each ((List.range 4).filter fun g => w.enabled (sensPage g)) fun w g => w.put (SENS.EXCI g) SENS.EXCI_I (w.meter (4 + g))
    let w := w.each ((List.range 48).filter fun n => w.enabled (loopPage n)) fun w n =>
      w.putB (LOOP.HSTAT n) LOOP.HSTAT_CD (w.flag (LOOP.HCFG n) LOOP.HCFG_HEN && decide (w.meter (16 + n) % 2 = 1))
    let w := w.each ((List.range 8).filter fun g => w.dioLive g && !(w.dgrp g).dark) fun w g => w.dioMeter g
    if w.now % 1000 ≠ 0 then w
    else w.each ([0, 1].filter fun b => w.enabled (netPage b)) fun w b =>
      let up (f : Fld) (k : Nat) : Nat := min 65535 (w.get (NET.CNT1 b) f + w.meter k)
      (w.put (NET.CNT1 b) NET.CNT1_DUPDISC (up NET.CNT1_DUPDISC (8 + 2 * b))).put (NET.CNT1 b) NET.CNT1_LANERR (up NET.CNT1_LANERR (9 + 2 * b))

/-- PROGRESS of every operation that runs (R55): a free reading. -/
def Work.progressShow (w : Work) : Work :=
  w.each w.x.pages.ops fun w o => w.put (HDR.OPSTAT o.page) HDR.OPSTAT_PROGRESS (Config.progress o.page w.now).val

/-- 1 ms passes: operating time, network time, and every count that the registers show of time running. -/
def Work.tick (w : Work) : Work :=
  if w.x.mode = .off then w
  else
    let w := w.wr64 CUPOLA.OPTIME CUPOLA.OPTIMEH ((w.now + 1) % 2 ^ 48)
    if w.x.mode = .failed then w
    else
      let w := w.timeTick.upd fun x => { x with upsets := Config.upsets w.now }
      let w := if w.now % 100 = 0 then w.hartAge else w
      let w := (w.remainShow.graceTick.trkTick 0).trkTick 1
      let w := if w.paired then w.incSat PAIR.PEER PAIR.PEER_PAGE else w
      let w := (((w.clkTick.eccAge).latAge.recnextShow).settleShow).pwShow
      let w := w.meterTick.progressShow.safeMeter.safeOpRun
      let w := w.each ((List.range 8).filter fun g => w.dioLive g && !(w.dgrp g).dark) fun w g => w.dioSample g
      if w.x.lantern.dark then (w.lanternUpd fun l => { l with dark := false }).lanternShow else w

end Sys2Proof.Machine
end

