-- ==== Sys2Proof/Machine/Exec.lean ====
section
/-! DEFINITION. The meaning of every command: one definition per row of spec/opcode_table.json, each the row's effect, defined in its
chapter's file, run between `begin` and `finish`. -/

namespace Sys2Proof.Machine

/-- A command that names something the module does not have changes nothing (log entry 132). -/
abbrev runIf (has : Bool) (s : State) (f : Work → Work) : Host.Outcome State Fault Refusal := runCmd s fun w => if has then f w else w

/-- LOGIC_SUPPLY_RISE (R73). -/
def execLogicSupplyRise (va vb : Nat) (s : State) : Host.Outcome State Fault Refusal := runCmd s (logicSupplyRise va vb)

/-- LOGIC_FEED_CHANGE (R594). -/
def execLogicFeedChange (feedB : Bool) (mv : Int) (s : State) : Host.Outcome State Fault Refusal := runCmd s (logicFeedChange feedB mv)

/-- RIDE_THROUGH (R596). -/
def execRideThrough (s : State) : Host.Outcome State Fault Refusal := runCmd s rideThrough

/-- BOTH_FEEDS_LOST (R596). -/
def execBothFeedsLost (s : State) : Host.Outcome State Fault Refusal := runCmd s bothFeedsLost

/-- LOW_WARNING (R595). -/
def execLowWarning (feedB : Bool) (mv : Nat) (s : State) : Host.Outcome State Fault Refusal := runCmd s (lowWarning feedB mv)

/-- OVERVOLTAGE_DISCONNECT (R595). -/
def execOvervoltageDisconnect (feedB : Bool) (mv : Nat) (s : State) : Host.Outcome State Fault Refusal :=
  runCmd s (overvoltageDisconnect feedB mv)

/-- OVERVOLTAGE_RECONNECT (R606). -/
def execOvervoltageReconnect (feedB : Bool) (mv : Nat) (s : State) : Host.Outcome State Fault Refusal :=
  runCmd s (overvoltageReconnect feedB mv)

/-- POWER_UP_DONE (R73). -/
def execPowerUpDone (osc0 osc1 cupolaOk repairOk : Bool) (capMf vcapMv holdup : Nat) (s : State) : Host.Outcome State Fault Refusal :=
  runCmd s (powerUpDone osc0 osc1 cupolaOk repairOk capMf vcapMv holdup)

/-- LBIST_DONE (R79). -/
def execLbistDone (form : Nat) (pass : Bool) (s : State) : Host.Outcome State Fault Refusal := runCmd s (lbistDone form pass)

/-- MBIST_DONE (R82). -/
def execMbistDone (form : Nat) (faults : List MemFault) (s : State) : Host.Outcome State Fault Refusal := runCmd s (mbistDone form faults)

/-- SELF_TEST_DONE (R79). -/
def execSelfTestDone (rails voter belfry retained : Bool) (bankFaults : List MemFault) (s : State) : Host.Outcome State Fault Refusal :=
  runCmd s (selfTestDone rails voter belfry retained bankFaults)

/-- IMAGE_CHECK_DONE (R90). -/
def execImageCheckDone (s : State) : Host.Outcome State Fault Refusal := runCmd s imageCheckDone

/-- RESTART_RUN (R94). -/
def execRestartRun (s : State) : Host.Outcome State Fault Refusal := runCmd s restartRun

/-- FW_BOOT_FAIL (R539). -/
def execFwBootFail (s : State) : Host.Outcome State Fault Refusal := runCmd s fwBootFail

/-- REG_WRITE (R624). -/
def execRegWrite (p : Party) (addr : Nat) (v : Word) (s : State) : Host.Outcome State Fault Refusal := runCmd s (regWrite p addr v)

/-- LATCHED_COUNTER_READ (R69). -/
def execLatchedCounterRead (session addr : Nat) (s : State) : Host.Outcome State Fault Refusal :=
  runCmd s (latchedCounterRead session addr)

/-- PAGE_ENABLE (R37). -/
def execPageEnable (p : Party) (page : Nat) (s : State) : Host.Outcome State Fault Refusal := runCmd s (pageEnable p page)

/-- GATE_CLOSE (R584). -/
def execGateClose (p : Party) (page : Nat) (s : State) : Host.Outcome State Fault Refusal := runCmd s (gateClose p page)

/-- GATE_CLOSE_COMPLETE (R584). -/
def execGateCloseComplete (page : Nat) (pending : Option PortAccess) (s : State) : Host.Outcome State Fault Refusal :=
  runCmd s (gateCloseComplete page pending)

/-- SOFT_RESET (R48). -/
def execSoftReset (p : Party) (page : Nat) (s : State) : Host.Outcome State Fault Refusal := runCmd s (softReset p page)

/-- LOCKREQ (R47). -/
def execLockReq (p : Party) (page : Nat) (s : State) : Host.Outcome State Fault Refusal := runCmd s (lockReq p page)

/-- PGKEY_WRITE (R62). -/
def execPgkeyWrite (p : Party) (page : Nat) (v : Word) (s : State) : Host.Outcome State Fault Refusal := runCmd s (pgkeyWrite p page v)

/-- KEY_LOCKOUT_END (R64). -/
def execKeyLockoutEnd (page : Nat) (s : State) : Host.Outcome State Fault Refusal := runCmd s (keyLockoutEnd page)

/-- UNLOCK_TIMEOUT (R63). -/
def execUnlockTimeout (page : Nat) (s : State) : Host.Outcome State Fault Refusal := runCmd s (unlockTimeout page)

/-- IRQSET_WRITE (R51). -/
def execIrqsetWrite (p : Party) (page : Nat) (v : Word) (s : State) : Host.Outcome State Fault Refusal := runCmd s (irqsetWrite p page v)

/-- OP_ABORT (R58). -/
def execOpAbort (p : Party) (page : Nat) (s : State) : Host.Outcome State Fault Refusal := runCmd s (opAbort p page)

/-- OP_ABORT_SAMPLED (R58). -/
def execOpAbortSampled (page : Nat) (s : State) : Host.Outcome State Fault Refusal := runCmd s (opAbortSampled page)

/-- OP_TIMEOUT (R59). -/
def execOpTimeout (page : Nat) (s : State) : Host.Outcome State Fault Refusal := runCmd s (opTimeout page)

/-- VERIFY (R104). -/
def execVerify (p : Party) (arg : Nat) (s : State) : Host.Outcome State Fault Refusal := runCmd s (verify p arg)

/-- VERIFY_DONE (R89). -/
def execVerifyDone (s : State) : Host.Outcome State Fault Refusal := runCmd s verifyDone

/-- COMMIT (R91). -/
def execCommit (p : Party) (arg : Nat) (s : State) : Host.Outcome State Fault Refusal := runCmd s (commit p arg)

/-- COMMIT_SWAP (R91). -/
def execCommitSwap (s : State) : Host.Outcome State Fault Refusal := runCmd s commitSwap

/-- START (R93). -/
def execStart (p : Party) (arg : Nat) (s : State) : Host.Outcome State Fault Refusal := runCmd s (start p arg)

/-- WITHHOLD (R93). -/
def execWithhold (p : Party) (arg : Nat) (s : State) : Host.Outcome State Fault Refusal := runCmd s (withhold p arg)

/-- RESET (R104). -/
def execReset (p : Party) (arg : Nat) (s : State) : Host.Outcome State Fault Refusal := runCmd s (reset p arg)

/-- RETEST (R108). -/
def execRetest (p : Party) (form : Nat) (s : State) : Host.Outcome State Fault Refusal := runCmd s (retest p form)

/-- RETEST_DONE (R108). -/
def execRetestDone (lbist : Bool) (faults : List MemFault) (s : State) : Host.Outcome State Fault Refusal :=
  runCmd s (retestDone lbist faults)

/-- CLEAR_HEALTH (R97). -/
def execClearHealth (p : Party) (arg : Nat) (s : State) : Host.Outcome State Fault Refusal := runCmd s (clearHealth p arg)

/-- ECC_CORRECTED (R83). -/
def execEccCorrected (form word : Nat) (s : State) : Host.Outcome State Fault Refusal := runCmd s (eccCorrected form word)

/-- UNCORR_ERROR (R408). -/
def execUncorrError (form : Nat) (s : State) : Host.Outcome State Fault Refusal := runCmd s (uncorrError form)

/-- ISLAND_LINK_LOST (R138). -/
def execIslandLinkLost (n : Nat) (s : State) : Host.Outcome State Fault Refusal := runIf (decide (n < 48)) s (islandLinkLost n)

/-- ISLAND_DARK (R134). -/
def execIslandDark (n : Nat) (s : State) : Host.Outcome State Fault Refusal := runIf (decide (n < 48)) s (islandDark n)

/-- ISLAND_WAKE (R133). -/
def execIslandWake (n : Nat) (cur : Nat) (s : State) : Host.Outcome State Fault Refusal := runIf (decide (n < 48)) s (islandWake n cur)

/-- WAKE_DONE (R134). -/
def execWakeDone (n : Nat) (retainOk limitOk : Bool) (s : State) : Host.Outcome State Fault Refusal :=
  runIf (decide (n < 48)) s (wakeDone n retainOk limitOk)

/-- TIER_DOWN (R114). -/
def execTierDown (n : Nat) (cur : Nat) (s : State) : Host.Outcome State Fault Refusal := runIf (decide (n < 48)) s (tierDown n cur)

/-- TIER_UP (R114). -/
def execTierUp (n : Nat) (cur : Nat) (s : State) : Host.Outcome State Fault Refusal := runIf (decide (n < 48)) s (tierUp n cur)

/-- LOOP_SAMPLE (R116). -/
def execLoopSample (n : Nat) (raw : Int) (drop : Nat) (s : State) : Host.Outcome State Fault Refusal :=
  runIf (decide (n < 48)) s (loopSample n raw drop)

/-- RB_SAMPLE (R125). -/
def execRbSample (n : Nat) (rb : Int) (s : State) : Host.Outcome State Fault Refusal := runIf (decide (n < 48)) s (rbSample n rb)

/-- RBDEV_PERSIST (R125). -/
def execRbdevPersist (n : Nat) (beyond : Bool) (s : State) : Host.Outcome State Fault Refusal :=
  runIf (decide (n < 48)) s (rbdevPersist n beyond)

/-- LOOP_COMPARATOR (R118). -/
def execLoopComparator (n : Nat) (cur : Int) (limiting : Bool) (s : State) : Host.Outcome State Fault Refusal :=
  runIf (decide (n < 48)) s (loopComparator n cur limiting)

/-- COMPLIANCE_SET (R122). -/
def execComplianceSet (n : Nat) (s : State) : Host.Outcome State Fault Refusal := runIf (decide (n < 48)) s (complianceSet n)

/-- AHOLD_ENTER (R123). -/
def execAholdEnter (n : Nat) (s : State) : Host.Outcome State Fault Refusal := runIf (decide (n < 48)) s (aholdEnter n)

/-- AHOLD_EXIT (R123). -/
def execAholdExit (n : Nat) (s : State) : Host.Outcome State Fault Refusal := runIf (decide (n < 48)) s (aholdExit n)

/-- PHOLD_EXPIRED (R134). -/
def execPholdExpired (n : Nat) (s : State) : Host.Outcome State Fault Refusal := runIf (decide (n < 48)) s (pholdExpired n)

/-- NOREG_ENTER (R136). -/
def execNoregEnter (n : Nat) (s : State) : Host.Outcome State Fault Refusal := runIf (decide (n < 48)) s (noregEnter n)

/-- LS_TRIP (R128). -/
def execLsTrip (n : Nat) (s : State) : Host.Outcome State Fault Refusal := runIf (decide (n < 48)) s (lsTrip n)

/-- LS_RETRY (R128). -/
def execLsRetry (n : Nat) (limit : Bool) (s : State) : Host.Outcome State Fault Refusal := runIf (decide (n < 48)) s (lsRetry n limit)

/-- TRIM_WRITE (R140). -/
def execTrimWrite (p : Party) (n : Nat) (span : Bool) (v : Word) (s : State) : Host.Outcome State Fault Refusal :=
  runIf (decide (n < 48)) s (trimWrite p n span v)

/-- TRIM (R141). -/
def execTrim (p : Party) (n arg : Nat) (s : State) : Host.Outcome State Fault Refusal := runIf (decide (n < 48)) s (trim p n arg)

/-- TRIM_ZERO_KEY (R141). -/
def execTrimZeroKey (s : State) : Host.Outcome State Fault Refusal := runCmd s trimZeroKey

/-- TRIM_SPAN_KEY (R141). -/
def execTrimSpanKey (s : State) : Host.Outcome State Fault Refusal := runCmd s trimSpanKey

/-- TRIM_REVERSE (R141). -/
def execTrimReverse (s : State) : Host.Outcome State Fault Refusal := runCmd s trimReverse

/-- TRIM_ACCEPT (R141). -/
def execTrimAccept (s : State) : Host.Outcome State Fault Refusal := runCmd s trimAccept

/-- HARTCMD (R170). -/
def execHartcmd (p : Party) (n cmd : Nat) (s : State) : Host.Outcome State Fault Refusal := runIf (decide (n < 48)) s (hartcmd p n cmd)

/-- HART_SCAN_DUE (R165). -/
def execHartScanDue (n : Nat) (s : State) : Host.Outcome State Fault Refusal := runIf (decide (n < 48)) s (hartScanDue n)

/-- HART_TX_START (R164). -/
def execHartTxStart (n : Nat) (s : State) : Host.Outcome State Fault Refusal := runIf (decide (n < 48)) s (hartTxStart n)

/-- HART_REPLY (R166). -/
def execHartReply (n cmd rcode devst : Nat) (vars : List Word) (data : List Byte) (s : State) : Host.Outcome State Fault Refusal :=
  runIf (decide (n < 48)) s (hartReply n cmd rcode devst vars data)

/-- HART_BURST (R167). -/
def execHartBurst (n cmd rcode devst : Nat) (vars : List Word) (s : State) : Host.Outcome State Fault Refusal :=
  runIf (decide (n < 48)) s (hartBurst n cmd rcode devst vars)

/-- HART_RSP_TIMEOUT (R172). -/
def execHartRspTimeout (n : Nat) (garbled : Bool) (s : State) : Host.Outcome State Fault Refusal :=
  runIf (decide (n < 48)) s (hartRspTimeout n garbled)

/-- HART_TX_ABORT (R162). -/
def execHartTxAbort (n : Nat) (s : State) : Host.Outcome State Fault Refusal := runIf (decide (n < 48)) s (hartTxAbort n)

/-- SCAN_START (R187). -/
def execScanStart (g len : Nat) (s : State) : Host.Outcome State Fault Refusal := runIf (decide (g < 4)) s (scanStart g len)

/-- CJ_SLOT_END (R197). -/
def execCjSlotEnd (g : Nat) (temp : Word) (fault : Bool) (s : State) : Host.Outcome State Fault Refusal :=
  runIf (decide (g < 4)) s (cjSlotEnd g temp fault)

/-- CONVERSION_END (R194). -/
def execConversionEnd (ch : Nat) (raw : Word) (saturated : Bool) (settle : Nat) (s : State) : Host.Outcome State Fault Refusal :=
  runCmd s (conversionEnd ch raw saturated settle)

/-- BURNOUT_CHECK_END (R199). -/
def execBurnoutCheckEnd (ch : Nat) (brk short excLow : Bool) (s : State) : Host.Outcome State Fault Refusal :=
  runCmd s (burnoutCheckEnd ch brk short excLow)

/-- RAIL_OFF (R184). -/
def execRailOff (g : Nat) (s : State) : Host.Outcome State Fault Refusal := runIf (decide (g < 4)) s (railOff g)

/-- RAIL_RETRY (R184). -/
def execRailRetry (g : Nat) (limit : Bool) (s : State) : Host.Outcome State Fault Refusal := runIf (decide (g < 4)) s (railRetry g limit)

/-- SETCLR (R211). -/
def execSetclr (p : Party) (ch : Nat) (s : State) : Host.Outcome State Fault Refusal := runCmd s (setclr p ch)

/-- BLANK_CONTACT (R200). -/
def execBlankContact (g : Nat) (closed : Bool) (s : State) : Host.Outcome State Fault Refusal :=
  runIf (decide (g < 4)) s (blankContact g closed)

/-- BLKLONG (R200). -/
def execBlklong (ch : Nat) (s : State) : Host.Outcome State Fault Refusal := runCmd s (blklong ch)

/-- DI_FILTER_CHANGE (R219). -/
def execDiFilterChange (ch : Nat) (level : Bool) (s : State) : Host.Outcome State Fault Refusal := runCmd s (diFilterChange ch level)

/-- DI_WIREBRK (R221). -/
def execDiWirebrk (ch cur : Nat) (s : State) : Host.Outcome State Fault Refusal := runCmd s (diWirebrk ch cur)

/-- DI_REFILL_END (R232). -/
def execDiRefillEnd (ch : Nat) (s : State) : Host.Outcome State Fault Refusal := runCmd s (diRefillEnd ch)

/-- OUTPUT_OVERLOAD (R224). -/
def execOutputOverload (ch : Nat) (s : State) : Host.Outcome State Fault Refusal := runCmd s (outputOverload ch)

/-- OVERLOAD_RETRY (R224). -/
def execOverloadRetry (ch : Nat) (limit : Bool) (s : State) : Host.Outcome State Fault Refusal := runCmd s (overloadRetry ch limit)

/-- GROUP_SHED (R225). -/
def execGroupShed (g cur : Nat) (s : State) : Host.Outcome State Fault Refusal := runCmd s (groupShed g cur)

/-- DO_DIAG_PERSIST (R226). -/
def execDoDiagPersist (ch : Nat) (d : DoDiag) (present : Bool) (s : State) : Host.Outcome State Fault Refusal :=
  runCmd s (doDiagPersist ch d present)

/-- GROUP_LINK_LOST (R228). -/
def execGroupLinkLost (g : Nat) (s : State) : Host.Outcome State Fault Refusal := runCmd s (groupLinkLost g)

/-- VF_CUT (R229). -/
def execVfCut (g mv : Nat) (s : State) : Host.Outcome State Fault Refusal := runCmd s (vfCut g mv)

/-- VF_RESTORE (R229). -/
def execVfRestore (g mv : Nat) (s : State) : Host.Outcome State Fault Refusal := runCmd s (vfRestore g mv)

/-- DIO_START_TEST_END (R229). -/
def execDioStartTestEnd (g : Nat) (pass : Bool) (s : State) : Host.Outcome State Fault Refusal := runCmd s (dioStartTestEnd g pass)

/-- VF_QUALIFIED (R229). -/
def execVfQualified (g : Nat) (s : State) : Host.Outcome State Fault Refusal := runCmd s (vfQualified g)

/-- VF_WARN (R229). -/
def execVfWarn (g mv : Nat) (s : State) : Host.Outcome State Fault Refusal := runCmd s (vfWarn g mv)

/-- OUTPUT_RESTORE (R230). -/
def execOutputRestore (g : Nat) (s : State) : Host.Outcome State Fault Refusal := runCmd s (outputRestore g)

/-- VFACK (R231). -/
def execVfack (p : Party) (g : Nat) (s : State) : Host.Outcome State Fault Refusal := runCmd s (vfack p g)

/-- CROSSLINK_EXCHANGE (R248). -/
def execCrosslinkExchange (s : State) : Host.Outcome State Fault Refusal := runCmd s crosslinkExchange

/-- XLINK_LOST (R272). -/
def execXlinkLost (s : State) : Host.Outcome State Fault Refusal := runCmd s xlinkLost

/-- TP_PULSE (R252). -/
def execTpPulse (tp : Nat) (lows : List Nat) (s : State) : Host.Outcome State Fault Refusal := runCmd s (tpPulse tp lows)

/-- SI_DEMAND (R253). -/
def execSiDemand (input : Nat) (closed : Bool) (s : State) : Host.Outcome State Fault Refusal := runCmd s (siDemand input closed)

/-- DISCREPANCY (R255). -/
def execDiscrepancy (f : Nat) (s : State) : Host.Outcome State Fault Refusal := runCmd s (discrepancy f)

/-- SAFETY_RESET_BUTTON (R256). -/
def execSafetyResetButton (f heldMs : Nat) (s : State) : Host.Outcome State Fault Refusal := runCmd s (safetyResetButton f heldMs)

/-- STOPDLY_EXPIRED (R258). -/
def execStopdlyExpired (f : Nat) (s : State) : Host.Outcome State Fault Refusal := runCmd s (stopdlyExpired f)

/-- GRACE_LOW (R269). -/
def execGraceLow (f : Nat) (s : State) : Host.Outcome State Fault Refusal := runCmd s (graceLow f)

/-- GRACE_EXPIRED (R268). -/
def execGraceExpired (f : Nat) (s : State) : Host.Outcome State Fault Refusal := runCmd s (graceExpired f)

/-- DEG_CLEAR (R269). -/
def execDegClear (f : Nat) (s : State) : Host.Outcome State Fault Refusal := runCmd s (degClear f)

/-- DARK_PULSE_TEST (R264). -/
def execDarkPulseTest (n : Nat) (fell demand : Bool) (s : State) : Host.Outcome State Fault Refusal :=
  runCmd s (darkPulseTest n fell demand)

/-- OFF_STATE_TEST (R265). -/
def execOffStateTest (n : Nat) (hsOk lsOk switchOn : Bool) (s : State) : Host.Outcome State Fault Refusal :=
  runCmd s (offStateTest n hsOk lsOk switchOn)

/-- SAFE_OUTPUT_OVERLOAD (R263). -/
def execSafeOutputOverload (n : Nat) (s : State) : Host.Outcome State Fault Refusal := runCmd s (safeOutputOverload n)

/-- EXT_VOLTAGE (R267). -/
def execExtVoltage (n : Nat) (high : Bool) (s : State) : Host.Outcome State Fault Refusal := runCmd s (extVoltage n high)

/-- EXT_VOLTAGE_CLEAR (R267). -/
def execExtVoltageClear (n : Nat) (s : State) : Host.Outcome State Fault Refusal := runCmd s (extVoltageClear n)

/-- VS_WARN (R270). -/
def execVsWarn (mv : Nat) (s : State) : Host.Outcome State Fault Refusal := runCmd s (vsWarn mv)

/-- VS_TRIP (R270). -/
def execVsTrip (mv : Nat) (s : State) : Host.Outcome State Fault Refusal := runCmd s (vsTrip mv)

/-- SAFETY_DARK (R270). -/
def execSafetyDark (s : State) : Host.Outcome State Fault Refusal := runCmd s safetyDark

/-- VS_RESTORE (R272). -/
def execVsRestore (mv : Nat) (s : State) : Host.Outcome State Fault Refusal := runCmd s (vsRestore mv)

/-- SAFETY_KEEPALIVE_LOST (R271). -/
def execSafetyKeepaliveLost (s : State) : Host.Outcome State Fault Refusal := runCmd s safetyKeepaliveLost

/-- SAFETY_STARTUP_DONE (R272). -/
def execSafetyStartupDone (pass : Bool) (s : State) : Host.Outcome State Fault Refusal := runCmd s (safetyStartupDone pass)

/-- AB_DISAGREE (R272). -/
def execAbDisagree (s : State) : Host.Outcome State Fault Refusal := runCmd s abDisagree

/-- SEAL (R277). -/
def execSeal (p : Party) (arg : Nat) (s : State) : Host.Outcome State Fault Refusal := runCmd s (sealCfg p arg)

/-- SETPW (R277). -/
def execSetpw (p : Party) (arg : Nat) (s : State) : Host.Outcome State Fault Refusal := runCmd s (setpw p arg)

/-- PW_LOCKOUT_END (R278). -/
def execPwLockoutEnd (s : State) : Host.Outcome State Fault Refusal := runCmd s pwLockoutEnd

/-- MAIN_BOUNDARY (R290). -/
def execMainBoundary (s : State) : Host.Outcome State Fault Refusal := runCmd s mainBoundary

/-- TASK_OVERRUN (R299). -/
def execTaskOverrun (i : Nat) (s : State) : Host.Outcome State Fault Refusal := runCmd s (taskOverrun i)

/-- TRAP (R296). -/
def execTrap (i : Nat) (alone : Option Nat) (s : State) : Host.Outcome State Fault Refusal := runCmd s (trap i alone)

/-- RUN (R297). -/
def execRun (p : Party) (arg : Nat) (s : State) : Host.Outcome State Fault Refusal := runCmd s (run p arg)

/-- STOP (R297). -/
def execStop (p : Party) (arg : Nat) (s : State) : Host.Outcome State Fault Refusal := runCmd s (stop p arg)

/-- HOLD (R297). -/
def execHold (p : Party) (arg : Nat) (s : State) : Host.Outcome State Fault Refusal := runCmd s (hold p arg)

/-- FORCE_SET (R302). -/
def execForceSet (p : Party) (arg : Nat) (s : State) : Host.Outcome State Fault Refusal := runCmd s (forceSet p arg)

/-- FORCE_CLR (R303). -/
def execForceClr (p : Party) (arg : Nat) (s : State) : Host.Outcome State Fault Refusal := runCmd s (forceClr p arg)

/-- FORCE_CLRALL (R304). -/
def execForceClrall (p : Party) (arg : Nat) (s : State) : Host.Outcome State Fault Refusal := runCmd s (forceClrall p arg)

/-- OLC_APPLY (R307). -/
def execOlcApply (p : Party) (arg : Nat) (s : State) : Host.Outcome State Fault Refusal := runCmd s (olcApply p arg)

/-- IO_IN_RECEIVED (R312). -/
def execIoInReceived (st : Nat) (trunkB : Bool) (data : List Byte) (s : State) : Host.Outcome State Fault Refusal :=
  runCmd s (ioInReceived st trunkB data)

/-- IO_ACK_RECEIVED (R310). -/
def execIoAckReceived (st : Nat) (trunkB : Bool) (s : State) : Host.Outcome State Fault Refusal := runCmd s (ioAckReceived st trunkB)

/-- IO_ACK_TIMEOUT (R313). -/
def execIoAckTimeout (st : Nat) (s : State) : Host.Outcome State Fault Refusal := runCmd s (ioAckTimeout st)

/-- HOLD_OUTPUT_PHASE (R310). -/
def execHoldOutputPhase (s : State) : Host.Outcome State Fault Refusal := runCmd s holdOutputPhase

/-- LANE_TICK (R326). -/
def execLaneTick (s : State) : Host.Outcome State Fault Refusal := runCmd s laneTick

/-- LANE_PRESENTATION (R402). -/
def execLanePresentation (form : Nat) (agrees : Bool) (s : State) : Host.Outcome State Fault Refusal :=
  runCmd s (lanePresentation form agrees)

/-- LANE_WINDOW_END (R402). -/
def execLaneWindowEnd (s : State) : Host.Outcome State Fault Refusal := runCmd s laneWindowEnd

/-- PVBAD_TIMEOUT (R329). -/
def execPvbadTimeout (n : Nat) (s : State) : Host.Outcome State Fault Refusal := runIf (decide (n < 64)) s (pvbadTimeout n)

/-- PARAM_WRITE (R341). -/
def execParamWrite (p : Party) (addr : Nat) (v : Word) (s : State) : Host.Outcome State Fault Refusal := runCmd s (paramWrite p addr v)

/-- STKCLR (R345). -/
def execStkclr (p : Party) (high : Bool) (v : Word) (s : State) : Host.Outcome State Fault Refusal := runCmd s (stkclr p high v)

/-- ALARM_DELAY_EXPIRED (R359). -/
def execAlarmDelayExpired (pt : Nat) (cond : Nat) (raised : Bool) (s : State) : Host.Outcome State Fault Refusal :=
  runCmd s fun w => (alarmDelayExpired pt cond raised w).belShown

/-- CHATTER_DOWN (R360). -/
def execChatterDown (pt : Nat) (s : State) : Host.Outcome State Fault Refusal := runCmd s (chatterDown pt)

/-- SHELF_EXPIRED (R367). -/
def execShelfExpired (pt : Nat) (s : State) : Host.Outcome State Fault Refusal := runCmd s fun w => (shelfExpired pt w).belShown

/-- SUPREL_EXPIRED (R366). -/
def execSuprelExpired (g : Nat) (s : State) : Host.Outcome State Fault Refusal := runCmd s fun w => (suprelExpired g w).belShown

/-- ESCALATION (R374). -/
def execEscalation (s : State) : Host.Outcome State Fault Refusal := runCmd s escalation

/-- DEADMAN_PREWARN (R375). -/
def execDeadmanPrewarn (s : State) : Host.Outcome State Fault Refusal := runCmd s deadmanPrewarn

/-- DEADMAN_STAGE3 (R375). -/
def execDeadmanStage3 (s : State) : Host.Outcome State Fault Refusal := runCmd s deadmanStage3

/-- ACK (R370). -/
def execAck (p : Party) (scope target : Nat) (s : State) : Host.Outcome State Fault Refusal := runCmd s (ack p scope target)

/-- SILENCE (R377). -/
def execSilence (p : Party) (s : State) : Host.Outcome State Fault Refusal := runCmd s (silence p)

/-- SHELVE (R367). -/
def execShelve (p : Party) (pt minutes : Nat) (s : State) : Host.Outcome State Fault Refusal := runCmd s (shelve p pt minutes)

/-- UNSHELVE (R370). -/
def execUnshelve (p : Party) (pt : Nat) (s : State) : Host.Outcome State Fault Refusal := runCmd s (unshelve p pt)

/-- OOS (R368). -/
def execOos (p : Party) (pt : Nat) (s : State) : Host.Outcome State Fault Refusal := runCmd s (oos p pt)

/-- INSERV (R370). -/
def execInserv (p : Party) (pt : Nat) (s : State) : Host.Outcome State Fault Refusal := runCmd s (inserv p pt)

/-- BELFRY_RESET (R369). -/
def execBelfryReset (p : Party) (scope target : Nat) (s : State) : Host.Outcome State Fault Refusal :=
  runCmd s (belfryReset p scope target)

/-- WATCH_ON (R375). -/
def execWatchOn (p : Party) (s : State) : Host.Outcome State Fault Refusal := runCmd s (watchOn p)

/-- WATCH_OFF (R375). -/
def execWatchOff (p : Party) (s : State) : Host.Outcome State Fault Refusal := runCmd s (watchOff p)

/-- DMRESET (R375). -/
def execDmreset (p : Party) (s : State) : Host.Outcome State Fault Refusal := runCmd s (dmreset p)

/-- DUTY (R370). -/
def execDuty (p : Party) (engineer : Nat) (s : State) : Host.Outcome State Fault Refusal := runCmd s (duty p engineer)

/-- BELFRY_CMD_RX (R371). -/
def execBelfryCmdRx (trunkB : Bool) (src index : Nat) (cmd : Word) (s : State) : Host.Outcome State Fault Refusal :=
  runCmd s (belfryCmdRx trunkB src index cmd)

/-- BELFRY_CALL_REPEAT (R378). -/
def execBelfryCallRepeat (s : State) : Host.Outcome State Fault Refusal := runCmd s belfryCallRepeat

/-- BELFRY_KEEP_WRITE (R380). -/
def execBelfryKeepWrite (s : State) : Host.Outcome State Fault Refusal := runCmd s belfryKeepWrite

/-- FORM_PRESENTATION (R400). -/
def execFormPresentation (form : Nat) (cp : Checkpoint) (s : State) : Host.Outcome State Fault Refusal :=
  runCmd s (formPresentation form cp)

/-- CHECKPOINT_WINDOW_CLOSE (R400). -/
def execCheckpointWindowClose (s : State) : Host.Outcome State Fault Refusal := runCmd s checkpointWindowClose

/-- BANK_ECC_ERROR (R404). -/
def execBankEccError (bank word : Nat) (uncorr : Bool) (s : State) : Host.Outcome State Fault Refusal :=
  runCmd s (bankEccError bank word uncorr)

/-- RAIL_DISAGREE (R416). -/
def execRailDisagree (s : State) : Host.Outcome State Fault Refusal := runCmd s railDisagree

/-- RESYNC_PASS_COMPLETE (R409). -/
def execResyncPassComplete (form dur : Nat) (clean : Bool) (s : State) : Host.Outcome State Fault Refusal :=
  runCmd s (resyncPassComplete form dur clean)

/-- RECESS_TEST_END (R393). -/
def execRecessTestEnd (form : Nat) (lbist : Bool) (faults : List MemFault) (s : State) : Host.Outcome State Fault Refusal :=
  runCmd s (recessTestEnd form lbist faults)

/-- SPLIT_TESTS_DONE (R411). -/
def execSplitTestsDone (passed : List Nat) (s : State) : Host.Outcome State Fault Refusal := runCmd s (splitTestsDone passed)

/-- ROTATION_DUE (R412). -/
def execRotationDue (s : State) : Host.Outcome State Fault Refusal := runCmd s rotationDue

/-- RECESS_NOW (R423). -/
def execRecessNow (p : Party) (arg : Nat) (s : State) : Host.Outcome State Fault Refusal := runCmd s (recessNow p arg)

/-- PASS_LAPSE (R415). -/
def execPassLapse (resource : Nat) (s : State) : Host.Outcome State Fault Refusal := runCmd s (passLapse resource)

/-- PAIR_HEARTBEAT_TX (R429). -/
def execPairHeartbeatTx (s : State) : Host.Outcome State Fault Refusal := runCmd s pairHeartbeatTx

/-- PAIR_HEARTBEAT_RX (R430). -/
def execPairHeartbeatRx (lane : Nat) (bytes : List Byte) (s : State) : Host.Outcome State Fault Refusal := runCmd s (pairHeartbeatRx lane bytes)

/-- PAIR_LINK_UP (R428). -/
def execPairLinkUp (node serial pnode : Nat) (pref : Bool) (s : State) : Host.Outcome State Fault Refusal :=
  runCmd s (pairLinkUp node serial pnode pref)

/-- PAIR_LINK_LOST (R429). -/
def execPairLinkLost (s : State) : Host.Outcome State Fault Refusal := runCmd s pairLinkLost

/-- MIRROR_DELTA (R432). -/
def execMirrorDelta (cycle : Nat) (layout : Word) (sig : BitVec 128) (kib : Nat) (m : MirrorSet) (s : State) : Host.Outcome State Fault Refusal :=
  runCmd s (mirrorDelta cycle layout sig kib m)

/-- HEALTH_REPORT (R438). -/
def execHealthReport (s : State) : Host.Outcome State Fault Refusal := runCmd s healthReport

/-- PAIR_HEALTH_RX (R438). -/
def execPairHealthRx (m : HealthMsg) (s : State) : Host.Outcome State Fault Refusal := runCmd s (pairHealthRx m)

/-- STBYRDY_HOLD_EXPIRED (R437). -/
def execStbyrdyHoldExpired (s : State) : Host.Outcome State Fault Refusal := runCmd s stbyrdyHoldExpired

/-- CLAIM_WAIT_EXPIRED (R440). -/
def execClaimWaitExpired (s : State) : Host.Outcome State Fault Refusal := runCmd s claimWaitExpired

/-- TAKEOVER_EVIDENCE (R441). -/
def execTakeoverEvidence (s : State) : Host.Outcome State Fault Refusal := runCmd s takeoverEvidence

/-- TAKEOVER_DUTY (R442). -/
def execTakeoverDuty (s : State) : Host.Outcome State Fault Refusal := runCmd s takeoverDuty

/-- YIELD (R443). -/
def execYield (s : State) : Host.Outcome State Fault Refusal := runCmd s yield

/-- DUTY_CONFLICT (R444). -/
def execDutyConflict (peerEpoch : Nat) (s : State) : Host.Outcome State Fault Refusal := runCmd s (dutyConflict peerEpoch)

/-- SWAP (R445). -/
def execSwap (p : Party) (arg : Nat) (s : State) : Host.Outcome State Fault Refusal := runCmd s (swap p arg)

/-- SWAP_BOUNDARY (R445). -/
def execSwapBoundary (s : State) : Host.Outcome State Fault Refusal := runCmd s swapBoundary

/-- SWAP_CONFIRM (R445). -/
def execSwapConfirm (s : State) : Host.Outcome State Fault Refusal := runCmd s swapConfirm

/-- REBASE (R456). -/
def execRebase (p : Party) (arg : Nat) (s : State) : Host.Outcome State Fault Refusal := runCmd s (rebase p arg)

/-- AUTO_RETURN (R446). -/
def execAutoReturn (s : State) : Host.Outcome State Fault Refusal := runCmd s autoReturn

/-- RELINQUISH_RX (R447). -/
def execRelinquishRx (s : State) : Host.Outcome State Fault Refusal := runCmd s relinquishRx

/-- STANDBY_FORM_TEST_END (R436). -/
def execStandbyFormTestEnd (form : Nat) (lbist : Bool) (faults : List MemFault) (s : State) : Host.Outcome State Fault Refusal :=
  runCmd s (standbyFormTestEnd form lbist faults)

/-- HEARTBEAT_TIMER (R24). -/
def execHeartbeatTimer (s : State) : Host.Outcome State Fault Refusal := runCmd s heartbeatTimer

/-- HEARTBEAT_RX (R465). -/
def execHeartbeatRx (trunkB : Bool) (src : Nat) (hb : Heartbeat) (s : State) : Host.Outcome State Fault Refusal :=
  runCmd s (heartbeatRx trunkB src hb)

/-- NODE_LOST (R23). -/
def execNodeLost (trunkB : Bool) (node : Nat) (s : State) : Host.Outcome State Fault Refusal := runCmd s (nodeLost trunkB node)

/-- TX_ATTEMPT_END (R470). -/
def execTxAttemptEnd (trunkB : Bool) (err : Option TrunkErr) (s : State) : Host.Outcome State Fault Refusal :=
  runCmd s (txAttemptEnd trunkB err)

/-- TRUNK_ERROR (R471). -/
def execTrunkError (trunkB : Bool) (kind : TrunkErr) (dataPhase : Bool) (tec rec : Nat) (s : State) : Host.Outcome State Fault Refusal :=
  runCmd s (trunkError trunkB kind dataPhase tec rec)

/-- BUSOFF_RECOVERY (R472). -/
def execBusoffRecovery (trunkB : Bool) (s : State) : Host.Outcome State Fault Refusal := runCmd s (busoffRecovery trunkB)

/-- RESTRICTED_IDLE (R472). -/
def execRestrictedIdle (trunkB : Bool) (s : State) : Host.Outcome State Fault Refusal := runCmd s (restrictedIdle trunkB)

/-- VALID_FRAME_RX (R472). -/
def execValidFrameRx (trunkB : Bool) (src kind : Nat) (s : State) : Host.Outcome State Fault Refusal :=
  runCmd s (validFrameRx trunkB src kind)

/-- DUPNODE_FRAME (R474). -/
def execDupnodeFrame (trunkB : Bool) (s : State) : Host.Outcome State Fault Refusal := runCmd s (dupnodeFrame trunkB)

/-- DUPNODE_CLEAR (R474). -/
def execDupnodeClear (trunkB : Bool) (s : State) : Host.Outcome State Fault Refusal := runCmd s (dupnodeClear trunkB)

/-- EXCHANGE_RX (R477). -/
def execExchangeRx (trunkB : Bool) (src index : Nat) (data : List Byte) (s : State) : Host.Outcome State Fault Refusal :=
  runCmd s (exchangeRx trunkB src index data)

/-- MB_TXREQ (R478). -/
def execMbTxreq (p : Party) (trunkB : Bool) (m : Nat) (s : State) : Host.Outcome State Fault Refusal := runCmd s (mbTxreq p trunkB m)

/-- MBDATA_WRITE (R485). -/
def execMbdataWrite (p : Party) (trunkB : Bool) (i : Nat) (v : Word) (s : State) : Host.Outcome State Fault Refusal :=
  runCmd s (mbdataWrite p trunkB i v)

/-- TIME_SYNC_TX (R491). -/
def execTimeSyncTx (s : State) : Host.Outcome State Fault Refusal := runCmd s timeSyncTx

/-- TIME_SYNC_DROP (R492). -/
def execTimeSyncDrop (trunkB : Bool) (s : State) : Host.Outcome State Fault Refusal := runCmd s (timeSyncDrop trunkB)

/-- TIME_SYNC_RX (R494). -/
def execTimeSyncRx (trunkB : Bool) (ts : TimeSync) (s : State) : Host.Outcome State Fault Refusal := runCmd s (timeSyncRx trunkB ts)

/-- MASTER_TIMEOUT (R489). -/
def execMasterTimeout (s : State) : Host.Outcome State Fault Refusal := runCmd s masterTimeout

/-- PPS_EDGE (R495). -/
def execPpsEdge (offset : Int) (s : State) : Host.Outcome State Fault Refusal := runCmd s (ppsEdge offset)

/-- PPS_LOST (R495). -/
def execPpsLost (s : State) : Host.Outcome State Fault Refusal := runCmd s ppsLost

/-- TIME_HOLD_EXPIRED (R497). -/
def execTimeHoldExpired (s : State) : Host.Outcome State Fault Refusal := runCmd s timeHoldExpired

/-- SETTIME (R500). -/
def execSettime (p : Party) (arg : Nat) (s : State) : Host.Outcome State Fault Refusal := runCmd s (settime p arg)

/-- ACCEPTSTEP (R500). -/
def execAcceptstep (p : Party) (arg : Nat) (s : State) : Host.Outcome State Fault Refusal := runCmd s (acceptstep p arg)

/-- RECORD_APPEND (R507). -/
def execRecordAppend (s : State) : Host.Outcome State Fault Refusal := runCmd s recordAppend

/-- EPISODE_TIMER (R511). -/
def execEpisodeTimer (s : State) : Host.Outcome State Fault Refusal := runCmd s episodeTimer

/-- FREEZE (R513). -/
def execFreeze (p : Party) (arg : Nat) (s : State) : Host.Outcome State Fault Refusal := runCmd s (freeze p arg)

/-- THAW (R514). -/
def execThaw (p : Party) (arg : Nat) (s : State) : Host.Outcome State Fault Refusal := runCmd s (thaw p arg)

/-- FREEZE_EXPIRED (R513). -/
def execFreezeExpired (s : State) : Host.Outcome State Fault Refusal := runCmd s freezeExpired

/-- THAW_DRAIN (R514). -/
def execThawDrain (s : State) : Host.Outcome State Fault Refusal := runCmd s thawDrain

/-- CLEAR (R516). -/
def execClear (p : Party) (arg : Nat) (s : State) : Host.Outcome State Fault Refusal := runCmd s (clear p arg)

/-- EPREL (R512). -/
def execEprel (p : Party) (arg : Nat) (s : State) : Host.Outcome State Fault Refusal := runCmd s (eprel p arg)

/-- OPEN_REQ (R526). -/
def execOpenReq (src : Nat) (usb : Bool) (user : Nat) (hostNonce modNonce : List Byte) (session : Nat) (s : State) : Host.Outcome State Fault Refusal :=
  runCmd s (openReq src usb user hostNonce modNonce session)

/-- OPEN_PROOF (R527). -/
def execOpenProof (src session : Nat) (hostNonce modNonce hmac : List Byte) (s : State) : Host.Outcome State Fault Refusal :=
  runCmd s (openProof src session hostNonce modNonce hmac)

/-- OFFER_WITHDRAWN (R527). -/
def execOfferWithdrawn (session : Nat) (s : State) : Host.Outcome State Fault Refusal := runCmd s (offerWithdrawn session)

/-- USER_LOCKOUT_END (R526). -/
def execUserLockoutEnd (user : Nat) (s : State) : Host.Outcome State Fault Refusal := runCmd s (userLockoutEnd user)

/-- READ (R531). -/
def execRead (session seq addr count : Nat) (s : State) : Host.Outcome State Fault Refusal := runCmd s (read session seq addr count)

/-- WRITE (R531). -/
def execWrite (session seq addr : Nat) (data : List Word) (s : State) : Host.Outcome State Fault Refusal :=
  runCmd s (write session seq addr data)

/-- CLOSE (R532). -/
def execClose (session seq : Nat) (s : State) : Host.Outcome State Fault Refusal := runCmd s (close session seq)

/-- INVALID_MESSAGE (R528). -/
def execInvalidMessage (src : Nat) (s : State) : Host.Outcome State Fault Refusal := runCmd s (invalidMessage src)

/-- SOURCE_BLOCK_END (R528). -/
def execSourceBlockEnd (src : Nat) (s : State) : Host.Outcome State Fault Refusal := runCmd s (sourceBlockEnd src)

/-- SESSION_IDLE (R532). -/
def execSessionIdle (session : Nat) (s : State) : Host.Outcome State Fault Refusal := runCmd s (sessionIdle session)

/-- USB_DETACH (R532). -/
def execUsbDetach (s : State) : Host.Outcome State Fault Refusal := runCmd s usbDetach

/-- NOTIFY_SEND (R533). -/
def execNotifySend (session : Nat) (s : State) : Host.Outcome State Fault Refusal := runCmd s (notifySend session)

/-- NOTIFY_REPEAT (R533). -/
def execNotifyRepeat (session : Nat) (s : State) : Host.Outcome State Fault Refusal := runCmd s (notifyRepeat session)

/-- NOTIFY_ACK (R533). -/
def execNotifyAck (session seq : Nat) (s : State) : Host.Outcome State Fault Refusal := runCmd s (notifyAck session seq)

/-- BLKACK (R535). -/
def execBlkack (ch seq : Nat) (s : State) : Host.Outcome State Fault Refusal := runCmd s (blkack ch seq)

/-- BLKDATA (R535). -/
def execBlkdata (ch seq : Nat) (words : List Word) (content : ImageContent) (s : State) : Host.Outcome State Fault Refusal :=
  runCmd s (blkdata ch seq words content)

/-- BLK_RESEND (R535). -/
def execBlkResend (ch seq : Nat) (s : State) : Host.Outcome State Fault Refusal := runCmd s (blkResend ch seq)

/-- LINK_DOWN (R524). -/
def execLinkDown (portB : Bool) (s : State) : Host.Outcome State Fault Refusal := runCmd s (linkDown portB)

/-- LAN_SILENT (R524). -/
def execLanSilent (portB : Bool) (s : State) : Host.Outcome State Fault Refusal := runCmd s (lanSilent portB)

/-- PRP_SUPERVISION (R522). -/
def execPrpSupervision (s : State) : Host.Outcome State Fault Refusal := runCmd s prpSupervision

/-- OTHER_DATAGRAM (R523). -/
def execOtherDatagram (portB : Bool) (kind : Nat) (s : State) : Host.Outcome State Fault Refusal := runCmd s (otherDatagram portB kind)

/-- IP_CHANGE_EFFECT (R545). -/
def execIpChangeEffect (s : State) : Host.Outcome State Fault Refusal := runCmd s ipChangeEffect

/-- PULL_IMAGE (R538). -/
def execPullImage (p : Party) (arg : Nat) (s : State) : Host.Outcome State Fault Refusal := runCmd s (pullImage p arg)

/-- PUSH_EVENTS (R536). -/
def execPushEvents (p : Party) (arg : Nat) (s : State) : Host.Outcome State Fault Refusal := runCmd s (pushEvents p arg)

/-- BATCH_COMMIT (R536). -/
def execBatchCommit (s : State) : Host.Outcome State Fault Refusal := runCmd s batchCommit

/-- PULL_CHANGESET (R538). -/
def execPullChangeset (p : Party) (arg : Nat) (s : State) : Host.Outcome State Fault Refusal := runCmd s (pullChangeset p arg)

/-- PULL_FW (R539). -/
def execPullFw (p : Party) (arg : Nat) (s : State) : Host.Outcome State Fault Refusal := runCmd s (pullFw p arg)

/-- ACTIVATE_FW (R539). -/
def execActivateFw (p : Party) (arg : Nat) (s : State) : Host.Outcome State Fault Refusal := runCmd s (activateFw p arg)

/-- SETIMGKEY (R540). -/
def execSetimgkey (p : Party) (arg : Nat) (s : State) : Host.Outcome State Fault Refusal := runCmd s (setimgkey p arg)

/-- USERSET (R541). -/
def execUserset (p : Party) (arg : Nat) (s : State) : Host.Outcome State Fault Refusal := runCmd s (userset p arg)

/-- TREND_SAMPLE (R537). -/
def execTrendSample (stream : Nat) (s : State) : Host.Outcome State Fault Refusal := runCmd s (trendSample stream)

/-- PANEL_KEY_PRESS (R560). -/
def execPanelKeyPress (k : Nat) (s : State) : Host.Outcome State Fault Refusal := runCmd s (panelKeyPress k)

/-- KEY_STUCK (R560). -/
def execKeyStuck (k : Nat) (s : State) : Host.Outcome State Fault Refusal := runCmd s (keyStuck k)

/-- COM_OVERCURRENT (R559). -/
def execComOvercurrent (line : Nat) (s : State) : Host.Outcome State Fault Refusal := runCmd s (comOvercurrent line)

/-- COMSHORT_CLEAR (R559). -/
def execComshortClear (s : State) : Host.Outcome State Fault Refusal := runCmd s comshortClear

/-- LANTERN_KEEPALIVE_LOST (R556). -/
def execLanternKeepaliveLost (s : State) : Host.Outcome State Fault Refusal := runCmd s lanternKeepaliveLost

/-- LAMPTEST (R572). -/
def execLamptest (p : Party) (arg : Nat) (s : State) : Host.Outcome State Fault Refusal := runCmd s (lamptest p arg)

/-- LAMPTEST_END (R558). -/
def execLamptestEnd (s : State) : Host.Outcome State Fault Refusal := runCmd s lamptestEnd

/-- SLATE_UPDATE_START (R566). -/
def execSlateUpdateStart (region : Nat) (s : State) : Host.Outcome State Fault Refusal := runCmd s (slateUpdateStart region)

/-- SLATE_UPDATE_END (R567). -/
def execSlateUpdateEnd (s : State) : Host.Outcome State Fault Refusal := runCmd s slateUpdateEnd

/-- HOLDUP_MEASURE (R569). -/
def execHoldupMeasure (reserve : Nat) (s : State) : Host.Outcome State Fault Refusal := runCmd s (holdupMeasure reserve)

/-- REDRAW (R574). -/
def execRedraw (p : Party) (arg : Nat) (s : State) : Host.Outcome State Fault Refusal := runCmd s (redraw p arg)

/-- CLEAN (R574). -/
def execClean (p : Party) (arg : Nat) (s : State) : Host.Outcome State Fault Refusal := runCmd s (clean p arg)

/-- REF_STOPPED (R580). -/
def execRefStopped (ref : Nat) (s : State) : Host.Outcome State Fault Refusal := runCmd s (refStopped ref)

/-- SUPERVISOR_WINDOW (R580). -/
def execSupervisorWindow (dev0 dev1 : Int) (s : State) : Host.Outcome State Fault Refusal := runCmd s (supervisorWindow dev0 dev1)

/-- ISLAND_SWITCH (R578). -/
def execIslandSwitch (gapNs : Nat) (s : State) : Host.Outcome State Fault Refusal := runCmd s (islandSwitch gapNs)

/-- CLOCK_CHECK (R582). -/
def execClockCheck (code : Nat) (inTol : Bool) (s : State) : Host.Outcome State Fault Refusal := runCmd s (clockCheck code inTol)

/-- PLL_LOCK_LOSS (R583). -/
def execPllLockLoss (island : Nat) (s : State) : Host.Outcome State Fault Refusal := runCmd s (pllLockLoss island)

/-- PLL_LOCK_TIMEOUT (R583). -/
def execPllLockTimeout (island : Nat) (s : State) : Host.Outcome State Fault Refusal := runCmd s (pllLockTimeout island)

/-- MEASURE (R591). -/
def execMeasure (p : Party) (arg : Nat) (s : State) : Host.Outcome State Fault Refusal := runCmd s (measure p arg)

/-- MEASURE_DONE (R591). -/
def execMeasureDone (count : Nat) (s : State) : Host.Outcome State Fault Refusal := runCmd s (measureDone count)

/-- SWITCH (R592). -/
def execSwitch (p : Party) (arg : Nat) (s : State) : Host.Outcome State Fault Refusal := runCmd s (switch p arg)

/-- CUPOLA_COPY (R605). -/
def execCupolaCopy (s : State) : Host.Outcome State Fault Refusal := runCmd s cupolaCopy

/-- CAP_MEASURE (R602). -/
def execCapMeasure (capMf vcapMv : Nat) (s : State) : Host.Outcome State Fault Refusal := runCmd s (capMeasure capMf vcapMv)

/-- TAMPER_EVENT (R604). -/
def execTamperEvent (kind : Nat) (s : State) : Host.Outcome State Fault Refusal := runCmd s (tamperEvent kind)

/-- CLRTAMPER (R610). -/
def execClrtamper (p : Party) (arg : Nat) (s : State) : Host.Outcome State Fault Refusal := runCmd s (clrtamper p arg)

/-- VL_SUPPLY_CHANGE (R598). -/
def execVlSupplyChange (group : Nat) (mv : Nat) (s : State) : Host.Outcome State Fault Refusal := runCmd s (vlSupplyChange group mv)

/-- GROUP_ISLAND_DARK (R220). -/
def execGroupIslandDark (dio : Bool) (g : Nat) (dark : Bool) (vfMv : Nat) (s : State) : Host.Outcome State Fault Refusal :=
  runCmd s (groupIslandDark dio g dark vfMv)

/-- SAFETY_SELF_CHECK (R253). -/
def execSafetySelfCheck (input : Option Nat) (s : State) : Host.Outcome State Fault Refusal := runCmd s (safetySelfCheck input)

/-- PAIR_LANE_LOST (R429). -/
def execPairLaneLost (lane : Nat) (s : State) : Host.Outcome State Fault Refusal := runCmd s (pairLaneLost lane)

/-- LINK_UP (R524). -/
def execLinkUp (portB : Bool) (s : State) : Host.Outcome State Fault Refusal := runCmd s (linkUp portB)

/-- PANEL_KEY_RELEASE (R560). -/
def execPanelKeyRelease (k : Nat) (s : State) : Host.Outcome State Fault Refusal := runCmd s (panelKeyRelease k)

end Sys2Proof.Machine
end

