-- ==== Sys2Proof/Machine/Dispatch.lean ====
section
/-! DEFINITION. Dispatch: each command to its meaning. -/

namespace Sys2Proof.Machine

def exec (i : Instr) (s : State) : Host.Outcome State Fault Refusal :=
  match i with
  | .logicSupplyRise va vb => Sys2Proof.Machine.execLogicSupplyRise va vb s
  | .logicFeedChange feedB mv => Sys2Proof.Machine.execLogicFeedChange feedB mv s
  | .rideThrough => Sys2Proof.Machine.execRideThrough s
  | .bothFeedsLost => Sys2Proof.Machine.execBothFeedsLost s
  | .lowWarning feedB mv => Sys2Proof.Machine.execLowWarning feedB mv s
  | .overvoltageDisconnect feedB mv => Sys2Proof.Machine.execOvervoltageDisconnect feedB mv s
  | .overvoltageReconnect feedB mv => Sys2Proof.Machine.execOvervoltageReconnect feedB mv s
  | .powerUpDone osc0 osc1 cupolaOk repairOk capMf vcapMv holdup => Sys2Proof.Machine.execPowerUpDone osc0 osc1 cupolaOk repairOk capMf vcapMv holdup s
  | .lbistDone form pass => Sys2Proof.Machine.execLbistDone form pass s
  | .mbistDone form faults => Sys2Proof.Machine.execMbistDone form faults s
  | .selfTestDone rails voter belfry retained bankFaults => Sys2Proof.Machine.execSelfTestDone rails voter belfry retained bankFaults s
  | .imageCheckDone => Sys2Proof.Machine.execImageCheckDone s
  | .restartRun => Sys2Proof.Machine.execRestartRun s
  | .fwBootFail => Sys2Proof.Machine.execFwBootFail s
  | .regWrite p addr v => Sys2Proof.Machine.execRegWrite p addr v s
  | .latchedCounterRead session addr => Sys2Proof.Machine.execLatchedCounterRead session addr s
  | .pageEnable p page => Sys2Proof.Machine.execPageEnable p page s
  | .gateClose p page => Sys2Proof.Machine.execGateClose p page s
  | .gateCloseComplete page pending => Sys2Proof.Machine.execGateCloseComplete page pending s
  | .softReset p page => Sys2Proof.Machine.execSoftReset p page s
  | .lockReq p page => Sys2Proof.Machine.execLockReq p page s
  | .pgkeyWrite p page v => Sys2Proof.Machine.execPgkeyWrite p page v s
  | .keyLockoutEnd page => Sys2Proof.Machine.execKeyLockoutEnd page s
  | .unlockTimeout page => Sys2Proof.Machine.execUnlockTimeout page s
  | .irqsetWrite p page v => Sys2Proof.Machine.execIrqsetWrite p page v s
  | .opAbort p page => Sys2Proof.Machine.execOpAbort p page s
  | .opAbortSampled page => Sys2Proof.Machine.execOpAbortSampled page s
  | .opTimeout page => Sys2Proof.Machine.execOpTimeout page s
  | .verify p arg => Sys2Proof.Machine.execVerify p arg s
  | .verifyDone => Sys2Proof.Machine.execVerifyDone s
  | .commit p arg => Sys2Proof.Machine.execCommit p arg s
  | .commitSwap => Sys2Proof.Machine.execCommitSwap s
  | .start p arg => Sys2Proof.Machine.execStart p arg s
  | .withhold p arg => Sys2Proof.Machine.execWithhold p arg s
  | .reset p arg => Sys2Proof.Machine.execReset p arg s
  | .retest p form => Sys2Proof.Machine.execRetest p form s
  | .retestDone lbist faults => Sys2Proof.Machine.execRetestDone lbist faults s
  | .clearHealth p arg => Sys2Proof.Machine.execClearHealth p arg s
  | .eccCorrected form word => Sys2Proof.Machine.execEccCorrected form word s
  | .uncorrError form => Sys2Proof.Machine.execUncorrError form s
  | .islandLinkLost n => Sys2Proof.Machine.execIslandLinkLost n s
  | .islandDark n => Sys2Proof.Machine.execIslandDark n s
  | .islandWake n cur => Sys2Proof.Machine.execIslandWake n cur s
  | .wakeDone n retainOk limitOk => Sys2Proof.Machine.execWakeDone n retainOk limitOk s
  | .tierDown n cur => Sys2Proof.Machine.execTierDown n cur s
  | .tierUp n cur => Sys2Proof.Machine.execTierUp n cur s
  | .loopSample n raw drop => Sys2Proof.Machine.execLoopSample n raw drop s
  | .rbSample n rb => Sys2Proof.Machine.execRbSample n rb s
  | .rbdevPersist n beyond => Sys2Proof.Machine.execRbdevPersist n beyond s
  | .loopComparator n cur limiting => Sys2Proof.Machine.execLoopComparator n cur limiting s
  | .complianceSet n => Sys2Proof.Machine.execComplianceSet n s
  | .aholdEnter n => Sys2Proof.Machine.execAholdEnter n s
  | .aholdExit n => Sys2Proof.Machine.execAholdExit n s
  | .pholdExpired n => Sys2Proof.Machine.execPholdExpired n s
  | .noregEnter n => Sys2Proof.Machine.execNoregEnter n s
  | .lsTrip n => Sys2Proof.Machine.execLsTrip n s
  | .lsRetry n limit => Sys2Proof.Machine.execLsRetry n limit s
  | .trimWrite p n span v => Sys2Proof.Machine.execTrimWrite p n span v s
  | .trim p n arg => Sys2Proof.Machine.execTrim p n arg s
  | .trimZeroKey => Sys2Proof.Machine.execTrimZeroKey s
  | .trimSpanKey => Sys2Proof.Machine.execTrimSpanKey s
  | .trimReverse => Sys2Proof.Machine.execTrimReverse s
  | .trimAccept => Sys2Proof.Machine.execTrimAccept s
  | .hartcmd p n cmd => Sys2Proof.Machine.execHartcmd p n cmd s
  | .hartScanDue n => Sys2Proof.Machine.execHartScanDue n s
  | .hartTxStart n => Sys2Proof.Machine.execHartTxStart n s
  | .hartReply n cmd rcode devst vars data => Sys2Proof.Machine.execHartReply n cmd rcode devst vars data s
  | .hartBurst n cmd rcode devst vars => Sys2Proof.Machine.execHartBurst n cmd rcode devst vars s
  | .hartRspTimeout n garbled => Sys2Proof.Machine.execHartRspTimeout n garbled s
  | .hartTxAbort n => Sys2Proof.Machine.execHartTxAbort n s
  | .scanStart g len => Sys2Proof.Machine.execScanStart g len s
  | .cjSlotEnd g temp fault => Sys2Proof.Machine.execCjSlotEnd g temp fault s
  | .conversionEnd ch raw saturated settle => Sys2Proof.Machine.execConversionEnd ch raw saturated settle s
  | .burnoutCheckEnd ch brk short excLow => Sys2Proof.Machine.execBurnoutCheckEnd ch brk short excLow s
  | .railOff g => Sys2Proof.Machine.execRailOff g s
  | .railRetry g limit => Sys2Proof.Machine.execRailRetry g limit s
  | .setclr p ch => Sys2Proof.Machine.execSetclr p ch s
  | .blankContact g closed => Sys2Proof.Machine.execBlankContact g closed s
  | .blklong ch => Sys2Proof.Machine.execBlklong ch s
  | .diFilterChange ch level => Sys2Proof.Machine.execDiFilterChange ch level s
  | .diWirebrk ch cur => Sys2Proof.Machine.execDiWirebrk ch cur s
  | .diRefillEnd ch => Sys2Proof.Machine.execDiRefillEnd ch s
  | .outputOverload ch => Sys2Proof.Machine.execOutputOverload ch s
  | .overloadRetry ch limit => Sys2Proof.Machine.execOverloadRetry ch limit s
  | .groupShed g cur => Sys2Proof.Machine.execGroupShed g cur s
  | .doDiagPersist ch d present => Sys2Proof.Machine.execDoDiagPersist ch d present s
  | .groupLinkLost g => Sys2Proof.Machine.execGroupLinkLost g s
  | .vfCut g mv => Sys2Proof.Machine.execVfCut g mv s
  | .vfRestore g mv => Sys2Proof.Machine.execVfRestore g mv s
  | .dioStartTestEnd g pass => Sys2Proof.Machine.execDioStartTestEnd g pass s
  | .vfQualified g => Sys2Proof.Machine.execVfQualified g s
  | .vfWarn g mv => Sys2Proof.Machine.execVfWarn g mv s
  | .outputRestore g => Sys2Proof.Machine.execOutputRestore g s
  | .vfack p g => Sys2Proof.Machine.execVfack p g s
  | .crosslinkExchange => Sys2Proof.Machine.execCrosslinkExchange s
  | .xlinkLost => Sys2Proof.Machine.execXlinkLost s
  | .tpPulse tp lows => Sys2Proof.Machine.execTpPulse tp lows s
  | .siDemand input closed => Sys2Proof.Machine.execSiDemand input closed s
  | .discrepancy f => Sys2Proof.Machine.execDiscrepancy f s
  | .safetyResetButton f heldMs => Sys2Proof.Machine.execSafetyResetButton f heldMs s
  | .stopdlyExpired f => Sys2Proof.Machine.execStopdlyExpired f s
  | .graceLow f => Sys2Proof.Machine.execGraceLow f s
  | .graceExpired f => Sys2Proof.Machine.execGraceExpired f s
  | .degClear f => Sys2Proof.Machine.execDegClear f s
  | .darkPulseTest n fell demand => Sys2Proof.Machine.execDarkPulseTest n fell demand s
  | .offStateTest n hsOk lsOk switchOn => Sys2Proof.Machine.execOffStateTest n hsOk lsOk switchOn s
  | .safeOutputOverload n => Sys2Proof.Machine.execSafeOutputOverload n s
  | .extVoltage n high => Sys2Proof.Machine.execExtVoltage n high s
  | .extVoltageClear n => Sys2Proof.Machine.execExtVoltageClear n s
  | .vsWarn mv => Sys2Proof.Machine.execVsWarn mv s
  | .vsTrip mv => Sys2Proof.Machine.execVsTrip mv s
  | .safetyDark => Sys2Proof.Machine.execSafetyDark s
  | .vsRestore mv => Sys2Proof.Machine.execVsRestore mv s
  | .safetyKeepaliveLost => Sys2Proof.Machine.execSafetyKeepaliveLost s
  | .safetyStartupDone pass => Sys2Proof.Machine.execSafetyStartupDone pass s
  | .abDisagree => Sys2Proof.Machine.execAbDisagree s
  | .seal p arg => Sys2Proof.Machine.execSeal p arg s
  | .setpw p arg => Sys2Proof.Machine.execSetpw p arg s
  | .pwLockoutEnd => Sys2Proof.Machine.execPwLockoutEnd s
  | .mainBoundary => Sys2Proof.Machine.execMainBoundary s
  | .taskOverrun t => Sys2Proof.Machine.execTaskOverrun t s
  | .trap t alone => Sys2Proof.Machine.execTrap t alone s
  | .run p arg => Sys2Proof.Machine.execRun p arg s
  | .stop p arg => Sys2Proof.Machine.execStop p arg s
  | .hold p arg => Sys2Proof.Machine.execHold p arg s
  | .forceSet p arg => Sys2Proof.Machine.execForceSet p arg s
  | .forceClr p arg => Sys2Proof.Machine.execForceClr p arg s
  | .forceClrall p arg => Sys2Proof.Machine.execForceClrall p arg s
  | .olcApply p arg => Sys2Proof.Machine.execOlcApply p arg s
  | .ioInReceived st trunkB data => Sys2Proof.Machine.execIoInReceived st trunkB data s
  | .ioAckReceived st trunkB => Sys2Proof.Machine.execIoAckReceived st trunkB s
  | .ioAckTimeout st => Sys2Proof.Machine.execIoAckTimeout st s
  | .holdOutputPhase => Sys2Proof.Machine.execHoldOutputPhase s
  | .laneTick => Sys2Proof.Machine.execLaneTick s
  | .lanePresentation form agrees => Sys2Proof.Machine.execLanePresentation form agrees s
  | .laneWindowEnd => Sys2Proof.Machine.execLaneWindowEnd s
  | .pvbadTimeout n => Sys2Proof.Machine.execPvbadTimeout n s
  | .paramWrite p addr v => Sys2Proof.Machine.execParamWrite p addr v s
  | .stkclr p high v => Sys2Proof.Machine.execStkclr p high v s
  | .alarmDelayExpired pt cond raised => Sys2Proof.Machine.execAlarmDelayExpired pt cond raised s
  | .chatterDown pt => Sys2Proof.Machine.execChatterDown pt s
  | .shelfExpired pt => Sys2Proof.Machine.execShelfExpired pt s
  | .suprelExpired g => Sys2Proof.Machine.execSuprelExpired g s
  | .escalation => Sys2Proof.Machine.execEscalation s
  | .deadmanPrewarn => Sys2Proof.Machine.execDeadmanPrewarn s
  | .deadmanStage3 => Sys2Proof.Machine.execDeadmanStage3 s
  | .ack p scope target => Sys2Proof.Machine.execAck p scope target s
  | .silence p => Sys2Proof.Machine.execSilence p s
  | .shelve p pt minutes => Sys2Proof.Machine.execShelve p pt minutes s
  | .unshelve p pt => Sys2Proof.Machine.execUnshelve p pt s
  | .oos p pt => Sys2Proof.Machine.execOos p pt s
  | .inserv p pt => Sys2Proof.Machine.execInserv p pt s
  | .belfryReset p scope target => Sys2Proof.Machine.execBelfryReset p scope target s
  | .watchOn p => Sys2Proof.Machine.execWatchOn p s
  | .watchOff p => Sys2Proof.Machine.execWatchOff p s
  | .dmreset p => Sys2Proof.Machine.execDmreset p s
  | .duty p engineer => Sys2Proof.Machine.execDuty p engineer s
  | .belfryCmdRx trunkB src index cmd => Sys2Proof.Machine.execBelfryCmdRx trunkB src index cmd s
  | .belfryCallRepeat => Sys2Proof.Machine.execBelfryCallRepeat s
  | .belfryKeepWrite => Sys2Proof.Machine.execBelfryKeepWrite s
  | .formPresentation form cp => Sys2Proof.Machine.execFormPresentation form cp s
  | .checkpointWindowClose => Sys2Proof.Machine.execCheckpointWindowClose s
  | .bankEccError bank word uncorr => Sys2Proof.Machine.execBankEccError bank word uncorr s
  | .railDisagree => Sys2Proof.Machine.execRailDisagree s
  | .resyncPassComplete form dur clean => Sys2Proof.Machine.execResyncPassComplete form dur clean s
  | .recessTestEnd form lbist faults => Sys2Proof.Machine.execRecessTestEnd form lbist faults s
  | .splitTestsDone passed => Sys2Proof.Machine.execSplitTestsDone passed s
  | .rotationDue => Sys2Proof.Machine.execRotationDue s
  | .recessNow p arg => Sys2Proof.Machine.execRecessNow p arg s
  | .passLapse resource => Sys2Proof.Machine.execPassLapse resource s
  | .pairHeartbeatTx => Sys2Proof.Machine.execPairHeartbeatTx s
  | .pairHeartbeatRx lane bytes => Sys2Proof.Machine.execPairHeartbeatRx lane bytes s
  | .pairLinkUp node serial pnode pref => Sys2Proof.Machine.execPairLinkUp node serial pnode pref s
  | .pairLinkLost => Sys2Proof.Machine.execPairLinkLost s
  | .mirrorDelta cycle layout sig kib m => Sys2Proof.Machine.execMirrorDelta cycle layout sig kib m s
  | .healthReport => Sys2Proof.Machine.execHealthReport s
  | .pairHealthRx m => Sys2Proof.Machine.execPairHealthRx m s
  | .stbyrdyHoldExpired => Sys2Proof.Machine.execStbyrdyHoldExpired s
  | .claimWaitExpired => Sys2Proof.Machine.execClaimWaitExpired s
  | .takeoverEvidence => Sys2Proof.Machine.execTakeoverEvidence s
  | .takeoverDuty => Sys2Proof.Machine.execTakeoverDuty s
  | .yield => Sys2Proof.Machine.execYield s
  | .dutyConflict peerEpoch => Sys2Proof.Machine.execDutyConflict peerEpoch s
  | .swap p arg => Sys2Proof.Machine.execSwap p arg s
  | .swapBoundary => Sys2Proof.Machine.execSwapBoundary s
  | .swapConfirm => Sys2Proof.Machine.execSwapConfirm s
  | .rebase p arg => Sys2Proof.Machine.execRebase p arg s
  | .autoReturn => Sys2Proof.Machine.execAutoReturn s
  | .relinquishRx => Sys2Proof.Machine.execRelinquishRx s
  | .standbyFormTestEnd form lbist faults => Sys2Proof.Machine.execStandbyFormTestEnd form lbist faults s
  | .heartbeatTimer => Sys2Proof.Machine.execHeartbeatTimer s
  | .heartbeatRx trunkB src hb => Sys2Proof.Machine.execHeartbeatRx trunkB src hb s
  | .nodeLost trunkB node => Sys2Proof.Machine.execNodeLost trunkB node s
  | .txAttemptEnd trunkB err => Sys2Proof.Machine.execTxAttemptEnd trunkB err s
  | .trunkError trunkB kind dataPhase tec rec => Sys2Proof.Machine.execTrunkError trunkB kind dataPhase tec rec s
  | .busoffRecovery trunkB => Sys2Proof.Machine.execBusoffRecovery trunkB s
  | .restrictedIdle trunkB => Sys2Proof.Machine.execRestrictedIdle trunkB s
  | .validFrameRx trunkB src kind => Sys2Proof.Machine.execValidFrameRx trunkB src kind s
  | .dupnodeFrame trunkB => Sys2Proof.Machine.execDupnodeFrame trunkB s
  | .dupnodeClear trunkB => Sys2Proof.Machine.execDupnodeClear trunkB s
  | .exchangeRx trunkB src index data => Sys2Proof.Machine.execExchangeRx trunkB src index data s
  | .mbTxreq p trunkB m => Sys2Proof.Machine.execMbTxreq p trunkB m s
  | .mbdataWrite p trunkB k v => Sys2Proof.Machine.execMbdataWrite p trunkB k v s
  | .timeSyncTx => Sys2Proof.Machine.execTimeSyncTx s
  | .timeSyncDrop trunkB => Sys2Proof.Machine.execTimeSyncDrop trunkB s
  | .timeSyncRx trunkB ts => Sys2Proof.Machine.execTimeSyncRx trunkB ts s
  | .masterTimeout => Sys2Proof.Machine.execMasterTimeout s
  | .ppsEdge offset => Sys2Proof.Machine.execPpsEdge offset s
  | .ppsLost => Sys2Proof.Machine.execPpsLost s
  | .timeHoldExpired => Sys2Proof.Machine.execTimeHoldExpired s
  | .settime p arg => Sys2Proof.Machine.execSettime p arg s
  | .acceptstep p arg => Sys2Proof.Machine.execAcceptstep p arg s
  | .recordAppend => Sys2Proof.Machine.execRecordAppend s
  | .episodeTimer => Sys2Proof.Machine.execEpisodeTimer s
  | .freeze p arg => Sys2Proof.Machine.execFreeze p arg s
  | .thaw p arg => Sys2Proof.Machine.execThaw p arg s
  | .freezeExpired => Sys2Proof.Machine.execFreezeExpired s
  | .thawDrain => Sys2Proof.Machine.execThawDrain s
  | .clear p arg => Sys2Proof.Machine.execClear p arg s
  | .eprel p arg => Sys2Proof.Machine.execEprel p arg s
  | .openReq src usb user hostNonce modNonce session => Sys2Proof.Machine.execOpenReq src usb user hostNonce modNonce session s
  | .openProof src session hostNonce modNonce hmac => Sys2Proof.Machine.execOpenProof src session hostNonce modNonce hmac s
  | .offerWithdrawn session => Sys2Proof.Machine.execOfferWithdrawn session s
  | .userLockoutEnd user => Sys2Proof.Machine.execUserLockoutEnd user s
  | .read session seq addr count => Sys2Proof.Machine.execRead session seq addr count s
  | .write session seq addr data => Sys2Proof.Machine.execWrite session seq addr data s
  | .close session seq => Sys2Proof.Machine.execClose session seq s
  | .invalidMessage src => Sys2Proof.Machine.execInvalidMessage src s
  | .sourceBlockEnd src => Sys2Proof.Machine.execSourceBlockEnd src s
  | .sessionIdle session => Sys2Proof.Machine.execSessionIdle session s
  | .usbDetach => Sys2Proof.Machine.execUsbDetach s
  | .notifySend session => Sys2Proof.Machine.execNotifySend session s
  | .notifyRepeat session => Sys2Proof.Machine.execNotifyRepeat session s
  | .notifyAck session seq => Sys2Proof.Machine.execNotifyAck session seq s
  | .blkack ch seq => Sys2Proof.Machine.execBlkack ch seq s
  | .blkdata ch seq words content => Sys2Proof.Machine.execBlkdata ch seq words content s
  | .blkResend ch seq => Sys2Proof.Machine.execBlkResend ch seq s
  | .linkDown portB => Sys2Proof.Machine.execLinkDown portB s
  | .lanSilent portB => Sys2Proof.Machine.execLanSilent portB s
  | .prpSupervision => Sys2Proof.Machine.execPrpSupervision s
  | .otherDatagram portB kind => Sys2Proof.Machine.execOtherDatagram portB kind s
  | .ipChangeEffect => Sys2Proof.Machine.execIpChangeEffect s
  | .pullImage p arg => Sys2Proof.Machine.execPullImage p arg s
  | .pushEvents p arg => Sys2Proof.Machine.execPushEvents p arg s
  | .batchCommit => Sys2Proof.Machine.execBatchCommit s
  | .pullChangeset p arg => Sys2Proof.Machine.execPullChangeset p arg s
  | .pullFw p arg => Sys2Proof.Machine.execPullFw p arg s
  | .activateFw p arg => Sys2Proof.Machine.execActivateFw p arg s
  | .setimgkey p arg => Sys2Proof.Machine.execSetimgkey p arg s
  | .userset p arg => Sys2Proof.Machine.execUserset p arg s
  | .trendSample stream => Sys2Proof.Machine.execTrendSample stream s
  | .panelKeyPress k => Sys2Proof.Machine.execPanelKeyPress k s
  | .keyStuck k => Sys2Proof.Machine.execKeyStuck k s
  | .comOvercurrent line => Sys2Proof.Machine.execComOvercurrent line s
  | .comshortClear => Sys2Proof.Machine.execComshortClear s
  | .lanternKeepaliveLost => Sys2Proof.Machine.execLanternKeepaliveLost s
  | .lamptest p arg => Sys2Proof.Machine.execLamptest p arg s
  | .lamptestEnd => Sys2Proof.Machine.execLamptestEnd s
  | .slateUpdateStart region => Sys2Proof.Machine.execSlateUpdateStart region s
  | .slateUpdateEnd => Sys2Proof.Machine.execSlateUpdateEnd s
  | .holdupMeasure reserve => Sys2Proof.Machine.execHoldupMeasure reserve s
  | .redraw p arg => Sys2Proof.Machine.execRedraw p arg s
  | .clean p arg => Sys2Proof.Machine.execClean p arg s
  | .refStopped ref => Sys2Proof.Machine.execRefStopped ref s
  | .supervisorWindow dev0 dev1 => Sys2Proof.Machine.execSupervisorWindow dev0 dev1 s
  | .islandSwitch gapNs => Sys2Proof.Machine.execIslandSwitch gapNs s
  | .clockCheck code inTol => Sys2Proof.Machine.execClockCheck code inTol s
  | .pllLockLoss island => Sys2Proof.Machine.execPllLockLoss island s
  | .pllLockTimeout island => Sys2Proof.Machine.execPllLockTimeout island s
  | .measure p arg => Sys2Proof.Machine.execMeasure p arg s
  | .measureDone count => Sys2Proof.Machine.execMeasureDone count s
  | .switch p arg => Sys2Proof.Machine.execSwitch p arg s
  | .cupolaCopy => Sys2Proof.Machine.execCupolaCopy s
  | .capMeasure capMf vcapMv => Sys2Proof.Machine.execCapMeasure capMf vcapMv s
  | .tamperEvent kind => Sys2Proof.Machine.execTamperEvent kind s
  | .clrtamper p arg => Sys2Proof.Machine.execClrtamper p arg s
  | .vlSupplyChange group mv => Sys2Proof.Machine.execVlSupplyChange group mv s
  | .groupIslandDark dio g dark vfMv => Sys2Proof.Machine.execGroupIslandDark dio g dark vfMv s
  | .safetySelfCheck input => Sys2Proof.Machine.execSafetySelfCheck input s
  | .pairLaneLost lane => Sys2Proof.Machine.execPairLaneLost lane s
  | .linkUp portB => Sys2Proof.Machine.execLinkUp portB s
  | .panelKeyRelease k => Sys2Proof.Machine.execPanelKeyRelease k s

end Sys2Proof.Machine
end

