-- ==== Sys2Proof/Safety.lean ====
section
/-! DEFINITION. The words in which the statements are made: what a command leaves, where it runs, which registers follow others at the end
of every command, and the invariant of the machine. A block has no unsafe run of its own; what counts is which state a command may
leave. -/

namespace Sys2Proof

open Sys2Proof.Machine

/-- Command `i` runs from `s`: it ends in a next state, and that state satisfies `P`. -/
def Runs (i : Instr) (s : State) (P : State → Prop) : Prop := ∃ t, exec i s = .next t ∧ P t

/-- No header word of a released image waits to act (R39); so it is after every command. -/
abbrev Quiet (s : State) : Prop := s.x.task.hdr = []

/-- The registers that follow others at the end of every command, whatever it is: the module's health (R67, R96), Proctor's view and the
counts of Forms (R100, R421), RECNEXT (R422), the recorder's loss count and its interrupt word (R507), Slate's waiting requests (R573), the
reported loop supplies (R608). -/
abbrev Follows (a : Nat) : Prop :=
  a = HDR.PGHEALTH 0x000 ∨ a = HDR.IRQSTAT 0x000 ∨ a = PROCTOR.STAT ∨ a = SYS.STATE ∨ a = PROCTOR.RECNEXT
    ∨ a = HDR.IRQSTAT 0x14 ∨ a = EVT.LOST ∨ a = SLATE.SSTAT ∨ (PWR.VL 0 ≤ a ∧ a ≤ PWR.VL 5)

/-- Every register outside `P` reads in `t` as it did in `s`. -/
def Same (P : Nat → Prop) (s t : State) : Prop := ∀ a, ¬ P a → t.rd a = s.rd a

/-- Is the module in a state in which it answers accesses (R17)? -/
abbrev Live (s : State) : Prop := s.x.mode ≠ .off ∧ s.x.mode ≠ .failed

/-- Is a page enabled (R36)? -/
abbrev PageOn (s : State) (page : Nat) : Prop := s.get (HDR.PGCTL page) HDR.PGCTL_EN ≠ 0

/-- May `p` reach the header of a page (R36, R68): the module answers, the page is there, the party is the program or an open session? -/
abbrev Reach (s : State) (p : Party) (page : Nat) : Prop := (begin s).reachable page = true ∧ (begin s).present p = true

/-- Does a START by `p` on a page pass the checks common to all (R54 to R56): the page reachable and enabled, no operation BUSY, the role,
the module state? -/
abbrev MayStart (s : State) (p : Party) (page role : Nat) (modes : List Mode) : Prop :=
  (begin s).reachable page = true ∧ (begin s).present p = true ∧ (begin s).opBusy page = false ∧ role ≤ (begin s).roleOf p
    ∧ (begin s).enabled page = true ∧ modes.contains s.x.mode = true

/-- A loop island. -/
def island (s : State) (n : Nat) : Isl := tabGet {} s.x.loops.isl n

/-- CFG.MODE of a loop channel. -/
def loopModeOf (s : State) (n : Nat) : Nat := s.get (LOOP.CFG n) LOOP.CFG_MODE

/-- May output `n` of the safety section be energised, as far as the section itself decides (R262): ACTIVE and not dark, a function maps it,
both processors have every such function in RUN or STOPPING, and the output is neither LOCKED nor in OVERLOAD. -/
abbrev mayEnergise (s : State) (n : Nat) : Prop :=
  s.x.safe.ss = ssActive ∧ s.x.safe.dark = false ∧ (begin s).mappers n ≠ []
    ∧ (∀ v < 2, ∀ f ∈ (begin s).mappers n, ((begin s).sfn v f).st = fsRun ∨ ((begin s).sfn v f).st = fsStopping)
    ∧ ((begin s).sout n).locked = false ∧ ((begin s).sout n).overload = false

/-- Every energised safety output may be energised. -/
abbrev SafeOutputs (s : State) : Prop := ∀ n < 4, ((begin s).sout n).on = true → mayEnergise s n

/-- May `p` start an operation of the SAFE page (R286): the gate of R56 as Safety Officer, holding the page's unlock as such? -/
abbrev MaySeal (s : State) (p : Party) (modes : List Mode) : Prop := MayStart s p safePage 3 modes ∧ (begin s).safeHolder p = true

/-- A module with no partner, for which Proctor, the Forms and the watchdog have nothing to do at the next main boundary (R290, R300, R407 to
R412). -/
abbrev Calm (s : State) : Prop :=
  s.x.role = .solo ∧ (begin s).paired = false ∧ s.x.task.wdDue = false ∧ s.x.proc.isOpen = false ∧ s.x.proc.rot = none ∧ s.x.proc.split = []
    ∧ s.x.proc.latNext = [] ∧ s.x.proc.fbNext = false ∧ s.x.proc.moveBank = false ∧ s.x.proc.resync = [] ∧ s.x.proc.passes = []
    ∧ s.get PROCTOR.STAT PROCTOR.STAT_SPLIT = 0

/-- An operation `op` of the TASK page has been accepted in `t` and waits for its boundary (R297, R321): BUSY, nothing else of the program
changed. -/
abbrev TaskWaits (s t : State) (op : Nat) : Prop :=
  t.x.task = { s.x.task with due := true } ∧ t.x.mode = s.x.mode ∧ t.get (HDR.OPSTAT taskPage) HDR.OPSTAT_STATE = 1
    ∧ t.get (HDR.OPSTAT taskPage) HDR.OPSTAT_OP = op

/-- The next main boundary, of a module that is calm, carries the waiting operation out: it ends DONE, and `P` holds. (Nothing disturbs Belfry's
engines at it: MainBoundaryActs says what a disturbance does.) -/
abbrev ActsAtBoundary (s t : State) (P : State → Prop) : Prop :=
  Calm s → s.x.upsets = [] → Runs .mainBoundary t fun u => P u ∧ u.get (HDR.OPSTAT taskPage) HDR.OPSTAT_STATE = 2 ∧ u.x.task.due = false

/-- From `s` to `t`, Belfry's queue has taken the command word `c` and done nothing else (R372): beside the recorder nothing shows it. -/
def Queued (s : State) (c : Word) (t : State) : Prop :=
  t.x.bel = { s.x.bel with cmds := s.x.bel.cmds ++ [c] } ∧ Same (fun a => a / 4096 = 0x14 ∨ Follows a) s t

/-- Does Belfry accept the command word `c` from `p` (R370 to R372)? -/
abbrev BelfryTakes (s : State) (p : Party) (c : Word) : Prop :=
  (begin s).usable belPage = true ∧ (begin s).present p = true ∧ (begin s).belRefusal (.party p) c = none ∧ s.x.role ≠ .standby

/-- The commands of the safety section's inputs, functions, outputs, supply and self-checks, and of its password's lockout. -/
def SafetyCommand (i : Instr) : Prop :=
  match i with
  | .siDemand _ _ | .tpPulse _ _ | .discrepancy _ | .safetyResetButton _ _ | .stopdlyExpired _ | .graceLow _ | .graceExpired _ | .degClear _
  | .darkPulseTest _ _ _ | .offStateTest _ _ _ _ | .safeOutputOverload _ | .extVoltage _ _ | .extVoltageClear _ | .vsWarn _ | .vsTrip _
  | .safetyDark | .vsRestore _ | .safetyKeepaliveLost | .safetyStartupDone _ | .crosslinkExchange | .xlinkLost | .abDisagree
  | .safetySelfCheck _ | .pwLockoutEnd => True
  | _ => False

/-- The invariant: the registers in canonical form, and no header word waiting. -/
abbrev StateInv (s : State) : Prop := regsWf s.regs = true ∧ Quiet s

end Sys2Proof
end

