-- ==== Sys2Proof/Certificates/Slice0/Obligations.lean ====
section
/-! DEFINITION. The statements for the provers. Each says of a family of commands when they run and what they leave, what the machine
never does, or what always holds. -/

open Sys2Proof Sys2Proof.Machine


/-! ## Register pages (chapter 02) -/

/-- R51: IRQEN takes what is written, a write of 1s to IRQSTAT clears, one to IRQSET sets; nothing else changes. Pages whose interrupt word
a command's end may set as well (SYS, the recorder) are left to the next statement. -/
def Obligations.InterruptWordsOfAPage : Prop := ∀ (s : State) (p : Party) (page : Nat) (v : Word), Quiet s → Reach s p page →
  page ≠ 0 → page ≠ 0x14 →
  Runs (.regWrite p (HDR.IRQEN page) v) s (fun t => t.rd (HDR.IRQEN page) = v &&& irqMask
      ∧ Same (fun a => a = HDR.IRQEN page ∨ Follows a) s t ∧ t.x.mode = s.x.mode ∧ t.x.role = s.x.role ∧ t.x.pages = s.x.pages)
  ∧ Runs (.regWrite p (HDR.IRQSTAT page) v) s (fun t => t.rd (HDR.IRQSTAT page) = s.rd (HDR.IRQSTAT page) &&& ~~~(v &&& irqMask)
      ∧ Same (fun a => a = HDR.IRQSTAT page ∨ Follows a) s t)
  ∧ Runs (.irqsetWrite p page v) s (fun t => t.rd (HDR.IRQSTAT page) = s.rd (HDR.IRQSTAT page) ||| (v &&& irqMask)
      ∧ Same (fun a => a = HDR.IRQSTAT page ∨ Follows a) s t ∧ t.x.mode = s.x.mode ∧ t.x.role = s.x.role ∧ t.x.pages = s.x.pages)

/-- R51, of every page: the bits written to IRQSET are set afterwards. -/
def Obligations.IrqsetSetsItsBits : Prop := ∀ (s : State) (p : Party) (page : Nat) (v : Word), Quiet s → Reach s p page →
  Runs (.irqsetWrite p page v) s fun t => v &&& irqMask &&& ~~~(t.rd (HDR.IRQSTAT page)) = 0
    ∧ Same (fun a => a = HDR.IRQSTAT page ∨ Follows a) s t

/-- R68: an access answered with a bus error changes no register and no state of the module. -/
def Obligations.BusErrorChangesNothing : Prop := ∀ (s : State) (p : Party) (a : Nat) (v : Word), Quiet s → (begin s).busError a = true →
  Runs (.regWrite p a v) s fun t => Same Follows s t ∧ t.x.mode = s.x.mode ∧ t.x.role = s.x.role ∧ t.x.pages = s.x.pages
    ∧ t.x.net = s.x.net ∧ t.x.safe = s.x.safe ∧ t.x.task = s.x.task ∧ t.x.ctl = s.x.ctl ∧ t.x.loops = s.x.loops

/-- R50: a refused write changes no register but its page's PGSTAT, which shows the reason, and IRQSTAT's WREJ. -/
def Obligations.RefusedWriteShowsWhy : Prop := ∀ (s : State) (p : Party) (a : Nat) (v : Word) (c : Nat), Quiet s →
  (begin s).present p = true → (begin s).busError a = false → (begin s).wordRefusal p a v = some c →
  Runs (.regWrite p a v) s fun t =>
    t.get (HDR.PGSTAT (ctlPage (a / 4096))) HDR.PGSTAT_WREJ = 1 ∧ t.get (HDR.PGSTAT (ctlPage (a / 4096))) HDR.PGSTAT_WREJ_CODE = c % 16
    ∧ (s.get (HDR.PGSTAT (ctlPage (a / 4096))) HDR.PGSTAT_WREJ = 0 → t.get (HDR.IRQSTAT (ctlPage (a / 4096))) HDR.IRQSTAT_WREJ = 1)
    ∧ Same (fun b => b = HDR.PGSTAT (ctlPage (a / 4096)) ∨ b = HDR.IRQSTAT (ctlPage (a / 4096)) ∨ Follows b) s t
    ∧ t.x.mode = s.x.mode ∧ t.x.role = s.x.role ∧ t.x.pages = s.x.pages ∧ t.x.safe = s.x.safe

/-- R41: the program acts as Operator, a host with its session's role. -/
def Obligations.RolesOfTheParties : Prop := ∀ (s : State) (id : Nat), (begin s).roleOf .program = 1
  ∧ ∀ e, (begin s).session? id = some e → (begin s).roleOf (.host id) = e.role

/-- R61 to R64: keys, unlocks and lockouts. -/
def Obligations.KeysAndUnlocks : Prop := ∀ (s : State) (p : Party) (page : Nat) (v : Word), Quiet s →
  (Reach s p page → (begin s).hdrRefusal p (HDR.PGKEY page) v = none →
    (s.x.pages.keys.any fun k => decide (k.1 = page) && decide (k.2.1 = HDR.PGKEY_ROLE.get v) && decide (k.2.2 = HDR.PGKEY_KEY.get v)) = true →
    Runs (.pgkeyWrite p page v) s fun t => t.get (HDR.PGKEY page) HDR.PGKEY_HOLDER = HDR.PGKEY_ROLE.get v
      ∧ t.get (HDR.PGKEY page) HDR.PGKEY_REMAIN = 255
      ∧ t.x.pages.unlocks.filter (fun u => decide (u.page = page)) = [⟨page, p, HDR.PGKEY_ROLE.get v, (begin s).now⟩]
      ∧ Same (fun a => a = HDR.PGKEY page ∨ Follows a) s t)
  ∧ (Reach s p page → (begin s).hdrRefusal p (HDR.PGKEY page) v = none →
    (s.x.pages.keys.any fun k => decide (k.1 = page) && decide (k.2.1 = HDR.PGKEY_ROLE.get v) && decide (k.2.2 = HDR.PGKEY_KEY.get v)) = false →
    Runs (.pgkeyWrite p page v) s fun t => t.x.pages.unlocks = s.x.pages.unlocks
      ∧ (2 ≤ (s.x.pages.wrong.filter fun e => decide (e.1 = page) && decide ((begin s).now < e.2 + 60000)).length →
          t.x.pages.lockouts = s.x.pages.lockouts ++ [page])
      ∧ Same Follows s t)
  ∧ (Runs (.keyLockoutEnd page) s fun t => page ∉ t.x.pages.lockouts ∧ (∀ q, q ≠ page → (q ∈ t.x.pages.lockouts ↔ q ∈ s.x.pages.lockouts))
      ∧ Same Follows s t)
  ∧ (Runs (.unlockTimeout page) s fun t => (∀ u ∈ t.x.pages.unlocks, u.page ≠ page)
      ∧ ((∃ u ∈ s.x.pages.unlocks, u.page = page) → t.get (HDR.PGKEY page) HDR.PGKEY_HOLDER = 0 ∧ t.get (HDR.PGKEY page) HDR.PGKEY_REMAIN = 0)
      ∧ Same (fun a => a = HDR.PGKEY page ∨ Follows a) s t)
  ∧ (Reach s p page → s.get (HDR.PGKEY page) HDR.PGKEY_HOLDER ≤ (begin s).roleOf p →
    Runs (.lockReq p page) s fun t => (∀ u ∈ t.x.pages.unlocks, u.page ≠ page)
      ∧ Same (fun a => a = HDR.PGKEY page ∨ Follows a) s t)

/-- R37, R48, R584: opening and closing a gate, and the soft reset of a page whose header and few words alone it concerns. -/
def Obligations.GatesAndSoftResets : Prop := ∀ (s : State) (p : Party) (page : Nat), Quiet s →
  ((page = 0x01C ∨ page = 0x01D) → Reach s p page → 2 ≤ (begin s).roleOf p → s.get (HDR.PGCTL page) HDR.PGCTL_EN = 0 →
    page ∉ s.x.pages.closing →
    Runs (.pageEnable p page) s fun t => t.get (HDR.PGCTL page) HDR.PGCTL_EN = 1 ∧ t.get (HDR.PGSTAT page) HDR.PGSTAT_READY = 1
      ∧ t.rd (HDR.IRQEN page) = 0 ∧ t.rd (HDR.OPSTAT page) = 0)
  ∧ (capBit (kindOf page) 4 = true → Reach s p page → 2 ≤ (begin s).roleOf p → PageOn s page →
    s.x.mode ≠ .ready → s.x.mode ≠ .run → s.x.mode ≠ .hold →
    Runs (.gateClose p page) s fun t => t.get (HDR.PGCTL page) HDR.PGCTL_EN = 0 ∧ page ∈ t.x.pages.closing
      ∧ Same (fun a => a = HDR.PGCTL page ∨ Follows a) s t)
  ∧ (page ∈ s.x.pages.closing → page ∉ s.x.pages.reopen → page ≠ 0 → page ≠ 0x14 → (begin s).opBusy page = false →
    Runs (.gateCloseComplete page none) s (fun t => page ∉ t.x.pages.closing ∧ t.get (HDR.PGSTAT page) HDR.PGSTAT_READY = 0
      ∧ Same (fun a => a = HDR.PGSTAT page ∨ Follows a) s t)
    ∧ ∀ ss ∈ s.x.net.sessions, ∀ seq, (begin s).session? ss.id = some ss → (begin s).netOn ss.usb = true → ss.seqRule seq = none →
      Runs (.gateCloseComplete page (some (.host ss.id seq))) s fun t => page ∉ t.x.pages.closing
        ∧ t.get (HDR.PGSTAT page) HDR.PGSTAT_READY = 0 ∧ t.get (HDR.PGSTAT page) HDR.PGSTAT_GATE_FORCED = 1
        ∧ .answer ss.id seq stBus [] ∈ t.x.out ∧ Same (fun a => a = HDR.PGSTAT page ∨ Follows a) s t)
  ∧ ((page = 0x00E ∨ page = 0x015) → Reach s p page → 2 ≤ (begin s).roleOf p → (begin s).opBusy page = false → (begin s).inUse page = false →
    PageOn s page →
    Runs (.softReset p page) s fun t => t.rd (HDR.IRQEN page) = 0 ∧ t.rd (HDR.IRQSTAT page) = 0 ∧ t.rd (HDR.OPSTAT page) = 0
      ∧ t.rd (HDR.PGHEALTH page) = s.rd (HDR.PGHEALTH page) ∧ (∀ u ∈ t.x.pages.unlocks, u.page ≠ page)
      ∧ (page = 0x015 → t.rd TIME.CNT = 0) ∧ (page = 0x00E → t.get PAIR.MIRST PAIR.MIRST_DMAX = 0)
      ∧ Same (fun a => a / 4096 = page ∨ Follows a) s t)

/-- R55, R58, R59: an abort is latched while the operation is BUSY, and ends it ABORTED, reason 1, at a sampling point; an operation still
BUSY at its longest duration ends FAILED, reason 2. Stated of pages whose block puts nothing back at such an end. -/
def Obligations.EndsOfOperations : Prop := ∀ (s : State) (p : Party) (page : Nat), Quiet s →
  (Reach s p page → capBit (kindOf page) 0 = true → (begin s).opBusy page = true →
    Runs (.opAbort p page) s fun t => (∀ o ∈ t.x.pages.ops, o.page = page → o.abort = true)
      ∧ (s.x.pages.ops.map (·.page) = t.x.pages.ops.map (·.page)) ∧ Same Follows s t)
  ∧ (∀ o, (page = 0x014 ∨ page = 0x005 ∨ page = 0x004) → Live s → (begin s).op? page = some o → o.abort = true → (begin s).opBusy page = true →
    Runs (.opAbortSampled page) s fun t => t.get (HDR.OPSTAT page) HDR.OPSTAT_STATE = 3 ∧ t.get (HDR.OPSTAT page) HDR.OPSTAT_REASON = 1
      ∧ t.get (HDR.OPSTAT page) HDR.OPSTAT_ABORT_LATE = 0 ∧ t.get (HDR.IRQSTAT page) HDR.IRQSTAT_OPEND = 1
      ∧ t.get (HDR.PGSTAT page) HDR.PGSTAT_BUSY = 0 ∧ (begin t).op? page = none)
  ∧ ((page = 0x014 ∨ page = 0x005 ∨ page = 0x004) → Live s → (begin s).opBusy page = true →
    Runs (.opTimeout page) s fun t => t.get (HDR.OPSTAT page) HDR.OPSTAT_STATE = 4 ∧ t.get (HDR.OPSTAT page) HDR.OPSTAT_REASON = 2
      ∧ t.get (HDR.OPSTAT page) HDR.OPSTAT_OP = s.get (HDR.OPSTAT page) HDR.OPSTAT_OP ∧ t.get (HDR.IRQSTAT page) HDR.IRQSTAT_OPEND = 1
      ∧ (begin t).op? page = none)

/-- R40, R69, R530, R531: what a READ and a WRITE of one word do, and what the read of a wide counter's lowest word latches. -/
def Obligations.AccessesOfASession : Prop := ∀ (s : State) (id seq a : Nat) (e : Session), Quiet s →
  (begin s).session? id = some e → (begin s).netOn e.usb = true → e.seqRule seq = none →
  ((begin s).busError a = false → kindOf (a / 4096) ≠ .evw → isHdr a = false → (s.x.pages.latches.all fun l => decide (l.2.1 ≠ a)) = true →
    Runs (.read id seq a 1) s fun t => t.x.out = [.answer id seq stOk [s.rd a]] ∧ Same Follows s t
      ∧ (∀ q, (begin t).session? id = some q → q.last = some ⟨seq, stOk, [s.rd a]⟩))
  ∧ ((begin s).busError a = true → Runs (.read id seq a 1) s fun t => t.x.out = [.answer id seq stBus []] ∧ Same Follows s t)
  ∧ (∀ v, (begin s).reachable (a / 4096) = true → a = HDR.IRQEN (a / 4096) →
    Runs (.write id seq a [v]) s fun t => t.x.out = [.answer id seq stOk []] ∧ t.rd a = v &&& irqMask
      ∧ Same (fun b => b = a ∨ Follows b) s t)
  ∧ (∀ v, (begin s).busError a = true → Runs (.write id seq a [v]) s fun t => t.x.out = [.answer id seq stBus []] ∧ Same Follows s t)
  ∧ ((begin s).busError a = false → a ∈ wideCounters →
    Runs (.latchedCounterRead id a) s fun t => (id, a + 4, s.rd (a + 4)) ∈ t.x.pages.latches ∧ Same Follows s t)

/-! ## Start-up, images, self-test (chapter 03, with R594 to R605) -/

/-- R17, R73, R75, R77, R79, R82, R84, R90, R94, R539, R605: the commands of the start-up, each into the state it leads to. -/
def Obligations.StartUpCommands : Prop := ∀ s : State, Quiet s →
  (∀ va vb, s.x.mode = .off → 17500 ≤ va ∨ 17500 ≤ vb → Runs (.logicSupplyRise va vb) s fun t =>
    t.x.mode = .powerUp ∧ t.x.role = .solo ∧ t.get SYS.STATE SYS.STATE_STATE = 1
    ∧ t.get CUPOLA.PCYCLE CUPOLA.PCYCLE_N = (s.get CUPOLA.PCYCLE CUPOLA.PCYCLE_N + 1) % 2 ^ 32)
  ∧ (s.x.mode ≠ .off → Runs .bothFeedsLost s fun t => t.x.mode = .off ∧ t.x.cupola = ⟨(begin s).now, (s.rd CUPOLA.PCYCLE).toNat⟩
    ∧ t.get RST.CAUSE RST.CAUSE_POWER = 1 ∧ t.x.net.sessions = [] ∧ t.x.pages.unlocks = [] ∧ t.x.task.forces = [])
  ∧ (∀ a b c d m v h, s.x.mode = .powerUp → Runs (.powerUpDone a b c d m v h) s fun t =>
    t.x.mode = if a = false ∧ b = false then .failed else .selfTest)
  ∧ (∀ f pass, s.x.mode = .selfTest → f < 4 → (begin s).place f = plUndecided → f ∉ s.x.bist.lbistRun →
    (∀ g < f, g ∈ s.x.bist.lbistRun ∧ (f ≤ g + 1 ∨ (begin s).memoryOver g = true)) → Runs (.lbistDone f pass) s fun t =>
    t.get BIST.FORMSTAT ⟨4 * f, 1⟩ = (if pass then 1 else 0) ∧ t.x.bist.lbistRun = s.x.bist.lbistRun ++ [f] ∧ t.x.mode = .selfTest
    ∧ Same (fun a => a = BIST.FORMSTAT ∨ Follows a) s t)
  ∧ (∀ f g pass, s.x.mode = .selfTest → g < f → g ∉ s.x.bist.lbistRun → (begin s).firstPassOver = false → Runs (.lbistDone f pass) s fun t =>
    t.x.bist = s.x.bist ∧ t.x.mode = .selfTest ∧ Same Follows s t)
  ∧ (∀ f, s.x.mode = .selfTest → f < 4 → (begin s).place f = plUndecided → s.get BIST.FORMSTAT ⟨4 * f, 1⟩ = 1 → f ∉ s.x.bist.mbistRun →
    s.get BIST.FORMSTAT ⟨4 * f + 1, 1⟩ = 0 → s.get BIST.FORMSTAT ⟨4 * f + 3, 1⟩ = 0 → Runs (.mbistDone f []) s fun t =>
    t.get BIST.FORMSTAT ⟨4 * f + 1, 1⟩ = 1 ∧ t.x.bist.mbistRun = s.x.bist.mbistRun ++ [f] ∧ t.x.mode = .selfTest)
  ∧ (∀ f k a, s.x.mode = .selfTest → f < 4 → k < 10 → (begin s).place f = plUndecided → s.get BIST.FORMSTAT ⟨4 * f, 1⟩ = 1 →
    f ∉ s.x.bist.mbistRun → s.get BIST.FORMSTAT ⟨4 * f + 1, 1⟩ = 0 → s.get BIST.FORMSTAT ⟨4 * f + 3, 1⟩ = 0 → s.x.bist.repairs = [] →
    s.x.bist.weak = [] → s.x.bist.records.length < 8192 → Runs (.mbistDone f [⟨64 * f + k, .row a, true⟩]) s fun t =>
    t.get BIST.FORMSTAT ⟨4 * f + 1, 1⟩ = 1 ∧ t.x.bist.repairs = [⟨64 * f + k, true, a, 0, 0, false⟩]
    ∧ (let r : RepairRec := ⟨1, 64 * f + k, a, 0, 1, (s.rd CUPOLA.PCYCLE).toNat, (begin s).now, (begin s).net,
          decide (s.get TIME.STAT TIME.STAT_VALID ≠ 0), 0⟩
       t.x.bist.records = s.x.bist.records ++ [{ r with check := crc24 r.body }]))
  ∧ (s.x.mode = .selfTest → (∀ f ∈ allForms, (begin s).formPassed f = true ∧ (begin s).place f = plUndecided) → s.x.proc.moveBank = false →
    Runs (.selfTestDone true true true true []) s fun t => t.x.mode = .imageCheck
    ∧ t.get (FORM.FSTAT 0) FORM.FSTAT_PLACE = plVoting ∧ t.get (FORM.FSTAT 1) FORM.FSTAT_PLACE = plVoting
    ∧ t.get (FORM.FSTAT 2) FORM.FSTAT_PLACE = plVoting ∧ t.get (FORM.FSTAT 3) FORM.FSTAT_PLACE = plIdle)
  ∧ (∀ a b c d, s.x.mode = .selfTest → (∀ f ∈ allForms, (begin s).formPassed f = true) → c = false ∨ (a = false ∧ b = false) →
    Runs (.selfTestDone a b c d []) s fun t => t.x.mode = .failed)
  ∧ (s.x.mode = .imageCheck → (begin s).actSlot.bytes = [] → Runs .imageCheckDone s fun t => t.x.mode = .held
    ∧ t.get SYS.STATE SYS.STATE_HELDWHY = 1)
  ∧ (∀ r, s.x.mode = .imageCheck → (begin s).actSlot.bytes ≠ [] → (begin s).imageFault (begin s).actSlot = some r →
    Runs .imageCheckDone s fun t => t.x.mode = .held ∧ t.get SYS.STATE SYS.STATE_HELDWHY = heldWhyOf r ∧ t.x.img.activeOk = s.x.img.activeOk)
  ∧ (s.x.mode = .imageCheck → (begin s).actSlot.bytes ≠ [] → (begin s).imageFault (begin s).actSlot = none →
    Runs .imageCheckDone s fun t => t.x.img.activeOk = true ∧ (t.x.mode = .ready ∨ t.x.mode = .held))
  ∧ (s.x.mode = .ready → s.x.role ≠ .standby → s.x.img.restart = 1 ∨ s.x.img.restart = 2 → Runs .restartRun s fun t =>
    t.x.mode = .run ∧ t.x.img.restart = 0)
  ∧ (s.x.xfer.fwTrial = true → s.x.mode = .powerUp ∨ s.x.mode = .selfTest ∨ s.x.mode = .failed → Runs .fwBootFail s fun t =>
    t.x.mode = .powerUp ∧ t.x.xfer.fwTrial = false ∧ t.get RST.CAUSE RST.CAUSE_FIRMWARE = 1 ∧ t.get XFER.FWSTAT XFER.FWSTAT_REVERTED = 1)

/-- R89 to R91, R93, R104: VERIFY, COMMIT, START, WITHHOLD and RESET. -/
def Obligations.SysOperations : Prop := ∀ (s : State) (p : Party), Quiet s →
  (MayStart s p sysPage 2 anyButSelfTest → 2 ≤ s.get SYS.IMAGE SYS.IMAGE_PEND → Runs (.verify p 0) s fun t =>
    t.get (HDR.OPSTAT sysPage) HDR.OPSTAT_STATE = 1 ∧ t.get (HDR.OPSTAT sysPage) HDR.OPSTAT_OP = 1
    ∧ t.get (HDR.OPSTAT sysPage) HDR.OPSTAT_PROGRESS = 0 ∧ t.x.img = s.x.img)
  ∧ (MayStart s p sysPage 2 [.held, .ready] → 2 ≤ s.get SYS.IMAGE SYS.IMAGE_PEND → Runs (.commit p 0) s fun t =>
    t.get (HDR.OPSTAT sysPage) HDR.OPSTAT_STATE = 1 ∧ t.get (HDR.OPSTAT sysPage) HDR.OPSTAT_OP = 2 ∧ t.x.img = s.x.img ∧ t.x.mode = s.x.mode)
  ∧ (Live s → (begin s).opBusy sysPage = true → s.get (HDR.OPSTAT sysPage) HDR.OPSTAT_OP = 1 → 2 ≤ s.get SYS.IMAGE SYS.IMAGE_PEND →
    (begin s).imageFault (begin s).pendSlot = none → Runs .verifyDone s fun t =>
    t.get SYS.IMAGE SYS.IMAGE_PEND = pdVerified ∧ t.get (HDR.OPSTAT sysPage) HDR.OPSTAT_STATE = 2
    ∧ t.get (HDR.OPSTAT sysPage) HDR.OPSTAT_REASON = 0)
  ∧ (∀ r, Live s → (begin s).opBusy sysPage = true → s.get (HDR.OPSTAT sysPage) HDR.OPSTAT_OP = 1 → 2 ≤ s.get SYS.IMAGE SYS.IMAGE_PEND →
    (begin s).imageFault (begin s).pendSlot = some r → Runs .verifyDone s fun t =>
    t.get SYS.IMAGE SYS.IMAGE_PEND = pdFaulty ∧ t.get SYS.IMAGE SYS.IMAGE_PENDWHY = r
    ∧ t.get (HDR.OPSTAT sysPage) HDR.OPSTAT_STATE = 4 ∧ t.get (HDR.OPSTAT sysPage) HDR.OPSTAT_REASON = r)
  ∧ (s.x.mode = .held ∨ s.x.mode = .ready → (begin s).opBusy sysPage = true → s.get (HDR.OPSTAT sysPage) HDR.OPSTAT_OP = 2 →
    2 ≤ s.get SYS.IMAGE SYS.IMAGE_PEND → (begin s).imageFault (begin s).pendSlot = none → Runs .commitSwap s fun t =>
    t.get SYS.IMAGE SYS.IMAGE_ACTIVE = 1 - s.get SYS.IMAGE SYS.IMAGE_ACTIVE ∧ t.get SYS.STATE SYS.STATE_PERMIT = 0 ∧ t.x.mode = .held
    ∧ t.get SYS.STATE SYS.STATE_HELDWHY = whyCommitted ∧ t.x.img.activeOk = true ∧ t.x.task.forces = [] ∧ t.x.task.journal = []
    ∧ t.get (HDR.OPSTAT sysPage) HDR.OPSTAT_STATE = 2)
  ∧ (MayStart s p sysPage 2 [.held] → s.x.img.activeOk = true → (begin s).paired = false → Runs (.start p 0) s fun t =>
    t.x.mode = .ready ∧ t.x.role = .solo ∧ t.get SYS.STATE SYS.STATE_PERMIT = 1 ∧ t.get (HDR.OPSTAT sysPage) HDR.OPSTAT_STATE = 2)
  ∧ (MayStart s p sysPage 2 [.ready] → Runs (.withhold p 0) s fun t =>
    t.x.mode = .held ∧ t.get SYS.STATE SYS.STATE_PERMIT = 0 ∧ t.get SYS.STATE SYS.STATE_HELDWHY = whyNoPermit
    ∧ t.get (HDR.OPSTAT sysPage) HDR.OPSTAT_STATE = 2)
  ∧ (MayStart s p sysPage 2 anyButPowerUp → Runs (.reset p 0) s fun t =>
    t.x.mode = .powerUp ∧ t.x.role = .solo ∧ t.get RST.CAUSE RST.CAUSE_HOST = 1 ∧ t.x.net.sessions = [] ∧ t.x.pages.unlocks = []
    ∧ t.rd (HDR.OPSTAT sysPage) = 0)

/-- R83, R97, R108, R408, R409: the BIST operations and the errors of a Form's memory. -/
def Obligations.SelfTestAndMemoryErrors : Prop := ∀ (s : State) (p : Party), Quiet s →
  (∀ f, MayStart s p bistPage 2 [.held, .ready, .run, .hold] → f < 4 → (begin s).place f = plExcluded → Runs (.retest p f) s fun t =>
    t.get (HDR.OPSTAT bistPage) HDR.OPSTAT_STATE = 1 ∧ t.get (HDR.OPSTAT bistPage) HDR.OPSTAT_OP = 1 ∧ t.x.bist.retestForm = some f
    ∧ 2 ∈ t.x.evt.episodes)
  ∧ (∀ f l, Live s → (begin s).opBusy bistPage = true → s.x.bist.retestForm = some f → f < 4 → Runs (.retestDone l []) s fun t =>
    t.x.bist.retestForm = none ∧ t.get BIST.FORMSTAT ⟨4 * f, 1⟩ = (if l then 1 else 0)
    ∧ t.x.bist.passedRetest = s.x.bist.passedRetest.filter (fun g => decide (g ≠ f)) ++ (if l then [f] else [])
    ∧ t.get (HDR.OPSTAT bistPage) HDR.OPSTAT_STATE = 2)
  ∧ (MayStart s p bistPage 2 anyButSelfTest → s.x.mode = .held → Runs (.clearHealth p 0) s fun t =>
    t.x.bist.passedRetest = [] ∧ (∀ c ∈ s.x.health.gone, c ∉ t.x.health.reasons) ∧ t.get (HDR.OPSTAT bistPage) HDR.OPSTAT_STATE = 2)
  ∧ (∀ f a, Live s → f < 4 → s.x.bist.ecc = [] → s.x.bist.weak = [] → Runs (.eccCorrected f a) s fun t =>
    t.x.bist.ecc = [(f, a, (begin s).now)] ∧ t.get (FORM.FCNT f) FORM.FCNT_CECC = 1 ∧ t.x.bist.weak = [])
  ∧ (∀ f a, Live s → f < 4 → s.x.bist.ecc = [(f, a, (begin s).now)] → s.x.bist.weak = [] → Runs (.eccCorrected f a) s fun t =>
    t.x.bist.weak = [(f, a)])
  ∧ (∀ f, Live s → f < 4 → (begin s).place f = plVoting → s.x.proc.isOpen = false → s.x.proc.rot = none → Runs (.uncorrError f) s fun t =>
    t.get (FORM.FSTAT f) FORM.FSTAT_PLACE = plTest ∧ t.get (FORM.FSTAT f) FORM.FSTAT_LASTWHY = 4
    ∧ t.get PROCTOR.CNT1 PROCTOR.CNT1_VOTEOUT = min (s.get PROCTOR.CNT1 PROCTOR.CNT1_VOTEOUT + 1) 65535)

/-! ## Loop islands and FSK (chapters 04, 05) -/

/-- R114, R133 to R138: the states and tiers of an island; nothing outside its page changes but what follows. -/
def Obligations.IslandStates : Prop := ∀ (s : State) (n : Nat), Quiet s → n < 48 →
  ((island s n).mode = 2 → (island s n).st = isRegulate → (island s n).link = true → Runs (.islandLinkLost n) s fun t =>
    (island t n).st = (if (island s n).paired then isPhold else isFailLow) ∧ (island t n).link = false ∧ (island t n).linkLost = true
    ∧ Same (fun a => a / 4096 = loopPage n ∨ Follows a) s t)
  ∧ ((island s n).st ≠ isDark → Runs (.islandDark n) s fun t => (island t n).st = isDark ∧ (island t n).tier = 0 ∧ (island t n).txn = none
    ∧ (island t n).paired = (island s n).paired ∧ (island t n).switch = (island s n).switch
    ∧ Same (fun a => a / 4096 = loopPage n ∨ Follows a) s t)
  ∧ (∀ cur, (island s n).st = isDark → 15000 ≤ cur → Runs (.islandWake n cur) s fun t => (island t n).st = isWake ∧ (island t n).tier = 1
    ∧ (island t n).linkLost = false ∧ Same (fun a => a / 4096 = loopPage n ∨ Follows a) s t)
  ∧ (∀ r l, (island s n).st = isWake → (island s n).mode ≠ 2 → Runs (.wakeDone n r l) s fun t =>
    (island t n).st = (if (island s n).mode = 1 then isMeasure else isOff)
    ∧ (r = false → (island t n).paired = false ∧ (island t n).phold = 20 ∧ (island t n).retBad = [0, 1, 2])
    ∧ Same (fun a => a / 4096 = loopPage n ∨ Follows a) s t)
  ∧ (∀ l, (island s n).st = isWake → (island s n).link = false → (island s n).mode = 2 → Runs (.wakeDone n true l) s fun t =>
    (island t n).st = if (island s n).paired then isBypass else isFailLow)
  ∧ (∀ cur, (island s n).st ≠ isDark → (island s n).mode ≠ 2 → cur < 57000 → Runs (.tierDown n cur) s fun t =>
    (island t n).tier = min (island s n).tier 1 ∧ (island t n).st = (island s n).st)
  ∧ (∀ cur, (island s n).st ≠ isDark → (island s n).st ≠ isAhold → regulating (island s n).st = false → 100000 ≤ cur → Runs (.tierUp n cur) s fun t =>
    (island t n).tier = max (island s n).tier 3 ∧ (island t n).st = (island s n).st)
  ∧ ((island s n).mode = 2 → regulating (island s n).st = true →
    Runs (.aholdEnter n) s fun t => (island t n).st = isAhold ∧ (island t n).prev = (island s n).st ∧ (island t n).tier = 1
    ∧ Same (fun a => a / 4096 = loopPage n ∨ Follows a) s t)
  ∧ ((island s n).st = isAhold → (begin s).islCommand n = .none → Runs (.aholdExit n) s fun t => (island t n).st = (island s n).prev
    ∧ Same (fun a => a / 4096 = loopPage n ∨ Follows a) s t)
  ∧ ((island s n).st = isPhold → Runs (.pholdExpired n) s fun t => (island t n).st = isBypass)
  ∧ ((island s n).st = isBypass → (island s n).mode = 2 → Runs (.noregEnter n) s fun t => (island t n).st = isNoreg)

/-- R116 to R119, R122, R125, R128, R140: samples, comparators and the loop supply. -/
def Obligations.LoopMeasurements : Prop := ∀ (s : State) (n : Nat), Quiet s → n < 48 →
  (∀ raw d, (begin s).publishes n = true → loopModeOf s n = 1 → s.get (LOOP.STAT n) LOOP.STAT_TRIMMING = 0 →
    s.get (LOOP.STAT n) LOOP.STAT_RBDEV = 0 → (island s n).st = isMeasure → Runs (.loopSample n raw d) s fun t =>
    t.get (LOOP.VALUE n) LOOP.VALUE_I = unsignedOf 32 (trimmed raw ((begin s).trimZ n) ((begin s).trimS n))
    ∧ t.get (LOOP.VDROP n) LOOP.VDROP_DROP = d % 65536 ∧ t.get (LOOP.VDROP n) LOOP.VDROP_HEADROOM = 0
    ∧ t.get (LOOP.STAT n) LOOP.STAT_QUAL
        = zoneQual (zoneOf (island s n).zone (trimmed raw ((begin s).trimZ n) ((begin s).trimS n)))
    ∧ Same (fun a => a / 4096 = loopPage n ∨ Follows a) s t)
  ∧ (∀ raw d, (begin s).publishes n = true → loopModeOf s n = 2 → Runs (.loopSample n raw d) s fun t =>
    t.get (LOOP.VALUE n) LOOP.VALUE_I = unsignedOf 32 raw ∧ t.get (LOOP.VDROP n) LOOP.VDROP_HEADROOM = unsignedOf 16 ((d : Int) - vOmin raw)
    ∧ Same (fun a => a / 4096 = loopPage n ∨ Follows a) s t)
  ∧ (∀ rb, (begin s).publishes n = true → Runs (.rbSample n rb) s fun t => t.get (LOOP.RBVALUE n) LOOP.RBVALUE_I = unsignedOf 32 rb
    ∧ Same (fun a => a / 4096 = loopPage n ∨ Follows a) s t)
  ∧ (∀ b, (begin s).publishes n = true → (begin s).rbEvaluated n = true → (begin s).rbBeyond n = b → Runs (.rbdevPersist n b) s fun t =>
    t.get (LOOP.STAT n) LOOP.STAT_RBDEV = if b then 1 else 0)
  ∧ (∀ cur lim, (begin s).publishes n = true → loopModeOf s n = 1 → Runs (.loopComparator n cur lim) s fun t =>
    t.get (LOOP.STAT n) LOOP.STAT_OVERCUR = (if lim then 1 else 0) ∧ (island t n).zone = zoneOf (island s n).zone cur ∧ (island t n).cur = cur
    ∧ t.get (LOOP.STAT n) LOOP.STAT_LOWCUR = (if zoneOf (island s n).zone cur = 2 then 1 else 0)
    ∧ t.get (LOOP.STAT n) LOOP.STAT_HIGHCUR = (if zoneOf (island s n).zone cur = 4 then 1 else 0))
  ∧ ((begin s).publishes n = true → loopModeOf s n = 2 → (begin s).handover n = false → (island s n).st = isRegulate →
    Runs (.complianceSet n) s fun t => t.get (LOOP.STAT n) LOOP.STAT_COMPLIANCE = 1
      ∧ (s.get (LOOP.STAT n) LOOP.STAT_COMPLIANCE = 0 → t.get (LOOP.STICKY n) LOOP.STAT_COMPLIANCE = 1))
  ∧ ((island s n).switch = true → Runs (.lsTrip n) s fun t => (island t n).switch = false ∧ (island t n).lsOpens = (island s n).lsOpens + 1
    ∧ (island t n).lsFault = true ∧ (Live s → PageOn s (loopPage n) → t.get (LOOP.STAT n) LOOP.STAT_LSFAULT = 1) ∧ Same (fun a => a / 4096 = loopPage n ∨ Follows a) s t)
  ∧ (∀ lim, (island s n).switch = false → (island s n).lsup = true → s.x.loops.vlDown.contains (vlOf n) = false → Runs (.lsRetry n lim) s fun t =>
    (island t n).switch = true ∧ (island t n).lsFault = ((island s n).lsFault && lim)
    ∧ (Live s → PageOn s (loopPage n) → t.get (LOOP.STAT n) LOOP.STAT_LSFAULT = if (island s n).lsFault && lim then 1 else 0))

/-- R140, R141, R153: the trim. -/
def Obligations.TrimCommands : Prop := ∀ (s : State) (p : Party) (n : Nat), Quiet s → n < 48 →
  (∀ v : Word, (begin s).present p = true → (begin s).busError (LOOP.TRIMZ n) = false → (begin s).wordRefusal p (LOOP.TRIMZ n) v = none →
    Runs (.trimWrite p n false v) s fun t => t.get (LOOP.TRIMZ n) LOOP.TRIMZ_Z = LOOP.TRIMZ_Z.get v
      ∧ Same (fun a => a / 4096 = loopPage n ∨ Follows a) s t)
  ∧ (MayStart s p (loopPage n) 2 ((begin s).trimModes n) → (begin s).trimRunning = none → (island s n).st ≠ isDark →
    Runs (.trim p n 0) s fun t => t.get (HDR.OPSTAT (loopPage n)) HDR.OPSTAT_STATE = 1 ∧ t.get (HDR.OPSTAT (loopPage n)) HDR.OPSTAT_OP = 1
      ∧ t.get (LOOP.STAT n) LOOP.STAT_TRIMMING = 1 ∧ (begin t).trimRunning = some n)
  ∧ (∀ o, (begin s).trimRunning = some n → (begin s).op? (loopPage n) = some o → o.abort = false →
    (loopModeOf s n = 1 →
      (((begin s).getI (LOOP.TRIMZ n) LOOP.TRIMZ_Z + (40000 - (begin s).getI (LOOP.VALUE n) LOOP.VALUE_I)).natAbs : Int) ≤ 2000 →
      Runs .trimZeroKey s fun t => t.get (LOOP.TRIMZ n) LOOP.TRIMZ_Z
        = unsignedOf 16 ((begin s).getI (LOOP.TRIMZ n) LOOP.TRIMZ_Z + (40000 - (begin s).getI (LOOP.VALUE n) LOOP.VALUE_I)))
    ∧ (loopModeOf s n = 2 → (island s n).trimSel ≠ 2 → Runs .trimSpanKey s fun t => (island t n).trimSel = 2
        ∧ Same (fun a => a / 4096 = loopPage n ∨ Follows a) s t)
    ∧ Runs .trimReverse s (fun t => (island t n).trimDown = !(island s n).trimDown ∧ Same Follows s t)
    ∧ ((begin s).opBusy (loopPage n) = true → Runs .trimAccept s fun t => t.get (HDR.OPSTAT (loopPage n)) HDR.OPSTAT_STATE = 2
        ∧ t.get (HDR.OPSTAT (loopPage n)) HDR.OPSTAT_PROGRESS = 100 ∧ t.get (LOOP.STAT n) LOOP.STAT_TRIMMING = 0
        ∧ t.rd (LOOP.TRIMZ n) = s.rd (LOOP.TRIMZ n) ∧ t.rd (LOOP.TRIMS n) = s.rd (LOOP.TRIMS n)))

/-- R160 to R167, R170, R172, R177: FSK transactions. -/
def Obligations.FskCommands : Prop := ∀ (s : State) (p : Party) (n : Nat), Quiet s → n < 48 →
  (∀ c, MayStart s p (loopPage n) 2 [.held, .ready, .run, .hold] → s.get (LOOP.HCFG n) LOOP.HCFG_HEN = 1 →
    s.get (LOOP.HSTAT n) LOOP.HSTAT_DEV = 1 → Runs (.hartcmd p n c) s fun t =>
    t.get (HDR.OPSTAT (loopPage n)) HDR.OPSTAT_STATE = 1 ∧ t.get (HDR.OPSTAT (loopPage n)) HDR.OPSTAT_OP = 2 ∧ (island t n).passWait = true)
  ∧ (∀ c, MayStart s p (loopPage n) 2 [.held, .ready, .run, .hold] → s.get (LOOP.HCFG n) LOOP.HCFG_HEN = 1 →
    s.get (LOOP.HSTAT n) LOOP.HSTAT_DEV = 0 → Runs (.hartcmd p n c) s fun t =>
    t.get (HDR.OPSTAT (loopPage n)) HDR.OPSTAT_STATE = 4 ∧ t.get (HDR.OPSTAT (loopPage n)) HDR.OPSTAT_REASON = 0x82)
  ∧ ((begin s).hartOn n = true → s.get (LOOP.HCFG n) LOOP.HCFG_SCANPER ≠ 0 → (island s n).txn = none → (island s n).scanDue = [] →
    Runs (.hartScanDue n) s fun t => Same Follows s t ∧
      (island t n).scanDue = (List.range 4).filter fun k => decide (s.get (LOOP.HSCAN n) ⟨8 * k, 8⟩ ≠ 0xFF))
  ∧ ((begin s).hartOn n = true → (begin s).hartBlock n = none → (begin s).hartMayStart n = true → (island s n).txn = none →
    s.get (LOOP.HSTAT n) LOOP.HSTAT_DEV = 0 → Runs (.hartTxStart n) s fun t =>
    (island t n).txn = some ⟨.identify, 1, 0, true⟩ ∧ (island t n).lastTx = some (begin s).now ∧ .hartRequest n ((begin s).hartFrame n .identify) ∈ t.x.out
    ∧ Same Follows s t)
  ∧ ((begin s).hartOn n = true → (∃ k, (begin s).hartBlock n = some k) → Runs (.hartTxStart n) s fun t =>
    (island t n).txn = (island s n).txn ∧ t.get (LOOP.HSTAT n) LOOP.HSTAT_TXOK = 0)
  ∧ (∀ rc ds vs data, (begin s).hartOn n = true → (island s n).dropReply = false → (island s n).txn = some ⟨.identify, 1, 0, true⟩ → Runs (.hartReply n 0 rc ds vs data) s fun t =>
    t.get (LOOP.HSTAT n) LOOP.HSTAT_DEV = 1 ∧ t.get (LOOP.HSTAT n) LOOP.HSTAT_RCODE = rc % 256 ∧ t.get (LOOP.HSTAT n) LOOP.HSTAT_DEVST = ds % 256
    ∧ t.get (LOOP.HSTAT n) LOOP.HSTAT_HAGE = 0 ∧ (island t n).txn = none
    ∧ t.get (LOOP.HCNT n) LOOP.HCNT_OKCNT = min (s.get (LOOP.HCNT n) LOOP.HCNT_OKCNT + 1) 65535)
  ∧ (∀ c rc ds vs, (begin s).hartOn n = true → (island s n).tier ≠ 1 → Runs (.hartBurst n c rc ds vs) s fun t =>
    t.get (LOOP.HSTAT n) LOOP.HSTAT_BURST = 1 ∧ t.get (LOOP.HSTAT n) LOOP.HSTAT_RCODE = rc % 256
    ∧ t.get (LOOP.HBCNT n) LOOP.HBCNT_RCVD = min (s.get (LOOP.HBCNT n) LOOP.HBCNT_RCVD + 1) 65535
    ∧ (c = 3 → t.rd (LOOP.HPV n) = vs.getD 0 0x7FC00000))
  ∧ (∀ x g, (island s n).txn = some x → x.sent = true → x.tries ≤ s.get (LOOP.HCFG n) LOOP.HCFG_RETRY → Runs (.hartRspTimeout n g) s fun t =>
    t.get (LOOP.HCNT n) LOOP.HCNT_ERRCNT = min (s.get (LOOP.HCNT n) LOOP.HCNT_ERRCNT + 1) 65535
    ∧ (island t n).txn = some { x with sent := false, garbled := if g then x.garbled + 1 else x.garbled })
  ∧ (∀ x k, (island s n).txn = some x → x.sent = true → x.kind = .scan k → s.get (LOOP.HCFG n) LOOP.HCFG_RETRY < x.tries →
    Runs (.hartTxAbort n) s fun t => (island t n).txn = none ∧ t.get (LOOP.HSTAT n) LOOP.HSTAT_HERR = 1
      ∧ t.get (LOOP.HCNT n) LOOP.HCNT_ERRCNT = min (s.get (LOOP.HCNT n) LOOP.HCNT_ERRCNT + 1) 65535)

/-- A command that names a loop channel the module does not have changes nothing: the model's choice (log entry 132). -/
def Obligations.AbsentChannelsChangeNothing : Prop := ∀ (s : State) (n : Nat), Quiet s → 48 ≤ n →
  (∀ c ∈ [Instr.islandLinkLost n, .islandDark n, .islandWake n 15000, .wakeDone n true true, .tierDown n 0, .tierUp n 100000, .loopSample n 0 0,
      .rbSample n 0, .rbdevPersist n true, .loopComparator n 0 true, .complianceSet n, .aholdEnter n, .aholdExit n, .pholdExpired n,
      .noregEnter n, .lsTrip n, .lsRetry n true, .hartScanDue n, .hartTxStart n, .hartTxAbort n],
    Runs c s fun t => Same Follows s t ∧ t.x.loops = s.x.loops ∧ t.x.mode = s.x.mode)

/-! ## Sensors and digital channels (chapters 06, 07) -/

/-- R185 to R200, R209 to R211: scans, conversions, wire-break checks, rails and blanking. Beside the group's page only the loop channels that
a route feeds (R201) may show something new. -/
def Obligations.SensorCommands : Prop := ∀ (s : State) (p : Party) (g ch : Nat), Quiet s →
  (∀ len, g < 4 → (begin s).sensLive g = true → (begin s).slot? g = none → Runs (.scanStart g len) s fun t =>
    (begin t).slot? g = some cjSlot ∧ t.get (SENS.SCANT g) SENS.SCANT_LAST = min len 65535
    ∧ t.get (SENS.SCANT g) SENS.SCANT_MAX = max (s.get (SENS.SCANT g) SENS.SCANT_MAX) (min len 65535)
    ∧ t.get (SENS.GSTAT g) SENS.GSTAT_SCANOVR = (if 4 * s.get (SENS.GCFG g) SENS.GCFG_SCANPER < len then 1 else 0)
    ∧ Same (fun a => a / 4096 = sensPage g ∨ Follows a) s t)
  ∧ (∀ len k, g < 4 → (begin s).sensLive g = true → (begin s).slot? g = some k → Runs (.scanStart g len) s fun t =>
    (begin t).slot? g = some k ∧ t.get (SENS.GSTAT g) SENS.GSTAT_SCANOVR = 1 ∧ t.rd (SENS.SCANT g) = s.rd (SENS.SCANT g)
    ∧ Same (fun a => a / 4096 = sensPage g ∨ Follows a) s t)
  ∧ (∀ v f, g < 4 → (begin s).sensLive g = true → (begin s).slot? g = some cjSlot → Runs (.cjSlotEnd g v f) s fun t => t.rd (SENS.CJT g) = v
    ∧ t.get (SENS.GSTAT g) SENS.GSTAT_CJFAULT = (if f || !fFinite v || fCmpLt v (-45) 1 || fCmpGt v 95 1 then 1 else 0)
    ∧ Same (fun a => a / 4096 = sensPage g ∨ (0x040 ≤ a / 4096 ∧ a / 4096 ≤ 0x06F) ∨ Follows a) s t)
  ∧ (∀ raw sat d, ch < 32 → (begin s).sensLive (ch / 8) = true → (begin s).inSlot ch = true → ((begin s).sen ch).checkDue = false →
    ch / 8 ∉ s.x.sens.dark → Runs (.conversionEnd ch raw sat d) s fun t => t.rd (SCH.RAW ch) = raw
    ∧ t.get (SCH.STAT ch) SCH.STAT_SEQ = (s.get (SCH.STAT ch) SCH.STAT_SEQ + 1) % 2 ^ SCH.STAT_SEQ.w
    ∧ t.get (SCH.STAT ch) SCH.STAT_QUAL = (begin t).senQual ch
    ∧ Same (fun a => a / 4096 = sensPage (ch / 8) ∨ (0x040 ≤ a / 4096 ∧ a / 4096 ≤ 0x06F) ∨ Follows a) s t)
  ∧ (∀ b sh ex, ch < 32 → (begin s).sensLive (ch / 8) = true → (begin s).inSlot ch = true → ((begin s).sen ch).checkDue = true →
    ch / 8 ∉ s.x.sens.dark → Runs (.burnoutCheckEnd ch b sh ex) s fun t =>
    t.get (SCH.STAT ch) SCH.STAT_WIREBRK = (if b then 1 else 0)
    ∧ t.get (SCH.STAT ch) SCH.STAT_SHORT = (if sh ∧ s.get (SCH.CFG ch) SCH.CFG_TYPE = 1 then 1 else 0)
    ∧ ((begin t).sen ch).suspect = false ∧ t.get (SCH.STAT ch) SCH.STAT_QUAL = (begin t).senQual ch)
  ∧ (g < 4 → (begin s).sensLive g = true → s.get (SENS.GCFG g) SENS.GCFG_VEXC ≠ 0 → Runs (.railOff g) s fun t =>
    t.get (SENS.GSTAT g) SENS.GSTAT_EXCOVL = 1
    ∧ (ch / 8 = g → s.get (SCH.CFG ch) SCH.CFG_TYPE = 3 → t.get (SCH.STAT ch) SCH.STAT_EXCFAIL = 1)
    ∧ Same (fun a => a / 4096 = sensPage g ∨ (0x040 ≤ a / 4096 ∧ a / 4096 ≤ 0x06F) ∨ Follows a) s t)
  ∧ (g < 4 → (begin s).sensLive g = true → s.get (SENS.GSTAT g) SENS.GSTAT_EXCOVL = 1 → Runs (.railRetry g false) s fun t =>
    t.get (SENS.GSTAT g) SENS.GSTAT_EXCOVL = 0 ∧ (ch / 8 = g → s.get (SCH.CFG ch) SCH.CFG_TYPE = 3 → t.get (SCH.STAT ch) SCH.STAT_EXCFAIL = 0))
  ∧ (ch < 32 → (begin s).present p = true → (begin s).busError (SCH.SETCFG ch) = false →
    (begin s).wordRefusal p (SCH.SETCFG ch) (SCH.SETCFG_SETCLR.set (s.rd (SCH.SETCFG ch)) 1) = none → Runs (.setclr p ch) s fun t =>
    t.get (SCH.SETSTAT ch) SCH.SETSTAT_K = 0 ∧ t.get (SCH.SETSTAT ch) SCH.SETSTAT_PASS = 0
    ∧ t.get (SCH.SETSTAT ch) SCH.SETSTAT_SETEFF = setEff (s.get (SCH.TIMING ch) SCH.TIMING_SETDLY) 0 % 2 ^ SCH.SETSTAT_SETEFF.w)
  ∧ (∀ c, g < 4 → (begin s).alive = true → PageOn s (sensPage g) → s.get (SENS.GCFG g) SENS.GCFG_BLKON = 1 → Runs (.blankContact g c) s fun t =>
    t.get (SENS.GSTAT g) SENS.GSTAT_BLANKING = (if xor c (decide (s.get (SENS.GCFG g) SENS.GCFG_BLKPOL ≠ 0)) then 1 else 0)
    ∧ Same (fun a => a / 4096 = sensPage g ∨ (0x040 ≤ a / 4096 ∧ a / 4096 ≤ 0x06F) ∨ Follows a) s t)
  ∧ (ch < 32 → (begin s).sensLive (ch / 8) = true → ((begin s).sen ch).blanked = true → s.get (SENS.BLKMAX (ch / 8)) SENS.BLKMAX_T ≠ 0 →
    Runs (.blklong ch) s fun t => t.get (SCH.STAT ch) SCH.STAT_BLKLONG = 1
      ∧ (s.get (SCH.STAT ch) SCH.STAT_BLKLONG = 0 → t.get (SCH.STAT ch) SCH.STAT_QUAL = qBad))

/-- R213 to R222, R224 to R226: inputs and the diagnostics of outputs; nothing outside the group's page changes but what follows. -/
def Obligations.DigitalChannelCommands : Prop := ∀ (s : State) (ch : Nat), Quiet s → ch < 64 → (begin s).dioLive (ch / 8) = true →
  (∀ l, (begin s).dioMode ch = 1 → ((begin s).dgrp (ch / 8)).dark = false → ((begin s).dch ch).filt = !l → Runs (.diFilterChange ch l) s fun t =>
    ((begin t).dch ch).filt = l ∧ t.get (DCH.STAT ch) DCH.STAT_PIN = (if l then 1 else 0)
    ∧ t.rd (DCH.COUNT ch) = DCH.COUNT_EDGES.set (s.rd (DCH.COUNT ch)) (s.get (DCH.COUNT ch) DCH.COUNT_EDGES + if l then 1 else 0)
    ∧ t.get (DCH.STAT ch) DCH.STAT_QUAL = (begin t).dioQual ch
    ∧ ((begin t).dioQual ch ≠ qBad → t.get (DCH.STAT ch) DCH.STAT_IN = if l then 1 else 0)
    ∧ Same (fun a => a / 4096 = dioPage (ch / 8) ∨ Follows a) s t)
  ∧ (∀ cur, (begin s).dioMode ch = 1 → ((begin s).dgrp (ch / 8)).dark = false → s.get (DCH.CFG ch) DCH.CFG_WBEN = 1 →
    Runs (.diWirebrk ch cur) s fun t => t.get (DCH.CUR ch) DCH.CUR_I = min cur 65535
      ∧ t.get (DCH.STAT ch) DCH.STAT_WIREBRK
          = (if cur ≤ 25 then 1 else if 35 ≤ cur then 0 else s.get (DCH.STAT ch) DCH.STAT_WIREBRK)
      ∧ Same (fun a => a / 4096 = dioPage (ch / 8) ∨ Follows a) s t)
  ∧ (((begin s).dch ch).refill = true → Runs (.diRefillEnd ch) s fun t => ((begin t).dch ch).refill = false
      ∧ t.get (DCH.STAT ch) DCH.STAT_QUAL = (begin t).dioQual ch)
  ∧ ((begin s).dioEff ch = true → Runs (.outputOverload ch) s fun t => t.get (DCH.STAT ch) DCH.STAT_OVERLOAD = 1
      ∧ t.get (DCH.COUNT ch) DCH.COUNT_TRIPCNT = min (s.get (DCH.COUNT ch) DCH.COUNT_TRIPCNT + 1) (2 ^ DCH.COUNT_TRIPCNT.w - 1)
      ∧ Same (fun a => a / 4096 = dioPage (ch / 8) ∨ Follows a) s t)
  ∧ ((begin s).dioEff ch = true → s.get (DCH.STAT ch) DCH.STAT_OVERLOAD = 1 → Runs (.overloadRetry ch false) s fun t =>
      t.get (DCH.STAT ch) DCH.STAT_OVERLOAD = 0)
  ∧ ((begin s).dioMode ch = 2 → (begin s).vstate (ch / 8) = vsUp → ((begin s).dgrp (ch / 8)).dark = false → ((begin s).dgrp (ch / 8)).link = true →
      (begin s).dioEff ch = false →
      Runs (.doDiagPersist ch .stuckOn true) s (fun t => t.get (DCH.STAT ch) DCH.STAT_STUCKON = 1
        ∧ t.get (DIO.GSTAT (ch / 8)) DIO.GSTAT_VSTATE = vsFault ∧ t.get (DIO.GSTAT (ch / 8)) DIO.GSTAT_GSWOPEN = 1)
      ∧ (s.get (DCH.CFG ch) DCH.CFG_PAIRED = 0 → Runs (.doDiagPersist ch .backFed true) s fun t => t.get (DCH.STAT ch) DCH.STAT_BACKFED = 1))
  ∧ ((begin s).dioMode ch = 2 → (begin s).vstate (ch / 8) = vsUp → ((begin s).dgrp (ch / 8)).dark = false → (begin s).dioEff ch = true →
      (s.get (DCH.CFG ch) DCH.CFG_OLEN = 1 → Runs (.doDiagPersist ch .openLoad true) s fun t => t.get (DCH.STAT ch) DCH.STAT_OPENLOAD = 1)
      ∧ (s.get (DCH.STAT ch) DCH.STAT_OVERLOAD = 0 → Runs (.doDiagPersist ch .rbFail true) s fun t => t.get (DCH.STAT ch) DCH.STAT_RBFAIL = 1))

/-- R225, R227 to R232: the field supply of a digital group, its start-up test, shedding and restoring. -/
def Obligations.DigitalGroupCommands : Prop := ∀ (s : State) (p : Party) (g : Nat), Quiet s → (begin s).dioLive g = true →
  (∀ mv, (begin s).vstate g = vsUp ∨ (begin s).vstate g = vsAwait → mv < 15500 → Runs (.vfCut g mv) s fun t =>
    t.get (DIO.GSTAT g) DIO.GSTAT_VSTATE = vsCut ∧ ((begin t).dgrp g).vf = mv
    ∧ (∀ ch ∈ groupChs g, (begin t).dioEff ch = false) ∧ Same (fun a => a / 4096 = dioPage g ∨ Follows a) s t)
  ∧ (∀ mv, (begin s).vstate g = vsCut → 19500 ≤ mv → Runs (.vfRestore g mv) s fun t => t.get (DIO.GSTAT g) DIO.GSTAT_VSTATE = vsQualify
    ∧ ((begin t).dgrp g).testing = ((begin s).dgrp g).needTest)
  ∧ ((begin s).vstate g = vsQualify → ((begin s).dgrp g).testing = true → Runs (.dioStartTestEnd g true) s fun t =>
    ((begin t).dgrp g).testing = false ∧ ((begin t).dgrp g).needTest = false ∧ t.get (DIO.GSTAT g) DIO.GSTAT_VSTATE = vsQualify)
  ∧ ((begin s).vstate g = vsQualify → ((begin s).dgrp g).testing = true → Runs (.dioStartTestEnd g false) s fun t =>
    t.get (DIO.GSTAT g) DIO.GSTAT_VSTATE = vsFault ∧ t.get (DIO.GSTAT g) DIO.GSTAT_GSWOPEN = 1)
  ∧ ((begin s).vstate g = vsQualify → ((begin s).dgrp g).testing = false → 19500 ≤ ((begin s).dgrp g).vf → Runs (.vfQualified g) s fun t =>
    t.get (DIO.GSTAT g) DIO.GSTAT_VSTATE
      = if s.get (DIO.GSTAT g) DIO.GSTAT_NEVERUP = 1 ∨ s.get (DIO.GCFG g) DIO.GCFG_AUTOREST = 1 then vsUp else vsAwait)
  ∧ (∀ mv, mv < 19200 → Runs (.vfWarn g mv) s fun t => t.get (DIO.GSTAT g) DIO.GSTAT_VFWARN = 1)
  ∧ (∀ mv, 19500 < mv → Runs (.vfWarn g mv) s fun t => t.get (DIO.GSTAT g) DIO.GSTAT_VFWARN = 0)
  ∧ (∀ k, (begin s).vstate g = vsUp → ((begin s).dgrp g).next = some k →
    (∀ j, k ≤ j → j < 8 → (begin s).dioWanted (8 * g + j) = false) → Runs (.outputRestore g) s fun t => ((begin t).dgrp g).next = none)
  ∧ (∀ k, (begin s).vstate g = vsUp → k < 7 → ((begin s).dgrp g).next = some k → (begin s).dioWanted (8 * g + k) = true →
    Runs (.outputRestore g) s fun t =>
      ((begin t).dgrp g).next = if (begin s).dioWantedFrom g (k + 1) = [] then none else some (k + 1))
  ∧ ((begin s).vstate g = vsAwait → (begin s).present p = true → (begin s).busError (DIO.GCTL g) = false →
    (begin s).wordRefusal p (DIO.GCTL g) (DIO.GCTL_VFACK.set (s.rd (DIO.GCTL g)) 1) = none → Runs (.vfack p g) s fun t =>
    t.get (DIO.GSTAT g) DIO.GSTAT_VSTATE = vsUp)
  ∧ (∀ cur ch, (begin s).vstate g = vsUp → 4200 < cur → (groupChs g).reverse.find? (fun c => (begin s).dioEff c && !(begin s).flag (DCH.STAT c) DCH.STAT_OVERLOAD) = some ch →
    Runs (.groupShed g cur) s fun t => t.get (DCH.STAT ch) DCH.STAT_SHED = 1 ∧ t.get (DIO.GSTAT g) DIO.GSTAT_SHEDACT = 1
      ∧ t.get (DIO.VFMEAS g) DIO.VFMEAS_IGRP = min cur 65535)
  ∧ (Runs (.groupLinkLost g) s fun t => ((begin t).dgrp g).link = false ∧ (∀ h, h ≠ g → (begin t).dgrp h = (begin s).dgrp h)
    ∧ Same (fun a => a / 4096 = dioPage g ∨ Follows a) s t)
  ∧ (∀ mv, Runs (.groupIslandDark true g true mv) s fun t => ((begin t).dgrp g).dark = true ∧ (t.x.sens = s.x.sens))

/-! ## Safety section (chapter 08) -/

/-- R248, R270 to R272, R287: what starts, trips and faults the section, and what the crosslink brings. -/
def Obligations.SafetySectionStates : Prop := ∀ s : State, Quiet s →
  (s.x.safe.dark = false → s.x.safe.ss ≠ ssFault →
    Runs .xlinkLost s (fun t => t.x.safe.ss = ssFault ∧ t.x.safe.tripWhy = 5 ∧ t.x.safe.xlost = true ∧ SafeOutputs t)
    ∧ Runs .abDisagree s (fun t => t.x.safe.ss = ssFault ∧ t.x.safe.tripWhy = 4 ∧ SafeOutputs t)
    ∧ Runs (.safetySelfCheck none) s (fun t => t.x.safe.ss = ssFault ∧ SafeOutputs t)
    ∧ (∀ i, i < 16 → Runs (.safetySelfCheck (some i)) s fun t => ((begin t).sin i).hwf = true ∧ SafeOutputs t)
    ∧ Runs .crosslinkExchange s (fun t => t.x.safe.seen = s.x.safe.ins ∧ t.x.safe.xlost = false ∧ SafeOutputs t
      ∧ t.x.safe.sealed = s.x.safe.sealed ∧ t.x.mode = s.x.mode))
  ∧ (s.x.safe.ka = true → (begin s).safeRuns = true → Runs .safetyKeepaliveLost s fun t => t.x.safe.ka = false ∧ t.x.safe.kaLost = true
    ∧ t.x.safe.ss = ssTripped ∧ t.x.safe.tripWhy = 3 ∧ t.x.safe.needStart = true ∧ (∀ n < 4, ((begin t).sout n).on = false))
  ∧ (∀ mv, Runs (.vsWarn mv) s fun t => t.x.safe.vs = mv
    ∧ t.x.safe.vsWarn = (if mv < 19200 then true else if 19500 < mv then false else s.x.safe.vsWarn)
    ∧ (s.x.safe.needStart = false → t.x.safe.ss = s.x.safe.ss)
    ∧ (s.x.safe.needStart = true → s.x.safe.ka = true → s.x.safe.dark = false → s.x.safe.ss ≠ ssFault → 19500 < mv →
        t.x.safe.ss = ssStartup ∧ t.x.safe.testing = true))
  ∧ (∀ mv, (begin s).safeRuns = true → mv < 16000 ∨ 32000 < mv → Runs (.vsTrip mv) s fun t => t.x.safe.ss = ssTripped
    ∧ t.x.safe.tripWhy = (if mv < 16000 then 1 else 2) ∧ (∀ n < 4, ((begin t).sout n).on = false))
  ∧ (Runs .safetyDark s fun t => t.x.safe.dark = true ∧ t.x.safe.shown = ssTripped ∧ (∀ n < 4, ((begin t).sout n).on = false)
    ∧ t.x.safe.ss = (if s.x.safe.ss = ssFault then ssFault else ssTripped))
  ∧ (∀ mv, 19500 < mv → mv ≤ 32000 → s.x.safe.ss ≠ ssFault → s.x.safe.ka = true →
    (s.x.safe.needStart = true → Runs (.vsRestore mv) s fun t => t.x.safe.dark = false ∧ t.x.safe.ss = ssStartup ∧ t.x.safe.testing = true
      ∧ t.x.safe.vs = mv ∧ t.x.safe.vsWarn = false)
    ∧ (s.x.safe.needStart = false → s.x.safe.ss = ssTripped → Runs (.vsRestore mv) s fun t => t.x.safe.tripWhy = 0 ∧ t.x.safe.vs = mv
      ∧ t.x.safe.ss = if (begin s).serving then ssActive else ssIdle))
  ∧ (s.x.safe.testing = true →
    Runs (.safetyStartupDone false) s (fun t => t.x.safe.ss = ssFault)
    ∧ (s.x.safe.sealed = false → Runs (.safetyStartupDone true) s fun t => t.x.safe.ss = ssUnsealed)
    ∧ (s.x.safe.sealed = true → s.rd SAFE.SIG = s.x.safe.sigA → s.rd SAFE.SIG = s.x.safe.sigB → s.rd SAFE.SIG = s.rd SAFE.PENDSIG →
        sealBad (begin s).sealedCfg = false →
        Runs (.safetyStartupDone true) s fun t => t.x.safe.ss = if (begin s).serving then ssActive else ssIdle))

/-- R248, R251 to R260, R266 to R269: inputs, discrepancies, resets, delays and grace times, as each processor `v` holds its functions. Whatever
they do, no output stays energised that may not be. -/
def Obligations.SafetyInputsAndFunctions : Prop := ∀ (s : State) (v f : Nat), Quiet s → v < 2 → f < 8 → s.x.safe.dark = false →
  (begin s).safeRuns = true →
  (∀ i c, i < 16 → Runs (.siDemand i c) s fun t => ((begin t).sin i).closed = c ∧ SafeOutputs t
    ∧ (∀ u g, u < 2 → g < 8 → u ≠ i / 8 → (begin t).sfn u g = (begin s).sfn u g))
  ∧ (∀ tp, tp < 2 → (begin s).fType f ≠ 0 → ((begin s).sin f).closed = true → s.get (SAFE.FCFG0 f) SAFE.FCFG0_TPA = tp + 1 →
    1 ≤ ((begin s).sin f).miss → Runs (.tpPulse tp []) s fun t => ((begin t).sin f).xfault = true ∧ SafeOutputs t)
  ∧ ((begin s).fType f = 1 → (begin s).satA v f ≠ (begin s).satB v f → ((begin s).sfn v f).st = fsSafe → Runs (.discrepancy f) s fun t =>
    ((begin t).sfn v f).st = fsLocked ∧ ((begin t).sfn v f).disc = true ∧ SafeOutputs t)
  ∧ (∀ g ms, (begin s).fType f = 6 → 100 ≤ ms → ms ≤ 5000 → (begin s).healthyA 0 f = true → s.x.safe.ss = ssActive → g < 8 → (begin s).fType g = 1 →
    (begin s).fReset g = 1 → s.get (SAFE.FCFG0 g) SAFE.FCFG0_RSTF = f → ((begin s).sfn 0 g).st = fsWait → (begin s).fDemand 0 g = false →
    (begin s).fFaulted 0 g = false → ((begin s).sfn 0 f).actAt = none →
    Runs (.safetyResetButton f ms) s fun t => ((begin t).sfn 0 g).st = fsRun ∧ g ∈ t.x.safe.resets ∧ SafeOutputs t)
  ∧ (∀ ms, (begin s).fType f = 6 → ms < 100 ∨ 5000 < ms → Runs (.safetyResetButton f ms) s fun t => ((begin t).sin f).closed = false
    ∧ t.x.safe.resets = s.x.safe.resets ∧ SafeOutputs t)
  ∧ (((begin s).sfn v f).st = fsStopping → (begin s).fType f = 1 → (begin s).fFaulted v f = true →
    Runs (.stopdlyExpired f) s fun t => ((begin t).sfn v f).st = fsLocked ∧ SafeOutputs t)
  ∧ (((begin s).sfn v f).st = fsStopping → (begin s).fType f = 1 → Runs (.stopdlyExpired f) s fun t => ((begin t).sfn v f).st ≠ fsStopping
    ∧ SafeOutputs t)
  ∧ (((begin s).sfn v f).deg = true → ((begin s).sfn v f).low = false → Runs (.graceLow f) s fun t => ((begin t).sfn v f).low = true
    ∧ ((begin t).sfn v f).st = ((begin s).sfn v f).st ∧ t.get (HDR.IRQSTAT safePage) ⟨18, 1⟩ = 1)
  ∧ (((begin s).sfn v f).deg = true → ((begin s).sfn v f).st = fsRun → (begin s).fType f = 1 → Runs (.graceExpired f) s fun t =>
    ((begin t).sfn v f).st ≠ fsRun ∧ t.get (HDR.IRQSTAT safePage) ⟨18, 1⟩ = 1 ∧ SafeOutputs t)
  ∧ (((begin s).sfn v f).deg = true → (begin s).fFaulted v f = false → (begin s).satA v f = (begin s).satB v f → Runs (.degClear f) s fun t =>
    ((begin t).sfn v f).deg = false ∧ SafeOutputs t)

/-- R263 to R267: the outputs of the safety section and their tests. -/
def Obligations.SafetyOutputCommands : Prop := ∀ (s : State) (n : Nat), Quiet s → n < 4 → s.x.safe.dark = false → (begin s).safeRuns = true →
  SafeOutputs s →
  (∀ fell, Runs (.darkPulseTest n fell true) s fun t => ((begin t).sout n).dpab = min (((begin s).sout n).dpab + 1) 255
    ∧ ((begin t).sout n).hsfail = ((begin s).sout n).hsfail ∧ ((begin t).sout n).lsfail = ((begin s).sout n).lsfail ∧ SafeOutputs t)
  ∧ (((begin s).sout n).on = true → Runs (.darkPulseTest n true false) s fun t => ((begin t).sout n).on = true
    ∧ ((begin t).sout n).dpLow = !((begin s).sout n).dpLow ∧ SafeOutputs t)
  ∧ (((begin s).sout n).on = true → Runs (.darkPulseTest n false false) s fun t => ((begin t).sout n).on = false
    ∧ (if ((begin s).sout n).dpLow then ((begin t).sout n).lsfail = true else ((begin t).sout n).hsfail = true)
    ∧ t.get (HDR.IRQSTAT safePage) ⟨19, 1⟩ = 1 ∧ SafeOutputs t)
  ∧ (∀ hs ls, ((begin s).sout n).on = false → Runs (.offStateTest n hs ls false) s fun t =>
    ((begin t).sout n).hsfail = (((begin s).sout n).hsfail || !hs) ∧ ((begin t).sout n).lsfail = (((begin s).sout n).lsfail || !ls)
    ∧ (hs = false ∨ ls = false → ((begin t).sout n).on = false))
  ∧ (∀ hs ls, Runs (.offStateTest n hs ls true) s fun t => ((begin t).sout n).otab = min (((begin s).sout n).otab + 1) 255)
  ∧ (((begin s).sout n).on = true → Runs (.safeOutputOverload n) s fun t => ((begin t).sout n).on = false
    ∧ t.get (HDR.IRQSTAT safePage) ⟨19, 1⟩ = 1 ∧ SafeOutputs t)
  ∧ (∀ h, (if h then ((begin s).sout n).a else ((begin s).sout n).b) = false → Runs (.extVoltage n h) s fun t =>
    ((begin t).sout n).hsext = (((begin s).sout n).hsext || h) ∧ ((begin t).sout n).lsext = (((begin s).sout n).lsext || !h)
    ∧ ((begin t).sout n).locked = true ∧ ((begin t).sout n).on = false ∧ SafeOutputs t)
  ∧ (Runs (.extVoltageClear n) s fun t => ((begin t).sout n).hsext = false ∧ ((begin t).sout n).lsext = false ∧ SafeOutputs t)

/-- R275 to R279, R286: SEAL, SETPW and the password's lockout. SEAL and SETPW started and carried out put the new seal and the new password's
salted hash in force; where the password check fails they end FAILED with its reason and change neither. That they are carried out with
their START is the model's choice (log entry 32). -/
def Obligations.SealAndPassword : Prop := ∀ (s : State) (p : Party) (a : Nat), Quiet s →
  (MaySeal s p [.held] → s.x.safe.shown = ssUnsealed ∨ s.x.safe.shown = ssIdle →
    ((begin s).pwCheck true = none → (begin s).activeContent.safe ≠ [] → s.rd SAFE.PENDSIG ≠ 0 → a = (s.rd SAFE.PENDSIG).toNat % 65536 →
      sealBad (fun f => (((begin s).activeContent.safe.getD (2 * f) 0).toNat, ((begin s).activeContent.safe.getD (2 * f + 1) 0).toNat)) = false →
      Runs (.seal p a) s fun t => t.x.safe.sealed = true ∧ t.rd SAFE.SIG = s.rd SAFE.PENDSIG ∧ t.x.safe.sigA = s.rd SAFE.PENDSIG
        ∧ t.x.safe.sigB = s.rd SAFE.PENDSIG ∧ t.x.safe.ss = ssIdle
        ∧ (∀ f < 8, t.rd (SAFE.FCFG0 f) = (begin s).activeContent.safe.getD (2 * f) 0
            ∧ t.rd (SAFE.FCFG1 f) = (begin s).activeContent.safe.getD (2 * f + 1) 0)
        ∧ t.x.safe.nextSeq = s.x.safe.nextSeq + 1 ∧ t.x.safe.pwbuf = [] ∧ t.x.safe.npwbuf = []
        ∧ t.get (HDR.OPSTAT safePage) HDR.OPSTAT_STATE = 2 ∧ t.x.mode = .held)
    ∧ (∀ r, (begin s).pwCheck true = some r → Runs (.seal p a) s fun t =>
      t.x.safe.sealed = s.x.safe.sealed ∧ t.rd SAFE.SIG = s.rd SAFE.SIG ∧ t.x.safe.pwbuf = [] ∧ t.x.safe.password = s.x.safe.password
      ∧ t.get (HDR.OPSTAT safePage) HDR.OPSTAT_STATE = 4 ∧ t.get (HDR.OPSTAT safePage) HDR.OPSTAT_REASON = r % 256))
  ∧ (MaySeal s p [.held, .ready, .run, .hold] → a = 0 →
    ((begin s).pwCheck false = none →
      pwShape (pwBytes s.x.safe.npwbuf (SAFE.PWLEN_NLEN.get s.x.safe.pwlen)) (SAFE.PWLEN_NLEN.get s.x.safe.pwlen) = true →
      Runs (.setpw p a) s fun t => t.x.safe.password = some (Config.pwSalt s.x.safe.nextSeq,
          pwHash (Config.pwSalt s.x.safe.nextSeq) (pwBytes s.x.safe.npwbuf (SAFE.PWLEN_NLEN.get s.x.safe.pwlen)))
        ∧ t.x.safe.pwbuf = [] ∧ t.x.safe.npwbuf = [] ∧ t.x.safe.sealed = s.x.safe.sealed ∧ t.rd SAFE.SIG = s.rd SAFE.SIG
        ∧ t.x.safe.nextSeq = s.x.safe.nextSeq + 1 ∧ t.get (HDR.OPSTAT safePage) HDR.OPSTAT_STATE = 2)
    ∧ (∀ r, (begin s).pwCheck false = some r → Runs (.setpw p a) s fun t => t.x.safe.password = s.x.safe.password
      ∧ t.x.safe.sealed = s.x.safe.sealed ∧ t.x.safe.npwbuf = []
      ∧ t.get (HDR.OPSTAT safePage) HDR.OPSTAT_STATE = 4 ∧ t.get (HDR.OPSTAT safePage) HDR.OPSTAT_REASON = r % 256))
  ∧ (s.x.safe.pwLock = true → Runs .pwLockoutEnd s fun t => t.x.safe = { s.x.safe with pwLock := false, pwFails := [] }
    ∧ Same (fun b => b = SAFE.PWSTAT ∨ Follows b) s t)

/-! ## Timetable and the remote-I/O cycle (chapter 09) -/

/-- R297, R302 to R308, R321: an accepted operation of the TASK page waits for its boundary, and the boundary carries it out: the module runs,
stops or holds, a force is set, removed, all are removed, a change set is applied. A faulty change set ends OLC_APPLY at once. -/
def Obligations.TaskOperationsWaitForTheBoundary : Prop := ∀ (s : State) (p : Party) (a : Nat), Quiet s → s.x.role ≠ .standby →
  (p ≠ .program → a = 1 ∨ a = 2 → MayStart s p taskPage a [.ready] → Runs (.run p a) s fun t => TaskWaits s t 1
    ∧ ActsAtBoundary s t fun u => u.x.mode = .run)
  ∧ (p ≠ .program → a = 0 → MayStart s p taskPage 1 [.hold] → Runs (.run p a) s fun t => TaskWaits s t 1
    ∧ ActsAtBoundary s t fun u => u.x.mode = .run)
  ∧ (a = 0 → MayStart s p taskPage 1 (if p = .program then [.run] else [.run, .hold]) → Runs (.stop p a) s fun t => TaskWaits s t 2
    ∧ ActsAtBoundary s t fun u => u.x.mode = .ready ∧ u.get TASK.STAT TASK.STAT_STOPWHY = if p = .program then 2 else 1)
  ∧ (a = 0 → MayStart s p taskPage 1 [.run] → Runs (.hold p a) s fun t => TaskWaits s t 3 ∧ ActsAtBoundary s t fun u => u.x.mode = .hold)
  ∧ (p ≠ .program → a = 1 ∨ a = 2 → MayStart s p taskPage a [.ready] → Runs (.hold p a) s fun t => TaskWaits s t 3
    ∧ ActsAtBoundary s t fun u => u.x.mode = .hold)
  ∧ (a = 0 → MayStart s p taskPage 2 [.ready, .run, .hold] →
    ((begin s).forceFault (s.rd TASK.FVAR).toNat = none → s.x.task.forces.length < 256 → Runs (.forceSet p a) s fun t => TaskWaits s t 4
      ∧ ActsAtBoundary s t fun u => (∃ e ∈ u.x.task.forces, e.2 = ((s.rd TASK.FVAR).toNat, s.rd TASK.FVAL))
        ∧ u.x.task.forces.filter (fun e => decide (e.2.1 ≠ (s.rd TASK.FVAR).toNat))
          = s.x.task.forces.filter fun e => decide (e.2.1 ≠ (s.rd TASK.FVAR).toNat))
    ∧ ((∃ e ∈ s.x.task.forces, e.2.1 = (s.rd TASK.FVAR).toNat) → Runs (.forceClr p a) s fun t => TaskWaits s t 5
      ∧ ActsAtBoundary s t fun u => u.x.task.forces = s.x.task.forces.filter fun e => decide (e.2.1 ≠ (s.rd TASK.FVAR).toNat))
    ∧ Runs (.forceClrall p a) s (fun t => TaskWaits s t 6 ∧ ActsAtBoundary s t fun u => u.x.task.forces = [])
    ∧ (∀ es, (begin s).olcCheck = .inr es → Runs (.olcApply p a) s fun t => TaskWaits s t 7
      ∧ ActsAtBoundary s t fun u => u.x.task.journal = s.x.task.journal ++ es
        ∧ u.get TASK.OLCSTAT TASK.OLCSTAT_JCOUNT = (s.x.task.journal.length + es.length) % 2 ^ TASK.OLCSTAT_JCOUNT.w)
    ∧ (∀ r e, (begin s).olcCheck = .inl (r, e) → Runs (.olcApply p a) s fun t =>
      t.x.task = { s.x.task with due := false } ∧ t.get TASK.OLCSTAT TASK.OLCSTAT_REJENT = e % 65536
      ∧ t.get (HDR.OPSTAT taskPage) HDR.OPSTAT_STATE = 4 ∧ t.get (HDR.OPSTAT taskPage) HDR.OPSTAT_REASON = r % 256))

/-- R290, R291, R353: a main boundary of a module with no partner counts the cycle, captures the registers and releases the main task; Belfry's
engines are compared at it, a disagreement is repeated once and counted, and a second one makes the module Failed. A module that is not up
has no boundary. -/
def Obligations.MainBoundaryActs : Prop := ∀ s : State, Quiet s →
  ([Mode.held, .ready, .run, .hold].contains s.x.mode = false → Runs .mainBoundary s fun t => Same Follows s t
    ∧ t.x.mode = s.x.mode ∧ t.x.task = s.x.task)
  ∧ ([Mode.held, .ready, .run, .hold].contains s.x.mode = true → Calm s → (begin s).op? taskPage = none →
    (s.x.upsets = [] → Runs .mainBoundary s fun t => (begin t).cycle = ((begin s).cycle + 1) % 2 ^ 64 ∧ t.x.mode = s.x.mode ∧ t.x.role = .solo
      ∧ t.x.task.forces = s.x.task.forces
      ∧ (s.x.task.forces = [] → ∀ n < 48, regsGet t.x.task.snap.regs (LOOP.VALUE n) = s.rd (LOOP.VALUE n)))
    ∧ (s.x.upsets = [] → s.x.mode = .run → (begin s).executes = true → ((begin s).trun 0).running = false → Runs .mainBoundary s fun t =>
      ((begin t).trun 0).running = true ∧ ((begin t).trun 0).relAt = (begin t).cycle ∧ t.x.proc.isOpen = true ∧ t.x.proc.cps = [])
    ∧ (∀ e : Nat × Word, e.2 ≠ 0 → (begin s).belOn = true → s.get TASK.MAIN TASK.MAIN_P0 ≠ 1 →
      (s.x.upsets = [[e]] → Runs .mainBoundary s fun t => t.x.mode = s.x.mode
        ∧ t.get BELFRY.BSTAT BELFRY.BSTAT_RETRYCNT
          = min (s.get BELFRY.BSTAT BELFRY.BSTAT_RETRYCNT + 1) (2 ^ BELFRY.BSTAT_RETRYCNT.w - 1))
      ∧ (s.x.upsets = [[e], [e]] → Runs .mainBoundary s fun t => t.x.mode = .failed ∧ t.x.bel = s.x.bel)))

/-- R296, R299, R300, R408: overruns and traps of a task, of an image that gives no safe values. -/
def Obligations.OverrunsAndTraps : Prop := ∀ (s : State) (i : Nat), Quiet s → i < 4 → s.x.mode = .run → s.x.role ≠ .standby →
  ((begin s).trun i).running = true → (begin s).activeContent.safeVals = [] → (begin s).activeContent.owners = [] →
  (s.x.proc.withheld = false → Runs (.taskOverrun i) s fun t => t.get TASK.STAT ⟨24 + i, 1⟩ = 1 ∧ ((begin t).trun i).late = true
    ∧ t.get TASK.OVRCNT ⟨8 * i, 8⟩ = min (s.get TASK.OVRCNT ⟨8 * i, 8⟩ + 1) 255 ∧ t.get (HDR.IRQSTAT taskPage) ⟨16, 1⟩ = 1
    ∧ (s.get PROCTOR.STAT PROCTOR.STAT_SPLIT = 0 → s.get TASK.MAIN TASK.MAIN_OVRMAX ≤ ((begin s).trun i).consec + 1 → t.x.task.wdDue = true))
  ∧ (Runs (.trap i none) s fun t => t.get TASK.STAT ⟨20 + i, 1⟩ = 1 ∧ ((begin t).trun i).running = false
    ∧ t.get TASK.TRAPCNT ⟨8 * i, 8⟩ = min (s.get TASK.TRAPCNT ⟨8 * i, 8⟩ + 1) 255 ∧ t.get (HDR.IRQSTAT taskPage) ⟨17, 1⟩ = 1)
  ∧ (∀ f, f < 4 → (begin s).place f = plVoting → s.x.proc.isOpen = false → s.x.proc.rot = none → Runs (.trap i (some f)) s fun t =>
    t.get (FORM.FSTAT f) FORM.FSTAT_PLACE = plTest ∧ t.get (FORM.FSTAT f) FORM.FSTAT_LASTWHY = 3)

/-- R310 to R313, R464: the frames of the remote-I/O cycle. -/
def Obligations.RemoteIoFrames : Prop := ∀ (s : State) (k : Nat) (b : Bool), Quiet s → Live s → PageOn s iosPage → k < (begin s).nsta →
  (∀ d : List Byte, s.get IOSYNC.CFG IOSYNC.CFG_EN = 1 → (begin s).trkHears (tn b) = true → d.length = s.get (IOSYNC.SCFG k) IOSYNC.SCFG_INLEN →
    Runs (.ioInReceived k b d) s fun t =>
      ((begin t).sta k).inp = (if ((begin s).sta k).gotA || ((begin s).sta k).gotB then ((begin s).sta k).inp else d)
      ∧ (if b then ((begin t).sta k).gotB = true else ((begin t).sta k).gotA = true) ∧ Same Follows s t)
  ∧ ((begin s).trkHears (tn b) = true → s.x.ios.outAt = some k → Runs (.ioAckReceived k b) s fun t =>
    t.x.ios.outAt = (if k + 1 < (begin s).nsta then some (k + 1) else none)
    ∧ t.get (IOSYNC.SSTAT k) IOSYNC.SSTAT_UNDELIV = s.get (IOSYNC.SSTAT k) IOSYNC.SSTAT_UNDELIV)
  ∧ (s.x.ios.outAt = some k → Runs (.ioAckTimeout k) s fun t =>
    t.x.ios.outAt = (if k + 1 < (begin s).nsta then some (k + 1) else none)
    ∧ t.get (IOSYNC.SSTAT k) IOSYNC.SSTAT_UNDELIV = 1 ∧ t.get IOSYNC.UNDMAP ⟨k, 1⟩ = 1
    ∧ t.get (IOSYNC.SCNT k) IOSYNC.SCNT_UNDCNT = min (s.get (IOSYNC.SCNT k) IOSYNC.SCNT_UNDCNT + 1) (2 ^ IOSYNC.SCNT_UNDCNT.w - 1)
    ∧ t.get (HDR.IRQSTAT iosPage) ⟨17, 1⟩ = 1)
  ∧ (s.x.mode ≠ .run → s.x.ios.started = true → s.x.ios.phase = false → Runs .holdOutputPhase s fun t => t.x.ios.phase = true
    ∧ t.x.ios.outAt = some 0 ∧ t.rd IOSYNC.UNDMAP = 0 ∧ t.get (IOSYNC.SSTAT k) IOSYNC.SSTAT_UNDELIV = 0)

/-! ## Control engine (chapter 10) -/

/-- R326, R329, R331, R345, R346: ticks, lane checkpoints, PVBADT, window words and STKCLR. -/
def Obligations.ControlCommands : Prop := ∀ (s : State) (p : Party) (n : Nat), Quiet s →
  ((begin s).executes = true → PageOn s ctlPageNo → Runs .laneTick s fun t =>
    (begin t).rd64 CTLENG.TICK CTLENG.TICKH = ((begin s).rd64 CTLENG.TICK CTLENG.TICKH + 1) % 2 ^ 64
    ∧ t.x.ctl.stepped = (begin s).dueLoops ((begin s).rd64 CTLENG.TICK CTLENG.TICKH)
    ∧ t.x.ctl.isOpen = decide (t.x.ctl.stepped ≠ []) ∧ t.x.ctl.agree = [] ∧ t.x.ctl.released = false
    ∧ (n ∈ t.x.ctl.stepped → ((begin t).lp n).steps = (((begin s).lp n).steps + 1) % 2 ^ 32)
    ∧ (n ∉ t.x.ctl.stepped → (begin t).lp n = (begin s).lp n)
    ∧ Same (fun a => a = CTLENG.TICK ∨ a = CTLENG.TICKH ∨ a = CTLENG.CTLSTAT ∨ Follows a) s t)
  ∧ ((begin s).executes = false → Runs .laneTick s fun t => t.x.ctl = s.x.ctl ∧ Same Follows s t)
  ∧ (∀ f, s.x.mode = .run → s.x.role ≠ .standby → f < 4 → (begin s).place f = plVoting → s.x.ctl.isOpen = true →
    f ∉ s.x.ctl.agree → f ∉ s.x.ctl.odd →
    (s.x.ctl.released = false →
      (((begin s).voters.filter (s.x.ctl.agree ++ [f]).contains).length < needed (begin s).voters.length →
        (begin s).voters.all (fun g => (s.x.ctl.agree ++ [f]).contains g || s.x.ctl.odd.contains g) = false →
        Runs (.lanePresentation f true) s fun t => t.x.ctl = { s.x.ctl with agree := s.x.ctl.agree ++ [f] } ∧ Same Follows s t)
      ∧ (needed (begin s).voters.length ≤ ((begin s).voters.filter (s.x.ctl.agree ++ [f]).contains).length → s.x.ctl.odd = [] →
        s.x.proc.heldLane = [] → Runs (.lanePresentation f true) s fun t => t.x.ctl.released = true
          ∧ t.x.ctl.dest = s.x.ctl.staged.foldl (fun d e => tabSet d e.1 e.2) s.x.ctl.dest ∧ (begin t).place f = plVoting
          ∧ ∀ k ∈ s.x.ctl.stepped, k < 64 → t.rd (RAM.OUT k) = ((begin s).lp k).out ∧ t.rd (RAM.PV k) = ((begin s).lp k).pv))
    ∧ (s.x.ctl.released = true → s.x.ctl.odd = [] → 3 ≤ (begin s).voters.length → s.x.proc.isOpen = false → s.x.proc.rot = none → Runs (.lanePresentation f false) s fun t =>
      t.get (FORM.FSTAT f) FORM.FSTAT_PLACE = plTest ∧ t.get (FORM.FSTAT f) FORM.FSTAT_LASTWHY = 5))
  ∧ (s.x.mode = .run → s.x.role ≠ .standby → s.x.ctl.isOpen = true →
    (∀ g ∈ (begin s).voters, g ∈ s.x.ctl.agree) → s.x.ctl.released = true → s.x.ctl.odd = [] → Runs .laneWindowEnd s fun t =>
    t.x.ctl = { s.x.ctl with isOpen := false, staged := [], stepped := [] } ∧ Same Follows s t)
  ∧ (n < 64 → (begin s).executes = true → (begin s).lpOn n = true → ((begin s).lp n).flags.testBit 0 = true →
    s.get (RAM.LCFG2 n) RAM.LCFG2_PVBADACT = 1 → ((begin s).lp n).mode = lmAuto ∨ ((begin s).lp n).mode = lmCasc →
    Runs (.pvbadTimeout n) s fun t => (begin t).lp n = { ((begin s).lp n) with mode := lmMan }
      ∧ t.get (RAM.LSTAT n) RAM.LSTAT_MODE = lmMan ∧ t.get (HDR.IRQSTAT ctlPageNo) ⟨18, 1⟩ = 1
      ∧ Same (fun a => a / 4096 = RAM.LCFG n / 4096 ∨ a / 4096 = ctlPageNo ∨ Follows a) s t)
  ∧ (∀ v : Word, n < 64 → (begin s).present p = true → (begin s).busError (RAM.KP n) = false → (begin s).wordRefusal p (RAM.KP n) v = none →
    Runs (.paramWrite p (RAM.KP n) v) s fun t => t.rd (RAM.KP n) = v ∧ (begin t).lp n = (begin s).lp n
      ∧ Same (fun a => a = RAM.KP n ∨ a = HDR.PGKEY ctlPageNo ∨ Follows a) s t)
  ∧ (∀ hi (v : Word), (begin s).usable ctlPageNo = true → (begin s).present p = true → 1 ≤ (begin s).roleOf p → Runs (.stkclr p hi v) s fun t =>
    (n < 32 → v.toNat.testBit n = true → ((begin t).lp (if hi then n + 32 else n)).sticky = 0
      ∧ t.rd (RAM.LSTICKY (if hi then n + 32 else n)) = 0 ∧ t.get (CTLENG.STKMAP (if hi then 1 else 0)) ⟨n, 1⟩ = 0)
    ∧ (n < 32 → v.toNat.testBit n = false → (begin t).lp (if hi then n + 32 else n) = (begin s).lp (if hi then n + 32 else n)
      ∧ t.rd (RAM.LSTICKY (if hi then n + 32 else n)) = s.rd (RAM.LSTICKY (if hi then n + 32 else n))))

/-! ## Belfry (chapter 11) -/

/-- R370 to R372, R379: an accepted command waits in Belfry's queue; a refused one shows its reason; a Standby hands it on. -/
def Obligations.BelfryCommandsAreQueued : Prop := ∀ (s : State) (p : Party) (scope n k : Nat), Quiet s →
  (BelfryTakes s p (bcmd 1 scope 0 n) → Runs (.ack p scope n) s (Queued s (bcmd 1 scope 0 n)))
  ∧ (BelfryTakes s p (bcmd 2 0 0 0) → Runs (.silence p) s (Queued s (bcmd 2 0 0 0)))
  ∧ (BelfryTakes s p (bcmd 3 0 k n) → Runs (.shelve p n k) s (Queued s (bcmd 3 0 k n)))
  ∧ (BelfryTakes s p (bcmd 4 0 0 n) → Runs (.unshelve p n) s (Queued s (bcmd 4 0 0 n)))
  ∧ (BelfryTakes s p (bcmd 5 0 0 n) → Runs (.oos p n) s (Queued s (bcmd 5 0 0 n)))
  ∧ (BelfryTakes s p (bcmd 6 0 0 n) → Runs (.inserv p n) s (Queued s (bcmd 6 0 0 n)))
  ∧ (BelfryTakes s p (bcmd 7 scope 0 n) → Runs (.belfryReset p scope n) s (Queued s (bcmd 7 scope 0 n)))
  ∧ (BelfryTakes s p (bcmd 8 0 0 0) → Runs (.watchOn p) s (Queued s (bcmd 8 0 0 0)))
  ∧ (BelfryTakes s p (bcmd 9 0 0 0) → Runs (.watchOff p) s (Queued s (bcmd 9 0 0 0)))
  ∧ (BelfryTakes s p (bcmd 10 0 0 0) → Runs (.dmreset p) s (Queued s (bcmd 10 0 0 0)))
  ∧ (BelfryTakes s p (bcmd 11 0 k 0) → Runs (.duty p k) s (Queued s (bcmd 11 0 k 0)))
  ∧ (∀ c, (begin s).usable belPage = true → (begin s).present p = true → (begin s).belRefusal (.party p) (bcmd 3 0 k n) = some c →
    Runs (.shelve p n k) s fun t => t.x.bel = s.x.bel ∧ t.get (HDR.PGSTAT belPage) HDR.PGSTAT_WREJ = 1
      ∧ t.get (HDR.PGSTAT belPage) HDR.PGSTAT_WREJ_CODE = c)
  ∧ (s.x.role = .standby → (begin s).usable belPage = true → (begin s).present p = true → (begin s).belRefusal (.party p) (bcmd 2 0 0 0) = none →
    Runs (.silence p) s fun t => t.x.bel = s.x.bel ∧ Out.belfryCmd (bcmd 2 0 0 0) ∈ t.x.out)
  ∧ (∀ b, (begin s).trkHears (tn b) = true → PageOn s belPage → s.x.bel.recent = [] → n ∈ (begin s).tnodes → n ≠ 0xFF → s.x.role ≠ .standby →
    (begin s).belRefusal (.trunk n) (bcmd 1 2 0 0) = none → Runs (.belfryCmdRx b n (begin s).node (bcmd 1 2 0 0)) s fun t =>
      t.x.bel.cmds = s.x.bel.cmds ++ [bcmd 1 2 0 0] ∧ t.x.bel.recent.length = 1
      ∧ Same (fun a => a / 4096 = 0x14 ∨ Follows a) s t)

/-- R359, R365 to R367: delays of a condition, shelves, the release of a group, and chatter's step down. -/
def Obligations.BelfryPointTimers : Prop := ∀ (s : State) (pt k : Nat), Quiet s → (begin s).belOn = true → s.x.role ≠ .standby → pt < 1008 →
  (begin s).ptOn pt = true →
  (1 ≤ k → k ≤ 6 → k ∈ ((begin s).pa pt).act → ((begin s).pa pt).raised = [] → (begin s).supmode pt = 0 →
    Runs (.alarmDelayExpired pt k true) s fun t => ((begin t).pa pt).raised = [k] ∧ (begin t).astate pt = asUnack
      ∧ t.get (PT.PSTAT pt) PT.PSTAT_ACTLIM = k ∧ t.get (PT.PSTAT pt) PT.PSTAT_PRIOACT = (begin s).ptPrio pt k % 16
      ∧ t.rd (PT.TRAISE pt) = BitVec.ofNat 32 (begin s).now
      ∧ t.get (PT.COUNT pt) PT.COUNT_RAISES = min (s.get (PT.COUNT pt) PT.COUNT_RAISES + 1) 65535
      ∧ t.get (HDR.IRQSTAT belPage) ⟨16, 1⟩ = 1)
  ∧ (1 ≤ k → k ≤ 6 → k ∉ ((begin s).pa pt).act → ((begin s).pa pt).raised = [k] → (begin s).supmode pt = 0 →
    Runs (.alarmDelayExpired pt k false) s fun t => ((begin t).pa pt).raised = []
      ∧ ((begin s).astate pt = asUnack → (begin t).astate pt = asRtnun)
      ∧ ((begin s).astate pt = asAcked → (begin t).astate pt = if s.get (PT.PCFG pt) PT.PCFG_LATCH = 1 then asLatched else asNorm)
      ∧ t.get (PT.COUNT pt) PT.COUNT_RAISES = s.get (PT.COUNT pt) PT.COUNT_RAISES)
  ∧ (((begin s).pa pt).shelfEnd ≠ none → ((begin s).pa pt).oos = false → ((begin s).pa pt).raised = [] → s.x.bel.sup = [] →
    Runs (.shelfExpired pt) s fun t => ((begin t).pa pt).shelfEnd = none ∧ (begin t).supmode pt = 0
      ∧ t.get (HDR.IRQSTAT belPage) ⟨20, 1⟩ = 1 ∧ t.get (PT.TIMER pt) PT.TIMER_SHREM = 0)
  ∧ ((∃ e ∈ s.x.bel.relEnd, e.1 = k) → k < 63 → Runs (.suprelExpired k) s fun t => k ∉ t.x.bel.sup
      ∧ t.get (BELFRY.GSTAT k) BELFRY.GSTAT_SUP = 0 ∧ t.get (BELFRY.GSTAT k) BELFRY.GSTAT_RELRUN = 0
      ∧ ((begin s).ptGroup pt = k → (begin t).supmode pt ≠ 2))
  ∧ (s.get (PT.CHCFG2 pt) PT.CHCFG2_CHN ≠ 0 → (begin s).astate pt = asNorm → (begin s).supmode pt = 0 →
    s.get (PT.DLY pt) PT.DLY_OFFDLY < s.get (PT.OFFEFF pt) PT.OFFEFF_OFFEFF → Runs (.chatterDown pt) s fun t =>
    t.get (PT.OFFEFF pt) PT.OFFEFF_OFFEFF
      = max (s.get (PT.OFFEFF pt) PT.OFFEFF_OFFEFF - s.get (PT.CHCFG1 pt) PT.CHCFG1_CHSTEP) (s.get (PT.DLY pt) PT.DLY_OFFDLY)
    ∧ t.get (HDR.IRQSTAT belPage) ⟨19, 1⟩ = 1)

/-- R374, R375, R378, R380: the engineer call, the dead-man watch, the keep area. -/
def Obligations.CallAndWatch : Prop := ∀ s : State, Quiet s → (begin s).belOn = true → s.x.role ≠ .standby →
  (s.x.bel.cstate = 1 → Runs .escalation s fun t => t.x.bel.cstate = 2 ∧ t.get BELFRY.CALLSTAT BELFRY.CALLSTAT_CSTATE = 2
    ∧ t.get BELFRY.CALLSTAT BELFRY.CALLSTAT_AUDIBLE = 1 ∧ t.get (HDR.IRQSTAT belPage) ⟨17, 1⟩ = 1 ∧ t.x.bel.wstate = s.x.bel.wstate
    ∧ Same (fun a => a / 4096 = belPage ∨ a / 4096 = 0x14 ∨ Follows a) s t)
  ∧ (s.x.bel.wstate = 1 → Runs .deadmanPrewarn s fun t => t.x.bel.wstate = 2 ∧ t.get BELFRY.CALLSTAT BELFRY.CALLSTAT_WSTATE = 2
    ∧ t.get (HDR.IRQSTAT belPage) ⟨18, 1⟩ = 1 ∧ t.x.bel.cstate = s.x.bel.cstate ∧ t.x.bel.watchFrom = s.x.bel.watchFrom)
  ∧ (s.x.bel.wstate = 2 → Runs .deadmanStage3 s fun t => t.x.bel.wstate = 3 ∧ t.get BELFRY.CALLSTAT BELFRY.CALLSTAT_WSTATE = 3
    ∧ t.get (HDR.IRQSTAT belPage) ⟨18, 1⟩ = 1 ∧ t.x.bel.cstate = s.x.bel.cstate)
  ∧ (s.x.bel.cstate ≠ 0 ∨ s.x.bel.wstate ≠ 0 → Runs .belfryCallRepeat s fun t => t.x.bel = s.x.bel ∧ Same Follows s t)
  ∧ (Runs .belfryKeepWrite s fun t => Same Follows s t ∧ t.x.bel = { s.x.bel with keep := t.x.bel.keep }
    ∧ t.x.bel.keep.map (·.imgid) = some (s.rd SYS.ACTID) ∧ t.x.bel.keep.map (·.cstate) = some s.x.bel.cstate
    ∧ t.x.bel.keep.map (·.wstate) = some s.x.bel.wstate ∧ t.x.bel.keep.map (·.fo) = some s.x.bel.fo
    ∧ t.x.bel.keep.map (·.escFrom) = some s.x.bel.escFrom ∧ t.x.bel.keep.map (·.watchFrom) = some s.x.bel.watchFrom)

/-! ## Forms and Proctor (chapter 12) -/

/-- R395 to R397, R400, R401, R405 to R408, R411: presentations of the main checkpoint with their signatures and state hashes, agreement, the end
of the window, Roll Call. (That a signature reads the parts of R396 in the order given there is the model's: log entry 202.) -/
def Obligations.MainCheckpoint : Prop := ∀ (s : State) (f g h : Nat) (c d : Checkpoint) (e e' e'' : Shown), Quiet s → s.x.mode = .run → s.x.role = .solo →
  s.x.proc.isOpen = true → s.x.proc.closed = false → f ≠ g → f ≠ h → g ≠ h → (begin s).voters.length = 3 → s.x.proc.held = [] →
  (∀ k ∈ [f, g, h], k < 4 ∧ (begin s).place k = plVoting) → (begin s).pstate ≠ psOut → s.x.proc.rot = none → s.x.proc.resync = [] →
  s.get PROCTOR.STAT PROCTOR.STAT_FALLBACK = 0 → e.form = g → e'.form = h → e''.form = f →
  (s.x.proc.cps = [] → s.x.proc.done = false → c.claims = [] → Runs (.formPresentation f c) s fun t =>
    t.x.proc.cps = [⟨f, c, s.x.proc.common.signature c, if ((begin s).trun 0).relAt % 256 = 0 then (begin t).stateHash f else 0⟩]
    ∧ tabGet {} t.x.proc.mem f = c.writes.foldl (FormMem.write · (begin s).activeContent ·) (tabGet {} s.x.proc.mem f)
    ∧ t.x.proc = { s.x.proc with cps := t.x.proc.cps, mem := tabSet s.x.proc.mem f (tabGet {} t.x.proc.mem f) }
    ∧ t.get (FORM.SKEW f) FORM.SKEW_LAST = min c.trail 65535
    ∧ t.get (FORM.SKEW f) FORM.SKEW_MAX = max (min c.trail 65535) (s.get (FORM.SKEW f) FORM.SKEW_MAX)
    ∧ t.x.task.outImg = s.x.task.outImg ∧ Same (fun a => a = FORM.SKEW f ∨ Follows a) s t)
  ∧ (s.x.proc.cps = [e] → s.x.proc.done = false → d.words = e.cp.words → d.station = e.cp.station → d.mail = e.cp.mail →
    s.x.proc.common.signature d = e.sig → d.claims = [] →
    Runs (.formPresentation f d) s fun t => t.x.proc.done = true ∧ t.x.proc.agree = [g, f] ∧ t.x.proc.closed = false
      ∧ (begin t).place f = plVoting ∧ t.x.proc.relHalf = 1 - s.x.proc.relHalf)
  ∧ (s.x.proc.cps = [e] → s.x.proc.done = false → d.words ≠ e.cp.words ∨ s.x.proc.common.signature d ≠ e.sig → d.claims = [] →
    Runs (.formPresentation f d) s fun t => t.x.proc.cps.map (·.form) = [g, f] ∧ t.x.proc.done = false ∧ t.x.proc.agree = s.x.proc.agree
      ∧ t.x.task.outImg = s.x.task.outImg)
  ∧ (s.x.proc.cps = [e, e'] → s.x.proc.done = true → s.x.proc.agree = [g, h] → ((begin s).trun 0).relAt % 256 ≠ 0 →
    Runs .checkpointWindowClose s fun t => t.get (FORM.FSTAT f) FORM.FSTAT_PLACE = plTest ∧ t.get (FORM.FSTAT f) FORM.FSTAT_LASTWHY = 2
      ∧ t.get (FORM.FCNT f) FORM.FCNT_VOTEOUT = min (s.get (FORM.FCNT f) FORM.FCNT_VOTEOUT + 1) (2 ^ FORM.FCNT_VOTEOUT.w - 1)
      ∧ (begin t).place g = plVoting ∧ (begin t).place h = plVoting ∧ t.x.proc.isOpen = false
      ∧ t.get (HDR.IRQSTAT proctorPage) ⟨16, 1⟩ = 1)
  ∧ (s.x.proc.cps = [e, e'] → s.x.proc.done = false → s.x.proc.agree = [] →
    Runs .checkpointWindowClose s fun t => t.get PROCTOR.STAT PROCTOR.STAT_SPLIT = 1
      ∧ (∀ k ∈ [f, g, h], t.get (FORM.FSTAT k) FORM.FSTAT_PLACE = plSplit)
      ∧ t.get PROCTOR.CNT2 PROCTOR.CNT2_SPLITS = min (s.get PROCTOR.CNT2 PROCTOR.CNT2_SPLITS + 1) (2 ^ PROCTOR.CNT2_SPLITS.w - 1)
      ∧ t.get (HDR.IRQSTAT proctorPage) ⟨18, 1⟩ = 1)
  ∧ (s.x.proc.cps = [e, e', e''] → s.x.proc.done = true → s.x.proc.agree = [g, h, f] → ((begin s).trun 0).relAt % 256 = 0 → e.hash = e'.hash →
    e''.hash ≠ e.hash → s.x.proc.lats = [] →
    Runs .checkpointWindowClose s fun t => t.get PROCTOR.RCSTAT PROCTOR.RCSTAT_ODD = 2 ^ f ∧ t.x.proc.latNext = s.x.proc.latNext ++ [f]
      ∧ t.get PROCTOR.CNT1 PROCTOR.CNT1_LATENT = min (s.get PROCTOR.CNT1 PROCTOR.CNT1_LATENT + 1) (2 ^ PROCTOR.CNT1_LATENT.w - 1)
      ∧ t.get (FORM.FSTAT f) FORM.FSTAT_LAT24 = 1 ∧ (begin t).place f = plVoting ∧ t.get (HDR.IRQSTAT proctorPage) ⟨17, 1⟩ = 1)

/-- R404, R409 to R412, R415, R416, R423: banks, rails, resynchronisation, Recess, split tests, passes. -/
def Obligations.ProctorCommands : Prop := ∀ (s : State) (p : Party) (f n : Nat), Quiet s → Live s → s.x.role = .solo →
  (∀ b, b < 2 → n < 4096 → Runs (.bankEccError b n false) s fun t =>
    t.get PROCTOR.CNT2 PROCTOR.CNT2_BANKERR = min (s.get PROCTOR.CNT2 PROCTOR.CNT2_BANKERR + 1) (2 ^ PROCTOR.CNT2_BANKERR.w - 1)
    ∧ t.x.proc = s.x.proc ∧ Same (fun a => a = PROCTOR.CNT2 ∨ a / 4096 = 0x14 ∨ Follows a) s t)
  ∧ (∀ b, b < 2 → n < 4096 → s.get PROCTOR.STAT PROCTOR.STAT_BANK = 1 - b → (∃ e ∈ s.x.proc.bankErrs, e.1 = b ∧ (begin s).now < e.2 + day24) →
    s.get PROCTOR.STAT (bankLost b) = 0 → s.get PROCTOR.STAT (bankLost (1 - b)) = 0 → Runs (.bankEccError b n true) s fun t =>
    t.get PROCTOR.STAT (bankLost b) = 1 ∧ t.get (HDR.IRQSTAT proctorPage) ⟨20, 1⟩ = 1 ∧ t.x.mode = s.x.mode)
  ∧ ((begin s).serves = true → s.get PROCTOR.STAT PROCTOR.STAT_FALLBACK = 0 → s.x.proc.fbNext = false → s.x.proc.voterBad = false →
    Runs .railDisagree s fun t => t.x.proc.fbNext = true ∧ t.x.ctl.isOpen = false
      ∧ (s.x.proc.isOpen = true → s.x.proc.done = false → t.x.proc.withheld = true ∧ t.x.task.outImg = s.x.task.outImg))
  ∧ (∀ d k c, s.x.proc.resync = [(f, k, false)] → f < 4 → Runs (.resyncPassComplete f d c) s fun t =>
    t.x.proc.resync = [(f, k, c || decide (s.x.mode ≠ .run))] ∧ t.get (FORM.RESYNC f) FORM.RESYNC_DUR = min d 0xFF_FFFF
    ∧ t.get (FORM.RESYNC f) FORM.RESYNC_PASSES = min (s.get (FORM.RESYNC f) FORM.RESYNC_PASSES + 1) (2 ^ FORM.RESYNC_PASSES.w - 1))
  ∧ (f < 4 → (begin s).place f = plTest → (begin s).voters.length = 3 → (begin s).quadOn = false → s.x.proc.rot = none →
    Runs (.recessTestEnd f true []) s fun t => t.get (FORM.FSTAT f) FORM.FSTAT_PLACE = plIdle)
  ∧ (f < 4 → (begin s).place f = plTest → (begin s).formsIn plExcluded = [] → s.x.proc.rot = none →
    Runs (.recessTestEnd f false []) s fun t => t.get (FORM.FSTAT f) FORM.FSTAT_PLACE = plExcluded ∧ t.x.mode = s.x.mode)
  ∧ (s.get PROCTOR.STAT PROCTOR.STAT_SPLIT = 1 → ((begin s).formsIn plSplit).length + ((begin s).formsIn plIdle).length < 3 →
    Runs (.splitTestsDone []) s fun t => t.x.mode = .failed)
  ∧ (s.get PROCTOR.STAT PROCTOR.STAT_SPLIT = 1 → s.x.mode = .ready → (begin s).formsIn plSplit = [0, 1, 2] → (begin s).place 3 = plIdle →
    Runs (.splitTestsDone [0, 1, 2]) s fun t => t.get PROCTOR.STAT PROCTOR.STAT_SPLIT = 0
      ∧ (∀ k ∈ [0, 1, 2], t.get (FORM.FSTAT k) FORM.FSTAT_PLACE = plVoting) ∧ t.x.mode = .ready)
  ∧ ((begin s).rotReady = true → (begin s).voters ≠ [] → (begin s).formsIn plIdle = [f] → Runs .rotationDue s fun t =>
    t.get (FORM.FSTAT f) FORM.FSTAT_PLACE = plJoining ∧ t.x.proc.rot.map (·.inc) = some f ∧ t.x.proc.rot.map (·.host) = some false)
  ∧ (MayStart s p proctorPage 2 [.held, .ready, .run, .hold] → (begin s).rotReady = true → (begin s).voters ≠ [] → Runs (.recessNow p 0) s fun t =>
    t.get (HDR.OPSTAT proctorPage) HDR.OPSTAT_STATE = 1 ∧ t.x.proc.rot.map (·.host) = some true)
  ∧ (MayStart s p proctorPage 2 [.held, .ready, .run, .hold] → (begin s).rotReady = false → Runs (.recessNow p 0) s fun t =>
    t.get (HDR.OPSTAT proctorPage) HDR.OPSTAT_STATE = 4 ∧ t.get (HDR.OPSTAT proctorPage) HDR.OPSTAT_REASON = 0x80 ∧ t.x.proc = s.x.proc)
  ∧ (∀ k, s.x.proc.passes = [⟨n, f, k, []⟩] → k ≤ (begin s).cycle → Runs (.passLapse n) s fun t =>
    t.x.proc.passes = [] ∧ t.get PROCTOR.HPSTAT PROCTOR.HPSTAT_HELD = 0
    ∧ t.get PROCTOR.HPSTAT PROCTOR.HPSTAT_LAPSED = min (s.get PROCTOR.HPSTAT PROCTOR.HPSTAT_LAPSED + 1) (2 ^ PROCTOR.HPSTAT_LAPSED.w - 1))

/-! ## Redundant pair (chapter 13) -/

/-- R427 to R430: heartbeats, the link and its lanes. -/
def Obligations.PairLink : Prop := ∀ (s : State) (n k : Nat) (hb : PairHb) (bytes : List Byte) (b : Bool), Quiet s → Live s → (begin s).paired = true →
  (Runs .pairHeartbeatTx s fun t => Same Follows s t ∧ Out.pairHeartbeat (pairHbBytes ⟨(begin s).node, roleCode s.x.role, modeCode s.x.mode,
      (begin s).moduleHealth.2, decide (s.get PAIR.STAT PAIR.STAT_CLAIMABLE ≠ 0), (s.rd PAIR.EPOCH).toNat, (s.rd TASK.CYCLE).toNat,
      Config.phase (begin s).now⟩) ∈ t.x.out)
  ∧ (hb.node < 256 → hb.role < 256 → hb.state < 256 → hb.health < 4 → hb.epoch < 2 ^ 32 → hb.cycle < 2 ^ 32 → hb.phase < 2 ^ 32 →
      pairHbOf (pairHbBytes hb) = some hb)
  ∧ (pairHbOf bytes = none → Runs (.pairHeartbeatRx n bytes) s fun t => t.x.pair = s.x.pair ∧ t.x.role = s.x.role ∧ t.x.mode = s.x.mode
      ∧ Same Follows s t)
  ∧ (n < 2 → pairHbOf bytes = some hb → (begin s).linkUp = false → Runs (.pairHeartbeatRx n bytes) s fun t => t.get PAIR.STAT (laneUp n) = 1 ∧ t.x.pair.peer = s.x.pair.peer
      ∧ t.x.role = s.x.role ∧ t.x.mode = s.x.mode)
  ∧ (n < 2 → pairHbOf bytes = some hb → (begin s).linkUp = true → s.x.role ≠ .standby → Runs (.pairHeartbeatRx n bytes) s fun t => t.get PAIR.STAT (laneUp n) = 1
      ∧ t.x.pair.peer = some hb ∧ t.x.pair.peerEpoch = max s.x.pair.peerEpoch hb.epoch
      ∧ t.get PAIR.PEER PAIR.PEER_PSTATE = hb.state % 2 ^ PAIR.PEER_PSTATE.w ∧ t.get PAIR.PEER PAIR.PEER_PCLAIM = (if hb.claimable then 1 else 0)
      ∧ (hb.role = 1 → t.x.pair.dutyAt = some (begin s).now) ∧ t.x.role = s.x.role ∧ t.x.mode = s.x.mode)
  ∧ ((begin s).linkUp = false → ¬ (n = (begin s).pnode ∧ k = (begin s).node) → Runs (.pairLinkUp n 0 k b) s fun t =>
      t.get PAIR.STAT PAIR.STAT_LINKBAD = 1 ∧ t.get PAIR.STAT PAIR.STAT_LINKUP = 0
      ∧ Same (fun a => a = PAIR.STAT ∨ a / 4096 = 0x14 ∨ Follows a) s t)
  ∧ ((begin s).linkUp = false → s.x.role ≠ .standby → Runs (.pairLinkUp (begin s).pnode 0 (begin s).node b) s fun t =>
      t.get PAIR.STAT PAIR.STAT_LINKUP = 1 ∧ t.get PAIR.STAT PAIR.STAT_LINKBAD = 0 ∧ t.x.pair.lostAt = none
      ∧ t.get PAIR.STAT PAIR.STAT_PREFCONFLICT = (if b = decide (s.get PAIR.CFG PAIR.CFG_PREF ≠ 0) then 1 else 0)
      ∧ t.get (HDR.IRQSTAT pairPage) ⟨20, 1⟩ = 1 ∧ (s.x.role = .duty → (begin s).pstate = psDuty → Out.mirrorBase (begin s).cycle ∈ t.x.out))
  ∧ ((begin s).linkUp = true → Runs .pairLinkLost s fun t => t.get PAIR.STAT PAIR.STAT_LINKUP = 0 ∧ t.get PAIR.STAT PAIR.STAT_MATCH = 0
      ∧ t.x.pair.lostAt = some (begin s).now ∧ t.x.pair.lostAge = (begin s).mage ∧ t.x.pair.peer = none ∧ t.x.role = s.x.role
      ∧ ((begin s).pstate ≠ psOut → t.x.pair.swap = none))
  ∧ (n < 2 → Runs (.pairLaneLost n) s fun t => t.get PAIR.STAT (laneUp n) = 0
      ∧ Same (fun a => a = PAIR.STAT ∨ a / 4096 = 0x14 ∨ Follows a) s t ∧ t.x.pair = s.x.pair ∧ t.x.role = s.x.role)

/-- R431 to R433, R436 to R438, R456: the mirror, health reports, a Standby's readiness and the tests of its Forms. -/
def Obligations.StandbyCommands : Prop := ∀ (s : State) (p : Party) (c k f : Nat) (l : Word) (sig : BitVec 128) (m : MirrorSet) (h : HealthMsg), Quiet s → Live s →
  (s.x.role = .standby → (begin s).linkUp = true → (begin s).pstate ≠ psTaking →
    Runs (.mirrorDelta c l sig k m) s fun t => t.get PAIR.MIRST PAIR.MIRST_DLAST = min k 4095
      ∧ t.get PAIR.MIRST PAIR.MIRST_DMAX = max (min k 4095) (s.get PAIR.MIRST PAIR.MIRST_DMAX) ∧ t.x.pair.peerLayout = some l
      ∧ (l = (begin s).ownLayout → t.x.pair.mirror = mirrorOver m s.x.pair.mirror)
      ∧ (l = (begin s).ownLayout → mirrorSig (mirrorOver m s.x.pair.mirror) = sig → t.x.pair.matched = t.x.pair.mirror
          ∧ t.x.pair.matchCycle = c ∧ t.get PAIR.STAT PAIR.STAT_MATCH = 1 ∧ t.get PAIR.MIRST PAIR.MIRST_MAGE = 0)
      ∧ (l = (begin s).ownLayout → mirrorSig (mirrorOver m s.x.pair.mirror) ≠ sig → t.x.pair.matched = s.x.pair.matched
          ∧ t.get PAIR.STAT PAIR.STAT_MATCH = 0 ∧ t.x.pair.based = true ∧ Out.baseRequest ∈ t.x.out)
      ∧ (l ≠ (begin s).ownLayout → t.x.pair.mirror = s.x.pair.mirror ∧ t.get PAIR.STAT PAIR.STAT_MATCH = 0
          ∧ t.get PAIR.STAT PAIR.STAT_STBYRDY = 0))
  ∧ (s.x.role = .standby → Runs .healthReport s fun t => t.x.pair = s.x.pair ∧ t.x.role = .standby
      ∧ ((begin s).linkUp = true → Out.pairHealth (begin s).healthMsg ∈ t.x.out))
  ∧ (s.x.role = .duty → Runs (.pairHealthRx h) s fun t => t.x.pair = { s.x.pair with report := some h }
      ∧ t.get PAIR.PEER PAIR.PEER_PCLAIM = (if h.claimable then 1 else 0)
      ∧ t.get PAIR.PEER PAIR.PEER_PHEALTH = h.health % 2 ^ PAIR.PEER_PHEALTH.w
      ∧ t.get PAIR.PEER PAIR.PEER_PSTATE = h.state % 2 ^ PAIR.PEER_PSTATE.w)
  ∧ (s.x.role = .standby → (begin s).linkUp = false → (begin s).pstate ≠ psTaking → Runs .stbyrdyHoldExpired s fun t =>
      t.get PAIR.STAT PAIR.STAT_STBYRDY = 0 ∧ (begin t).pstate = psCold ∧ t.x.role = .standby)
  ∧ (s.x.role = .standby → f < 4 → (begin s).place f = plTest → (begin s).voters.length < 3 → (begin s).formsIn plIdle = [] →
    (begin s).formsIn plJoining = [] → Runs (.standbyFormTestEnd f true []) s fun t => (begin t).place f = plVoting ∧ t.x.role = .standby)
  ∧ (s.x.role = .standby → f < 4 → (begin s).place f = plTest → (begin s).formsIn plExcluded = [] → Runs (.standbyFormTestEnd f false []) s fun t =>
      (begin t).place f = plExcluded ∧ t.x.mode ≠ .failed)
  ∧ (MayStart s p pairPage 2 anyButSelfTest → (begin s).paired = true →
      (s.x.role = .standby → (begin s).linkUp = true → Runs (.rebase p 0) s fun t => t.x.pair.based = true ∧ Out.baseRequest ∈ t.x.out
        ∧ t.get (HDR.OPSTAT pairPage) HDR.OPSTAT_STATE = 1 ∧ t.get (HDR.OPSTAT pairPage) HDR.OPSTAT_OP = 2)
      ∧ (s.x.role ≠ .standby → Runs (.rebase p 0) s fun t => t.x.pair = s.x.pair
        ∧ t.get (HDR.OPSTAT pairPage) HDR.OPSTAT_STATE = 4 ∧ t.get (HDR.OPSTAT pairPage) HDR.OPSTAT_REASON = 0x84))

/-- R437, R439 to R447: claims, takeovers, yields, swaps and returns: who is Duty. -/
def Obligations.ChangesOfDuty : Prop := ∀ (s : State) (p : Party) (e : Nat), Quiet s → Live s → (begin s).paired = true →
  (s.x.role = .standby → (begin s).pstate = psReady ∨ (begin s).pstate = psCold → (begin s).dutyState = none → (begin s).linkUp = true →
    s.get PAIR.STAT PAIR.STAT_CLAIMABLE = 1 → Runs .claimWaitExpired s fun t => t.x.pair = { s.x.pair with claiming := true }
      ∧ t.x.role = .standby ∧ t.x.mode = s.x.mode)
  ∧ (s.x.role = .standby → (begin s).pstate = psReady → (begin s).linkUp = false → (begin s).evidence 0 = true → (begin s).evidence 1 = true →
    s.get PAIR.STAT PAIR.STAT_CLAIMABLE = 1 → s.get PAIR.CFG PAIR.CFG_COLDTAKE = 1 → Runs .takeoverEvidence s fun t =>
      (begin t).pstate = psTaking ∧ t.x.role = .standby
      ∧ t.rd PAIR.EPOCH = BitVec.ofNat 32 (max (s.rd PAIR.EPOCH).toNat s.x.pair.peerEpoch + 1) ∧ t.x.pair.relinq = false)
  ∧ (s.x.role = .standby → (begin s).pstate = psReady → (begin s).linkUp = true → Runs .relinquishRx s fun t => (begin t).pstate = psTaking
      ∧ t.x.pair.warm = true ∧ t.x.pair.relinq = true ∧ t.rd PAIR.EPOCH = BitVec.ofNat 32 (max (s.rd PAIR.EPOCH).toNat s.x.pair.peerEpoch + 1))
  ∧ (s.x.role = .standby → (begin s).pstate = psTaking → Runs .takeoverDuty s fun t => t.x.role = .duty ∧ (begin t).pstate = psDuty
      ∧ t.get PAIR.CNT1 PAIR.CNT1_TAKEOVERS = min (s.get PAIR.CNT1 PAIR.CNT1_TAKEOVERS + 1) (2 ^ PAIR.CNT1_TAKEOVERS.w - 1)
      ∧ t.get PAIR.LASTCHG ⟨28, 4⟩ = (if s.x.pair.relinq then 8 else if s.x.pair.warm then 2 else 3)
      ∧ t.get PAIR.STAT PAIR.STAT_STBYRDY = 0 ∧ t.rd PAIR.EPOCH = s.rd PAIR.EPOCH)
  ∧ (s.x.role = .duty → (begin s).pstate = psDuty → (begin s).linkUp = false → (begin s).noAck 0 = true → (begin s).noAck 1 = true →
    s.get PAIR.PEER PAIR.PEER_PCLAIM = 1 → Runs .yield s fun t => t.x.role = .standby ∧ t.get PAIR.LASTCHG ⟨28, 4⟩ = 6
      ∧ t.get PAIR.CNT2 PAIR.CNT2_YIELDS = min (s.get PAIR.CNT2 PAIR.CNT2_YIELDS + 1) (2 ^ PAIR.CNT2_YIELDS.w - 1)
      ∧ t.get PAIR.MIRST PAIR.MIRST_MAGE = 255)
  ∧ (s.x.role = .duty → (begin s).pstate = psDuty → Runs (.dutyConflict e) s fun t => t.x.pair.peerEpoch = max s.x.pair.peerEpoch e
      ∧ t.x.pair.yielding = (if (s.rd PAIR.EPOCH).toNat < e ∨ ((s.rd PAIR.EPOCH).toNat = e ∧ (begin s).preferred = false) then some 7
          else s.x.pair.yielding) ∧ t.x.role = .duty ∧ Same Follows s t)
  ∧ (∀ r, MayStart s p pairPage 2 [.ready, .run, .hold] → e ≤ 1 → (begin s).swapJudge e = .inl r → Runs (.swap p e) s fun t =>
      t.get (HDR.OPSTAT pairPage) HDR.OPSTAT_STATE = 4 ∧ t.get (HDR.OPSTAT pairPage) HDR.OPSTAT_REASON = r ∧ t.x.pair = s.x.pair)
  ∧ (∀ c, MayStart s p pairPage 2 [.ready, .run, .hold] → e ≤ 1 → (begin s).swapJudge e = .inr c → Runs (.swap p e) s fun t =>
      t.get (HDR.OPSTAT pairPage) HDR.OPSTAT_STATE = 1 ∧ t.x.pair.swap = some ⟨c, 0, (begin s).cycle + 1, 4, false⟩ ∧ t.x.role = s.x.role)
  ∧ (s.x.role = .duty → (begin s).pstate = psDuty → (begin s).linkUp = true → (begin s).inService = true → (begin s).partnerReady = true →
    s.x.pair.swap = none → s.x.pair.report.map (·.layout) = some (begin s).ownLayout → Runs .swapBoundary s fun t =>
      (begin t).pstate = psOut ∧ t.x.role = .duty ∧ t.x.ctl.isOpen = false)
  ∧ (s.x.role = .standby → (begin s).pstate = psReady → (begin s).linkUp = true → (begin s).inService = true →
    s.get PAIR.STAT PAIR.STAT_MATCH = 1 → (begin s).mage = 0 → Runs .swapBoundary s fun t => t.x.role = .duty ∧ (begin t).pstate = psDuty
      ∧ t.get PAIR.CNT1 PAIR.CNT1_SWAPS = min (s.get PAIR.CNT1 PAIR.CNT1_SWAPS + 1) (2 ^ PAIR.CNT1_SWAPS.w - 1)
      ∧ t.rd PAIR.EPOCH = BitVec.ofNat 32 (max (s.rd PAIR.EPOCH).toNat s.x.pair.peerEpoch + 1))
  ∧ (s.x.role = .duty → (begin s).pstate = psOut → s.x.pair.swap.map (·.heard) = some true → Runs .swapConfirm s fun t => t.x.role = .standby)
  ∧ (s.x.role = .duty → (begin s).pstate = psOut → s.x.pair.swap.map (·.heard) = some false → Runs .swapConfirm s fun t => t.x.role = .duty
      ∧ (begin t).pstate = psDuty ∧ t.x.pair.swap = none)
  ∧ ((begin s).settleOk = true → s.x.pair.settleFrom ≠ none → Runs .autoReturn s fun t =>
      t.x.pair.swap = some ⟨false, 0, (begin s).cycle + 1, 5, false⟩ ∧ Out.swapRequest false ∈ t.x.out ∧ t.x.role = .standby)

/-! ## Hordex trunks (chapter 14) -/

/-- R24, R465, R469 to R474: heartbeats, attempts, errors and the states of a trunk. -/
def Obligations.TrunkStates : Prop := ∀ (s : State) (b : Bool) (n k : Nat), Quiet s → (begin s).trkHears (tn b) = true →
  (s.x.role = .solo → s.x.mode ≠ .powerUp → (begin s).node ≠ 0xFF → (begin s).trkState (tn b) = tsRestricted → ((begin s).trk (tn b)).queue = [] →
    Runs .heartbeatTimer s fun t => ((begin t).trk (tn b)).queue = [⟨1, kHeartbeat, (begin s).node, 0, (begin s).heartbeat⟩]
      ∧ t.get (TRK.QSTAT (tn b)) TRK.QSTAT_DEPTH = 1)
  ∧ (n < 0x78 → n ≠ (begin s).node → (begin s).paired = false → ∀ hb : Heartbeat, Runs (.heartbeatRx b n hb) s fun t =>
      (begin t).seen? (tn b) n = some hb ∧ t.get (TRK.SEEN (tn b) (n / 32)) ⟨n % 32, 1⟩ = 1
      ∧ Same (fun a => a = TRK.SEEN (tn b) (n / 32) ∨ Follows a) s t)
  ∧ ((begin s).paired = false → (begin s).seen? (tn b) n ≠ none → n < 120 → Runs (.nodeLost b n) s fun t =>
      (begin t).seen? (tn b) n = none ∧ t.get (TRK.SEEN (tn b) (n / 32)) ⟨n % 32, 1⟩ = 0 ∧ t.get (HDR.IRQSTAT (trkPage (tn b))) ⟨22, 1⟩ = 1
      ∧ Same (fun a => a / 4096 = trkPage (tn b) ∨ Follows a) s t)
  ∧ (∀ a : Attempt, ((begin s).trk (tn b)).attempt = some a → a.mbox = none → (begin s).trkState (tn b) = tsActive →
    ((begin s).trk (tn b)).queue = [a.frame] → s.get (TRK.ERR (tn b)) TRK.ERR_REC < 128 → s.get (TRK.ERR (tn b)) TRK.ERR_TEC < 128 →
    (∀ m < 64, s.get (TRK.MBSTAT (tn b) m) TRK.MBSTAT_TXPEND = 0) → Runs (.txAttemptEnd b none) s fun t =>
      ((begin t).trk (tn b)).queue = [] ∧ ((begin t).trk (tn b)).attempt = none ∧ ((begin t).trk (tn b)).lastAck = some (begin s).now
      ∧ t.get (TRK.TXCNT (tn b)) TRK.TXCNT_N = (s.get (TRK.TXCNT (tn b)) TRK.TXCNT_N + 1) % 2 ^ TRK.TXCNT_N.w
      ∧ t.get (TRK.ERR (tn b)) TRK.ERR_TEC = s.get (TRK.ERR (tn b)) TRK.ERR_TEC - 1 ∧ t.get (TRK.STAT (tn b)) TRK.STAT_LONE = 0)
  ∧ (∀ d e r, (begin s).trkState (tn b) = tsActive → Runs (.trunkError b .ack d e r) s fun t =>
      t.get (TRK.ERR (tn b)) TRK.ERR_LASTERR = 5 ∧ t.get (TRK.ERR (tn b)) TRK.ERR_TEC
        = (if s.get (TRK.ERR (tn b)) TRK.ERR_TEC < 128 then min (s.get (TRK.ERR (tn b)) TRK.ERR_TEC + 8) 128 else s.get (TRK.ERR (tn b)) TRK.ERR_TEC)
      ∧ (begin t).trkState (tn b) ≠ tsBusoff
      ∧ (128 ≤ s.get (TRK.ERR (tn b)) TRK.ERR_TEC + 8 → (begin t).trkState (tn b) = tsPassive ∧ t.get (HDR.IRQSTAT (trkPage (tn b))) ⟨17, 1⟩ = 1))
  ∧ (∀ d, (begin s).trkState (tn b) = tsActive ∨ (begin s).trkState (tn b) = tsPassive → Runs (.trunkError b .bit d 256 n) s fun t =>
      (begin t).trkState (tn b) = tsBusoff ∧ t.get (HDR.IRQSTAT (trkPage (tn b))) ⟨18, 1⟩ = 1 ∧ ((begin t).trk (tn b)).attempt = none
      ∧ t.get (TRK.ERRCNT (tn b)) TRK.ERRCNT_BUSOFFS
        = min (s.get (TRK.ERRCNT (tn b)) TRK.ERRCNT_BUSOFFS + 1) (2 ^ TRK.ERRCNT_BUSOFFS.w - 1)
      ∧ (∀ f ∈ ((begin t).trk (tn b)).queue, superseding f.kind = true))
  ∧ ((begin s).trkMayLeave (tn b) = true → s.get (TRK.STAT (tn b)) TRK.STAT_RATEERR = 0 → Runs (.restrictedIdle b) s fun t =>
      (begin t).trkState (tn b) = tsActive)
  ∧ (Runs (.validFrameRx b n k) s fun t =>
      t.get (TRK.RXCNT (tn b)) TRK.RXCNT_N = (s.get (TRK.RXCNT (tn b)) TRK.RXCNT_N + 1) % 2 ^ TRK.RXCNT_N.w
      ∧ t.get (TRK.STAT (tn b)) TRK.STAT_HEARD = 1 ∧ ((begin t).trk (tn b)).lastRx = some (begin s).now
      ∧ ((begin s).trkMayLeave (tn b) = true → 3 ≤ ((begin s).trk (tn b)).valid → (begin t).trkState (tn b) ≠ tsRestricted)
      ∧ ((begin s).trkMayLeave (tn b) = true → ((begin s).trk (tn b)).valid < 3 → (begin t).trkState (tn b) = tsRestricted))
  ∧ ((begin s).node ≠ 0xFF → Runs (.dupnodeFrame b) s fun t => t.get (TRK.STAT (tn b)) TRK.STAT_DUPNODE = 1
      ∧ (begin t).trkState (tn b) ≠ tsActive ∧ (begin t).trkState (tn b) ≠ tsPassive
      ∧ (s.get (TRK.STAT (tn b)) TRK.STAT_DUPNODE = 0 → t.get (HDR.IRQSTAT (trkPage (tn b))) ⟨19, 1⟩ = 1))
  ∧ (Runs (.dupnodeClear b) s fun t => t.get (TRK.STAT (tn b)) TRK.STAT_DUPNODE = 0
      ∧ Same (fun a => a = TRK.STAT (tn b) ∨ a / 4096 = 0x14 ∨ Follows a) s t)

/-- R472: a bus-off trunk recovers into RESTRICTED. -/
def Obligations.BusOffRecovers : Prop := ∀ (s : State) (b : Bool), Quiet s → Live s → PageOn s (trkPage (tn b)) →
  (begin s).trkState (tn b) = tsBusoff → Runs (.busoffRecovery b) s fun t => (begin t).trkState (tn b) = tsRestricted
    ∧ t.get (TRK.ERR (tn b)) TRK.ERR_TEC = 0 ∧ t.get (TRK.ERR (tn b)) TRK.ERR_REC = 0 ∧ ((begin t).trk (tn b)).attempt = none
    ∧ Same (fun a => a = TRK.STAT (tn b) ∨ a = TRK.ERR (tn b) ∨ a / 4096 = 0x14 ∨ Follows a) s t

/-- R475 to R478, R485, R486: mailboxes. -/
def Obligations.Mailboxes : Prop := ∀ (s : State) (p : Party) (b : Bool) (m k : Nat) (v : Word) (d : List Byte), Quiet s → Live s → m < 64 →
  ((begin s).usable (trkPage (tn b)) = true → (begin s).present p = true → 1 ≤ (begin s).roleOf p →
    ((begin s).mbOwner p (tn b) m = true → (begin s).mbSends (tn b) m = true → Runs (.mbTxreq p b m) s fun t =>
      ((begin t).mbox (tn b) m).visible = ((begin s).mbox (tn b) m).shadow ∧ t.get (TRK.MBSTAT (tn b) m) TRK.MBSTAT_TXPEND = 1
      ∧ Same (fun a => a / 4096 = trkPage (tn b) ∨ Follows a) s t)
    ∧ ((begin s).mbOwner p (tn b) m = false → Runs (.mbTxreq p b m) s fun t =>
      t.get (HDR.PGSTAT (trkPage (tn b))) HDR.PGSTAT_WREJ_CODE = rejState ∧ (begin t).trk (tn b) = (begin s).trk (tn b))
    ∧ (k < 16 → s.get (TRK.MBSEL (tn b)) TRK.MBSEL_SEL = m → s.get (TRK.MBCFG (tn b) m) TRK.MBCFG_DIR = 1 →
      whoOf p ≠ 1 ∨ s.get (TRK.MBCFG (tn b) m) TRK.MBCFG_OWN = 1 → Runs (.mbdataWrite p b k v) s fun t =>
      ((begin t).mbox (tn b) m).shadow
        = (pad64 ((begin s).mbox (tn b) m).shadow).take (4 * k) ++ bytesOfWord v ++ (pad64 ((begin s).mbox (tn b) m).shadow).drop (4 * k + 4)
      ∧ ((begin t).mbox (tn b) m).visible = ((begin s).mbox (tn b) m).visible ∧ Same Follows s t))
  ∧ ((begin s).trkHears (tn b) = true → (∀ j < m, s.get (TRK.MBCFG (tn b) j) TRK.MBCFG_EN = 0) → s.get (TRK.MBCFG (tn b) m) TRK.MBCFG_EN = 1 →
    s.get (TRK.MBCFG (tn b) m) TRK.MBCFG_DIR = 0 → s.get (TRK.MBCFG (tn b) m) TRK.MBCFG_INDEX = k →
    s.get (TRK.MBCFG (tn b) m) TRK.MBCFG_NODE = 0xFF → Runs (.exchangeRx b 5 k d) s fun t =>
      ((begin t).mbox (tn b) m).visible = pad64 d ∧ ((begin t).mbox (tn b) m).shadow = ((begin s).mbox (tn b) m).visible
      ∧ t.get (TRK.MBSTAT (tn b) m) TRK.MBSTAT_NEW = 1 ∧ t.get (TRK.MBRX (tn b) m) TRK.MBRX_SRC = 5
      ∧ (s.get (TRK.MBSTAT (tn b) m) TRK.MBSTAT_NEW = 1 → t.get (TRK.MBSTAT (tn b) m) TRK.MBSTAT_OVR = 1)
      ∧ (s.get (TRK.MBSTAT (tn b) m) TRK.MBSTAT_NEW = 0 → t.get (HDR.IRQSTAT (trkPage (tn b))) ⟨21, 1⟩ = 1))

/-! ## Network time (chapter 15) -/

/-- R489 to R500: the sync frame, samples, the PPS input, masters and the operations of the page. -/
def Obligations.TimeCommands : Prop := ∀ (s : State) (p : Party) (b : Bool) (ts : TimeSync) (o : Int), Quiet s → (begin s).timeRuns = true →
  ((begin s).timeRole = trMaster → (begin s).node ≠ 0xFF → PageOn s (trkPage 0) → PageOn s (trkPage 1) →
    ((begin s).trk 0).queue = [] → ((begin s).trk 1).queue = [] → Runs .timeSyncTx s fun t =>
      (∀ k < 2, ((begin t).trk k).queue.map (fun f => (f.kind, f.prio, f.src)) = [(kTimeSync, 0, (begin s).node)])
      ∧ t.x.time.stepped = s.x.time.stepped - 1)
  ∧ (((begin s).trk (tn b)).queue.any (fun f => decide (f.kind = kTimeSync)) = true → Runs (.timeSyncDrop b) s fun t =>
      (∀ f ∈ ((begin t).trk (tn b)).queue, f.kind ≠ kTimeSync)
      ∧ t.get TIME.CNT TIME.CNT_DROPPED = min (s.get TIME.CNT TIME.CNT_DROPPED + 1) (2 ^ TIME.CNT_DROPPED.w - 1))
  ∧ ((begin s).trkHears 0 = true → (begin s).timeRole ≠ trMaster → s.x.time.heard = [] → (begin s).opBusy timePage = false →
    ts.node < 256 → Runs (.timeSyncRx false ts) s fun t => t.get TIME.STAT TIME.STAT_MASTER = ts.node ∧ (begin t).timeRole = trSlave
      ∧ t.get TIME.STAT TIME.STAT_SRCTRK = 0 ∧ t.get TIME.UTCOFS ⟨0, 16⟩ = ts.utcOfs.toNat % 65536
      ∧ (s.x.time.sampled = false → t.get TIME.STAT TIME.STAT_VALID = 1 ∧ t.get TIME.STAT TIME.STAT_REFUSING = 0 ∧ t.x.time.sampled = true)
      ∧ (s.x.time.sampled = true → ts.stepped = false →
          (begin s).stepMax < ((ts.txTime + s.get TIME.PDLY TIME.PDLY_A : Nat) : Int) - (begin s).sofTime 0 ts →
          t.get TIME.STAT TIME.STAT_REFUSING = 1 ∧ (begin t).net = (begin s).net
          ∧ t.get TIME.CNT TIME.CNT_REFUSED = min (s.get TIME.CNT TIME.CNT_REFUSED + 1) (2 ^ TIME.CNT_REFUSED.w - 1)))
  ∧ ((begin s).candidate = true → (begin s).timeRole ≠ trMaster → s.x.time.heard = [] → Runs .masterTimeout s fun t =>
      (begin t).timeRole = trMaster ∧ t.get TIME.STAT TIME.STAT_MASTER = (begin s).node ∧ (begin t).net = (begin s).net
      ∧ t.rd TIME.UTCOFS = s.x.time.utcOwn)
  ∧ ((begin s).candidate = true → s.get TIME.CFG TIME.CFG_PPSEN = 1 → -1000 ≤ o → o ≤ 1000 → 1 ≤ (begin s).stepMax →
    Runs (.ppsEdge o) s fun t => t.get TIME.STAT TIME.STAT_PPSLOST = 0
      ∧ (2 ≤ s.x.time.ppsGood → t.get TIME.STAT TIME.STAT_PPSLOCK = 1 ∧ t.x.time.ppsOnce = true)
      ∧ (s.x.time.ppsGood < 2 → t.x.time.ppsGood = s.x.time.ppsGood + 1
          ∧ t.get TIME.STAT TIME.STAT_PPSLOCK = s.get TIME.STAT TIME.STAT_PPSLOCK))
  ∧ ((begin s).candidate = true → s.get TIME.CFG TIME.CFG_PPSEN = 1 → Runs .ppsLost s fun t =>
      t.get TIME.STAT TIME.STAT_PPSLOST = 1 ∧ t.get TIME.STAT TIME.STAT_PPSLOCK = 0 ∧ t.x.time.ppsGood = 0
      ∧ (s.get TIME.STAT TIME.STAT_PPSLOST = 0 → t.get (HDR.IRQSTAT timePage) ⟨19, 1⟩ = 1)
      ∧ Same (fun a => a / 4096 = timePage ∨ a / 4096 = 0x14 ∨ Follows a) s t)
  ∧ (Runs .timeHoldExpired s fun t => ((begin s).timeRole = trMaster → Same Follows s t)
      ∧ ((begin s).timeRole ≠ trMaster → t.get TIME.STAT TIME.STAT_VALID = 0
          ∧ (s.get TIME.STAT TIME.STAT_VALID = 1 → t.get (HDR.IRQSTAT timePage) ⟨18, 1⟩ = 1)))
  ∧ (MayStart s p timePage 2 anyButPowerUp → (begin s).candidate = true → Runs (.settime p 1) s fun t =>
      (begin t).net = (begin s).rd64 TIME.SETVAL TIME.SETVALH ∧ t.x.time.wasSet = true ∧ t.x.time.stepped = 4
      ∧ ((begin s).timeRole = trMaster → t.get TIME.STAT TIME.STAT_VALID = 1) ∧ t.get (HDR.OPSTAT timePage) HDR.OPSTAT_STATE = 2)
  ∧ (MayStart s p timePage 2 anyButPowerUp → (begin s).candidate = false → Runs (.settime p 0) s fun t => (begin t).net = (begin s).net
      ∧ t.get (HDR.OPSTAT timePage) HDR.OPSTAT_STATE = 4 ∧ t.get (HDR.OPSTAT timePage) HDR.OPSTAT_REASON = 0x80)
  ∧ (MayStart s p timePage 2 anyButPowerUp → Runs (.acceptstep p 0) s fun t =>
      (s.get TIME.STAT TIME.STAT_REFUSING = 1 → t.get (HDR.OPSTAT timePage) HDR.OPSTAT_STATE = 1)
      ∧ (s.get TIME.STAT TIME.STAT_REFUSING = 0 → t.get (HDR.OPSTAT timePage) HDR.OPSTAT_STATE = 4
          ∧ t.get (HDR.OPSTAT timePage) HDR.OPSTAT_REASON = 0x82))

/-! ## Event recorder (chapter 16) -/

/-- R508 to R516, R521: appending, episodes, freezing, thawing, clearing. -/
def Obligations.RecorderCommands : Prop := ∀ (s : State) (p : Party) (n : Nat), Quiet s →
  (∀ e : Event, s.x.evt.arrivals = [e] → e.data = [n] → e.detail = false → s.x.evt.draining = false → s.x.evt.lostSince = 0 → s.x.evt.rep = [] →
    e.ep = 0 → s.get EVT.STAT EVT.STAT_FROZEN = 0 → (s.rd EVT.HEADSEQ = 0xFFFF_FFFF ∨ (s.rd EVT.HEADSEQ).toNat + 1 < 4095) → Runs .recordAppend s fun t =>
      t.x.evt.arrivals = [] ∧ t.rd EVT.HEADSEQ = (if s.rd EVT.HEADSEQ = 0xFFFF_FFFF then 0 else s.rd EVT.HEADSEQ + 1)
      ∧ (begin t).rd64 EVT.TOTAL EVT.TOTALH = ((begin s).rd64 EVT.TOTAL EVT.TOTALH + 1) % 2 ^ 64
      ∧ t.x.evt.first = s.x.evt.first ++ e.records 0
      ∧ Same (fun a => a = EVT.HEADSEQ ∨ a = EVT.TOTAL ∨ a = EVT.TOTALH ∨ a = EVT.STAT ∨ Follows a) s t)
  ∧ (∀ e : Event, s.x.evt.arrivals = [e] → s.x.evt.draining = false → s.x.evt.lostSince = 0 → s.get EVT.STAT EVT.STAT_FROZEN = 1 →
    (begin s).queueDepth + e.data.length < 256 → Runs .recordAppend s fun t => t.x.evt.arrivals = []
      ∧ t.x.evt.freezeQ = s.x.evt.freezeQ ++ [{ e with queued := true }] ∧ t.x.evt.first = s.x.evt.first
      ∧ t.get EVT.STAT EVT.STAT_QDEPTH = (begin s).queueDepth + e.data.length ∧ t.rd EVT.HEADSEQ = s.rd EVT.HEADSEQ)
  ∧ (Live s → Runs .episodeTimer s fun t => 5 ∉ t.x.evt.episodes ∧ (∀ k, k ≠ 5 → (k ∈ t.x.evt.episodes ↔ k ∈ s.x.evt.episodes))
      ∧ (5 ∈ s.x.evt.episodes → t.get EVT.STAT EVT.STAT_EPOPEN = if t.x.evt.episodes = [] then 0 else 1)
      ∧ Same (fun a => a / 4096 = evtPage ∨ Follows a) s t)
  ∧ (MayStart s p evtPage 0 anyButPowerUp → n ≤ 60 → s.get EVT.STAT EVT.STAT_FROZEN = 0 → Runs (.freeze p n) s fun t =>
      t.get EVT.STAT EVT.STAT_FROZEN = 1 ∧ t.get EVT.STAT EVT.STAT_HOLDER = 1 + whoOf p ∧ t.get EVT.STAT EVT.STAT_OVERRAN = 0
      ∧ t.x.evt.holder = some p ∧ t.get (HDR.OPSTAT evtPage) HDR.OPSTAT_STATE = 2
      ∧ t.get EVT.LOST EVT.LOST_FREEZES = min (s.get EVT.LOST EVT.LOST_FREEZES + 1) (2 ^ EVT.LOST_FREEZES.w - 1))
  ∧ (MayStart s p evtPage 0 anyButPowerUp → n ≤ 60 → s.get EVT.STAT EVT.STAT_FROZEN = 1 → Runs (.freeze p n) s fun t => t.x.evt = s.x.evt
      ∧ t.get (HDR.OPSTAT evtPage) HDR.OPSTAT_STATE = 4 ∧ t.get (HDR.OPSTAT evtPage) HDR.OPSTAT_REASON = 0x80)
  ∧ (MayStart s p evtPage 0 anyButPowerUp → s.x.evt.holder = some p → s.get EVT.STAT EVT.STAT_FROZEN = 1 → Runs (.thaw p 0) s fun t =>
      t.get EVT.STAT EVT.STAT_FROZEN = 0 ∧ t.get EVT.STAT EVT.STAT_HOLDER = 0 ∧ t.x.evt.holder = none ∧ t.x.evt.draining = true
      ∧ t.get EVT.STAT EVT.STAT_OVERRAN = s.get EVT.STAT EVT.STAT_OVERRAN)
  ∧ (MayStart s p evtPage 0 anyButPowerUp → s.x.evt.holder ≠ some p → Runs (.thaw p 0) s fun t => t.x.evt = s.x.evt
      ∧ t.get (HDR.OPSTAT evtPage) HDR.OPSTAT_STATE = 4 ∧ t.get (HDR.OPSTAT evtPage) HDR.OPSTAT_REASON = 0x81)
  ∧ (Live s → s.get EVT.STAT EVT.STAT_FROZEN = 1 → Runs .freezeExpired s fun t => t.get EVT.STAT EVT.STAT_FROZEN = 0
      ∧ t.get EVT.STAT EVT.STAT_OVERRAN = 1 ∧ t.x.evt.holder = none ∧ t.x.evt.draining = true ∧ t.x.evt.autoThaw = true)
  ∧ (s.x.evt.draining = true → Runs .thawDrain s fun t => t.x.evt.freezeQ = [] ∧ t.x.evt.draining = false
      ∧ t.get EVT.STAT EVT.STAT_QDEPTH = 0 ∧ Same (fun a => a / 4096 = evtPage ∨ Follows a) s t)
  ∧ (MayStart s p evtPage 2 anyButSelfTest → s.get EVT.STAT EVT.STAT_FROZEN = 0 → Runs (.clear p 0) s fun t =>
      t.rd EVT.HEADSEQ = 0 ∧ t.x.evt.first.length = 1 ∧ t.x.evt.circ = [] ∧ t.get EVT.STAT EVT.STAT_FIRSTFULL = 0
      ∧ t.get EVT.CLRINFO EVT.CLRINFO_CLEARS = min (s.get EVT.CLRINFO EVT.CLRINFO_CLEARS + 1) (2 ^ EVT.CLRINFO_CLEARS.w - 1)
      ∧ t.x.evt.epLog.take s.x.evt.epLog.length = s.x.evt.epLog)
  ∧ (MayStart s p evtPage 2 anyButPowerUp → s.get EVT.STAT EVT.STAT_EPKEEP = 1 → Runs (.eprel p 0) s fun t =>
      t.get EVT.STAT EVT.STAT_EPKEEP = 0 ∧ t.x.evt.epLog = [] ∧ t.get EVT.EPCOUNT EVT.EPCOUNT_N = 0 ∧ t.get EVT.EPCOUNT EVT.EPCOUNT_KIND = 0
      ∧ t.get (HDR.OPSTAT evtPage) HDR.OPSTAT_STATE = 2 ∧ t.x.evt.first = s.x.evt.first)

/-! ## Plant network, sessions and transfers (chapter 17) -/

/-- R522 to R524, R545, R546: the ports. -/
def Obligations.NetworkPorts : Prop := ∀ (s : State) (b : Bool) (k : Nat), Quiet s → Live s → PageOn s (netPage (bn b)) →
  (Runs (.linkDown b) s fun t => t.get (NET.LINK (bn b)) NET.LINK_UP = 0 ∧ t.get (NET.LINK (bn b)) NET.LINK_LANSILENT = 0
      ∧ (s.get (NET.LINK (bn b)) NET.LINK_UP = 1 → t.get (HDR.IRQSTAT (netPage (bn b))) ⟨16, 1⟩ = 1) ∧ t.x.mode = s.x.mode ∧ t.x.net = s.x.net
      ∧ Same (fun a => a / 4096 = netPage (bn b) ∨ a / 4096 = 0x14 ∨ Follows a) s t)
  ∧ (Runs (.linkUp b) s fun t => t.get (NET.LINK (bn b)) NET.LINK_UP = 1 ∧ t.get (NET.LINK (bn b)) NET.LINK_LANSILENT = 0
      ∧ Same (fun a => a = NET.LINK (bn b) ∨ a / 4096 = 0x14 ∨ Follows a) s t)
  ∧ (s.get (NET.LINK (bn b)) NET.LINK_UP = 1 → Runs (.lanSilent b) s fun t => t.get (NET.LINK (bn b)) NET.LINK_LANSILENT = 1
      ∧ t.get (NET.LINK (bn b)) NET.LINK_UP = 1
      ∧ (s.get (NET.LINK (bn b)) NET.LINK_LANSILENT = 0 → t.get (HDR.IRQSTAT (netPage (bn b))) ⟨18, 1⟩ = 1))
  ∧ (Runs .prpSupervision s fun t => Out.prpSupervision ∈ t.x.out ∧ Same Follows s t)
  ∧ (Runs (.otherDatagram b 0) s fun t => Out.arpReply b ∈ t.x.out ∧ Same Follows s t)
  ∧ (Runs (.otherDatagram b 1) s fun t => Out.echoReply b ∈ t.x.out ∧ Same Follows s t)
  ∧ (2 ≤ k → Runs (.otherDatagram b k) s fun t =>
      t.get (NET.CNT2 (bn b)) NET.CNT2_DISC = min (s.get (NET.CNT2 (bn b)) NET.CNT2_DISC + 1) (2 ^ NET.CNT2_DISC.w - 1)
      ∧ Same (fun a => a = NET.CNT2 (bn b) ∨ Follows a) s t)
  ∧ (s.x.net.ipPending = true → Runs .ipChangeEffect s fun t => (∀ e ∈ t.x.net.sessions, e.usb = true) ∧ t.x.net.ipPending = false
      ∧ t.x.net.ipNow = (begin s).ipWords ∧ (∀ e ∈ s.x.net.sessions, e.usb = true → e ∈ t.x.net.sessions))

/-- R525 to R533: opening, ending and notifying sessions. -/
def Obligations.Sessions : Prop := ∀ (s : State) (src id n k : Nat) (usb : Bool) (hn mn mac : List Byte), Quiet s →
  ((begin s).netOn usb = true → src ∉ s.x.net.blocked → s.x.mode ≠ .powerUp →
    (n ∈ s.x.net.userLocks → Runs (.openReq src usb n hn mn id) s fun t => t.x.out = [.openChal src stLockedOut 0 []] ∧ t.x.net = s.x.net)
    ∧ (n ∉ s.x.net.userLocks → (s.x.net.sessions.filter (fun e => e.usb == usb)).length + (s.x.net.offers.filter fun o => o.usb == usb).length
        < (if usb then 1 else 8) → (begin s).usedSessions.contains id = false → 1 ≤ id → id ≤ 65535 →
      Runs (.openReq src usb n hn mn id) s fun t => t.x.out = [.openChal src stOk id (nonce16 mn)]
        ∧ t.x.net.offers = s.x.net.offers ++ [⟨id, usb, n, nonce16 hn, nonce16 mn⟩] ∧ t.x.net.sessions = s.x.net.sessions ∧ Same Follows s t))
  ∧ (∀ (o : Offer) (u : User), s.x.net.offers = [o] → (begin s).user? o.user = some u → (begin s).netOn o.usb = true → src ∉ s.x.net.blocked →
    s.x.mode ≠ .powerUp → (o.user = 1 → o.usb = true) →
    (mac = hmac (sessionKey u.secret o.hostNonce o.modNonce o.user) (proofBytes o.id o.hostNonce o.modNonce) →
      Runs (.openProof src o.id o.hostNonce o.modNonce mac) s fun t => t.x.out = [.openAck o.id u.role] ∧ t.x.net.offers = []
        ∧ t.x.net.sessions = s.x.net.sessions ++ [⟨o.id, o.usb, o.user, u.role, o.hostNonce, o.modNonce, none, 0, 0, 0, 0, []⟩]
        ∧ Same (fun a => a = NET.SESS 0 ∨ a = NET.SESS 1 ∨ Follows a) s t)
    ∧ (mac ≠ hmac (sessionKey u.secret o.hostNonce o.modNonce o.user) (proofBytes o.id o.hostNonce o.modNonce) →
      Runs (.openProof src o.id o.hostNonce o.modNonce mac) s fun t => t.x.out = [] ∧ t.x.net.sessions = s.x.net.sessions ∧ t.x.net.offers = [o]
        ∧ t.get (NET.CNT2 0) NET.CNT2_AUTHFAIL = min (s.get (NET.CNT2 0) NET.CNT2_AUTHFAIL + 1) (2 ^ NET.CNT2_AUTHFAIL.w - 1)))
  ∧ (Runs (.offerWithdrawn id) s fun t => (∀ o ∈ t.x.net.offers, o.id ≠ id) ∧ t.x.net.sessions = s.x.net.sessions ∧ Same Follows s t)
  ∧ (Runs (.userLockoutEnd n) s fun t => n ∉ t.x.net.userLocks ∧ Same Follows s t)
  ∧ (∀ e, (begin s).session? id = some e → (begin s).netOn e.usb = true → e.seqRule k = none → Runs (.close id k) s fun t =>
      (begin t).session? id = none ∧ (∀ u ∈ t.x.pages.unlocks, u.party ≠ .host id) ∧ (∀ l ∈ t.x.pages.latches, l.1 ≠ id)
      ∧ Out.answer id k stOk [] ∈ t.x.out ∧ t.x.xfer.keybuf = [])
  ∧ (∀ e st d, (begin s).session? id = some e → (begin s).netOn e.usb = true → e.seqRule k = some (st, d) → Runs (.close id k) s fun t =>
      t.x.out = [.answer id k st d] ∧ t.x.net = s.x.net ∧ Same Follows s t)
  ∧ (Live s → s.x.mode ≠ .powerUp → src ∉ s.x.net.blocked → Runs (.invalidMessage src) s fun t =>
      t.get (NET.CNT2 1) NET.CNT2_AUTHFAIL = min (s.get (NET.CNT2 1) NET.CNT2_AUTHFAIL + 1) (2 ^ NET.CNT2_AUTHFAIL.w - 1)
      ∧ (9 ≤ (s.x.net.discards.filter fun e => decide (e.1 = src) && decide ((begin s).now < e.2 + 10000)).length → src ∈ t.x.net.blocked)
      ∧ ((s.x.net.discards.filter fun e => decide (e.1 = src) && decide ((begin s).now < e.2 + 10000)).length < 9 → t.x.net.blocked = s.x.net.blocked))
  ∧ (src ∈ s.x.net.blocked → Runs (.invalidMessage src) s fun t => Same Follows s t ∧ t.x.net = s.x.net ∧ t.x.out = [])
  ∧ (Runs (.sourceBlockEnd src) s fun t => src ∉ t.x.net.blocked ∧ (∀ q ∈ s.x.net.blocked, q ≠ src → q ∈ t.x.net.blocked) ∧ Same Follows s t)
  ∧ (Runs (.sessionIdle id) s fun t => (∀ e ∈ t.x.net.sessions, e.id ≠ id) ∧ (∀ e ∈ s.x.net.sessions, e.id ≠ id → e ∈ t.x.net.sessions))
  ∧ (Runs .usbDetach s fun t => (∀ e ∈ t.x.net.sessions, e.usb = false) ∧ (∀ o ∈ t.x.net.offers, o.usb = false)
      ∧ (∀ e ∈ s.x.net.sessions, e.usb = false → e ∈ t.x.net.sessions ∨ ∃ d ∈ s.x.net.sessions, d.usb = true ∧ d.id = e.id))
  ∧ (∀ e, (begin s).session? id = some e → e.usb = false → (begin s).netOn false = true → (begin s).irqRisen e = true → e.noteSeq = 0 →
    Runs (.notifySend id) s fun t => t.x.out = [.notify id 1 (begin s).irqsum] ∧ Same Follows s t)
  ∧ (∀ e, (begin s).session? id = some e → e.usb = false → (begin s).netOn false = true → e.noteAck < e.noteFirst →
    Runs (.notifyRepeat id) s fun t => t.x.out = [.notify id (e.noteSeq + 1) (begin s).irqsum] ∧ Same Follows s t)
  ∧ (∀ e, s.x.net.sessions = [e] → k ≤ e.noteSeq → Runs (.notifyAck e.id k) s fun t =>
      t.x.net.sessions = [{ e with noteAck := max e.noteAck k }] ∧ Same Follows s t)

/-- R534 to R541, R550, R551: pulls, pushes, trends, firmware, the image key and the user table. -/
def Obligations.Transfers : Prop := ∀ (s : State) (p : Party) (d n : Nat), Quiet s →
  (MayStart s p xferPage 2 anyButSelfTest → d ≤ 15 →
    (∀ r, (begin s).descBad d kdImage = some r → Runs (.pullImage p d) s fun t => t.get (HDR.OPSTAT xferPage) HDR.OPSTAT_STATE = 4
      ∧ t.get (HDR.OPSTAT xferPage) HDR.OPSTAT_REASON = r ∧ t.x.xfer.keybuf = [])
    ∧ ((begin s).descBad d kdImage = none → Runs (.pullImage p d) s fun t => t.get (HDR.OPSTAT xferPage) HDR.OPSTAT_STATE = 1
      ∧ t.get (HDR.OPSTAT xferPage) HDR.OPSTAT_OP = 1 ∧ (begin t).outstanding 0 = 1 ∧ t.x.xfer.pulled = [])
    ∧ ((begin s).descBad d kdFirmware = none → Runs (.pullFw p d) s fun t => t.get (HDR.OPSTAT xferPage) HDR.OPSTAT_STATE = 1
      ∧ t.get (HDR.OPSTAT xferPage) HDR.OPSTAT_OP = 4 ∧ t.get XFER.FWSTAT XFER.FWSTAT_LOADED = 0 ∧ (begin t).outstanding 0 = 1))
  ∧ (MayStart s p xferPage 2 [.ready, .run, .hold] → d ≤ 15 → (begin s).descBad d kdChangeset = none → Runs (.pullChangeset p d) s fun t =>
      t.get (HDR.OPSTAT xferPage) HDR.OPSTAT_STATE = 1 ∧ t.get (HDR.OPSTAT xferPage) HDR.OPSTAT_OP = 3 ∧ t.x.task.setBuf = [])
  ∧ (MayStart s p xferPage 0 anyButPowerUp → d ≤ 15 → (begin s).descBad d kdEvents = none → (begin s).evtEmpty = true → s.x.evt.first = [] →
    s.x.evt.circ = [] → Runs (.pushEvents p d) s fun t => t.get (HDR.OPSTAT xferPage) HDR.OPSTAT_STATE = 1
      ∧ t.get (HDR.OPSTAT xferPage) HDR.OPSTAT_OP = 2 ∧ t.x.xfer.evSent = 0 ∧ (begin t).batchReady = true)
  ∧ ((begin s).batchReady = true → s.x.xfer.evSent ≠ 0 → Runs .batchCommit s fun t => t.rd XFER.EVFROM = BitVec.ofNat 32 s.x.xfer.evNext
      ∧ t.get (HDR.OPSTAT xferPage) HDR.OPSTAT_STATE = 2 ∧ (begin t).outstanding 0 = 1
      ∧ t.get (HDR.OPSTAT xferPage) HDR.OPSTAT_REASON = (if s.x.xfer.truncated then 0x85 else 0))
  ∧ (∀ f : Flight, s.x.xfer.flights = [f] → f.isRead = false → (begin s).xferOp = none → Runs (.blkack f.ch f.seq) s fun t =>
      t.x.xfer.flights = [] ∧ Same Follows s t)
  ∧ (∀ f : Flight, s.x.xfer.flights = [f] → (begin s).netOn false = true → f.sends < 5 → Runs (.blkResend f.ch f.seq) s fun t =>
      t.x.xfer.flights = [{ f with sends := f.sends + 1 }] ∧ t.x.out.length = 1 ∧ Same Follows s t)
  ∧ (∀ f : Flight, s.x.xfer.flights = [f] → (begin s).netOn false = true → 5 ≤ f.sends → 1 ≤ f.ch → f.ch ≤ 7 → Runs (.blkResend f.ch f.seq) s fun t =>
      t.x.xfer.flights = [] ∧ t.get XFER.TRDROP ⟨4 * f.ch, 4⟩ = min (s.get XFER.TRDROP ⟨4 * f.ch, 4⟩ + 1) 15
      ∧ t.get (HDR.IRQSTAT xferPage) ⟨16, 1⟩ = 1)
  ∧ (∀ (f : Flight) (c : ImageContent) (ws : List Word), s.x.xfer.flights = [f] → f.isRead = true → f.ch = 0 → f.offset = 0 → ws.length = f.count →
    (begin s).netOn false = true → (begin s).opBusy xferPage = true → (begin s).op? xferPage = some ⟨xferPage, 3, d, p, false, []⟩ →
    16 + 16 * ((ws.getD 2 0).toNat % 65536) ≤ 4 * ws.length → s.x.xfer.pullOffset = 4 * f.count → s.x.xfer.pulled = [] → ws ≠ [] →
    (begin s).descBytes d ≤ 4 * f.count →
    Runs (.blkdata 0 f.seq ws c) s fun t => t.x.task.setBuf = ((ws.map bytesOfWord).flatten).take (16 + 16 * ((ws.getD 2 0).toNat % 65536))
      ∧ t.get (HDR.OPSTAT xferPage) HDR.OPSTAT_STATE = 2)
  ∧ (MayStart s p xferPage 2 [.held, .ready] → s.x.role ≠ .standby → s.get XFER.FWSTAT XFER.FWSTAT_LOADED = 1 → Runs (.activateFw p 0) s fun t =>
      t.x.mode = .powerUp ∧ t.get XFER.FWSTAT XFER.FWSTAT_BANK = 1 - s.get XFER.FWSTAT XFER.FWSTAT_BANK ∧ t.get XFER.FWSTAT XFER.FWSTAT_LOADED = 0)
  ∧ (∀ e, (begin s).session? n = some e → MayStart s (.host n) xferPage 2 [.held] → e.usb = true → Runs (.setimgkey (.host n) 0) s fun t =>
      t.x.img.key = (begin s).keyBytes ∧ t.x.xfer.keybuf = [] ∧ t.get (HDR.OPSTAT xferPage) HDR.OPSTAT_STATE = 2)
  ∧ (∀ e, (begin s).session? n = some e → MayStart s (.host n) xferPage 2 [.held] → e.usb = false → Runs (.setimgkey (.host n) 0) s fun t =>
      t.x.img.key = s.x.img.key ∧ t.get (HDR.OPSTAT xferPage) HDR.OPSTAT_REASON = 0x86)
  ∧ (1 ≤ n → n ≤ 7 → PageOn s xferPage → [Mode.ready, .run, .hold].contains s.x.mode = true → s.get (XFER.TRCFG (n - 1)) XFER.TRCFG_EN = 1 →
    ((begin s).trend n).nsamp + 1 < 1008 / (4 * ((begin s).trendRegs n).length) → Runs (.trendSample n) s fun t =>
      ((begin t).trend n).samples = ((begin s).trend n).samples ++ ((begin s).trendRegs n).map (fun a => regsGet s.x.task.snap.regs a)
      ∧ ((begin t).trend n).nsamp = ((begin s).trend n).nsamp + 1 ∧ Same Follows s t)

/-- R541, R532: USERSET sets or removes the entry that KEYBUF names and ends that user's sessions; a role above the session's own is refused. -/
def Obligations.UsersetWritesTheTable : Prop := ∀ (s : State) (id k r : Nat) (e : Session) (users : List User),
  (begin s).session? id = some e → Quiet s → MayStart s (.host id) xferPage 0 anyButPowerUp → k = ((begin s).keyWord 0).toNat →
  1 ≤ k / 65536 → k / 65536 < 65535 → k % 8 ≤ 4 → r = (if k % 8 = 4 then 0 else k % 8) →
  users = usersSet s.x.net.users (if k % 8 = 0 then none else some ⟨k / 65536, r, (begin s).keyBytes⟩) (k / 65536) →
  (r ≤ e.role → ((begin s).user? (k / 65536)).all (fun u => decide (u.role ≤ e.role)) = true → users.length ≤ 32 →
    (0 < engineers s.x.net.users → 0 < engineers users) → Runs (.userset (.host id) 0) s fun t =>
      t.x.net.users = users ∧ t.get (HDR.OPSTAT xferPage) HDR.OPSTAT_STATE = 2 ∧ t.x.xfer.keybuf = []
      ∧ (∀ x ∈ t.x.net.sessions, x.user ≠ k / 65536) ∧ t.x.mode = s.x.mode)
  ∧ (e.role < r → Runs (.userset (.host id) 0) s fun t => t.x.net.users = s.x.net.users ∧ t.x.net.sessions = s.x.net.sessions
      ∧ t.get (HDR.PGSTAT xferPage) HDR.PGSTAT_WREJ_CODE = rejRole ∧ t.rd (HDR.OPSTAT xferPage) = s.rd (HDR.OPSTAT xferPage))
/-! ## Lantern and Slate (chapter 18) -/

/-- R554 to R561, R572: the keys of the annunciator, its lamp test, and what darkens it. -/
def Obligations.LanternCommands : Prop := ∀ (s : State) (p : Party) (k n : Nat), Quiet s → Live s →
  (PageOn s lanternPage → k < 16 → s.get LANTERN.LSTAT ⟨16 + k, 1⟩ = 0 → 9 < s.get (LANTERN.KEYMAP k) LANTERN.KEYMAP_FUNC ∨ s.get (LANTERN.KEYMAP k) LANTERN.KEYMAP_FUNC = 0 →
    Runs (.panelKeyPress k) s fun t => t.get LANTERN.LSTAT ⟨16 + k, 1⟩ = 1 ∧ t.get (HDR.IRQSTAT lanternPage) ⟨16, 1⟩ = 1 ∧ t.x.bel = s.x.bel
      ∧ Same (fun a => a = LANTERN.LSTAT ∨ a = HDR.IRQSTAT lanternPage ∨ Follows a) s t)
  ∧ (PageOn s lanternPage → k < 16 → s.get LANTERN.LSTAT ⟨16 + k, 1⟩ = 0 → s.get (LANTERN.KEYMAP k) LANTERN.KEYMAP_FUNC = 1 → s.x.role ≠ .standby →
    (begin s).belRefusal .panel (bcmd 1 2 0 0) = none → Runs (.panelKeyPress k) s fun t => t.x.bel.cmds = s.x.bel.cmds ++ [bcmd 1 2 0 0])
  ∧ (PageOn s lanternPage → k < 16 → s.get LANTERN.LSTAT ⟨16 + k, 1⟩ = 1 → k ∉ s.x.lantern.stuck → Runs (.keyStuck k) s fun t =>
      k ∈ t.x.lantern.stuck ∧ t.get LANTERN.LSTAT LANTERN.LSTAT_KEYSTUCK = 1
      ∧ (s.get LANTERN.LSTAT LANTERN.LSTAT_KEYSTUCK = 0 → t.get (HDR.IRQSTAT lanternPage) ⟨17, 1⟩ = 1))
  ∧ (k < 16 → Runs (.panelKeyRelease k) s fun t => t.get LANTERN.LSTAT ⟨16 + k, 1⟩ = 0 ∧ k ∉ t.x.lantern.stuck
      ∧ Same (fun a => a = LANTERN.LSTAT ∨ Follows a) s t)
  ∧ (PageOn s lanternPage → n < 16 → Runs (.comOvercurrent n) s fun t => t.get LANTERN.LSTAT LANTERN.LSTAT_COMSHORT = 1
      ∧ (s.get LANTERN.LSTAT LANTERN.LSTAT_COMSHORT = 0 → t.get (HDR.IRQSTAT lanternPage) ⟨18, 1⟩ = 1))
  ∧ (Runs .comshortClear s fun t => t.get LANTERN.LSTAT LANTERN.LSTAT_COMSHORT = 0 ∧ Same (fun a => a = LANTERN.LSTAT ∨ Follows a) s t)
  ∧ (Runs .lanternKeepaliveLost s fun t => t.x.lantern.dark = true ∧ t.get LANTERN.LSTAT LANTERN.LSTAT_MODE = 0
      ∧ (∀ i < 32, t.rd (LANTERN.SHOWN i) = 0)
      ∧ Same (fun a => a = LANTERN.LSTAT ∨ (LANTERN.SHOWN 0 ≤ a ∧ a ≤ LANTERN.SHOWN 31) ∨ Follows a) s t)
  ∧ (MayStart s p lanternPage 1 [.held, .ready, .run, .hold] → 1 ≤ n → n ≤ 60 → s.x.lantern.dark = false → Runs (.lamptest p n) s fun t =>
      t.get LANTERN.LSTAT LANTERN.LSTAT_MODE = 3 ∧ (∀ i < 32, t.rd (LANTERN.SHOWN i) = 0x5555_5555)
      ∧ t.get (HDR.OPSTAT lanternPage) HDR.OPSTAT_STATE = 1)
  ∧ ((begin s).lampTesting = true → PageOn s lanternPage → s.x.lantern.dark = false → s.x.mode = .held → Runs .lamptestEnd s fun t =>
      t.get LANTERN.LSTAT LANTERN.LSTAT_MODE = 2 ∧ t.get (HDR.OPSTAT lanternPage) HDR.OPSTAT_STATE = 2)

/-- R564 to R569, R573, R574: the updates of the front label. -/
def Obligations.SlateCommands : Prop := ∀ (s : State) (p : Party) (r : Nat), Quiet s → Live s →
  (r < 5 → PageOn s slatePage → s.x.slate.busy = [] → s.x.slate.cleaning = false → r ∈ s.x.slate.waiting → 5 ∉ s.x.slate.waiting →
    6 ∉ s.x.slate.waiting → (begin s).slateDue r = true → Runs (.slateUpdateStart r) s fun t => t.x.slate.busy = [r] ∧ r ∉ t.x.slate.waiting
      ∧ t.x.slate.drawing = [(r, (begin s).slateContent r)] ∧ t.get SLATE.SSTAT SLATE.SSTAT_MARKER = 1
      ∧ t.get CUPOLA.TAMPER CUPOLA.TAMPER_SLATEMARK = 1)
  ∧ (PageOn s slatePage → s.x.slate.busy = [] → s.x.slate.cleaning = false → 6 ∈ s.x.slate.waiting → Runs (.slateUpdateStart 6) s fun t =>
      t.x.slate.cleaning = true ∧ 5 ∈ t.x.slate.waiting ∧ 6 ∉ t.x.slate.waiting ∧ t.x.slate.picture = s.x.slate.picture)
  ∧ (s.x.slate.busy ≠ [] → s.x.slate.cleaning = false → s.x.slate.full = false → Runs .slateUpdateEnd s fun t => t.x.slate.busy = []
      ∧ t.x.slate.picture = s.x.slate.picture.filter (fun e => !s.x.slate.busy.contains e.1) ++ s.x.slate.drawing
      ∧ t.get SLATE.SSTAT SLATE.SSTAT_MARKER = 0 ∧ t.get CUPOLA.TAMPER CUPOLA.TAMPER_SLATEMARK = 0
      ∧ t.get SLATE.UPDCNT SLATE.UPDCNT_N = (s.get SLATE.UPDCNT SLATE.UPDCNT_N + 1) % 2 ^ SLATE.UPDCNT_N.w
      ∧ t.get (HDR.IRQSTAT slatePage) ⟨16, 1⟩ = 1)
  ∧ (Runs (.holdupMeasure r) s fun t => t.get SLATE.SSTAT SLATE.SSTAT_RESERVE = min r 255
      ∧ ((0x0A, slatePage, 0) ∈ t.x.health.causes ↔ r < 200))
  ∧ (MayStart s p slatePage 1 anyButPowerUp → 5 ∉ s.x.slate.waiting → 6 ∉ s.x.slate.waiting → Runs (.redraw p 0) s fun t => 5 ∈ t.x.slate.waiting
      ∧ t.get (HDR.OPSTAT slatePage) HDR.OPSTAT_STATE = 1 ∧ t.get (HDR.OPSTAT slatePage) HDR.OPSTAT_OP = 1)
  ∧ (MayStart s p slatePage 2 anyButPowerUp → Runs (.clean p 0) s fun t => 6 ∈ t.x.slate.waiting
      ∧ t.get (HDR.OPSTAT slatePage) HDR.OPSTAT_STATE = 1 ∧ t.get (HDR.OPSTAT slatePage) HDR.OPSTAT_OP = 2)

/-! ## Clocks (chapter 19) -/

/-- R578 to R583, R591 to R593: references, switches, clock checks, loss of lock, the measuring counter. -/
def Obligations.ClockCommands : Prop := ∀ (s : State) (p : Party) (n k : Nat) (d e : Int), Quiet s → Live s → s.x.mode ≠ .powerUp →
  (n < 2 → s.get CLK.REFSTAT (refStopFld n) = 0 → (begin s).refBad 0 = false → (begin s).refBad 1 = false → Runs (.refStopped n) s fun t =>
      t.get CLK.REFSTAT (refStopFld n) = 1 ∧ t.get CLK.REFSTAT (refBadFld n) = 1 ∧ t.get (HDR.IRQSTAT clkPage) ⟨16, 1⟩ = 1
      ∧ (∀ i < 19, (begin s).refOf i = n → (i, 1 - n) ∈ t.x.clk.switching) ∧ t.x.mode = s.x.mode)
  ∧ (n < 2 → s.get CLK.REFSTAT (refStopFld n) = 0 → (begin s).refBad n = false → (begin s).refBad (1 - n) = true → Runs (.refStopped n) s fun t =>
      t.x.mode = .powerUp)
  ∧ ((begin s).refBad 0 = false → (begin s).refBad 1 = false → (d - e).natAbs ≤ 2000 → d.natAbs ≤ 2000 ∨ e.natAbs ≤ 2000 →
    Runs (.supervisorWindow d e) s fun t => t.get CLK.REFDEV CLK.REFDEV_DEV0 = dev16 d ∧ t.get CLK.REFDEV CLK.REFDEV_DEV1 = dev16 e
      ∧ Same (fun a => a = CLK.REFDEV ∨ Follows a) s t ∧ t.x.clk = s.x.clk)
  ∧ ((begin s).refBad 0 = false → (begin s).refBad 1 = false → 2000 < (d - e).natAbs → 2000 < d.natAbs → e.natAbs ≤ 2000 →
    s.get CLK.REFSTAT CLK.REFSTAT_JUDGEBAD = 0 → Runs (.supervisorWindow d e) s fun t => (begin t).refBad 0 = true ∧ (begin t).refBad 1 = false)
  ∧ ((begin s).refBad 0 = false → (begin s).refBad 1 = false → (d - e).natAbs ≤ 2000 → 2000 < d.natAbs → 2000 < e.natAbs →
    Runs (.supervisorWindow d e) s fun t => t.get CLK.REFSTAT CLK.REFSTAT_JUDGEBAD = 1 ∧ (begin t).refBad 0 = false ∧ (begin t).refBad 1 = false
      ∧ t.x.mode = s.x.mode)
  ∧ (∀ i r rest, s.x.clk.switching = (i, r) :: rest → i < 19 → r < 2 → i ≠ 10 → i ≠ 11 → Runs (.islandSwitch n) s fun t =>
      t.x.clk.switching = rest ∧ (begin t).refOf i = r ∧ (∀ j < 19, j ≠ i → (begin t).refOf j = (begin s).refOf j)
      ∧ t.get CLK.CNT CLK.CNT_SWITCHES = min (s.get CLK.CNT CLK.CNT_SWITCHES + 1) (2 ^ CLK.CNT_SWITCHES.w - 1)
      ∧ (begin t).net = (if i = 9 then ((begin s).net + n) % 2 ^ 64 else (begin s).net)
      ∧ (rest = [] → t.get CLK.REFSTAT CLK.REFSTAT_SWITCHING = 0 ∧ t.get (HDR.IRQSTAT clkPage) ⟨17, 1⟩ = 1))
  ∧ (∀ b, clkCode n = true → Runs (.clockCheck n b) s fun t => t.get (CLK.BADCLK (n / 32)) ⟨n % 32, 1⟩ = (if b then 0 else 1)
      ∧ (b = false → s.get (CLK.BADCLK (n / 32)) ⟨n % 32, 1⟩ = 0 → t.get (HDR.IRQSTAT clkPage) ⟨18, 1⟩ = 1)
      ∧ t.x.mode = s.x.mode)
  ∧ (n < 19 → s.get CLK.LOCKMAP ⟨n, 1⟩ = 1 → Runs (.pllLockLoss n) s fun t => t.get CLK.LOCKMAP ⟨n, 1⟩ = 0 ∧ t.get CLK.RUNMAP ⟨n, 1⟩ = 0
      ∧ t.x.clk.losing = s.x.clk.losing ++ [(n, false)]
      ∧ t.get CLK.CNT CLK.CNT_LOCKLOSS = min (s.get CLK.CNT CLK.CNT_LOCKLOSS + 1) (2 ^ CLK.CNT_LOCKLOSS.w - 1)
      ∧ Same (fun a => a / 4096 = clkPage ∨ a / 4096 = 0x14 ∨ Follows a) s t)
  ∧ (n < 19 → s.x.clk.losing = [(n, false)] → (begin s).refBad (1 - (begin s).refOf n) = false → Runs (.pllLockTimeout n) s fun t =>
      (begin t).refOf n = 1 - (begin s).refOf n ∧ t.x.clk.losing = [(n, true)] ∧ t.x.mode = s.x.mode)
  ∧ (n = 0 ∨ (5 ≤ n ∧ n ≤ 9) → s.x.clk.losing = [(n, true)] → Runs (.pllLockTimeout n) s fun t => t.x.mode = .failed)
  ∧ (MayStart s p clkPage 1 anyButPowerUp →
      (begin s).clockRuns (s.get CLK.FMCTL CLK.FMCTL_BASE) = true → (begin s).clockRuns (s.get CLK.FMCTL CLK.FMCTL_TARGET) = true →
      Runs (.measure p 0) s fun t => t.get (HDR.OPSTAT clkPage) HDR.OPSTAT_STATE = 1 ∧ t.get (HDR.OPSTAT clkPage) HDR.OPSTAT_OP = 1)
  ∧ ((begin s).opBusy clkPage = true → s.get (HDR.OPSTAT clkPage) HDR.OPSTAT_OP = 1 → Runs (.measureDone n) s fun t =>
      t.rd CLK.FMRES = BitVec.ofNat 32 (min n 0xFFFF_FFFF) ∧ t.get (HDR.OPSTAT clkPage) HDR.OPSTAT_STATE = 2)
  ∧ (MayStart s p clkPage 2 anyButSelfTest → n < 2 → k < 19 →
      ((begin s).refBad n = true → Runs (.switch p (256 * n + k)) s fun t => t.get (HDR.OPSTAT clkPage) HDR.OPSTAT_STATE = 4
        ∧ t.get (HDR.OPSTAT clkPage) HDR.OPSTAT_REASON = 0x80 ∧ t.x.clk = s.x.clk)
      ∧ ((begin s).refBad n = false → (begin s).refOf k ≠ n → s.x.clk.switching = [] → Runs (.switch p (256 * n + k)) s fun t =>
        t.x.clk.switching = [(k, n)] ∧ t.get CLK.REFSTAT CLK.REFSTAT_SWITCHING = 1 ∧ t.get (HDR.OPSTAT clkPage) HDR.OPSTAT_STATE = 1)
      ∧ ((begin s).refBad n = false → (begin s).refOf k = n → s.x.clk.switching = [] → Runs (.switch p (256 * n + k)) s fun t =>
        t.x.clk.switching = [] ∧ t.get (HDR.OPSTAT clkPage) HDR.OPSTAT_STATE = 2))
/-! ## Supplies and Cupola (chapter 20) -/

/-- R594, R595: a change of a logic feed changes that feed's voltage and status and what follows from them, and no module state. -/
def Obligations.LogicFeedChangeShowsTheFeed : Prop := ∀ (s : State) (b : Bool) (mv : Int), Quiet s → s.x.mode ≠ .off →
  Runs (.logicFeedChange b mv) s fun t =>
    t.get PWR.VAB (feedV b) = min (mv.toNat / 10) 65535
    ∧ (t.get PWR.LSTAT (feedOk b) ≠ 0 ↔
        s.get PWR.LSTAT (feedOver b) = 0 ∧ (17500 ≤ mv.toNat ∨ (s.get PWR.LSTAT (feedOk b) ≠ 0 ∧ 16500 ≤ mv.toNat)))
    ∧ t.get PWR.VAB (feedV (!b)) = s.get PWR.VAB (feedV (!b)) ∧ t.get PWR.LSTAT (feedOk (!b)) = s.get PWR.LSTAT (feedOk (!b))
    ∧ t.x.mode = s.x.mode ∧ t.x.role = s.x.role ∧ t.x.task = s.x.task ∧ t.x.loops = s.x.loops ∧ t.x.safe = s.x.safe
    ∧ Same (fun a => a = PWR.VAB ∨ a = PWR.LSTAT ∨ a = HDR.IRQSTAT pwrPage ∨ Follows a) s t

/-- R595, R596, R602, R604 to R606, R608: the other commands of the supplies and of Cupola. -/
def Obligations.SupplyCommandsComplete : Prop := ∀ s : State, Quiet s →
  (s.x.mode ≠ .off → Runs .rideThrough s fun t =>
    t.get PWR.CNT PWR.CNT_DIPS = min (s.get PWR.CNT PWR.CNT_DIPS + 1) 65535 ∧ t.get (HDR.IRQSTAT pwrPage) ⟨20, 1⟩ = 1
    ∧ t.x.mode = s.x.mode ∧ Same (fun a => a = PWR.CNT ∨ a = HDR.IRQSTAT pwrPage ∨ Follows a) s t)
  ∧ (∀ b mv, s.x.mode ≠ .off → mv < 18000 → Runs (.lowWarning b mv) s fun t =>
      t.get PWR.LSTAT (feedLow b) = 1 ∧ t.get PWR.VAB (feedV b) = min (mv / 10) 65535)
  ∧ (∀ b mv, s.x.mode ≠ .off → 18500 < mv → Runs (.lowWarning b mv) s fun t => t.get PWR.LSTAT (feedLow b) = 0)
  ∧ (∀ b mv, s.x.mode ≠ .off → s.get PWR.LSTAT (feedOver b) = 0 → Runs (.overvoltageDisconnect b mv) s fun t =>
      t.get PWR.LSTAT (feedOver b) = 1 ∧ t.get PWR.LSTAT (feedOk b) = 0
      ∧ t.get PWR.CNT PWR.CNT_OVTRIPS = min (s.get PWR.CNT PWR.CNT_OVTRIPS + 1) 65535 ∧ t.get (HDR.IRQSTAT pwrPage) ⟨19, 1⟩ = 1)
  ∧ (∀ b mv, s.x.mode ≠ .off → s.get PWR.LSTAT (feedOver b) ≠ 0 → 17500 ≤ mv → mv ≤ 32000 → Runs (.overvoltageReconnect b mv) s fun t =>
      t.get PWR.LSTAT (feedOver b) = 0 ∧ t.get PWR.LSTAT (feedOk b) = 1)
  ∧ (s.x.mode ≠ .off → Runs .cupolaCopy s fun t =>
      t.x.cupola = ⟨(begin s).now, (s.rd CUPOLA.PCYCLE).toNat⟩ ∧ Same Follows s t)
  ∧ (∀ c v, Live s → Runs (.capMeasure c v) s fun t =>
      t.get CUPOLA.CAP CUPOLA.CAP_RESERVE = min (c * 6000 / 86400) 255 ∧ t.get CUPOLA.CAP CUPOLA.CAP_C = min c 4095
      ∧ t.get CUPOLA.CAP CUPOLA.CAP_VCAP = min v 4095)
  ∧ (∀ f, tamperFlags[f]? ≠ none → Runs (.tamperEvent f) s fun t => ∀ g, tamperFlags[f]? = some g → t.get CUPOLA.TAMPER g = 1)
  ∧ (∀ g mv, 1 ≤ g → g ≤ 6 → Runs (.vlSupplyChange g mv) s fun t =>
      tabGet 0 t.x.loops.vl g = mv ∧ (t.x.loops.vlDown.contains g = decide (mv = 0)))

/-- R610: CLRTAMPER clears every tamper flag, and ends DONE. -/
def Obligations.ClrtamperClearsTheFlags : Prop := ∀ (s : State) (p : Party), Quiet s →
  MayStart s p cupolaPage 2 [.held, .ready, .run, .hold] →
  Runs (.clrtamper p 0) s fun t =>
    t.get CUPOLA.TAMPER CUPOLA.TAMPER_COVER = 0 ∧ t.get CUPOLA.TAMPER CUPOLA.TAMPER_TEMPHI = 0
    ∧ t.get CUPOLA.TAMPER CUPOLA.TAMPER_TEMPLO = 0 ∧ t.get CUPOLA.TAMPER CUPOLA.TAMPER_SLATEMARK = s.get CUPOLA.TAMPER CUPOLA.TAMPER_SLATEMARK
    ∧ t.get (HDR.OPSTAT cupolaPage) HDR.OPSTAT_STATE = 2 ∧ t.get (HDR.OPSTAT cupolaPage) HDR.OPSTAT_OP = 1
    ∧ t.get (HDR.OPSTAT cupolaPage) HDR.OPSTAT_REASON = 0

/-! ## The machine as a whole -/

/-- The command at the front of the queue runs on the machine with the queue's rest. -/
def Obligations.StepRunsTheFrontCommand : Prop := ∀ (c : Instr) (s : State),
  step { s with pending := c :: s.pending } = exec c s
  ∧ ∀ rest, s.pending = c :: rest → step s = exec c { s with pending := rest }

/-- The model's choice (log entry 5): while no command waits, a step is 1 ms of operating time; a module that is Off stays as it is. -/
def Obligations.IdlePassesOneMillisecond : Prop := ∀ s : State, s.pending = [] → Quiet s →
  ∃ t, step s = .next t ∧ t.pending = [] ∧ t.x.mode = s.x.mode ∧ t.x.role = s.x.role
    ∧ (s.x.mode = .off → Same Follows s t)
    ∧ (s.x.mode = .failed → (begin t).now = ((begin s).now + 1) % 2 ^ 48
        ∧ Same (fun a => a = CUPOLA.OPTIME ∨ a = CUPOLA.OPTIMEH ∨ Follows a) s t)
    ∧ (Live s → (begin t).now = ((begin s).now + 1) % 2 ^ 48 ∧ t.x.loops = s.x.loops ∧ t.x.task = s.x.task ∧ t.x.bel = s.x.bel)

/-- Every command, on every state, ends in a next state; the queue stays as it was, the registers in canonical form, no header word
waiting. -/
def Obligations.EveryCommandEndsInANextState : Prop := ∀ (c : Instr) (s : State), Runs c s fun t => t.pending = s.pending ∧ StateInv t

/-- Every step keeps the invariant, and takes one command from the queue. -/
def Obligations.EveryStepKeepsTheInvariant : Prop := ∀ s : State, StateInv s →
  ∃ t, step s = .next t ∧ StateInv t ∧ t.pending = s.pending.tail

/-- R36, R47, R66, R73, R105: what the module is right after reset; that the power cycle counts 1 is R601. The invariant and the rule of
the safety outputs hold there. -/
def Obligations.TheMachineAfterReset : Prop :=
  State.reset.x.mode = .powerUp ∧ State.reset.pending = [] ∧ State.reset.rd RST.CAUSE = 1 ∧ State.reset.rd CUPOLA.PCYCLE = 1
  ∧ (∀ page, page < 4096 → kindOf page ≠ .unmapped → isWindow page = false →
      State.reset.get (HDR.PGCTL page) HDR.PGCTL_EN = (if capBit (kindOf page) 4 then 0 else 1)
      ∧ State.reset.rd (HDR.PGHEALTH page) = 0 ∧ State.reset.rd (HDR.OPSTAT page) = 0)
  ∧ StateInv State.reset ∧ SafeOutputs State.reset

/-- R42, R44: every page's identity and revision; a write changes neither. -/
def Obligations.PageIdentities : Prop := ∀ page, page < 4096 → kindOf page ≠ .unmapped → isWindow page = false →
  State.reset.rd (HDR.PGID page) =
    BitVec.ofNat 32 ((blockOf (kindOf page)).1 * 0x1_0000 + (page - (blockOf (kindOf page)).2.1) * 0x100 + (blockOf (kindOf page)).2.2)
  ∧ State.reset.rd (HDR.PGREV page) = 0x0100_0000 ∧ State.reset.rd (HDR.PGID 0x047) = 0x0060_0730
  ∧ ∀ (s : State) (p : Party) (v : Word), Quiet s → Reach s p page →
    Runs (.regWrite p (HDR.PGID page) v) s (fun t => Same Follows s t) ∧ Runs (.regWrite p (HDR.PGREV page) v) s (fun t => Same Follows s t)

/-- R36: a gated page is closed after reset; while it is, its block's registers and its windows answer every access with a bus error,
and its header can be read and written. -/
def Obligations.ClosedGatesAnswerBusErrors : Prop := ∀ page, page < 4096 → capBit (kindOf (ctlPage page)) 4 = true →
  State.reset.get (HDR.PGCTL (ctlPage page)) HDR.PGCTL_EN = 0
  ∧ ∀ (s : State) (id seq a : Nat) (e : Session) (v : Word), Quiet s → Live s → s.get (HDR.PGCTL (ctlPage page)) HDR.PGCTL_EN = 0 →
    (begin s).session? id = some e → (begin s).netOn e.usb = true → e.seqRule seq = none → a / 4096 = page →
    (isWindow page = true ∨ 0x40 ≤ a % 4096 →
      Runs (.read id seq a 1) s (fun t => t.x.out = [.answer id seq stBus []] ∧ Same Follows s t)
      ∧ Runs (.write id seq a [v]) s (fun t => t.x.out = [.answer id seq stBus []] ∧ Same Follows s t)
      ∧ Runs (.regWrite .program a v) s (fun t => Same Follows s t ∧ t.x.mode = s.x.mode ∧ t.x.pages = s.x.pages))
    ∧ (isWindow page = false → a % 4096 < 0x40 → a % 4 = 0 →
      Runs (.read id seq a 1) s (fun t => ∃ x, t.x.out = [.answer id seq stOk [x]])
      ∧ Runs (.write id seq (HDR.IRQEN page) [v]) s (fun t => t.x.out = [.answer id seq stOk []] ∧ t.rd (HDR.IRQEN page) = v &&& irqMask
        ∧ Same (fun b => b = HDR.IRQEN page ∨ Follows b) s t))

/-- R262, R272: whatever a command of the safety section does, on any state, no output is left energised that may not be. -/
def Obligations.SafetyCommandsKeepSafeOutputs : Prop := ∀ (c : Instr) (s : State), Quiet s → SafeOutputs s → SafetyCommand c →
  Runs c s SafeOutputs
end

