-- ==== Sys2Proof/Laws/Regs.lean ====
section
/-! SUPPORT. Laws of the register list and of fields: reading what was written, the canonical form, a field set and read back. -/

namespace Sys2Proof.Laws

open Sys2Proof.Machine

theorem regsGet_erase (r : List (Nat × Word)) (a b : Nat) :
    regsGet (regsErase r a) b = if b = a then resetWord a else regsGet r b := by
  induction r with
  | nil => simp only [regsErase, regsGet]; split <;> simp_all
  | cons e t ih =>
    obtain ⟨c, u⟩ := e
    simp only [regsErase, regsGet]
    split
    · next h => subst h; rw [ih]; split <;> simp_all [eq_comm]
    · next h =>
      simp only [regsGet]
      split
      · next h' => subst h'; simp [h]
      · exact ih

theorem regsGet_insert_same (r : List (Nat × Word)) (a : Nat) (v : Word) (h : ∀ e ∈ r, e.1 ≠ a) :
    regsGet (regsInsert r a v) a = v := by
  induction r with
  | nil => simp [regsInsert, regsGet]
  | cons e t ih =>
    obtain ⟨c, u⟩ := e
    have hc : c ≠ a := h (c, u) (by simp)
    simp only [regsInsert]
    split
    · simp [regsGet]
    · simp only [regsGet, if_neg hc]
      exact ih fun e he => h e (by simp [he])

theorem regsGet_insert_other (r : List (Nat × Word)) (a b : Nat) (v : Word) (h : b ≠ a) :
    regsGet (regsInsert r a v) b = regsGet r b := by
  induction r with
  | nil => simp [regsInsert, regsGet, h.symm]
  | cons e t ih =>
    obtain ⟨c, u⟩ := e
    simp only [regsInsert]
    split
    · simp [regsGet, h.symm]
    · simp only [regsGet, ih]

theorem mem_regsErase (r : List (Nat × Word)) (a : Nat) (e : Nat × Word) : e ∈ regsErase r a ↔ e ∈ r ∧ e.1 ≠ a := by
  induction r with
  | nil => simp [regsErase]
  | cons c t ih =>
    obtain ⟨c, u⟩ := c
    simp only [regsErase]
    split
    · next h => simp only [ih, List.mem_cons]; constructor
                · exact fun ⟨m, n⟩ => ⟨.inr m, n⟩
                · rintro ⟨rfl | m, n⟩
                  · exact absurd h n
                  · exact ⟨m, n⟩
    · next h => simp only [List.mem_cons, ih]; constructor
                · rintro (rfl | ⟨m, n⟩)
                  · exact ⟨.inl rfl, h⟩
                  · exact ⟨.inr m, n⟩
                · rintro ⟨rfl | m, n⟩
                  · exact .inl rfl
                  · exact .inr ⟨m, n⟩

/-- A register reads as what was last written to it. -/
theorem regsGet_set (r : List (Nat × Word)) (a b : Nat) (v : Word) :
    regsGet (regsSet r a v) b = if b = a then v else regsGet r b := by
  unfold regsSet
  split
  · next h => rw [regsGet_erase, h]
  · split
    · next h => subst h; exact regsGet_insert_same _ _ _ fun e he => ((mem_regsErase _ _ _).1 he).2
    · next h => rw [regsGet_insert_other _ _ _ _ h, regsGet_erase, if_neg h]

/-- Committing a log gives what reading through it gave. -/
theorem regsGet_commit (log r : List (Nat × Word)) (a : Nat) : regsGet (regsCommit log r) a = logGet log r a := by
  induction log with
  | nil => rfl
  | cons e t ih =>
    obtain ⟨c, u⟩ := e
    show regsGet (regsSet (regsCommit t r) c u) a = _
    rw [regsGet_set, ih]; simp only [logGet, eq_comm (a := a)]

/-- The canonical form, said of the list as a whole. -/
def Canonical (r : List (Nat × Word)) : Prop := r.Pairwise (fun a b => a.1 < b.1) ∧ ∀ e ∈ r, e.2 ≠ resetWord e.1

theorem regsWf_iff (r : List (Nat × Word)) : regsWf r = true ↔ Canonical r := by
  unfold Canonical
  induction r with
  | nil => simp [regsWf]
  | cons e t ih =>
    obtain ⟨a, v⟩ := e
    cases t with
    | nil => simp [regsWf]
    | cons f t =>
      obtain ⟨b, u⟩ := f
      simp only [regsWf, Bool.and_eq_true, decide_eq_true_eq, ih, List.pairwise_cons, List.mem_cons, forall_eq_or_imp]
      constructor
      · rintro ⟨⟨h1, h2⟩, ⟨h3, h4⟩, h5, h6⟩
        exact ⟨⟨⟨h1, fun x hx => h1.trans (h3 x hx)⟩, h3, h4⟩, h2, h5, h6⟩
      · rintro ⟨⟨⟨h1, -⟩, h3, h4⟩, h2, h5, h6⟩
        exact ⟨⟨h1, h2⟩, ⟨h3, h4⟩, h5, h6⟩

theorem canonical_erase (r : List (Nat × Word)) (a : Nat) (h : Canonical r) : Canonical (regsErase r a) := by
  have hs : (regsErase r a).Sublist r := by
    clear h
    induction r with
    | nil => exact .slnil
    | cons e t ih =>
      obtain ⟨c, u⟩ := e
      simp only [regsErase]; split
      · exact ih.cons _
      · exact ih.cons_cons _
  exact ⟨h.1.sublist hs, fun e he => h.2 e (hs.mem he)⟩

theorem mem_regsInsert (r : List (Nat × Word)) (a : Nat) (v : Word) (e : Nat × Word) :
    e ∈ regsInsert r a v ↔ e = (a, v) ∨ e ∈ r := by
  induction r with
  | nil => simp [regsInsert]
  | cons c t ih =>
    obtain ⟨c, u⟩ := c
    simp only [regsInsert]; split
    · simp
    · simp only [List.mem_cons, ih]; tauto

theorem canonical_insert (r : List (Nat × Word)) (a : Nat) (v : Word) (h : Canonical r) (hn : ∀ e ∈ r, e.1 ≠ a)
    (hv : v ≠ resetWord a) : Canonical (regsInsert r a v) := by
  refine ⟨?_, fun e he => ?_⟩
  · have h1 := h.1
    clear h
    induction r with
    | nil => simp [regsInsert]
    | cons c t ih =>
      obtain ⟨c, u⟩ := c
      have hc := hn (c, u) (by simp)
      rw [List.pairwise_cons] at h1
      simp only [regsInsert]; split
      · next hlt =>
        rw [List.pairwise_cons, List.pairwise_cons]
        refine ⟨fun e he => ?_, h1⟩
        rcases List.mem_cons.1 he with rfl | he
        · exact hlt
        · exact hlt.trans (h1.1 e he)
      · next hge =>
        rw [List.pairwise_cons]
        refine ⟨fun e he => ?_, ih (fun e he => hn e (by simp [he])) h1.2⟩
        rcases (mem_regsInsert _ _ _ _).1 he with rfl | he
        · simp only at hc ⊢; omega
        · exact h1.1 e he
  · rcases (mem_regsInsert _ _ _ _).1 he with rfl | he
    · exact hv
    · exact h.2 e he

/-- A write keeps the canonical form. -/
theorem regsWf_set (r : List (Nat × Word)) (a : Nat) (v : Word) (h : regsWf r = true) : regsWf (regsSet r a v) = true := by
  rw [regsWf_iff] at h ⊢
  unfold regsSet
  split
  · exact canonical_erase r a h
  · next hv => exact canonical_insert _ _ _ (canonical_erase r a h) (fun e he => ((mem_regsErase _ _ _).1 he).2) hv

/-- A log of writes keeps it. -/
theorem regsWf_commit (log r : List (Nat × Word)) (h : regsWf r = true) : regsWf (regsCommit log r) = true := by
  induction log with
  | nil => exact h
  | cons e t ih => exact regsWf_set _ _ _ ih

theorem mask_bit (f : Fld) (i : Nat) (hi : i < 32) : f.mask.getLsbD i = (decide (f.lo ≤ i) && decide (i < f.lo + f.w)) := by
  simp only [Fld.mask, BitVec.getLsbD_ofNat, hi, decide_true, Bool.true_and, Nat.testBit_shiftLeft, Nat.testBit_two_pow_sub_one]
  by_cases h : f.lo ≤ i
  · have : (i - f.lo < f.w) ↔ (i < f.lo + f.w) := by omega
    simp [h, this]
  · simp [h]

/-- A field of a word, as a bit string. -/
theorem testBit_get (f : Fld) (v : Word) (i : Nat) (h : f.lo + f.w ≤ 32) :
    (f.get v).testBit i = (decide (i < f.w) && v.getLsbD (f.lo + i)) := by
  simp only [Fld.get, BitVec.testBit_toNat, BitVec.getLsbD_ushiftRight, BitVec.getLsbD_and]
  by_cases hi : f.lo + i < 32
  · rw [mask_bit _ _ hi]
    by_cases hw : i < f.w
    · simp [hw]
    · have : ¬ f.lo + i < f.lo + f.w := by omega
      simp [hw]
  · have : ¬ i < f.w := by omega
    have h2 : v.getLsbD (f.lo + i) = false := BitVec.getLsbD_of_ge _ _ (by omega)
    simp [this, h2]

/-- What a field reads as after it was set: the low bits of the number. -/
theorem get_set (f : Fld) (v : Word) (n : Nat) (h : f.lo + f.w ≤ 32) : f.get (f.set v n) = n % 2 ^ f.w := by
  apply Nat.eq_of_testBit_eq
  intro i
  rw [testBit_get _ _ _ h, Nat.testBit_mod_two_pow]
  by_cases hw : i < f.w
  · have hi : f.lo + i < 32 := by omega
    simp only [Fld.set, BitVec.getLsbD_or, BitVec.getLsbD_and, BitVec.getLsbD_not, mask_bit _ _ hi, BitVec.getLsbD_ofNat, hi,
      decide_true, Bool.true_and, Nat.testBit_shiftLeft]
    have : f.lo + i < f.lo + f.w := by omega
    simp [hw]
  · simp [hw]

/-- Setting one field leaves a field that shares no bit with it. -/
theorem get_set_other (f g : Fld) (v : Word) (n : Nat) (hg : g.lo + g.w ≤ 32) (h : g.lo + g.w ≤ f.lo ∨ f.lo + f.w ≤ g.lo) :
    g.get (f.set v n) = g.get v := by
  apply Nat.eq_of_testBit_eq
  intro i
  rw [testBit_get _ _ _ hg, testBit_get _ _ _ hg]
  by_cases hw : i < g.w
  · have hi : g.lo + i < 32 := by omega
    have hm : f.mask.getLsbD (g.lo + i) = false := by
      rw [mask_bit _ _ hi]
      rcases h with h | h
      · have : ¬ f.lo ≤ g.lo + i := by omega
        simp [this]
      · have : ¬ g.lo + i < f.lo + f.w := by omega
        simp [this]
    simp only [Fld.set, BitVec.getLsbD_or, BitVec.getLsbD_and, BitVec.getLsbD_not, hm, hi]
    simp
  · simp [hw]

theorem get_lt (f : Fld) (v : Word) (h : f.lo + f.w ≤ 32) : f.get v < 2 ^ f.w := by
  apply Nat.lt_pow_two_of_testBit
  intro i hi
  rw [testBit_get _ _ _ h]
  simp [Nat.not_lt.2 hi]

end Sys2Proof.Laws
end

