-- ==== Sys2Proof/Laws/Work.lean ====
section
/-! SUPPORT. Laws of the named operations over a state being changed: what each reads back, and which registers and which parts of the
state it leaves. -/

namespace Sys2Proof.Laws

open Sys2Proof.Machine

@[simp] theorem rd_wr (w : Work) (a b : Nat) (v : Word) : (w.wr a v).rd b = if a = b then v else w.rd b := rfl

@[simp] theorem rd_upd (w : Work) (f : Inner → Inner) (b : Nat) : (w.upd f).rd b = w.rd b := rfl
@[simp] theorem get_upd (w : Work) (f : Inner → Inner) (b : Nat) (g : Fld) : (w.upd f).get b g = w.get b g := rfl
@[simp] theorem flag_upd (w : Work) (f : Inner → Inner) (b : Nat) (g : Fld) : (w.upd f).flag b g = w.flag b g := rfl
@[simp] theorem x_upd (w : Work) (f : Inner → Inner) : (w.upd f).x = f w.x := rfl
@[simp] theorem rd_send (w : Work) (o : Out) (b : Nat) : (w.send o).rd b = w.rd b := rfl
@[simp] theorem x_wr (w : Work) (a : Nat) (v : Word) : (w.wr a v).x = w.x := rfl
@[simp] theorem x_put (w : Work) (a : Nat) (f : Fld) (n : Nat) : (w.put a f n).x = w.x := rfl
@[simp] theorem x_putB (w : Work) (a : Nat) (f : Fld) (b : Bool) : (w.putB a f b).x = w.x := rfl
@[simp] theorem x_irq (w : Work) (p b : Nat) : (w.irq p b).x = w.x := rfl
@[simp] theorem x_incSat (w : Work) (a : Nat) (f : Fld) : (w.incSat a f).x = w.x := rfl
@[simp] theorem x_wr64 (w : Work) (a b n : Nat) : (w.wr64 a b n).x = w.x := rfl

theorem rd_put (w : Work) (a b : Nat) (f : Fld) (n : Nat) :
    (w.put a f n).rd b = if a = b then f.set (w.rd a) n else w.rd b := rfl

theorem get_put (w : Work) (a b : Nat) (f g : Fld) (n : Nat) :
    (w.put a f n).get b g = if a = b then g.get (f.set (w.rd a) n) else w.get b g := by
  simp only [Work.get, rd_put]; split <;> rfl

/-- A field reads back as the low bits of what was put into it. -/
@[simp] theorem get_put_same (w : Work) (a : Nat) (f : Fld) (n : Nat) (h : f.lo + f.w ≤ 32) : (w.put a f n).get a f = n % 2 ^ f.w := by
  rw [get_put, if_pos rfl, get_set _ _ _ h]

/-- Another register is left as it was. -/
@[simp] theorem get_put_ne (w : Work) (a b : Nat) (f g : Fld) (n : Nat) (h : a ≠ b) : (w.put a f n).get b g = w.get b g := by
  rw [get_put, if_neg h]

@[simp] theorem rd_put_ne (w : Work) (a b : Nat) (f : Fld) (n : Nat) (h : a ≠ b) : (w.put a f n).rd b = w.rd b := by
  rw [rd_put, if_neg h]
@[simp] theorem rd_irq_ne (w : Work) (p i b : Nat) (h : HDR.IRQSTAT p ≠ b) : (w.irq p i).rd b = w.rd b := rd_put_ne _ _ _ _ _ h

/-- A field that shares no bit is left as it was. -/
@[simp] theorem get_put_other (w : Work) (a : Nat) (f g : Fld) (n : Nat) (hg : g.lo + g.w ≤ 32)
    (h : g.lo + g.w ≤ f.lo ∨ f.lo + f.w ≤ g.lo) : (w.put a f n).get a g = w.get a g := by
  rw [get_put, if_pos rfl, get_set_other _ _ _ _ hg h]; rfl

/-- The registers at which two states of work may differ lie in `P`. -/
def Keeps (P : Nat → Prop) (w w' : Work) : Prop := ∀ a, ¬ P a → w'.rd a = w.rd a

theorem Keeps.refl (P : Nat → Prop) (w : Work) : Keeps P w w := fun _ _ => rfl

theorem Keeps.trans {P : Nat → Prop} {u v w : Work} (h : Keeps P u v) (k : Keeps P v w) : Keeps P u w :=
  fun a ha => (k a ha).trans (h a ha)

theorem Keeps.mono {P Q : Nat → Prop} {u v : Work} (h : Keeps P u v) (pq : ∀ a, P a → Q a) : Keeps Q u v :=
  fun a ha => h a fun p => ha (pq a p)

theorem Keeps.get {P : Nat → Prop} {u v : Work} (h : Keeps P u v) {a : Nat} (ha : ¬ P a) (f : Fld) : v.get a f = u.get a f := by
  simp only [Work.get, h a ha]

theorem keeps_wr {P : Nat → Prop} (w : Work) (a : Nat) (v : Word) (h : P a) : Keeps P w (w.wr a v) := by
  intro b hb
  rw [rd_wr, if_neg]
  rintro rfl
  exact hb h

theorem keeps_put {P : Nat → Prop} (w : Work) (a : Nat) (f : Fld) (n : Nat) (h : P a) : Keeps P w (w.put a f n) := keeps_wr _ _ _ h

theorem keeps_putB {P : Nat → Prop} (w : Work) (a : Nat) (f : Fld) (b : Bool) (h : P a) : Keeps P w (w.putB a f b) := keeps_wr _ _ _ h

theorem keeps_irq {P : Nat → Prop} (w : Work) (p b : Nat) (h : P (HDR.IRQSTAT p)) : Keeps P w (w.irq p b) := keeps_wr _ _ _ h

theorem keeps_when {P : Nat → Prop} (w : Work) (c : Bool) (f : Work → Work) (h : c = true → Keeps P w (f w)) :
    Keeps P w (w.when c f) := by
  unfold Work.when; split
  · exact h ‹_›
  · exact Keeps.refl _ _

theorem keeps_each {P : Nat → Prop} {α : Type} (l : List α) (f : Work → α → Work) (h : ∀ w a, Keeps P w (f w a)) :
    ∀ w : Work, Keeps P w (w.each l f) := by
  induction l with
  | nil => exact fun w => Keeps.refl _ _
  | cons a t ih => exact fun w => (h w a).trans (ih (f w a))

/-- The registers that making an event may change: the recorder's LOST and its interrupt word. -/
def evtRegs (a : Nat) : Prop := a = HDR.IRQSTAT 0x14 ∨ a = EVT.LOST

theorem keeps_arrive (w : Work) (e : Event) : Keeps evtRegs w (w.arrive e) := by
  unfold Work.arrive
  split
  · exact Keeps.refl _ _
  · refine Keeps.trans (v := if w.get EVT.LOST EVT.LOST_QLOST = 0 then w.irq 0x14 18 else w) ?_ ?_
    · split
      · exact keeps_irq _ _ _ (.inl rfl)
      · exact Keeps.refl _ _
    · exact keeps_put _ _ _ _ (.inr rfl)

theorem keeps_emit (w : Work) (page num sub : Nat) (data : List Nat) : Keeps evtRegs w (w.emit page num sub data) := keeps_arrive _ _

theorem keeps_emitDetail (w : Work) (page num sub : Nat) (data : List Nat) :
    Keeps evtRegs w (w.emitDetail page num sub data) := by
  unfold Work.emitDetail; split
  · exact Keeps.refl _ _
  · exact keeps_arrive _ _

/-- An event changes nothing beside the registers but the recorder. -/
theorem x_arrive (w : Work) (e : Event) : (w.arrive e).x = { w.x with evt := (w.arrive e).x.evt } := by
  unfold Work.arrive
  split
  · rfl
  · split <;> rfl

theorem x_emit (w : Work) (page num sub : Nat) (data : List Nat) :
    (w.emit page num sub data).x = { w.x with evt := (w.emit page num sub data).x.evt } := x_arrive _ _

theorem x_emitDetail (w : Work) (page num sub : Nat) (data : List Nat) :
    (w.emitDetail page num sub data).x = { w.x with evt := (w.emitDetail page num sub data).x.evt } := by
  unfold Work.emitDetail; split
  · rfl
  · exact x_arrive _ _

end Sys2Proof.Laws
end

