-- ==== Sys2Proof/Laws/Noise.lean ====
section
/-! SUPPORT. What the shared operations that announce a change (records, health, new instances, Slate's requests) leave alone: everything
beside the registers but the recorder, the health lists, Slate, a chosen swap and Belfry's new instances; of the registers all but the
page's header, and a few of the recorder's, SYS's and Slate's. -/

namespace Sys2Proof.Laws

open Sys2Proof.Machine

/-- `y` is `x` but for what announcing a change may touch. -/
def Noise (x y : Inner) : Prop := ∃ e sl h z n,
  y = { x with evt := e, slate := sl, health := h, pair := { x.pair with swap := z }, bel := { x.bel with newInst := n } }

theorem Noise.refl (x : Inner) : Noise x x := ⟨_, _, _, _, _, rfl⟩
theorem Noise.trans {x y z : Inner} (h : Noise x y) (k : Noise y z) : Noise x z := by
  obtain ⟨_, _, _, _, _, rfl⟩ := h
  obtain ⟨_, _, _, _, _, rfl⟩ := k
  exact ⟨_, _, _, _, _, rfl⟩

/-- Parts of a state of work under names that simp leaves alone. -/
def evtOf (w : Work) : EvtSt := w.x.evt
def slateOf (w : Work) : SlateSt := w.x.slate
def healthOf (w : Work) : HealthSt := w.x.health
def swapOf (w : Work) : Option Swap := w.x.pair.swap
def newOf (w : Work) : List Nat := w.x.bel.newInst

/-- A state beside the registers after an announcement. -/
def noisy (x : Inner) (w : Work) : Inner :=
  { x with evt := evtOf w, slate := slateOf w, health := healthOf w, pair := { x.pair with swap := swapOf w }
           bel := { x.bel with newInst := newOf w } }

theorem Noise.eq {x : Inner} {w : Work} (h : Noise x w.x) : w.x = noisy x w := by
  obtain ⟨_, _, _, _, _, h⟩ := h
  unfold noisy evtOf slateOf healthOf swapOf newOf
  rw [h]

section Fields
variable (x : Inner) (w : Work)
@[simp] theorem noisy_mode : (noisy x w).mode = x.mode := rfl
@[simp] theorem noisy_role : (noisy x w).role = x.role := rfl
@[simp] theorem noisy_out : (noisy x w).out = x.out := rfl
@[simp] theorem noisy_pages : (noisy x w).pages = x.pages := rfl
@[simp] theorem noisy_net : (noisy x w).net = x.net := rfl
@[simp] theorem noisy_xfer : (noisy x w).xfer = x.xfer := rfl
@[simp] theorem noisy_img : (noisy x w).img = x.img := rfl
@[simp] theorem noisy_bist : (noisy x w).bist = x.bist := rfl
@[simp] theorem noisy_loops : (noisy x w).loops = x.loops := rfl
@[simp] theorem noisy_sens : (noisy x w).sens = x.sens := rfl
@[simp] theorem noisy_dio : (noisy x w).dio = x.dio := rfl
@[simp] theorem noisy_safe : (noisy x w).safe = x.safe := rfl
@[simp] theorem noisy_trkA : (noisy x w).trkA = x.trkA := rfl
@[simp] theorem noisy_trkB : (noisy x w).trkB = x.trkB := rfl
@[simp] theorem noisy_ctl : (noisy x w).ctl = x.ctl := rfl
@[simp] theorem noisy_task : (noisy x w).task = x.task := rfl
@[simp] theorem noisy_ios : (noisy x w).ios = x.ios := rfl
@[simp] theorem noisy_bel : (noisy x w).bel = { x.bel with newInst := newOf w } := rfl
@[simp] theorem noisy_lantern : (noisy x w).lantern = x.lantern := rfl
@[simp] theorem noisy_clk : (noisy x w).clk = x.clk := rfl
@[simp] theorem noisy_cupola : (noisy x w).cupola = x.cupola := rfl
@[simp] theorem noisy_proc : (noisy x w).proc = x.proc := rfl
@[simp] theorem noisy_pair : (noisy x w).pair = { x.pair with swap := swapOf w } := rfl
@[simp] theorem noisy_time : (noisy x w).time = x.time := rfl
end Fields

/-! Each announcing operation is noise beside the registers, and leaves all but a few registers. -/

theorem noise_emit (w : Work) (page num sub : Nat) (data : List Nat) : Noise w.x (w.emit page num sub data).x := by
  rw [x_emit]; exact ⟨_, _, _, _, _, rfl⟩
theorem noise_emitDetail (w : Work) (page num sub : Nat) (data : List Nat) : Noise w.x (w.emitDetail page num sub data).x := by
  rw [x_emitDetail]; exact ⟨_, _, _, _, _, rfl⟩

/-- The recorder's two registers that an event may change. -/
abbrev NotRec (b : Nat) : Prop := b ≠ 0x14014 ∧ b ≠ EVT.LOST

@[simp] theorem rd_emit (w : Work) (page num sub : Nat) (data : List Nat) (b : Nat) (h : NotRec b) :
    (w.emit page num sub data).rd b = w.rd b := keeps_emit w page num sub data b (by rintro (h1 | h1); exacts [h.1 h1, h.2 h1])
@[simp] theorem rd_emitDetail (w : Work) (page num sub : Nat) (data : List Nat) (b : Nat) (h : NotRec b) :
    (w.emitDetail page num sub data).rd b = w.rd b := keeps_emitDetail w page num sub data b (by rintro (h1 | h1); exacts [h.1 h1, h.2 h1])

theorem rd_when (w : Work) (c : Bool) (f : Work → Work) (a : Nat) : (w.when c f).rd a = if c then (f w).rd a else w.rd a := by
  unfold Work.when; split <;> rfl
theorem x_when (w : Work) (c : Bool) (f : Work → Work) : (w.when c f).x = if c then (f w).x else w.x := by
  unfold Work.when; split <;> rfl
theorem noise_when {x : Inner} (w : Work) (c : Bool) (f : Work → Work) (h : Noise x w.x) (k : ∀ u : Work, Noise u.x (f u).x) :
    Noise x (w.when c f).x := by
  unfold Work.when; split
  · exact h.trans (k w)
  · exact h

theorem noise_slateRequest (w : Work) (r : Nat) : Noise w.x (w.slateRequest r).x := by
  unfold Work.slateRequest; dsimp only; split_ifs <;> exact ⟨_, _, _, _, _, rfl⟩

@[simp] theorem rd_slateShow (w : Work) (b : Nat) (h : b ≠ SLATE.SSTAT) : w.slateShow.rd b = w.rd b := by
  simp only [Work.slateShow, Work.putB, rd_put_ne _ _ _ _ _ (Ne.symm h)]
@[simp] theorem rd_slateRequest (w : Work) (r b : Nat) (h : b ≠ SLATE.SSTAT) : (w.slateRequest r).rd b = w.rd b := by
  unfold Work.slateRequest; dsimp only
  split_ifs
  · rfl
  all_goals rw [rd_slateShow _ _ h, rd_upd]

theorem noise_setFlag (w : Work) (page sub a : Nat) (f : Fld) (l : Bool) : Noise w.x (w.setFlag page sub a f l).x := by
  unfold Work.setFlag; split
  · exact .refl _
  · exact noise_emit _ _ _ _ _
@[simp] theorem rd_setFlag (w : Work) (page sub a : Nat) (f : Fld) (l : Bool) (b : Nat) (h : NotRec b ∧ b ≠ a) :
    (w.setFlag page sub a f l).rd b = w.rd b := by
  unfold Work.setFlag; split
  · rfl
  · rw [Work.evFlag, rd_emit _ _ _ _ _ _ h.1, Work.putB, rd_put_ne _ _ _ _ _ (Ne.symm h.2)]

theorem noise_setState (w : Work) (page sub a : Nat) (f : Fld) (n : Nat) : Noise w.x (w.setState page sub a f n).x := by
  unfold Work.setState; split
  · exact .refl _
  · exact noise_emit _ _ _ _ _
@[simp] theorem rd_setState (w : Work) (page sub a : Nat) (f : Fld) (n b : Nat) (h : NotRec b ∧ b ≠ a) :
    (w.setState page sub a f n).rd b = w.rd b := by
  unfold Work.setState; split
  · rfl
  · rw [Work.evState, rd_emit _ _ _ _ _ _ h.1, rd_put_ne _ _ _ _ _ (Ne.symm h.2)]

theorem flag_iff (w : Work) (a : Nat) (f : Fld) (b : Bool) : w.flag a f = b ↔ (w.get a f ≠ 0 ↔ b = true) := by
  unfold Work.flag; cases b <;> simp

/-- A flag that takes a level reads it. -/
theorem flag_setFlag (w : Work) (page sub a : Nat) (f : Fld) (l : Bool) (h : NotRec a) (hf : f.lo + f.w ≤ 32) (hw : f.w ≠ 0) :
    (w.setFlag page sub a f l).flag a f = l := by
  unfold Work.setFlag; split
  · assumption
  · unfold Work.flag Work.get
    rw [Work.evFlag, rd_emit _ _ _ _ _ _ h]
    have := get_put_same w a f (if l then 1 else 0) hf
    unfold Work.get at this
    have h1 : 1 < 2 ^ f.w := Nat.one_lt_two_pow hw
    rw [Work.putB, this]
    cases l
    · simp
    · simp [Nat.mod_eq_of_lt h1]

/-- A state field that takes a value reads it. -/
@[simp] theorem get_setState (w : Work) (page sub a : Nat) (f : Fld) (n : Nat) (h : NotRec a) (hf : f.lo + f.w ≤ 32) (hn : n < 2 ^ f.w) :
    (w.setState page sub a f n).get a f = n := by
  unfold Work.setState; split
  · assumption
  · unfold Work.get
    rw [Work.evState, rd_emit _ _ _ _ _ _ h]
    have := get_put_same w a f n hf
    unfold Work.get at this
    rw [this, Nat.mod_eq_of_lt hn]

/-- Other fields of the register stay. -/
@[simp] theorem get_setState_other (w : Work) (page sub a : Nat) (f g : Fld) (n : Nat) (h : NotRec a) (hg : g.lo + g.w ≤ 32)
    (d : g.lo + g.w ≤ f.lo ∨ f.lo + f.w ≤ g.lo) : (w.setState page sub a f n).get a g = w.get a g := by
  unfold Work.setState; split
  · rfl
  · unfold Work.get
    rw [Work.evState, rd_emit _ _ _ _ _ _ h]
    exact get_put_other w a f g n hg d

@[simp] theorem get_setFlag_other (w : Work) (page sub a : Nat) (f g : Fld) (l : Bool) (h : NotRec a) (hg : g.lo + g.w ≤ 32)
    (d : g.lo + g.w ≤ f.lo ∨ f.lo + f.w ≤ g.lo) : (w.setFlag page sub a f l).get a g = w.get a g := by
  unfold Work.setFlag; split
  · rfl
  · unfold Work.get
    rw [Work.evFlag, rd_emit _ _ _ _ _ _ h]
    exact get_put_other w a f g _ hg d

@[simp] theorem rd_flagIrq (w : Work) (page a : Nat) (f : Fld) (l : Bool) (bit b : Nat) (h : b ≠ a ∧ b ≠ HDR.IRQSTAT page) :
    (w.flagIrq page a f l bit).rd b = w.rd b := by
  unfold Work.flagIrq; dsimp only
  rw [rd_when]
  split
  · rw [rd_irq_ne _ _ _ _ (Ne.symm h.2), Work.putB, rd_put_ne _ _ _ _ _ (Ne.symm h.1)]
  · rw [Work.putB, rd_put_ne _ _ _ _ _ (Ne.symm h.1)]
@[simp] theorem x_flagIrq (w : Work) (page a : Nat) (f : Fld) (l : Bool) (bit : Nat) : (w.flagIrq page a f l bit).x = w.x := by
  unfold Work.flagIrq; dsimp only; rw [x_when]; split <;> rfl

theorem noise_newInstance (w : Work) (pt : Nat) : Noise w.x (w.newInstance pt).x := ⟨_, _, _, _, _, rfl⟩
@[simp] theorem rd_newInstance (w : Work) (pt b : Nat) : (w.newInstance pt).rd b = w.rd b := rfl

theorem noise_upd_health (w : Work) (g : Inner → HealthSt) : Noise w.x (w.upd fun x => { x with health := g x }).x :=
  ⟨_, _, _, _, _, rfl⟩

/-- Registers that the module's health reasons may change when one arises or goes. -/
abbrev NotCause (b : Nat) : Prop := NotRec b ∧ b ≠ SLATE.SSTAT

theorem showReason_spec (w : Work) (code : Nat) (on : Bool) :
    Noise w.x (w.showReason code on).x ∧ ∀ b, NotCause b → (w.showReason code on).rd b = w.rd b := by
  unfold Work.showReason; dsimp only
  split
  · exact ⟨.refl _, fun _ _ => rfl⟩
  · constructor
    · refine noise_when _ _ _ (noise_when _ _ _ (noise_when _ _ _ ?_ fun u => ?_) fun u => noise_newInstance _ _) fun u => ⟨_, _, _, _, _, rfl⟩
      · exact Noise.trans (noise_upd_health w _) (noise_emit _ _ _ _ _)
      · exact Noise.trans (y := (u.upd fun x => { x with slate := { x.slate with newest := some (code, u.now, u.net) } }).x)
          ⟨_, _, _, _, _, rfl⟩ (noise_slateRequest _ _)
    · intro b hb
      have e1 : ∀ u : Work, (u.slateRequest 3).rd b = u.rd b := fun u => rd_slateRequest _ _ _ hb.2
      simp only [rd_when, rd_upd, rd_newInstance, e1, Work.evHealth, rd_emit _ _ _ _ _ _ hb.1, ite_self]

theorem cause_spec (w : Work) (code page sub : Nat) (on : Bool) :
    Noise w.x (w.cause code page sub on).x ∧ ∀ b, NotCause b → (w.cause code page sub on).rd b = w.rd b := by
  unfold Work.cause; dsimp only
  have k := fun u : Work => showReason_spec u code
  split
  · refine ⟨Noise.trans (Noise.trans (noise_upd_health w _) (k _ _).1) (noise_upd_health _ _), fun b hb => ?_⟩
    rw [rd_upd, (k _ _).2 b hb, rd_upd]
  · split
    · refine ⟨Noise.trans (noise_upd_health w _) (k _ _).1, fun b hb => ?_⟩
      rw [(k _ _).2 b hb, rd_upd]
    · exact ⟨noise_upd_health w _, fun b _ => rfl⟩

/-- A page's reason touches the page's health and interrupt words. -/
theorem pageReason_spec (w : Work) (page code cls : Nat) (on : Bool) :
    Noise w.x (w.pageReason page code cls on).x ∧
      ∀ b, NotRec b ∧ b ≠ HDR.PGHEALTH page ∧ b ≠ HDR.IRQSTAT page → (w.pageReason page code cls on).rd b = w.rd b := by
  unfold Work.pageReason; dsimp only
  split
  · exact ⟨.refl _, fun _ _ => rfl⟩
  · have sp (u : Work) : (u.showPageHealth page).x = u.x ∧
        ∀ b, b ≠ HDR.PGHEALTH page ∧ b ≠ HDR.IRQSTAT page → (u.showPageHealth page).rd b = u.rd b := by
      unfold Work.showPageHealth; dsimp only
      refine ⟨by rw [x_when]; split <;> rfl, fun b hb => ?_⟩
      simp only [rd_when, rd_irq_ne _ _ _ _ (Ne.symm hb.2), rd_put_ne _ _ _ _ _ (Ne.symm hb.1), ite_self]
    refine ⟨Noise.trans (y := _) ?_ (noise_emit _ _ _ _ _), fun b hb => ?_⟩
    · rw [(sp _).1]; exact noise_upd_health w _
    · rw [Work.evHealth, rd_emit _ _ _ _ _ _ hb.1, (sp _).2 b hb.2, rd_upd]

theorem blockFault_spec (w : Work) (page p m : Nat) (on : Bool) :
    Noise w.x (w.blockFault page p m on).x ∧
      ∀ b, NotCause b ∧ b ≠ HDR.PGHEALTH page ∧ b ≠ HDR.IRQSTAT page → (w.blockFault page p m on).rd b = w.rd b := by
  unfold Work.blockFault
  refine ⟨Noise.trans (noise_when _ _ _ (.refl _) fun u => (pageReason_spec u _ _ _ _).1) (cause_spec _ _ _ _ _).1, fun b hb => ?_⟩
  rw [(cause_spec _ _ _ _ _).2 b hb.1, rd_when]
  split
  · exact (pageReason_spec _ _ _ _ _).2 b ⟨hb.1.1, hb.2⟩
  · rfl

section Reads
variable (w : Work) (b : Nat)
@[simp] theorem rd_evFlag (p s a i : Nat) (l : Bool) (h : NotRec b) : (w.evFlag p s a i l).rd b = w.rd b := rd_emit _ _ _ _ _ _ h
@[simp] theorem rd_evState (p s a l o n : Nat) (h : NotRec b) : (w.evState p s a l o n).rd b = w.rd b := rd_emit _ _ _ _ _ _ h
@[simp] theorem rd_evOccur (p s a i c : Nat) (h : NotRec b) : (w.evOccur p s a i c).rd b = w.rd b := rd_emit _ _ _ _ _ _ h
@[simp] theorem rd_evValue (p s a i c : Nat) (h : NotRec b) : (w.evValue p s a i c).rd b = w.rd b := rd_emit _ _ _ _ _ _ h
@[simp] theorem rd_evWrite (p s a : Nat) (o n : Word) (u : Nat) (h : NotRec b) : (w.evWrite p s a o n u).rd b = w.rd b := rd_emit _ _ _ _ _ _ h
@[simp] theorem rd_evRefused (p s a c o u : Nat) (h : NotRec b) : (w.evRefused p s a c o u).rd b = w.rd b := rd_emit _ _ _ _ _ _ h
@[simp] theorem rd_evCommand (p s : Nat) (c : Word) (u : Nat) (h : NotRec b) : (w.evCommand p s c u).rd b = w.rd b := rd_emit _ _ _ _ _ _ h
@[simp] theorem rd_detail (p s a i c : Nat) (h : NotRec b) : (w.detail p s a i c).rd b = w.rd b := rd_emitDetail _ _ _ _ _ _ h
@[simp] theorem rd_cause (c p s : Nat) (o : Bool) (h : NotCause b) : (w.cause c p s o).rd b = w.rd b := (cause_spec ..).2 _ h
@[simp] theorem rd_pageReason (p c k : Nat) (o : Bool) (h : NotRec b ∧ b ≠ HDR.PGHEALTH p ∧ b ≠ HDR.IRQSTAT p) :
    (w.pageReason p c k o).rd b = w.rd b := (pageReason_spec ..).2 _ h
@[simp] theorem rd_blockFault (p c m : Nat) (o : Bool) (h : NotCause b ∧ b ≠ HDR.PGHEALTH p ∧ b ≠ HDR.IRQSTAT p) :
    (w.blockFault p c m o).rd b = w.rd b := (blockFault_spec ..).2 _ h
@[simp] theorem get_evFlag (p s a i : Nat) (l : Bool) (f : Fld) (h : NotRec b) : (w.evFlag p s a i l).get b f = w.get b f := by
  unfold Work.get; rw [rd_evFlag _ _ _ _ _ _ _ h]
@[simp] theorem get_evState (p s a l o n : Nat) (f : Fld) (h : NotRec b) : (w.evState p s a l o n).get b f = w.get b f := by
  unfold Work.get; rw [rd_evState _ _ _ _ _ _ _ _ h]
@[simp] theorem get_evOccur (p s a i c : Nat) (f : Fld) (h : NotRec b) : (w.evOccur p s a i c).get b f = w.get b f := by
  unfold Work.get; rw [rd_evOccur _ _ _ _ _ _ _ h]
@[simp] theorem get_evValue (p s a i c : Nat) (f : Fld) (h : NotRec b) : (w.evValue p s a i c).get b f = w.get b f := by
  unfold Work.get; rw [rd_evValue _ _ _ _ _ _ _ h]
@[simp] theorem get_evWrite (p s a : Nat) (o n : Word) (u : Nat) (f : Fld) (h : NotRec b) : (w.evWrite p s a o n u).get b f = w.get b f := by
  unfold Work.get; rw [rd_evWrite _ _ _ _ _ _ _ _ h]
@[simp] theorem get_evRefused (p s a c o u : Nat) (f : Fld) (h : NotRec b) : (w.evRefused p s a c o u).get b f = w.get b f := by
  unfold Work.get; rw [rd_evRefused _ _ _ _ _ _ _ _ h]
@[simp] theorem get_evCommand (p s : Nat) (c : Word) (u : Nat) (f : Fld) (h : NotRec b) : (w.evCommand p s c u).get b f = w.get b f := by
  unfold Work.get; rw [rd_evCommand _ _ _ _ _ _ h]
@[simp] theorem get_detail (p s a i c : Nat) (f : Fld) (h : NotRec b) : (w.detail p s a i c).get b f = w.get b f := by
  unfold Work.get; rw [rd_detail _ _ _ _ _ _ _ h]
@[simp] theorem get_cause (c p s : Nat) (o : Bool) (f : Fld) (h : NotCause b) : (w.cause c p s o).get b f = w.get b f := by
  unfold Work.get; rw [rd_cause _ _ _ _ _ _ h]
@[simp] theorem get_pageReason (p c k : Nat) (o : Bool) (f : Fld) (h : NotRec b ∧ b ≠ HDR.PGHEALTH p ∧ b ≠ HDR.IRQSTAT p) :
    (w.pageReason p c k o).get b f = w.get b f := by unfold Work.get; rw [rd_pageReason _ _ _ _ _ _ h]
@[simp] theorem get_blockFault (p c m : Nat) (o : Bool) (f : Fld) (h : NotCause b ∧ b ≠ HDR.PGHEALTH p ∧ b ≠ HDR.IRQSTAT p) :
    (w.blockFault p c m o).get b f = w.get b f := by unfold Work.get; rw [rd_blockFault _ _ _ _ _ _ h]
@[simp] theorem get_setFlag_ne (p s a : Nat) (f g : Fld) (l : Bool) (h : NotRec b ∧ b ≠ a) : (w.setFlag p s a f l).get b g = w.get b g := by
  unfold Work.get; rw [rd_setFlag _ _ _ _ _ _ _ h]
@[simp] theorem get_setState_ne (p s a : Nat) (f g : Fld) (n : Nat) (h : NotRec b ∧ b ≠ a) : (w.setState p s a f n).get b g = w.get b g := by
  unfold Work.get; rw [rd_setState _ _ _ _ _ _ _ h]
@[simp] theorem get_flagIrq_ne (p a : Nat) (f g : Fld) (l : Bool) (i : Nat) (h : b ≠ a ∧ b ≠ HDR.IRQSTAT p) :
    (w.flagIrq p a f l i).get b g = w.get b g := by unfold Work.get; rw [rd_flagIrq _ _ _ _ _ _ _ h]
@[simp] theorem get_slateRequest (r : Nat) (f : Fld) (h : b ≠ SLATE.SSTAT) : (w.slateRequest r).get b f = w.get b f := by
  unfold Work.get; rw [rd_slateRequest _ _ _ h]
@[simp] theorem get_newInstance (pt : Nat) (f : Fld) : (w.newInstance pt).get b f = w.get b f := rfl
theorem get_when (c : Bool) (f : Work → Work) (g : Fld) : (w.when c f).get b g = if c then (f w).get b g else w.get b g := by
  unfold Work.when; split <;> rfl
@[simp] theorem get_wr_ne (a : Nat) (v : Word) (f : Fld) (h : a ≠ b) : (w.wr a v).get b f = w.get b f := by
  unfold Work.get; rw [rd_wr, if_neg h]
@[simp] theorem get_wr_same (a : Nat) (v : Word) (f : Fld) : (w.wr a v).get a f = f.get v := by unfold Work.get; rw [rd_wr, if_pos rfl]
@[simp] theorem get_irq_ne (p i : Nat) (f : Fld) (h : HDR.IRQSTAT p ≠ b) : (w.irq p i).get b f = w.get b f := get_put_ne _ _ _ _ _ _ h
@[simp] theorem get_irq_same (p i : Nat) (h : i < 32) : (w.irq p i).get (HDR.IRQSTAT p) ⟨i, 1⟩ = 1 := get_put_same _ _ _ _ (by simpa using h)
@[simp] theorem get_putB_same (a : Nat) (f : Fld) (l : Bool) (h : f.lo + f.w ≤ 32) (k : f.w ≠ 0) : (w.putB a f l).get a f = if l then 1 else 0 := by
  rw [Work.putB, get_put_same _ _ _ _ h]
  have : 1 < 2 ^ f.w := Nat.one_lt_two_pow k
  cases l
  · simp
  · simp [Nat.mod_eq_of_lt this]
@[simp] theorem get_putB_other (a : Nat) (f g : Fld) (l : Bool) (hg : g.lo + g.w ≤ 32) (h : g.lo + g.w ≤ f.lo ∨ f.lo + f.w ≤ g.lo) :
    (w.putB a f l).get a g = w.get a g := get_put_other _ _ _ _ _ hg h
@[simp] theorem get_putB_ne (a : Nat) (f g : Fld) (l : Bool) (h : a ≠ b) : (w.putB a f l).get b g = w.get b g := get_put_ne _ _ _ _ _ _ h
@[simp] theorem rd_putB_ne (a : Nat) (f : Fld) (l : Bool) (h : a ≠ b) : (w.putB a f l).rd b = w.rd b := rd_put_ne _ _ _ _ _ h
@[simp] theorem get_incSat_same (a : Nat) (f : Fld) (h : f.lo + f.w ≤ 32) : (w.incSat a f).get a f = min (w.get a f + 1) (2 ^ f.w - 1) := by
  rw [Work.incSat, get_put_same _ _ _ _ h, Nat.mod_eq_of_lt]
  have := Nat.one_le_two_pow (n := f.w)
  omega
@[simp] theorem get_incSat_other (a : Nat) (f g : Fld) (hg : g.lo + g.w ≤ 32) (h : g.lo + g.w ≤ f.lo ∨ f.lo + f.w ≤ g.lo) :
    (w.incSat a f).get a g = w.get a g := get_put_other _ _ _ _ _ hg h
@[simp] theorem get_incSat_ne (a : Nat) (f g : Fld) (h : a ≠ b) : (w.incSat a f).get b g = w.get b g := get_put_ne _ _ _ _ _ _ h
@[simp] theorem rd_incSat_ne (a : Nat) (f : Fld) (h : a ≠ b) : (w.incSat a f).rd b = w.rd b := rd_put_ne _ _ _ _ _ h
@[simp] theorem get_incWrap_same (a : Nat) (f : Fld) (h : f.lo + f.w ≤ 32) : (w.incWrap a f).get a f = (w.get a f + 1) % 2 ^ f.w :=
  get_put_same _ _ _ _ h
@[simp] theorem get_incWrap_ne (a : Nat) (f g : Fld) (h : a ≠ b) : (w.incWrap a f).get b g = w.get b g := get_put_ne _ _ _ _ _ _ h
@[simp] theorem rd_incWrap_ne (a : Nat) (f : Fld) (h : a ≠ b) : (w.incWrap a f).rd b = w.rd b := rd_put_ne _ _ _ _ _ h
@[simp] theorem x_incWrap (a : Nat) (f : Fld) : (w.incWrap a f).x = w.x := rfl
/-- A one-bit flag that takes a level reads it. -/
@[simp] theorem get_setFlag_same (p s a : Nat) (f : Fld) (l : Bool) (h : NotRec a) (hf : f.lo + f.w ≤ 32) (hw : f.w = 1) :
    (w.setFlag p s a f l).get a f = if l then 1 else 0 := by
  have := flag_setFlag w p s a f l h hf (by omega)
  have b := get_lt f ((w.setFlag p s a f l).rd a) hf
  rw [hw] at b
  unfold Work.flag at this
  show f.get _ = _
  change decide (f.get _ ≠ 0) = l at this
  cases l <;> simp at this ⊢ <;> omega
/-- A one-bit flag that takes a level through `flagIrq` reads it. -/
@[simp] theorem get_flagIrq_same (p a : Nat) (f : Fld) (l : Bool) (i : Nat) (h : HDR.IRQSTAT p ≠ a) (hf : f.lo + f.w ≤ 32) (hw : f.w ≠ 0) :
    (w.flagIrq p a f l i).get a f = if l then 1 else 0 := by
  unfold Work.flagIrq; dsimp only
  rw [get_when]; split <;> simp [h, hf, hw]
@[simp] theorem get_flagIrq_other (p a : Nat) (f g : Fld) (l : Bool) (i : Nat) (h : HDR.IRQSTAT p ≠ a) (hg : g.lo + g.w ≤ 32)
    (d : g.lo + g.w ≤ f.lo ∨ f.lo + f.w ≤ g.lo) : (w.flagIrq p a f l i).get a g = w.get a g := by
  unfold Work.flagIrq; dsimp only
  rw [get_when]; split <;> simp [h, hg, d]
end Reads

/-! The same as equations for simp: what stands beside the registers after an announcement. -/

@[simp] theorem xn_emit (w : Work) (p n s : Nat) (d : List Nat) : (w.emit p n s d).x = noisy w.x (w.emit p n s d) := (noise_emit ..).eq
@[simp] theorem xn_emitDetail (w : Work) (p n s : Nat) (d : List Nat) : (w.emitDetail p n s d).x = noisy w.x (w.emitDetail p n s d) :=
  (noise_emitDetail ..).eq
@[simp] theorem xn_evFlag (w : Work) (p s a b : Nat) (l : Bool) : (w.evFlag p s a b l).x = noisy w.x (w.evFlag p s a b l) := (noise_emit ..).eq
@[simp] theorem xn_evState (w : Work) (p s a l o n : Nat) : (w.evState p s a l o n).x = noisy w.x (w.evState p s a l o n) := (noise_emit ..).eq
@[simp] theorem xn_evOccur (w : Work) (p s a b c : Nat) : (w.evOccur p s a b c).x = noisy w.x (w.evOccur p s a b c) := (noise_emit ..).eq
@[simp] theorem xn_evValue (w : Work) (p s a b c : Nat) : (w.evValue p s a b c).x = noisy w.x (w.evValue p s a b c) := (noise_emit ..).eq
@[simp] theorem xn_evWrite (w : Work) (p s a : Nat) (o n : Word) (u : Nat) : (w.evWrite p s a o n u).x = noisy w.x (w.evWrite p s a o n u) :=
  (noise_emit ..).eq
@[simp] theorem xn_evRefused (w : Work) (p s a c o u : Nat) : (w.evRefused p s a c o u).x = noisy w.x (w.evRefused p s a c o u) :=
  (noise_emit ..).eq
@[simp] theorem xn_evCommand (w : Work) (p s : Nat) (c : Word) (u : Nat) : (w.evCommand p s c u).x = noisy w.x (w.evCommand p s c u) :=
  (noise_emit ..).eq
@[simp] theorem xn_detail (w : Work) (p s a b c : Nat) : (w.detail p s a b c).x = noisy w.x (w.detail p s a b c) := (noise_emitDetail ..).eq
@[simp] theorem xn_setFlag (w : Work) (p s a : Nat) (f : Fld) (l : Bool) : (w.setFlag p s a f l).x = noisy w.x (w.setFlag p s a f l) :=
  (noise_setFlag ..).eq
@[simp] theorem xn_setState (w : Work) (p s a : Nat) (f : Fld) (n : Nat) : (w.setState p s a f n).x = noisy w.x (w.setState p s a f n) :=
  (noise_setState ..).eq
@[simp] theorem xn_newInstance (w : Work) (p : Nat) : (w.newInstance p).x = noisy w.x (w.newInstance p) := (noise_newInstance ..).eq
@[simp] theorem xn_slateRequest (w : Work) (r : Nat) : (w.slateRequest r).x = noisy w.x (w.slateRequest r) := (noise_slateRequest ..).eq
@[simp] theorem xn_cause (w : Work) (c p s : Nat) (o : Bool) : (w.cause c p s o).x = noisy w.x (w.cause c p s o) := (cause_spec ..).1.eq
@[simp] theorem xn_pageReason (w : Work) (p c k : Nat) (o : Bool) : (w.pageReason p c k o).x = noisy w.x (w.pageReason p c k o) :=
  (pageReason_spec ..).1.eq
@[simp] theorem xn_blockFault (w : Work) (p c m : Nat) (o : Bool) : (w.blockFault p c m o).x = noisy w.x (w.blockFault p c m o) :=
  (blockFault_spec ..).1.eq
@[simp] theorem x_slateShow (w : Work) : w.slateShow.x = w.x := rfl

end Sys2Proof.Laws
end

