-- ==== Sys2Proof/Laws/Settle.lean ====
section
/-! SUPPORT. Laws of what every command has in common: what its next state reads, and what follows at its end. -/

namespace Sys2Proof.Laws

open Sys2Proof.Machine

theorem logGet_append (l b : List (Nat × Word)) (a : Nat) : logGet (l ++ b) [] a = logGet l b a := by
  induction l with
  | nil =>
    induction b with
    | nil => rfl
    | cons e t ih =>
      obtain ⟨c, u⟩ := e
      simp only [List.nil_append, logGet, regsGet] at ih ⊢
      split
      · rfl
      · exact ih
  | cons e t ih => obtain ⟨c, u⟩ := e; simp only [List.cons_append, logGet, ih]

/-- What a command's next state reads. -/
@[simp] theorem rd_finish (s : State) (w : Work) (a : Nat) : (finish s w).rd a = (w.settle s).rd a := by
  show regsGet (regsCommit _ _) a = _
  rw [regsGet_commit, logGet_append]; rfl

@[simp] theorem get_finish (s : State) (w : Work) (a : Nat) (f : Fld) : (finish s w).get a f = (w.settle s).get a f := by
  simp only [State.get, Work.get, rd_finish]

@[simp] theorem x_finish (s : State) (w : Work) : (finish s w).x = (w.settle s).x := rfl
@[simp] theorem pending_finish (s : State) (w : Work) : (finish s w).pending = s.pending := rfl

theorem regsWf_finish (s : State) (w : Work) : regsWf (finish s w).regs = true := regsWf_commit _ _ rfl

@[simp] theorem rd_begin (s : State) (a : Nat) : (begin s).rd a = s.rd a := rfl
@[simp] theorem get_begin (s : State) (a : Nat) (f : Fld) : (begin s).get a f = s.get a f := rfl
@[simp] theorem x_begin (s : State) : (begin s).x = { s.x with out := [] } := rfl

/-! What follows at the end of a command -/

@[simp] theorem x_recnextShow (w : Work) : w.recnextShow.x = w.x := by unfold Work.recnextShow; dsimp only; split_ifs <;> rfl
theorem rd_recnextShow (w : Work) (b : Nat) (h : b ≠ PROCTOR.RECNEXT) : w.recnextShow.rd b = w.rd b := by
  unfold Work.recnextShow; dsimp only; split_ifs <;> first | rfl | exact if_neg (Ne.symm h)

theorem procShow_spec (w : Work) : Noise w.x w.procShow.x ∧
    ∀ b, NotRec b ∧ b ≠ PROCTOR.STAT ∧ b ≠ SYS.STATE ∧ b ≠ PROCTOR.RECNEXT → w.procShow.rd b = w.rd b := by
  have ite_x : ∀ (c : Prop) [Decidable c] (u v x : Work), u.x = x.x → v.x = x.x → (if c then u else v).x = x.x := by
    intro c _ u v x hu hv; split <;> assumption
  unfold Work.procShow; dsimp only
  constructor
  · rw [x_recnextShow, ite_x _ _ _ _ rfl (x_put _ _ _ _)]
    refine Noise.trans (y := _) ?_ (noise_setState _ _ _ _ _ _)
    rw [ite_x _ _ _ w rfl (x_wr _ _ _)]
    exact .refl _
  · rintro b ⟨h0, h1, h2, h3⟩
    rw [rd_recnextShow _ _ h3]
    have e (u : Work) (n : Nat) : (u.setState proctorPage noSub PROCTOR.STAT PROCTOR.STAT_SERVICE n).rd b = u.rd b :=
      rd_setState _ _ _ _ _ _ _ ⟨h0, h1⟩
    split_ifs <;> simp only [rd_put_ne _ _ _ _ _ (Ne.symm h2), e, rd_wr, if_neg (Ne.symm h1)]

theorem follows_not {b : Nat} (hb : ¬ Follows b) :
    NotRec b ∧ b ≠ PROCTOR.STAT ∧ b ≠ SYS.STATE ∧ b ≠ PROCTOR.RECNEXT ∧ b ≠ SLATE.SSTAT ∧ b ≠ HDR.PGHEALTH 0 ∧ b ≠ HDR.IRQSTAT 0 := by
  simp only [Follows, not_or] at hb
  exact ⟨⟨hb.2.2.2.2.2.1, hb.2.2.2.2.2.2.1⟩, hb.2.2.1, hb.2.2.2.1, hb.2.2.2.2.1, hb.2.2.2.2.2.2.2.1, hb.1, hb.2.1⟩

theorem syncMode_spec (w : Work) (s : State) : Noise w.x (w.syncMode s).x ∧ ∀ b, ¬ Follows b → (w.syncMode s).rd b = w.rd b := by
  have h (u : Work) (hx : Noise w.x u.x) (hr : ∀ b, ¬ Follows b → u.rd b = w.rd b) (c : Prop) [Decidable c] :
      Noise w.x (if c then u else u.slateRequest 2).x ∧ ∀ b, ¬ Follows b → (if c then u else u.slateRequest 2).rd b = w.rd b := by
    split
    · exact ⟨hx, hr⟩
    · exact ⟨hx.trans (noise_slateRequest _ _), fun b hb => by rw [rd_slateRequest _ _ _ (follows_not hb).2.2.2.2.1, hr b hb]⟩
  unfold Work.syncMode; dsimp only
  split
  · exact h w (.refl _) (fun _ _ => rfl) _
  · refine h _ (procShow_spec w).1 (fun b hb => (procShow_spec w).2 _ ?_) _
    obtain ⟨h0, h1, h2, h3, -⟩ := follows_not hb
    exact ⟨h0, h1, h2, h3⟩

theorem vlFollow_spec (w : Work) : w.vlFollow.x = w.x ∧ ∀ b, ¬ Follows b → w.vlFollow.rd b = w.rd b := by
  have step (u : Work) (g mv : Nat) : (u.vlShow g mv).x = u.x ∧ ∀ b, ¬ Follows b → (u.vlShow g mv).rd b = u.rd b := by
    unfold Work.vlShow; dsimp only
    have key : ∀ v : Word, (if g < 1 ∨ 6 < g ∨ u.rd (PWR.VL (g - 1)) = v then u else u.wr (PWR.VL (g - 1)) v).x = u.x ∧
        ∀ b, ¬ Follows b → (if g < 1 ∨ 6 < g ∨ u.rd (PWR.VL (g - 1)) = v then u else u.wr (PWR.VL (g - 1)) v).rd b = u.rd b := ?_
    · exact key _
    intro v
    by_cases h : g < 1 ∨ 6 < g ∨ u.rd (PWR.VL (g - 1)) = v
    · rw [if_pos h]; exact ⟨rfl, fun _ _ => rfl⟩
    · rw [if_neg h]
      refine ⟨rfl, fun b hb => ?_⟩
      rw [rd_wr, if_neg]
      rintro rfl
      apply hb
      simp only [not_or, Nat.not_lt] at h
      simp only [Follows, PWR.VL]; omega
  unfold Work.vlFollow Work.each
  generalize w.x.loops.vl = l
  induction l generalizing w with
  | nil => exact ⟨rfl, fun _ _ => rfl⟩
  | cons e t ih =>
    obtain ⟨hx, hr⟩ := ih (w.vlShow e.1 e.2)
    obtain ⟨gx, gr⟩ := step w e.1 e.2
    exact ⟨hx.trans gx, fun b hb => (hr b hb).trans (gr b hb)⟩

theorem drSwap_spec (w : Work) : Noise w.x w.drSwap.x ∧ ∀ b, w.drSwap.rd b = w.rd b := by
  unfold Work.drSwap; split
  · exact ⟨⟨_, _, _, _, _, rfl⟩, fun _ => rfl⟩
  · exact ⟨.refl _, fun _ => rfl⟩

theorem syncHealth_spec (w : Work) : Noise w.x w.syncHealth.x ∧ ∀ b, ¬ Follows b → w.syncHealth.rd b = w.rd b := by
  have key (u : Work) (hx : u.x = w.x) (hr : ∀ b, ¬ Follows b → u.rd b = w.rd b) (c : Prop) [Decidable c] :
      Noise w.x (if c then ((u.irq 0 2).slateRequest 2).drSwap else (u.irq 0 2).slateRequest 2).x ∧
      ∀ b, ¬ Follows b → (if c then ((u.irq 0 2).slateRequest 2).drSwap else (u.irq 0 2).slateRequest 2).rd b = w.rd b := by
    have n1 : Noise w.x ((u.irq 0 2).slateRequest 2).x := by rw [← hx]; exact noise_slateRequest (u.irq 0 2) 2
    have r1 : ∀ b, ¬ Follows b → ((u.irq 0 2).slateRequest 2).rd b = w.rd b := fun b hb => by
      rw [rd_slateRequest _ _ _ (follows_not hb).2.2.2.2.1, rd_irq_ne _ _ _ _ (Ne.symm (follows_not hb).2.2.2.2.2.2), hr b hb]
    split
    · exact ⟨n1.trans (drSwap_spec _).1, fun b hb => by rw [(drSwap_spec _).2, r1 b hb]⟩
    · exact ⟨n1, r1⟩
  have put2 : ∀ b, ¬ Follows b → ∀ (u : Work) (f : Fld) (n : Nat), (u.put (HDR.PGHEALTH 0) f n).rd b = u.rd b :=
    fun b hb u f n => rd_put_ne _ _ _ _ _ (Ne.symm (follows_not hb).2.2.2.2.2.1)
  unfold Work.syncHealth; dsimp only
  split
  · exact ⟨.refl _, fun _ _ => rfl⟩
  · split
    · exact ⟨.refl _, fun b hb => by rw [put2 b hb, put2 b hb]⟩
    · exact key ((w.put (HDR.PGHEALTH 0) HDR.PGHEALTH_CLASS w.moduleHealth.2).put (HDR.PGHEALTH 0) HDR.PGHEALTH_REASON w.moduleHealth.1)
        rfl (fun b hb => by rw [put2 b hb, put2 b hb]) _

/-- What follows at the end of a command, where no header word of a released image waits. -/
theorem settle_spec (w : Work) (s : State) (h : w.x.task.hdr = []) :
    Noise w.x (w.settle s).x ∧ ∀ b, ¬ Follows b → (w.settle s).rd b = w.rd b := by
  have hd : w.drainHdr = w := by unfold Work.drainHdr; dsimp only; rw [if_pos h]
  unfold Work.settle
  rw [hd]
  obtain ⟨x1, r1⟩ := syncMode_spec w s
  obtain ⟨x2, r2⟩ := vlFollow_spec (w.syncMode s)
  obtain ⟨x3, r3⟩ := syncHealth_spec (w.syncMode s).vlFollow
  rw [x2] at x3
  exact ⟨x1.trans x3, fun b hb => (r3 b hb).trans ((r2 b hb).trans (r1 b hb))⟩

/-- A register that follows none reads in the next state as the command left it. -/
theorem rd_settle (w : Work) (s : State) (h : w.x.task.hdr = []) (b : Nat) (hb : ¬ Follows b) : (w.settle s).rd b = w.rd b :=
  (settle_spec w s h).2 b hb

theorem get_settle (w : Work) (s : State) (h : w.x.task.hdr = []) (b : Nat) (hb : ¬ Follows b) (f : Fld) :
    (w.settle s).get b f = w.get b f := by simp only [Work.get, rd_settle w s h b hb]

theorem x_settle (w : Work) (s : State) (h : w.x.task.hdr = []) : (w.settle s).x = noisy w.x (w.settle s) := (settle_spec w s h).1.eq

/-- After every command no header word waits. -/
theorem quiet_finish (s : State) (w : Work) : (finish s w).x.task.hdr = [] := by
  have hd : w.drainHdr.x.task.hdr = [] := by
    unfold Work.drainHdr; dsimp only; split
    · assumption
    · rfl
  have e : w.settle s = w.drainHdr.settle s := by
    unfold Work.settle
    have : ∀ u : Work, u.x.task.hdr = [] → u.drainHdr = u := fun u hu => by unfold Work.drainHdr; dsimp only; rw [if_pos hu]
    rw [this _ hd]
  rw [x_finish, e, x_settle _ _ hd]; exact hd

/-! From what a command's effect leaves to what its next state shows -/

theorem runs_cmd {i : Instr} {s : State} {f : Work → Work} {P : State → Prop} (he : exec i s = runCmd s f)
    (h : P (finish s (f (begin s)))) : Runs i s P := ⟨_, he, h⟩

/-- No register outside the pages of SYS, PWR, PROCTOR, EVT and SLATE follows another. -/
theorem not_follows {a : Nat} (h : a / 4096 ≠ 0 ∧ a / 4096 ≠ 1 ∧ a / 4096 ≠ 0x00C ∧ a / 4096 ≠ 0x014 ∧ a / 4096 ≠ 0x029) : ¬ Follows a := by
  simp only [Follows, HDR.PGHEALTH, HDR.IRQSTAT, PROCTOR.STAT, SYS.STATE, PROCTOR.RECNEXT, EVT.LOST, SLATE.SSTAT, PWR.VL, pg]
  omega

theorem not_rec {a : Nat} (h : a / 4096 ≠ 0x014) : NotRec a := by
  refine ⟨?_, ?_⟩ <;> rintro rfl <;> revert h <;> decide

section
variable {s : State} {w : Work}

theorem fin_rd (hq : w.x.task.hdr = []) {a : Nat} (ha : ¬ Follows a) : (finish s w).rd a = w.rd a := by
  rw [rd_finish, rd_settle _ _ hq _ ha]
theorem fin_get (hq : w.x.task.hdr = []) {a : Nat} (ha : ¬ Follows a) (f : Fld) : (finish s w).get a f = w.get a f := by
  rw [get_finish, get_settle _ _ hq _ ha]
theorem fin_x (hq : w.x.task.hdr = []) : (finish s w).x = noisy w.x (w.settle s) := by rw [x_finish, x_settle _ _ hq]
/-- From what a command's effect leaves to what its next state shows: registers that follow none read as it left them, and beside the
registers only what announcing a change may touch differs. -/
theorem runs_quiet {i : Instr} {f : Work → Work} {P : State → Prop} (he : exec i s = runCmd s f) (hq : (f (begin s)).x.task.hdr = [])
    (h : ∀ t : State, (∀ a, ¬ Follows a → t.rd a = (f (begin s)).rd a) → (∀ a g, ¬ Follows a → t.get a g = (f (begin s)).get a g) →
      Noise (f (begin s)).x t.x → P t) : Runs i s P :=
  runs_cmd he (h _ (fun _ ha => fin_rd hq ha) (fun _ g ha => fin_get hq ha g) (by rw [x_finish]; exact (settle_spec _ _ hq).1))
/-- What a command leaves alone its next state leaves alone, but for the registers that follow. -/
theorem fin_same {P : Nat → Prop} (hq : w.x.task.hdr = []) (h : Keeps P (begin s) w) : Same (fun a => P a ∨ Follows a) s (finish s w) :=
  fun a ha => by rw [fin_rd hq (fun f => ha (.inr f))]; exact h a fun p => ha (.inl p)
end

end Sys2Proof.Laws
end

