-- ==== Sys2Proof/Laws/Exec.lean ====
section
/-! SUPPORT. What a step can do: every command is an effect on the state being changed, run between `begin` and `finish`; so is the passing
of 1 ms. -/

namespace Sys2Proof.Laws

open Sys2Proof.Machine

/-- Every command is an effect that `runCmd` runs. -/
theorem exec_runs (i : Instr) (s : State) : ∃ f, exec i s = runCmd s f := by
  unfold exec; cases i <;> exact ⟨_, rfl⟩

/-- A step does one of two things. -/
theorem step_cases (s : State) :
    (s.pending = [] ∧ step s = runCmd s Work.tick) ∨ ∃ c rest, s.pending = c :: rest ∧ step s = exec c { s with pending := rest } := by
  unfold step
  cases h : s.pending with
  | nil => exact .inl ⟨rfl, rfl⟩
  | cons c rest => exact .inr ⟨c, rest, rfl, rfl⟩

end Sys2Proof.Laws
end

