-- ==== Sys2Proof/Laws/Ops.lean ====
section
/-! SUPPORT. Laws of the operations every page shares: refusing a write, the checks of a START, an operation's beginning and end, the end of
an unlock. -/

namespace Sys2Proof.Laws

open Sys2Proof.Machine

/-! A chain of writes keeps what each of them keeps -/

section Chain
variable {P : Nat → Prop} {u w : Work}

theorem Keeps.wr (h : Keeps P u w) {a : Nat} (ha : P a) (v : Word) : Keeps P u (w.wr a v) := h.trans (keeps_wr w a v ha)
theorem Keeps.put (h : Keeps P u w) {a : Nat} (ha : P a) (f : Fld) (n : Nat) : Keeps P u (w.put a f n) := h.trans (keeps_put w a f n ha)
theorem Keeps.putB (h : Keeps P u w) {a : Nat} (ha : P a) (f : Fld) (b : Bool) : Keeps P u (w.putB a f b) := h.trans (keeps_putB w a f b ha)
theorem Keeps.irq (h : Keeps P u w) {page : Nat} (hp : P (HDR.IRQSTAT page)) (b : Nat) : Keeps P u (w.irq page b) :=
  h.trans (keeps_irq w page b hp)
theorem Keeps.upd (h : Keeps P u w) (g : Inner → Inner) : Keeps P u (w.upd g) := fun a ha => h a ha
theorem Keeps.when (h : Keeps P u w) (c : Bool) {f : Work → Work} (hf : ∀ v, Keeps P v (f v)) : Keeps P u (w.when c f) :=
  h.trans (keeps_when w c f fun _ => hf w)

end Chain

/-- A refused write shows in its page's PGSTAT and IRQSTAT, and nowhere else (R50). -/
theorem keeps_refuse (w : Work) (page code : Nat) :
    Keeps (fun a => a = HDR.PGSTAT page ∨ a = HDR.IRQSTAT page) w (w.refuse page code) := by
  unfold Work.refuse
  exact (((Keeps.refl _ w).put (.inl rfl) _ _).put (.inl rfl) _ _).when _ fun v => (Keeps.refl _ v).irq (.inr rfl) _

@[simp] theorem x_refuse (w : Work) (page code : Nat) : (w.refuse page code).x = w.x := by
  unfold Work.refuse; dsimp only; rw [x_when]; split <;> rfl

theorem stat_ne_irq (page : Nat) : HDR.IRQSTAT page ≠ HDR.PGSTAT page := by simp only [HDR.IRQSTAT, HDR.PGSTAT]; omega

theorem get_refuse (w : Work) (page code : Nat) :
    (w.refuse page code).get (HDR.PGSTAT page) HDR.PGSTAT_WREJ = 1
      ∧ (w.refuse page code).get (HDR.PGSTAT page) HDR.PGSTAT_WREJ_CODE = code % 16 := by
  unfold Work.refuse; dsimp only
  rw [get_when, get_when, get_irq_ne _ _ _ _ _ (stat_ne_irq page), get_irq_ne _ _ _ _ _ (stat_ne_irq page), ite_self, ite_self]
  exact ⟨get_put_same _ _ _ _ (by decide),
    (get_put_other _ _ _ _ _ (by decide) (by decide)).trans (get_put_same _ _ _ _ (by decide))⟩

/-- A START that passes the checks runs its body. -/
theorem startOp_accepted {w : Work} {p : Party} {page role : Nat} {modes : List Mode} {cond : Bool} (body : Work → Work)
    (h1 : w.reachable page = true) (h2 : w.present p = true) (h3 : w.opBusy page = false) (h4 : role ≤ w.roleOf p)
    (h5 : w.enabled page = true) (h6 : modes.contains w.x.mode = true) (h7 : cond = true) :
    w.startOp p page role modes cond body = body w := by
  unfold Work.startOp
  rw [if_neg (by simp [h1, h2]), if_neg (by simp [h3]), if_neg (by omega), if_neg (by rw [h5, h6, h7]; decide)]

/-- The same from the statement's words. -/
theorem startOp_begin {s : State} {p : Party} {page role : Nat} {modes : List Mode} {cond : Bool} (body : Work → Work)
    (h : MayStart s p page role modes) (hc : cond = true) : (begin s).startOp p page role modes cond body = body (begin s) :=
  startOp_accepted body h.1 h.2.1 h.2.2.1 h.2.2.2.1 h.2.2.2.2.1 h.2.2.2.2.2 hc

/-- A START does one of three things: nothing (a bus error), a refusal, its body. -/
theorem startOp_cases (w : Work) (p : Party) (page role : Nat) (modes : List Mode) (cond : Bool) (body : Work → Work) :
    w.startOp p page role modes cond body = w ∨ (∃ c, w.startOp p page role modes cond body = w.refuse page c)
      ∨ w.startOp p page role modes cond body = body w := by
  unfold Work.startOp
  split
  · exact .inl rfl
  · split
    · exact .inr (.inl ⟨_, rfl⟩)
    · split
      · exact .inr (.inl ⟨_, rfl⟩)
      · split
        · exact .inr (.inl ⟨_, rfl⟩)
        · exact .inr (.inr rfl)

/-! Beginning and end of an operation -/

theorem keeps_opBegin (w : Work) (p : Party) (page op arg : Nat) (l : List (Nat × Word)) :
    Keeps (fun a => a = HDR.OPSTAT page ∨ a = HDR.PGSTAT page) w (w.opBegin p page op arg l) := by
  unfold Work.opBegin
  exact (((Keeps.refl _ w).wr (.inl rfl) _).put (.inr rfl) _ _).upd _

theorem x_opBegin (w : Work) (p : Party) (page op arg : Nat) (l : List (Nat × Word)) :
    (w.opBegin p page op arg l).x = { w.x with pages := { w.x.pages with
      ops := w.x.pages.ops.filter (fun o => decide (o.page ≠ page)) ++ [⟨page, op, arg, p, false, l⟩] } } := rfl

theorem opstat_ne_pgstat (page : Nat) : HDR.PGSTAT page ≠ HDR.OPSTAT page := by simp only [HDR.OPSTAT, HDR.PGSTAT]; omega
theorem irqstat_ne_opstat (page : Nat) : HDR.IRQSTAT page ≠ HDR.OPSTAT page := by simp only [HDR.OPSTAT, HDR.IRQSTAT]; omega

/-- An accepted START leaves the page BUSY (R56). -/
theorem opBusy_opBegin (w : Work) (p : Party) (page op arg : Nat) (l : List (Nat × Word)) :
    (w.opBegin p page op arg l).opBusy page = true := by
  have e : (w.opBegin p page op arg l).get (HDR.OPSTAT page) HDR.OPSTAT_STATE = HDR.OPSTAT_STATE.get (BitVec.ofNat 32 (op * 256 + 1)) := by
    unfold Work.opBegin
    rw [get_upd, get_put_ne _ _ _ _ _ _ (opstat_ne_pgstat page), get_wr_same]
  unfold Work.opBusy
  rw [e]
  have k : HDR.OPSTAT_STATE.mask = 7#32 := by decide
  have d : BitVec.ofNat 32 (op * 256 + 1) &&& 7#32 = 1#32 := by
    apply BitVec.eq_of_toNat_eq
    rw [BitVec.toNat_and, BitVec.toNat_ofNat]
    show (op * 256 + 1) % 2 ^ 32 &&& 2 ^ 3 - 1 = 1
    rw [Nat.and_two_pow_sub_one_eq_mod]; omega
  apply decide_eq_true
  unfold Fld.get
  rw [k, d]; decide

theorem keeps_opEnd (w : Work) (page state reason : Nat) :
    Keeps (fun a => a = HDR.OPSTAT page ∨ a = HDR.PGSTAT page ∨ a = HDR.IRQSTAT page) w (w.opEnd page state reason) := by
  unfold Work.opEnd; dsimp only
  split
  · refine Keeps.irq ?_ (.inr (.inr rfl)) _
    refine Keeps.upd (Keeps.put ?_ (.inr (.inl rfl)) _ _) _
    exact ((((Keeps.refl _ w).put (.inl rfl) _ _).put (.inl rfl) _ _).putB (.inl rfl) _ _).when _ fun v => (Keeps.refl _ v).put (.inl rfl) _ _
  · exact Keeps.refl _ _

/-- Beside the registers an operation's end takes it from the list of those that run. -/
theorem x_opEnd (w : Work) (page state reason : Nat) :
    (w.opEnd page state reason).x = if w.opBusy page then { w.x with pages := { w.x.pages with
      ops := w.x.pages.ops.filter (fun o => decide (o.page ≠ page)) } } else w.x := by
  unfold Work.opEnd; dsimp only
  split
  · rw [x_irq, x_upd, x_put, x_when]; split <;> rfl
  · rfl

/-- What OPSTAT shows of an operation that has ended (R57). -/
theorem get_opEnd (w : Work) (page state reason : Nat) (h : w.opBusy page = true) (hs : state < 8) :
    (w.opEnd page state reason).get (HDR.OPSTAT page) HDR.OPSTAT_STATE = state
      ∧ (w.opEnd page state reason).get (HDR.OPSTAT page) HDR.OPSTAT_REASON = reason % 256
      ∧ (w.opEnd page state reason).get (HDR.IRQSTAT page) HDR.IRQSTAT_OPEND = 1 := by
  unfold Work.opEnd
  rw [if_pos h]; dsimp only
  refine ⟨?_, ?_, get_irq_same _ _ _ (by decide)⟩ <;>
  rw [get_irq_ne _ _ _ _ _ (irqstat_ne_opstat page), get_upd, get_put_ne _ _ _ _ _ _ (opstat_ne_pgstat page), get_when,
    get_put_other _ _ _ _ _ (by decide) (by decide), ite_self, get_putB_other _ _ _ _ _ (by decide) (by decide)]
  · rw [get_put_other _ _ _ _ _ (by decide) (by decide), get_put_same _ _ _ _ (by decide)]
    exact Nat.mod_eq_of_lt hs
  · exact get_put_same _ _ _ _ (by decide)

theorem keeps_opNow (w : Work) (p : Party) (page op arg state reason : Nat) :
    Keeps (fun a => a = HDR.OPSTAT page ∨ a = HDR.PGSTAT page ∨ a = HDR.IRQSTAT page) w (w.opNow p page op arg state reason) :=
  Keeps.trans ((keeps_opBegin w p page op arg []).mono fun _ h => h.elim .inl fun k => .inr (.inl k)) (keeps_opEnd _ _ _ _)

/-! Unlocks -/

/-- The end of an unlock shows in the page's PGKEY (R63). -/
theorem keeps_lock (w : Work) (page : Nat) : Keeps (fun a => a = HDR.PGKEY page) w (w.lock page) := by
  unfold Work.lock
  split
  · exact (((Keeps.refl (fun a => a = HDR.PGKEY page) w).upd _).put (a := HDR.PGKEY page) rfl _ _).put (a := HDR.PGKEY page) rfl _ _
  · exact Keeps.refl _ _

theorem x_lock (w : Work) (page : Nat) : (w.lock page).x = w.x ∨ (w.lock page).x = { w.x with
      pages := { w.x.pages with unlocks := w.x.pages.unlocks.filter (fun u => decide (u.page ≠ page)) }
      safe := if page = 0x030 then { w.x.safe with pwbuf := [], npwbuf := [] } else w.x.safe } := by
  unfold Work.lock
  split
  · exact .inr rfl
  · exact .inl rfl

end Sys2Proof.Laws
end

