-- ==== Sys2Proof/Laws/State.lean ====
section
/-! SUPPORT. Laws of the state's updates: what each part reads after each, so that no later proof unfolds one. -/

namespace Sys2Proof.Laws

open Sys2Proof.Machine

/-! The state a command runs on, and the step's taking of the queue -/

section
variable (s : State) (l : List Instr) (w : Work)

@[simp] theorem pending_regs : ({ s with pending := l } : State).regs = s.regs := rfl
@[simp] theorem pending_x : ({ s with pending := l } : State).x = s.x := rfl
@[simp] theorem pending_pending : ({ s with pending := l } : State).pending = l := rfl
@[simp] theorem rd_pending (a : Nat) : ({ s with pending := l } : State).rd a = s.rd a := rfl
@[simp] theorem get_pending (a : Nat) (f : Fld) : ({ s with pending := l } : State).get a f = s.get a f := rfl
@[simp] theorem begin_pending : begin { s with pending := l } = begin s := rfl
@[simp] theorem base_begin : (begin s).base = s.regs := rfl
@[simp] theorem log_begin : (begin s).log = [] := rfl
@[simp] theorem withFetchWord_eq (n v : Nat) : s.withFetchWord n v = s := rfl

/-! Each block's own part: an update shows there and nowhere else, and in no register -/

@[simp] theorem x_belUpd (f : BelfrySt → BelfrySt) : (w.belUpd f).x = { w.x with bel := f w.x.bel } := rfl
@[simp] theorem rd_belUpd (f : BelfrySt → BelfrySt) (a : Nat) : (w.belUpd f).rd a = w.rd a := rfl
@[simp] theorem get_belUpd (f : BelfrySt → BelfrySt) (a : Nat) (g : Fld) : (w.belUpd f).get a g = w.get a g := rfl
@[simp] theorem x_bistUpd (f : BistSt → BistSt) : (w.bistUpd f).x = { w.x with bist := f w.x.bist } := rfl
@[simp] theorem rd_bistUpd (f : BistSt → BistSt) (a : Nat) : (w.bistUpd f).rd a = w.rd a := rfl
@[simp] theorem get_bistUpd (f : BistSt → BistSt) (a : Nat) (g : Fld) : (w.bistUpd f).get a g = w.get a g := rfl
@[simp] theorem x_clkUpd (f : ClkSt → ClkSt) : (w.clkUpd f).x = { w.x with clk := f w.x.clk } := rfl
@[simp] theorem rd_clkUpd (f : ClkSt → ClkSt) (a : Nat) : (w.clkUpd f).rd a = w.rd a := rfl
@[simp] theorem get_clkUpd (f : ClkSt → ClkSt) (a : Nat) (g : Fld) : (w.clkUpd f).get a g = w.get a g := rfl
@[simp] theorem x_procUpd (f : ProcSt → ProcSt) : (w.procUpd f).x = { w.x with proc := f w.x.proc } := rfl
@[simp] theorem rd_procUpd (f : ProcSt → ProcSt) (a : Nat) : (w.procUpd f).rd a = w.rd a := rfl
@[simp] theorem get_procUpd (f : ProcSt → ProcSt) (a : Nat) (g : Fld) : (w.procUpd f).get a g = w.get a g := rfl
@[simp] theorem x_pairUpd (f : PairSt → PairSt) : (w.pairUpd f).x = { w.x with pair := f w.x.pair } := rfl
@[simp] theorem rd_pairUpd (f : PairSt → PairSt) (a : Nat) : (w.pairUpd f).rd a = w.rd a := rfl
@[simp] theorem get_pairUpd (f : PairSt → PairSt) (a : Nat) (g : Fld) : (w.pairUpd f).get a g = w.get a g := rfl
@[simp] theorem x_iosUpd (f : IosSt → IosSt) : (w.iosUpd f).x = { w.x with ios := f w.x.ios } := rfl
@[simp] theorem rd_iosUpd (f : IosSt → IosSt) (a : Nat) : (w.iosUpd f).rd a = w.rd a := rfl
@[simp] theorem get_iosUpd (f : IosSt → IosSt) (a : Nat) (g : Fld) : (w.iosUpd f).get a g = w.get a g := rfl
@[simp] theorem x_netUpd (f : NetSt → NetSt) : (w.netUpd f).x = { w.x with net := f w.x.net } := rfl
@[simp] theorem rd_netUpd (f : NetSt → NetSt) (a : Nat) : (w.netUpd f).rd a = w.rd a := rfl
@[simp] theorem get_netUpd (f : NetSt → NetSt) (a : Nat) (g : Fld) : (w.netUpd f).get a g = w.get a g := rfl
@[simp] theorem x_xferUpd (f : XferSt → XferSt) : (w.xferUpd f).x = { w.x with xfer := f w.x.xfer } := rfl
@[simp] theorem rd_xferUpd (f : XferSt → XferSt) (a : Nat) : (w.xferUpd f).rd a = w.rd a := rfl
@[simp] theorem get_xferUpd (f : XferSt → XferSt) (a : Nat) (g : Fld) : (w.xferUpd f).get a g = w.get a g := rfl
@[simp] theorem x_lanternUpd (f : LanternSt → LanternSt) : (w.lanternUpd f).x = { w.x with lantern := f w.x.lantern } := rfl
@[simp] theorem rd_lanternUpd (f : LanternSt → LanternSt) (a : Nat) : (w.lanternUpd f).rd a = w.rd a := rfl
@[simp] theorem get_lanternUpd (f : LanternSt → LanternSt) (a : Nat) (g : Fld) : (w.lanternUpd f).get a g = w.get a g := rfl
@[simp] theorem x_slateUpd (f : SlateSt → SlateSt) : (w.slateUpd f).x = { w.x with slate := f w.x.slate } := rfl
@[simp] theorem rd_slateUpd (f : SlateSt → SlateSt) (a : Nat) : (w.slateUpd f).rd a = w.rd a := rfl
@[simp] theorem get_slateUpd (f : SlateSt → SlateSt) (a : Nat) (g : Fld) : (w.slateUpd f).get a g = w.get a g := rfl
@[simp] theorem x_taskUpd (f : TaskSt → TaskSt) : (w.taskUpd f).x = { w.x with task := f w.x.task } := rfl
@[simp] theorem rd_taskUpd (f : TaskSt → TaskSt) (a : Nat) : (w.taskUpd f).rd a = w.rd a := rfl
@[simp] theorem get_taskUpd (f : TaskSt → TaskSt) (a : Nat) (g : Fld) : (w.taskUpd f).get a g = w.get a g := rfl
@[simp] theorem x_evtUpd (f : EvtSt → EvtSt) : (w.evtUpd f).x = { w.x with evt := f w.x.evt } := rfl
@[simp] theorem rd_evtUpd (f : EvtSt → EvtSt) (a : Nat) : (w.evtUpd f).rd a = w.rd a := rfl
@[simp] theorem get_evtUpd (f : EvtSt → EvtSt) (a : Nat) (g : Fld) : (w.evtUpd f).get a g = w.get a g := rfl
@[simp] theorem x_safeUpd (f : SafeSt → SafeSt) : (w.safeUpd f).x = { w.x with safe := f w.x.safe } := rfl
@[simp] theorem rd_safeUpd (f : SafeSt → SafeSt) (a : Nat) : (w.safeUpd f).rd a = w.rd a := rfl
@[simp] theorem get_safeUpd (f : SafeSt → SafeSt) (a : Nat) (g : Fld) : (w.safeUpd f).get a g = w.get a g := rfl
@[simp] theorem x_timeUpd (f : TimeSt → TimeSt) : (w.timeUpd f).x = { w.x with time := f w.x.time } := rfl
@[simp] theorem rd_timeUpd (f : TimeSt → TimeSt) (a : Nat) : (w.timeUpd f).rd a = w.rd a := rfl
@[simp] theorem get_timeUpd (f : TimeSt → TimeSt) (a : Nat) (g : Fld) : (w.timeUpd f).get a g = w.get a g := rfl

end

end Sys2Proof.Laws
end

