-- ==== Sys2Proof/Laws/Tables.lean ====
section
/-! SUPPORT. Laws of the sparse tables beside the registers: what a changed table reads, in each block that keeps one. -/

namespace Sys2Proof.Laws

open Sys2Proof.Machine

/-- A table with one entry replaced reads it there, and elsewhere as before. -/
@[simp] theorem tabGet_tabSet {α : Type} (d : α) (t : List (Nat × α)) (n m : Nat) (v : α) :
    tabGet d (tabSet t n v) m = if n = m then v else tabGet d t m := by
  unfold tabSet
  rw [tabGet]
  split
  · rfl
  · rename_i h
    induction t with
    | nil => rfl
    | cons e t ih =>
      obtain ⟨k, u⟩ := e
      by_cases hk : k = n
      · rw [List.filter_cons_of_neg (by simp [hk]), ih, tabGet, if_neg (by omega)]
      · rw [List.filter_cons_of_pos (by simp [hk]), tabGet, tabGet, ih]

section
variable (w : Work) (n m : Nat)

@[simp] theorem isl_islSet (f : Isl → Isl) : (w.islSet n f).isl m = if n = m then f (w.isl n) else w.isl m := tabGet_tabSet ..
@[simp] theorem sen_senSet (f : Sen → Sen) : (w.senSet n f).sen m = if n = m then f (w.sen n) else w.sen m := tabGet_tabSet ..
@[simp] theorem dch_dchSet (f : DioCh → DioCh) : (w.dchSet n f).dch m = if n = m then f (w.dch n) else w.dch m := tabGet_tabSet ..
@[simp] theorem sfn_sfnSet (v u : Nat) (f : SFn → SFn) :
    (w.sfnSet v n f).sfn u m = if 8 * v + n = 8 * u + m then f (w.sfn v n) else w.sfn u m := tabGet_tabSet ..
@[simp] theorem sin_sinSet (f : SIn → SIn) : (w.sinSet n f).sin m = if n = m then f (w.sin n) else w.sin m := tabGet_tabSet ..
@[simp] theorem sout_soutSet (f : SOut → SOut) : (w.soutSet n f).sout m = if n = m then f (w.sout n) else w.sout m := tabGet_tabSet ..
@[simp] theorem lp_lpSet (f : LaneLoop → LaneLoop) : (w.lpSet n f).lp m = if n = m then f (w.lp n) else w.lp m := tabGet_tabSet ..
@[simp] theorem pa_paSet (f : PtAux → PtAux) : (w.paSet n f).pa m = if n = m then f (w.pa n) else w.pa m := tabGet_tabSet ..
@[simp] theorem trun_trunSet (f : TaskRun → TaskRun) : (w.trunSet n f).trun m = if n = m then f (w.trun n) else w.trun m := tabGet_tabSet ..

@[simp] theorem sout_sfnSet (v : Nat) (f : SFn → SFn) : (w.sfnSet v n f).sout m = w.sout m := rfl
@[simp] theorem sout_sinSet (f : SIn → SIn) : (w.sinSet n f).sout m = w.sout m := rfl
@[simp] theorem sfn_soutSet (v : Nat) (f : SOut → SOut) : (w.soutSet n f).sfn v m = w.sfn v m := rfl
@[simp] theorem sfn_sinSet (v : Nat) (f : SIn → SIn) : (w.sinSet n f).sfn v m = w.sfn v m := rfl
@[simp] theorem sin_soutSet (f : SOut → SOut) : (w.soutSet n f).sin m = w.sin m := rfl
@[simp] theorem sin_sfnSet (v : Nat) (f : SFn → SFn) : (w.sfnSet v n f).sin m = w.sin m := rfl

/-! No register changes with a table -/

@[simp] theorem rd_islSet (f : Isl → Isl) : (w.islSet n f).rd m = w.rd m := rfl
@[simp] theorem rd_senSet (f : Sen → Sen) : (w.senSet n f).rd m = w.rd m := rfl
@[simp] theorem rd_dchSet (f : DioCh → DioCh) : (w.dchSet n f).rd m = w.rd m := rfl
@[simp] theorem rd_dgrpSet (f : DioGrp → DioGrp) : (w.dgrpSet n f).rd m = w.rd m := rfl
@[simp] theorem rd_sfnSet (v : Nat) (f : SFn → SFn) : (w.sfnSet v n f).rd m = w.rd m := rfl
@[simp] theorem rd_sinSet (f : SIn → SIn) : (w.sinSet n f).rd m = w.rd m := rfl
@[simp] theorem rd_soutSet (f : SOut → SOut) : (w.soutSet n f).rd m = w.rd m := rfl
@[simp] theorem rd_lpSet (f : LaneLoop → LaneLoop) : (w.lpSet n f).rd m = w.rd m := rfl
@[simp] theorem rd_paSet (f : PtAux → PtAux) : (w.paSet n f).rd m = w.rd m := rfl
@[simp] theorem rd_trkSet (f : TrkSt → TrkSt) : (w.trkSet n f).rd m = w.rd m := rfl
@[simp] theorem rd_trunSet (f : TaskRun → TaskRun) : (w.trunSet n f).rd m = w.rd m := rfl

@[simp] theorem trk_trkSet (f : TrkSt → TrkSt) :
    (w.trkSet n f).trk m = if (n = 0 ↔ m = 0) then f (w.trk n) else w.trk m := by
  unfold Work.trkSet Work.trk
  by_cases hn : n = 0 <;> by_cases hm : m = 0 <;> simp [hn, hm]

end

/-! The safety section's outputs follow their conditions (R262) -/

/-- What one pass over the outputs leaves alone: all but each output's two switches. -/
theorem outStep_same (u : Work) (k : Nat) (a b : Bool) (n : Nat) :
    ({ (u.soutSet k fun o => { o with a := a, b := b }).sout n with a := false, b := false } : SOut)
      = { u.sout n with a := false, b := false } := by
  rw [sout_soutSet]; split
  · rename_i h; subst h; rfl
  · rfl

/-- Whether a processor wants an output does not depend on which switches are closed. -/
theorem outWanted_congr {u w : Work} (v n : Nat) (hr : ∀ a, u.rd a = w.rd a)
    (hs : ({ u.x.safe with outs := [] } : SafeSt) = { w.x.safe with outs := [] })
    (ho : ({ u.sout n with a := false, b := false } : SOut) = { w.sout n with a := false, b := false }) :
    u.outWanted v n = w.outWanted v n := by
  have hg : ∀ a f, u.get a f = w.get a f := fun a f => by unfold Work.get; rw [hr a]
  have hl : (u.sout n).locked = (w.sout n).locked := by have := congrArg SOut.locked ho; exact this
  have hv : (u.sout n).overload = (w.sout n).overload := by have := congrArg SOut.overload ho; exact this
  have hm : u.mappers n = w.mappers n := by
    unfold Work.mappers Work.fMaps Work.fType Work.fMask; simp only [hg]
  have hf : u.x.safe.fns = w.x.safe.fns := by have := congrArg SafeSt.fns hs; exact this
  have h1 : u.x.safe.ss = w.x.safe.ss := by have := congrArg SafeSt.ss hs; exact this
  have h2 : u.x.safe.dark = w.x.safe.dark := by have := congrArg SafeSt.dark hs; exact this
  have h3 : u.x.safe.wdStop = w.x.safe.wdStop := by have := congrArg SafeSt.wdStop hs; exact this
  unfold Work.outWanted Work.preqStop Work.sfn
  simp only [hm, hf, h1, h2, h3, hl, hv, hg]

/-- After `outsFollow` each switch of every output is closed just when its own processor wants the output; nothing else of the section
changes. -/
theorem outsFollow_spec (w : Work) :
    (∀ a, w.outsFollow.rd a = w.rd a) ∧ ({ w.outsFollow.x.safe with outs := [] } : SafeSt) = { w.x.safe with outs := [] }
      ∧ (∀ n, ({ w.outsFollow.sout n with a := false, b := false } : SOut) = { w.sout n with a := false, b := false })
      ∧ ∀ n < 4, (w.outsFollow.sout n).a = w.outsFollow.outWanted 0 n ∧ (w.outsFollow.sout n).b = w.outsFollow.outWanted 1 n := by
  have key : ∀ (l : List Nat) (u : Work),
      let z := u.each l fun w n =>
        let a := w.outWanted 0 n
        let b := w.outWanted 1 n
        w.soutSet n fun o => { o with a := a, b := b }
      (∀ a, z.rd a = u.rd a) ∧ ({ z.x.safe with outs := [] } : SafeSt) = { u.x.safe with outs := [] }
        ∧ (∀ n, ({ z.sout n with a := false, b := false } : SOut) = { u.sout n with a := false, b := false })
        ∧ ∀ n, (z.sout n).a = (if n ∈ l then u.outWanted 0 n else (u.sout n).a)
          ∧ (z.sout n).b = if n ∈ l then u.outWanted 1 n else (u.sout n).b := by
    intro l
    induction l with
    | nil => exact fun u => ⟨fun _ => rfl, rfl, fun _ => rfl, fun _ => ⟨rfl, rfl⟩⟩
    | cons k t ih =>
      intro u
      obtain ⟨a1, a2, a3, a4⟩ := ih (u.soutSet k fun o => { o with a := u.outWanted 0 k, b := u.outWanted 1 k })
      have b2 := outStep_same u k (u.outWanted 0 k) (u.outWanted 1 k)
      have c2 : ({ (u.soutSet k fun o => { o with a := u.outWanted 0 k, b := u.outWanted 1 k }).x.safe with outs := [] } : SafeSt)
          = { u.x.safe with outs := [] } := rfl
      refine ⟨fun a => a1 a, a2.trans c2, fun n => (a3 n).trans (b2 n), fun n => ?_⟩
      have e := a4 n
      have cw (v : Nat) : (u.soutSet k fun o => { o with a := u.outWanted 0 k, b := u.outWanted 1 k }).outWanted v n = u.outWanted v n :=
        outWanted_congr v n (fun _ => rfl) c2 (b2 n)
      rw [cw, cw] at e
      refine ⟨e.1.trans ?_, e.2.trans ?_⟩ <;>
      · by_cases hn : n ∈ t
        · rw [if_pos hn, if_pos (List.mem_cons_of_mem _ hn)]
        · rw [if_neg hn, sout_soutSet]
          by_cases hk : k = n
          · subst hk; rw [if_pos rfl, if_pos List.mem_cons_self]
          · rw [if_neg hk, if_neg]
            intro h
            rcases List.mem_cons.mp h with h | h
            · exact hk h.symm
            · exact hn h
  obtain ⟨h1, h2, h3, h4⟩ := key (List.range 4) w
  refine ⟨h1, h2, h3, fun n hn => ?_⟩
  have e := h4 n
  rw [if_pos (List.mem_range.mpr hn), if_pos (List.mem_range.mpr hn)] at e
  exact ⟨e.1.trans (outWanted_congr 0 n h1 h2 (h3 n)).symm, e.2.trans (outWanted_congr 1 n h1 h2 (h3 n)).symm⟩

end Sys2Proof.Laws
end

