-- ==== Sys2Proof/WellFormed.lean ====
section
/-! DEFINITION. Well-formed commands: those that name parts the module has, and give words within their fields. An ill-formed command
changes nothing or is answered by the rules for what is absent (log entry 132); nothing here stops one. -/

namespace Sys2Proof

/-! The parts the module has -/

/-- A loop island (R33: LOOP[00] to LOOP[47]). -/
def hasLoop (n : Nat) : Bool := decide (n < 48)
/-- A sensor group and a sensor channel (R33, R178). -/
def hasSensGroup (g : Nat) : Bool := decide (g < 4)
def hasSensor (ch : Nat) : Bool := decide (ch < 32)
/-- A digital group and a digital channel (R33, R215). -/
def hasDioGroup (g : Nat) : Bool := decide (g < 8)
def hasDigital (ch : Nat) : Bool := decide (ch < 64)
/-- A safety function, a safety input, a safety output, a test-pulse source (R249, R251). -/
def hasFunction (f : Nat) : Bool := decide (f < 8)
def hasSafeInput (i : Nat) : Bool := decide (i < 16)
def hasSafeOutput (n : Nat) : Bool := decide (n < 4)
def hasTestPulse (tp : Nat) : Bool := decide (tp < 4)
/-- A Form, a task, a loop controller (R392, R288, R327). -/
def hasForm (f : Nat) : Bool := decide (f < 4)
def hasTask (i : Nat) : Bool := decide (i < 4)
def hasController (n : Nat) : Bool := decide (n < 64)
/-- A bank, and a word of it (R403). -/
def hasBankWord (bank word : Nat) : Bool := decide (bank < 2) && decide (word < 4096)
/-- An alarm point and a group of points (R354). -/
def hasPoint (pt : Nat) : Bool := decide (pt < 1024)
def hasPointGroup (g : Nat) : Bool := decide (g < 64)
/-- A mailbox of a trunk and a word of the mailbox buffers (R475, R485). -/
def hasMailbox (m : Nat) : Bool := decide (m < 64)
def hasMailWord (i : Nat) : Bool := decide (i < 16)
/-- A panel key, a COM line, a Slate region or whole-picture update (R560, R552, R564). -/
def hasKey (k : Nat) : Bool := decide (k < 16)
def hasComLine (l : Nat) : Bool := decide (l < 16)
def hasRegion (r : Nat) : Bool := decide (r < 7)
/-- A trend stream (R537), a reference oscillator, a clock island (R575), a tamper flag (R604), a loop group (R608), a pair-link lane (R429). -/
def hasStream (s : Nat) : Bool := decide (1 ≤ s) && decide (s ≤ 7)
def hasReference (r : Nat) : Bool := decide (r < 2)
def hasIsland (i : Nat) : Bool := decide (i < 19)
def hasTamper (k : Nat) : Bool := decide (k < 3)
def hasLoopGroup (g : Nat) : Bool := decide (1 ≤ g) && decide (g ≤ 6)
def hasLane (l : Nat) : Bool := decide (l < 2)

/-- A pending access is of a task or of a host. -/
def hasPort : PortAccess → Bool
  | .task i => hasTask i
  | .host _ _ => true

/-! Fields -/

/-- A page number and a byte address of the register space (R33). -/
def isPage (page : Nat) : Bool := decide (page < 4096)
def isAddr (a : Nat) : Bool := decide (a < 2 ^ 24)
/-- An argument fits ARG of OPCMD (R54). -/
def isArg (arg : Nat) : Bool := decide (arg < 2 ^ 16)

/-- Well-formed commands. -/
def Instr.wf (i : Instr) : Bool :=
  match i with
  | .lbistDone f _ | .mbistDone f _ | .uncorrError f | .lanePresentation f _ | .formPresentation f _ | .resyncPassComplete f _ _
  | .recessTestEnd f _ _ | .standbyFormTestEnd f _ _ | .retest _ f | .eccCorrected f _ => hasForm f
  | .regWrite _ a _ | .latchedCounterRead _ a | .paramWrite _ a _ | .read _ _ a _ | .write _ _ a _ => isAddr a
  | .gateCloseComplete page pending => isPage page && pending.all hasPort
  | .pageEnable _ page | .gateClose _ page | .softReset _ page | .lockReq _ page | .pgkeyWrite _ page _
  | .keyLockoutEnd page | .unlockTimeout page | .irqsetWrite _ page _ | .opAbort _ page | .opAbortSampled page | .opTimeout page => isPage page
  | .verify _ a | .commit _ a | .start _ a | .withhold _ a | .reset _ a | .clearHealth _ a | .seal _ a | .setpw _ a | .run _ a | .stop _ a
  | .hold _ a | .forceSet _ a | .forceClr _ a | .forceClrall _ a | .olcApply _ a | .recessNow _ a | .swap _ a | .rebase _ a | .settime _ a
  | .acceptstep _ a | .freeze _ a | .thaw _ a | .clear _ a | .eprel _ a | .pullImage _ a | .pushEvents _ a | .pullChangeset _ a | .pullFw _ a
  | .activateFw _ a | .setimgkey _ a | .userset _ a | .lamptest _ a | .redraw _ a | .clean _ a | .measure _ a | .switch _ a
  | .clrtamper _ a => isArg a
  | .islandLinkLost n | .islandDark n | .islandWake n _ | .wakeDone n _ _ | .tierDown n _ | .tierUp n _ | .loopSample n _ _ | .rbSample n _
  | .rbdevPersist n _ | .loopComparator n _ _ | .complianceSet n | .aholdEnter n | .aholdExit n | .pholdExpired n | .noregEnter n | .lsTrip n
  | .lsRetry n _ | .trimWrite _ n _ _ | .hartScanDue n | .hartTxStart n | .hartReply n _ _ _ _ _ | .hartBurst n _ _ _ _
  | .hartRspTimeout n _ | .hartTxAbort n => hasLoop n
  | .trim _ n a | .hartcmd _ n a => hasLoop n && isArg a
  | .scanStart g _ | .cjSlotEnd g _ _ | .railOff g | .railRetry g _ | .blankContact g _ => hasSensGroup g
  | .conversionEnd ch _ _ _ | .burnoutCheckEnd ch _ _ _ | .setclr _ ch | .blklong ch => hasSensor ch
  | .diFilterChange ch _ | .diWirebrk ch _ | .diRefillEnd ch | .outputOverload ch | .overloadRetry ch _ | .doDiagPersist ch _ _ => hasDigital ch
  | .groupShed g _ | .groupLinkLost g | .vfCut g _ | .vfRestore g _ | .dioStartTestEnd g _ | .vfQualified g | .vfWarn g _ | .outputRestore g
  | .vfack _ g => hasDioGroup g
  | .groupIslandDark dio g _ _ => if dio then hasDioGroup g else hasSensGroup g
  | .discrepancy f | .safetyResetButton f _ | .stopdlyExpired f | .graceLow f | .graceExpired f | .degClear f => hasFunction f
  | .tpPulse tp lows => hasTestPulse tp && lows.all hasSafeInput
  | .siDemand i _ => hasSafeInput i
  | .safetySelfCheck i => i.all hasSafeInput
  | .darkPulseTest n _ _ | .offStateTest n _ _ _ | .safeOutputOverload n | .extVoltage n _ | .extVoltageClear n => hasSafeOutput n
  | .taskOverrun i => hasTask i
  | .trap i alone => hasTask i && alone.all hasForm
  | .pvbadTimeout n => hasController n
  | .alarmDelayExpired pt _ _ | .chatterDown pt | .shelfExpired pt | .shelve _ pt _ | .unshelve _ pt | .oos _ pt | .inserv _ pt => hasPoint pt
  | .suprelExpired g => hasPointGroup g
  | .bankEccError bank word _ => hasBankWord bank word
  | .splitTestsDone passed => passed.all hasForm
  | .pairHeartbeatRx l _ | .pairLaneLost l => hasLane l
  | .mbTxreq _ _ m => hasMailbox m
  | .mbdataWrite _ _ i _ => hasMailWord i
  | .trendSample s => hasStream s
  | .panelKeyPress k | .keyStuck k | .panelKeyRelease k => hasKey k
  | .comOvercurrent l => hasComLine l
  | .slateUpdateStart r => hasRegion r
  | .refStopped r => hasReference r
  | .pllLockLoss i | .pllLockTimeout i => hasIsland i
  | .tamperEvent k => hasTamper k
  | .vlSupplyChange g _ => hasLoopGroup g
  | _ => true

end Sys2Proof
end

