-- ==== Sys2Proof/Tests/Slice0.lean ====
section
/-! SUPPORT. The model's own tests: for every statement of Certificates/Slice0/Obligations.lean that has hypotheses, states that meet the
hypotheses of each of its clauses; an ill-formed command for each check of WellFormed; and results of single commands on small states, as the
spec's rules give them. -/

namespace Sys2Proof

set_option Elab.async false

open Sys2Proof.Machine

/-! Small states -/

/-- The machine after reset, in a mode, with some fields of its registers put and the rest of its state changed by `f`. -/
def st (m : Mode) (r : List (Nat × Fld × Nat)) (f : Inner → Inner) : State :=
  { regs := r.foldl (fun l e => regsSet l e.1 (e.2.1.set (regsGet l e.1) e.2.2)) State.reset.regs, x := f { State.reset.x with mode := m },
    pending := [] }

/-- A page enabled. -/
def on (page : Nat) : Nat × Fld × Nat := (HDR.PGCTL page, HDR.PGCTL_EN, 1)

/-- An operation BUSY on a page. -/
def busy (page : Nat) : Nat × Fld × Nat := (HDR.OPSTAT page, HDR.OPSTAT_STATE, 1)

/-- The whole of a word. -/
def whole : Fld := ⟨0, 32⟩

/-- A host's session, number 7, of user 2 on the service port, Safety Officer. -/
def ses : Session := ⟨7, true, 2, 3, [], [], none, 0, 0, 0, 0, []⟩

/-- Session 7 is open. -/
def host (x : Inner) : Inner := { x with net := { sessions := [ses] } }

/-- The module is Standby, or Duty. -/
def stby (x : Inner) : Inner := { x with role := .standby }
def duty (x : Inner) : Inner := { x with role := .duty }

/-- The header and the directory of an image of four empty sections of the types 1 to 4 (R88), and the image signed with the factory key. -/
def imgHead : List Byte :=
  ascii "B960" ++ bytesOfNat 4 0x10000 ++ bytesOfNat 4 5 ++ bytesOfNat 4 128 ++ bytesOfNat 2 4 ++ bytesOfNat 14 0
    ++ ([1, 2, 3, 4].map fun t => bytesOfNat 4 t ++ bytesOfNat 4 0x60 ++ bytesOfNat 8 0).flatten
def imgBytes : List Byte := imgHead ++ hmac factorySecret imgHead

/-- A slot that holds it, with every block type at MAJOR 1 (R44). -/
def imgSlot : Slot := ⟨imgBytes, { revs := blockTypes.map fun t => (t, 1) }⟩

/-- A change set of one entry (R306): variable 5, type 1, the value 9. -/
def setBody : List Byte := bytesOfNat 1 1 ++ bytesOfNat 1 1 ++ bytesOfNat 2 0 ++ bytesOfNat 4 5 ++ bytesOfNat 8 9
def setBytes : List Byte :=
  ascii "OLC1" ++ bytesOfNat 4 0 ++ bytesOfNat 2 1 ++ bytesOfNat 2 0 ++ bytesOfNat 4 (crc32 setBody).toNat ++ setBody

/-- A trunk heartbeat, a pair heartbeat, a health report, a checkpoint. -/
def hb0 : Heartbeat := ⟨6, 0, 0, 0, 0, 0, 0⟩
def cp (words : List (Nat × Word)) : Checkpoint := { words := words.map fun e => ⟨0, e.1, e.2⟩ }

/-- What a Form presents: its checkpoint, signed over a compared set whose common part is empty, and a state hash. -/
def shw (f : Nat) (c : Checkpoint) (h : Nat) : Shown := ⟨f, c, ({} : Compared).signature c, BitVec.ofNat 128 h⟩

/-- Forms 0, 1 and 2 vote. -/
def voting : List (Nat × Fld × Nat) :=
  [(FORM.FSTAT 0, FORM.FSTAT_PLACE, plVoting), (FORM.FSTAT 1, FORM.FSTAT_PLACE, plVoting), (FORM.FSTAT 2, FORM.FSTAT_PLACE, plVoting)]

/-! WellFormed: an ill-formed command for each check, at the first value beyond its range -/

theorem test_ill_formed :
    ([.retest .program 4, .regWrite .program (2 ^ 24) 0, .pageEnable .program 4096, .verify .program (2 ^ 16), .islandDark 48,
      .trim .program 48 0, .trim .program 0 (2 ^ 16), .hartcmd .program 48 0, .railOff 4, .blklong 32, .diRefillEnd 64, .vfQualified 8,
      .groupIslandDark true 8 true 0, .groupIslandDark false 4 true 0, .discrepancy 8, .tpPulse 4 [], .tpPulse 0 [16], .siDemand 16 true,
      .safetySelfCheck (some 16), .extVoltageClear 4, .taskOverrun 4, .trap 4 none, .trap 0 (some 4), .pvbadTimeout 64, .shelfExpired 1024,
      .suprelExpired 64, .bankEccError 2 0 true, .bankEccError 0 4096 true, .splitTestsDone [4], .pairLaneLost 2, .mbTxreq .program true 64,
      .mbdataWrite .program true 16 0, .trendSample 0, .trendSample 8, .keyStuck 16, .comOvercurrent 16, .slateUpdateStart 7, .refStopped 2,
      .pllLockLoss 19, .tamperEvent 3, .vlSupplyChange 0 0, .vlSupplyChange 7 0] : List Instr).all (fun i => !i.wf) = true := by decide

/-- The same commands at the last value of their range are well formed. -/
theorem test_well_formed :
    ([.retest .program 3, .regWrite .program (2 ^ 24 - 1) 0, .pageEnable .program 4095, .verify .program (2 ^ 16 - 1), .islandDark 47,
      .trim .program 47 0, .railOff 3, .blklong 31, .diRefillEnd 63, .vfQualified 7, .groupIslandDark true 7 true 0,
      .groupIslandDark false 3 true 0, .discrepancy 7, .tpPulse 3 [15], .siDemand 15 true, .safetySelfCheck (some 15), .safetySelfCheck none,
      .extVoltageClear 3, .trap 3 (some 3), .pvbadTimeout 63, .shelfExpired 1023, .suprelExpired 63, .bankEccError 1 4095 true,
      .splitTestsDone [3], .pairLaneLost 1, .mbTxreq .program true 63, .mbdataWrite .program true 15 0, .trendSample 1, .trendSample 7,
      .keyStuck 15, .comOvercurrent 15, .slateUpdateStart 6, .refStopped 1, .pllLockLoss 18, .tamperEvent 2, .vlSupplyChange 1 0,
      .vlSupplyChange 6 0] : List Instr).all (fun i => i.wf) = true := by decide

/-! Single commands, with the results that the spec's rules and worked examples give -/

/-- The state that a command leaves. -/
def after (i : Instr) (s : State) : State :=
  match exec i s with
  | .next t => t
  | _ => s

/-- The addresses of chapter 00 and of the worked examples: SYS.OPCMD, LOOP[02].VALUE, LOOP[20].OUTVAL, SENS[2].S17.CFG, point 102. -/
theorem test_addresses :
    HDR.OPCMD 0 = 0x20 ∧ LOOP.VALUE 2 = 0x42050 ∧ LOOP.STAT 2 = 0x42058 ∧ LOOP.OUTVAL 20 = 0x54044 ∧ SCH.CFG 17 = 0x82140
      ∧ PT.PCFG 102 = 0x146600 := by decide

/-- The worked example of chapter 08: FCFG0[0] reads 0x1179_640A. -/
theorem test_fcfg0_fields :
    let v : Word := 0x1179640A
    SAFE.FCFG0_TYPE.get v = 1 ∧ SAFE.FCFG0_OUTMASK.get v = 1 ∧ SAFE.FCFG0_RESET.get v = 1 ∧ SAFE.FCFG0_RSTF.get v = 7
      ∧ SAFE.FCFG0_TPA.get v = 1 ∧ SAFE.FCFG0_TPB.get v = 1 ∧ SAFE.FCFG0_SIFILT.get v = 2 ∧ SAFE.FCFG0_CAT.get v = 1
      ∧ SAFE.FCFG0_DISC.get v = 10 := by decide

/-- The worked examples of chapters 14, 11 and 10: TRK[A].CFG 0x0028_1110; DLY, CHCFG1 and CHCFG2 of point 102. -/
theorem test_trk_cfg_fields :
    let v : Word := 0x00281110
    TRK.CFG_NODE.get v = 0x10 ∧ TRK.CFG_ARB.get v = 1 ∧ TRK.CFG_DATA.get v = 4 ∧ TRK.CFG_HBT.get v = 10 ∧ TRK.CFG_TERM.get v = 0 := by decide

theorem test_point_delay_fields :
    PT.DLY_OFFDLY.get 0x00320014 = 50 ∧ PT.DLY_ONDLY.get 0x00320014 = 20 ∧ PT.CHCFG1_CHCEIL.get 0x015E0064 = 350
      ∧ PT.CHCFG1_CHSTEP.get 0x015E0064 = 100 ∧ PT.CHCFG2_CHN.get 0x30780258 = 3 ∧ PT.CHCFG2_CHWIN.get 0x30780258 = 120
      ∧ PT.CHCFG2_CHQUIET.get 0x30780258 = 600 := by decide

/-- The check value of CRC-32 (R88, R306), and the first and last bytes of SHA-256 of "abc" (R88, R528), from their standards. -/
theorem test_crc32 : crc32 (ascii "123456789") = 0xCBF43926 := by decide +kernel
theorem test_sha256 : (sha256 (ascii "abc")).take 4 = [0xBA, 0x78, 0x16, 0xBF] ∧ (sha256 (ascii "abc")).drop 28 = [0xF2, 0x00, 0x15, 0xAD] := by
  decide +kernel

/-- CRC-24 of "123456789" (R462): the remainder of the division by hand. -/
theorem test_crc24 : crc24 (ascii "123456789") = 0xCAE6B7 := by decide +kernel

/-- Single-precision arithmetic (R334): 1 + 2 = 3; 1/3 rounds to 0x3EAA_AAAB; 3 × 0.5 = 1.5; the greatest finite number doubled is infinite. -/
theorem test_float :
    fAdd 0x3F800000 0x40000000 = 0x40400000 ∧ fDiv 0x3F800000 0x40400000 = 0x3EAAAAAB ∧ fMul 0x40400000 0x3F000000 = 0x3FC00000
      ∧ fAdd 0x7F7FFFFF 0x7F7FFFFF = 0x7F800000 := by decide +kernel

/-- R73: one feed at 17.5 V brings the module to Power-up, both below it do not. -/
theorem test_supply_rise : (after (.logicSupplyRise 0 17500) (st .off [] id)).x.mode = .powerUp := by decide +kernel
theorem test_supply_stays : (after (.logicSupplyRise 17499 17499) (st .off [] id)).x.mode = .off := by decide +kernel

/-- R19: with both feeds lost the module is Off. -/
theorem test_feeds_lost : (after .bothFeedsLost (st .run [] id)).x.mode = .off := by decide +kernel

/-- The worked example of chapter 17: a WRITE of 0x0000_0301 to SYS.OPCMD, SEQ 412, starts a Held module; resent with the same SEQ it is
answered again and not executed; with SEQ 413 it is refused. -/
def started : State := after (.write 7 412 0x20 [0x301]) (st .held [] fun x => { host x with img := { activeOk := true } })
theorem test_start : started.x.mode = .ready := by decide +kernel
theorem test_start_resent : (after (.write 7 412 0x20 [0x301]) started).x.out = started.x.out := by decide +kernel
theorem test_start_again :
    (after (.write 7 413 0x20 [0x301]) started).x.mode = .ready
      ∧ (after (.write 7 413 0x20 [0x301]) started).get (HDR.PGSTAT 0) HDR.PGSTAT_WREJ_CODE = rejState := by decide +kernel

/-- R104 in Run: WITHHOLD is refused with STATE. -/
theorem test_withhold_in_run :
    (after (.withhold (.host 7) 0) (st .run [] host)).get (HDR.PGSTAT 0) HDR.PGSTAT_WREJ_CODE = rejState := by decide +kernel

/-- The worked example of chapter 02: LOOP[07] accepts the Engineer key 0x3A7C; PGKEY.HOLDER reads 2. -/
theorem test_unlock :
    (after (.pgkeyWrite (.host 7) 0x47 0x00023A7C) (st .held [] fun x => { host x with pages := { keys := [(0x47, 2, 0x3A7C)] } })).get
      (HDR.PGKEY 0x47) HDR.PGKEY_HOLDER = 2 := by decide +kernel

/-- A wrong key unlocks nothing (R64). -/
theorem test_wrong_key :
    (after (.pgkeyWrite (.host 7) 0x47 0x00023A7D) (st .held [] fun x => { host x with pages := { keys := [(0x47, 2, 0x3A7C)] } })).get
      (HDR.PGKEY 0x47) HDR.PGKEY_HOLDER = 0 := by decide +kernel

/-- R36: a host's read of a closed gated page is a bus error (R531). -/
theorem test_closed_page :
    (after (.read 7 1 0x40040 1) (st .held [] host)).x.out = [.answer 7 1 stBus []] := by decide +kernel

/-- R51: a 1 written to IRQSTAT clears the bit, a 0 leaves it. -/
theorem test_irqstat :
    (after (.regWrite .program (HDR.IRQSTAT 0x18) 1) (st .held [on 0x18, (HDR.IRQSTAT 0x18, whole, 3)] id)).rd (HDR.IRQSTAT 0x18) = 2 := by
  decide +kernel

/-- The worked example of chapter 04: 3.80 mA, 38,000 counts, lies in the measuring range (R117): quality GOOD. -/
theorem test_loop_good :
    let s := st .run [on 0x42, (LOOP.CFG 2, LOOP.CFG_MODE, 1)] fun x => { x with loops := { isl := [(2, { st := isMeasure, zone := 0 })] } }
    (after (.loopSample 2 38000 0) s).get (LOOP.VALUE 2) LOOP.VALUE_I = 38000
      ∧ (after (.loopSample 2 38000 0) s).get (LOOP.STAT 2) LOOP.STAT_QUAL = qGood := by decide +kernel

/-- R117: 21.5 mA lies above the range. -/
theorem test_loop_high :
    let s := st .run [on 0x42, (LOOP.CFG 2, LOOP.CFG_MODE, 1)] fun x => { x with loops := { isl := [(2, { st := isMeasure, zone := 0 })] } }
    (after (.loopSample 2 215000 0) s).get (LOOP.STAT 2) LOOP.STAT_HIGHCUR = 1 := by decide +kernel

/-- R138: an unpaired output island that loses its link enters FAILLOW and sets LINKLOST; a paired one in REGULATE enters PHOLD. -/
theorem test_link_lost :
    let s := st .run [on 0x42, (LOOP.CFG 2, LOOP.CFG_MODE, 2)] fun x =>
      { x with loops := { isl := [(2, { st := isRegulate, mode := 2, link := true })] } }
    (island (after (.islandLinkLost 2) s) 2).st = isFailLow ∧ (after (.islandLinkLost 2) s).get (LOOP.STAT 2) LOOP.STAT_LINKLOST = 1 := by
  decide +kernel
theorem test_link_lost_paired :
    let s := st .run [on 0x42, (LOOP.CFG 2, LOOP.CFG_MODE, 2)] fun x =>
      { x with loops := { isl := [(2, { st := isRegulate, mode := 2, link := true, paired := true })] } }
    (island (after (.islandLinkLost 2) s) 2).st = isPhold := by decide +kernel

/-- The worked example of chapter 07: VF4 below 15.5 V cuts the group; 50 ms above 19.5 V with AUTOREST 0 leave it in AWAITACK; the release
of VFACK brings it UP. -/
theorem test_vf_cut :
    (after (.vfCut 3 15400) (st .run [on (dioPage 3)] id)).get (DIO.GSTAT 3) DIO.GSTAT_VSTATE = vsCut := by decide +kernel
theorem test_vf_await :
    let s := st .run [on (dioPage 3), (DIO.GSTAT 3, DIO.GSTAT_VSTATE, vsQualify), (DIO.GSTAT 3, DIO.GSTAT_NEVERUP, 0)] fun x =>
      { x with dio := { grp := [(3, { vf := 19600, needTest := false })] } }
    (after (.vfQualified 3) s).get (DIO.GSTAT 3) DIO.GSTAT_VSTATE = vsAwait := by decide +kernel
theorem test_vf_ack :
    let s := st .run [on (dioPage 3), (DIO.GSTAT 3, DIO.GSTAT_VSTATE, vsAwait)] id
    (after (.vfack .program 3) s).get (DIO.GSTAT 3) DIO.GSTAT_VSTATE = vsUp := by decide +kernel

/-- The worked example of chapter 08: with CAT 1 the opening of both stop inputs takes function 0 from RUN to STOPPING; when STOPDLY has
elapsed it is SAFE and its output off. -/
def estop : State :=
  st .run [(SAFE.FCFG0 0, whole, 0x1179640A), (SAFE.FCFG1 0, whole, 0x01F4003C), (SAFE.FCFG0 7, SAFE.FCFG0_TYPE, 6)] fun x =>
    { x with safe := { ss := ssActive, vs := 24000, fns := [(0, { st := fsRun }), (8, { st := fsRun })],
                       ins := [(0, { closed := true }), (8, { closed := true })], seen := [(0, { closed := true }), (8, { closed := true })],
                       outs := [(0, { a := true, b := true })] } }
def pressed : State := after (.siDemand 8 false) (after (.siDemand 0 false) estop)
theorem test_stop_pressed :
    ((begin pressed).sfn 0 0).st = fsStopping ∧ ((begin pressed).sfn 1 0).st = fsStopping ∧ ((begin pressed).sout 0).on = true := by
  decide +kernel
theorem test_stop_elapsed :
    let t := after (.stopdlyExpired 0) pressed
    ((begin t).sfn 0 0).st = fsSafe ∧ ((begin t).sfn 1 0).st = fsSafe ∧ ((begin t).sout 0).on = false := by decide +kernel

/-- R271: a section that goes dark de-energises its outputs. -/
theorem test_safety_dark : ((begin (after .safetyDark estop)).sout 0).on = false := by decide +kernel

/-- The worked example of chapter 16: OPCMD 0x0005_0101 freezes the recorder, 0x0000_0201 by the same host ends the freeze. -/
def frozen : State := after (.write 7 1 (HDR.OPCMD 0x14) [0x00050101]) (st .run [] host)
theorem test_freeze : frozen.get EVT.STAT EVT.STAT_FROZEN = 1 := by decide +kernel
theorem test_thaw :
    let t := after (.write 7 2 (HDR.OPCMD 0x14) [0x00000201]) frozen
    t.x.evt.draining = true ∨ t.get EVT.STAT EVT.STAT_FROZEN = 0 := by decide +kernel

/-- R513: FREEZE takes 60 s at most. -/
theorem test_freeze_range :
    (after (.freeze (.host 7) 61) (st .run [] host)).get (HDR.PGSTAT 0x14) HDR.PGSTAT_WREJ_CODE = rejRange := by decide +kernel

/-- The worked example of chapter 14: a node alone draws acknowledgement errors; at TEC 128 the trunk is PASSIVE. -/
theorem test_trunk_passive :
    let s := st .run [on 0x18, (TRK.STAT 0, TRK.STAT_STATE, tsActive), (TRK.ERR 0, TRK.ERR_TEC, 120)] id
    (after (.trunkError false .ack false 128 0) s).get (TRK.STAT 0) TRK.STAT_STATE = tsPassive := by decide +kernel
/-- R472: at TEC 256 it is BUSOFF. -/
theorem test_trunk_busoff :
    let s := st .run [on 0x18, (TRK.STAT 0, TRK.STAT_STATE, tsPassive), (TRK.ERR 0, TRK.ERR_TEC, 248)] id
    (after (.trunkError false .bit false 256 0) s).get (TRK.STAT 0) TRK.STAT_STATE = tsBusoff := by decide +kernel

/-- The worked example of chapter 19: REF0 stops: STOPPED and BAD, and the PLL islands switch to REF1, CORE first. -/
theorem test_ref_stopped :
    let t := after (.refStopped 0) (st .run [] id)
    t.get CLK.REFSTAT CLK.REFSTAT_REF0STOP = 1 ∧ t.get CLK.REFSTAT CLK.REFSTAT_REF0BAD = 1 ∧ t.x.clk.switching.head? = some (0, 1) := by
  decide +kernel

/-- R441: the Duty is not the one that hears RELINQUISH; a Standby in STBY_READY takes over. -/
theorem test_relinquish :
    let s := st .run [(PAIR.CFG, PAIR.CFG_PAIRED, 1), (PAIR.STAT, PAIR.STAT_PSTATE, psReady), (PAIR.STAT, PAIR.STAT_LINKUP, 1)] stby
    (after .relinquishRx s).get PAIR.STAT PAIR.STAT_PSTATE = psTaking := by decide +kernel

/-- R561: LAMPTEST takes 1 s to 60 s. -/
theorem test_lamptest_range :
    (after (.lamptest (.host 7) 61) (st .held [on lanternPage] host)).get (HDR.PGSTAT lanternPage) HDR.PGSTAT_WREJ_CODE = rejRange := by
  decide +kernel

/-- R604: a tamper event sets its flag. -/
theorem test_tamper : (after (.tamperEvent 0) .reset).get CUPOLA.TAMPER CUPOLA.TAMPER_COVER = 1 := by decide +kernel

/-- R412: a rotation is refused where no Form is IDLE. -/
theorem test_no_idle_form :
    (after (.recessNow (.host 7) 0) (st .run voting host)).get (HDR.OPSTAT proctorPage) HDR.OPSTAT_STATE = opFailed := by decide +kernel

/-- Idle time: 1 ms of operating time (log entry 5). -/
theorem test_idle :
    (match step (st .run [] id) with
      | .next t => (begin t).now
      | _ => 0) = 1 := by decide +kernel

/-- The table gives the commands no bits. -/
theorem test_no_bits : decodeTableWord 32 0 = none ∧ (State.reset.withFetchWord 32 0) = State.reset := by decide +kernel

/-! The hypotheses of every statement, clause by clause, are met -/

/-- States that meet the hypotheses of each clause of `AbsentChannelsChangeNothing`. -/
theorem witness_absent_channels_change_nothing :
    (∃ (s : State) (n : ℕ) (c : Instr), Quiet s ∧ 48 ≤ n ∧ c ∈ [Instr.islandLinkLost n, Instr.islandDark n, Instr.islandWake n 15000, Instr.wakeDone n true true, Instr.tierDown n 0, Instr.tierUp n 100000, Instr.loopSample n 0 0, Instr.rbSample n 0, Instr.rbdevPersist n true, Instr.loopComparator n 0 true, Instr.complianceSet n, Instr.aholdEnter n, Instr.aholdExit n, Instr.pholdExpired n, Instr.noregEnter n, Instr.lsTrip n, Instr.lsRetry n true, Instr.hartScanDue n, Instr.hartTxStart n, Instr.hartTxAbort n]) :=
  ⟨.reset, 48, .hartTxAbort 48, by decide +kernel, by decide +kernel, by simp⟩

/-- States that meet the hypotheses of each clause of `AccessesOfASession`. -/
theorem witness_accesses_of_a_session :
    (∃ (s : State) (id : ℕ) (seq : ℕ) (a : ℕ) (e : Session), Quiet s ∧ (begin s).session? id = some e ∧ (begin s).netOn e.usb = true ∧ e.seqRule seq = none ∧ (begin s).busError a = false ∧ kindOf (a / 4096) ≠ Kind.evw ∧ isHdr a = false ∧ (s.x.pages.latches.all fun l => decide (l.2.1 ≠ a)) = true)
    ∧ (∃ (s : State) (id : ℕ) (seq : ℕ) (a : ℕ) (e : Session), Quiet s ∧ (begin s).session? id = some e ∧ (begin s).netOn e.usb = true ∧ e.seqRule seq = none ∧ (begin s).busError a = true)
    ∧ (∃ (s : State) (id : ℕ) (seq : ℕ) (a : ℕ) (e : Session), Quiet s ∧ (begin s).session? id = some e ∧ (begin s).netOn e.usb = true ∧ e.seqRule seq = none ∧ (begin s).reachable (a / 4096) = true ∧ a = HDR.IRQEN (a / 4096))
    ∧ (∃ (s : State) (id : ℕ) (seq : ℕ) (a : ℕ) (e : Session), Quiet s ∧ (begin s).session? id = some e ∧ (begin s).netOn e.usb = true ∧ e.seqRule seq = none ∧ (begin s).busError a = false ∧ a ∈ wideCounters) :=
  ⟨⟨st .held [] host, 7, 1, SYS.STATE, ses, by decide +kernel⟩,
   ⟨st .held [] host, 7, 1, SYS.STATE + 1, ses, by decide +kernel⟩,
   ⟨st .held [] host, 7, 1, HDR.IRQEN 0, ses, by decide +kernel⟩,
   ⟨st .held [] host, 7, 1, CUPOLA.OPTIME, ses, by decide +kernel⟩⟩

/-- States that meet the hypotheses of each clause of `BelfryCommandsAreQueued`. -/
theorem witness_belfry_commands_are_queued :
    (∃ (s : State) (p : Party) (scope : ℕ) (n : ℕ), Quiet s ∧ BelfryTakes s p (bcmd 1 scope 0 n))
    ∧ (∃ (s : State) (p : Party), Quiet s ∧ BelfryTakes s p (bcmd 2 0 0 0))
    ∧ (∃ (s : State) (p : Party) (n : ℕ) (k : ℕ), Quiet s ∧ BelfryTakes s p (bcmd 3 0 k n))
    ∧ (∃ (s : State) (p : Party) (n : ℕ), Quiet s ∧ BelfryTakes s p (bcmd 4 0 0 n))
    ∧ (∃ (s : State) (p : Party) (n : ℕ), Quiet s ∧ BelfryTakes s p (bcmd 5 0 0 n))
    ∧ (∃ (s : State) (p : Party) (n : ℕ), Quiet s ∧ BelfryTakes s p (bcmd 6 0 0 n))
    ∧ (∃ (s : State) (p : Party) (scope : ℕ) (n : ℕ), Quiet s ∧ BelfryTakes s p (bcmd 7 scope 0 n))
    ∧ (∃ (s : State) (p : Party), Quiet s ∧ BelfryTakes s p (bcmd 8 0 0 0))
    ∧ (∃ (s : State) (p : Party), Quiet s ∧ BelfryTakes s p (bcmd 9 0 0 0))
    ∧ (∃ (s : State) (p : Party), Quiet s ∧ BelfryTakes s p (bcmd 10 0 0 0))
    ∧ (∃ (s : State) (p : Party) (k : ℕ), Quiet s ∧ BelfryTakes s p (bcmd 11 0 k 0))
    ∧ (∃ (s : State) (p : Party) (n : ℕ) (k : ℕ) (c : ℕ), Quiet s ∧ (begin s).usable belPage = true ∧ (begin s).present p = true ∧ (begin s).belRefusal (BelSrc.party p) (bcmd 3 0 k n) = some c)
    ∧ (∃ (s : State) (p : Party), Quiet s ∧ s.x.role = Role.standby ∧ (begin s).usable belPage = true ∧ (begin s).present p = true ∧ (begin s).belRefusal (BelSrc.party p) (bcmd 2 0 0 0) = none)
    ∧ (∃ (s : State) (n : ℕ) (b : Bool), Quiet s ∧ (begin s).trkHears (tn b) = true ∧ PageOn s belPage ∧ s.x.bel.recent = [] ∧ n ∈ (begin s).tnodes ∧ n ≠ 255 ∧ s.x.role ≠ Role.standby ∧ (begin s).belRefusal (BelSrc.trunk n) (bcmd 1 2 0 0) = none) :=
  ⟨⟨st .run [on belPage] host, .host 7, 1, 63, by decide +kernel⟩,
   ⟨st .run [on belPage] host, .host 7, by decide +kernel⟩,
   ⟨st .run [on belPage, (PT.PCFG 1007, PT.PCFG_EN, 1), (PT.PANEL 1007, PT.PANEL_SHMAX, 9)] host, .host 7, 1007, 9, by decide +kernel⟩,
   ⟨st .run [on belPage] host, .host 7, 1008, by decide +kernel⟩,
   ⟨st .run [on belPage, (PT.PCFG 1007, PT.PCFG_EN, 1)] host, .host 7, 1007, by decide +kernel⟩,
   ⟨st .run [on belPage] host, .host 7, 1023, by decide +kernel⟩,
   ⟨st .run [on belPage] host, .host 7, 0, 1023, by decide +kernel⟩,
   ⟨st .ready [on belPage] host, .program, by decide +kernel⟩,
   ⟨st .ready [on belPage] host, .program, by decide +kernel⟩,
   ⟨st .hold [on belPage] host, .program, by decide +kernel⟩,
   ⟨st .hold [on belPage] host, .host 7, 15, by decide +kernel⟩,
   ⟨st .run [on belPage, (PT.PCFG 1007, PT.PCFG_EN, 1), (PT.PANEL 1007, PT.PANEL_SHMAX, 9)] host, .host 7, 1007, 10, rejRange, by decide +kernel⟩,
   ⟨st .run [on belPage] (fun x => stby (host x)), .host 7, by decide +kernel⟩,
   ⟨st .run [on belPage, on (trkPage 1), (BELFRY.TNODE 0, BELFRY.TNODE_NODE3, 254)] id, 254, true, by decide +kernel⟩⟩

/-- States that meet the hypotheses of each clause of `BelfryPointTimers`. -/
theorem witness_belfry_point_timers :
    (∃ (s : State) (pt : ℕ) (k : ℕ), Quiet s ∧ (begin s).belOn = true ∧ s.x.role ≠ Role.standby ∧ pt < 1008 ∧ (begin s).ptOn pt = true ∧ 1 ≤ k ∧ k ≤ 6 ∧ k ∈ ((begin s).pa pt).act ∧ ((begin s).pa pt).raised = [] ∧ (begin s).supmode pt = 0)
    ∧ (∃ (s : State) (pt : ℕ) (k : ℕ), Quiet s ∧ (begin s).belOn = true ∧ s.x.role ≠ Role.standby ∧ pt < 1008 ∧ (begin s).ptOn pt = true ∧ 1 ≤ k ∧ k ≤ 6 ∧ k ∉ ((begin s).pa pt).act ∧ ((begin s).pa pt).raised = [k] ∧ (begin s).supmode pt = 0)
    ∧ (∃ (s : State) (pt : ℕ), Quiet s ∧ (begin s).belOn = true ∧ s.x.role ≠ Role.standby ∧ pt < 1008 ∧ (begin s).ptOn pt = true ∧ ((begin s).pa pt).shelfEnd ≠ none ∧ ((begin s).pa pt).oos = false ∧ ((begin s).pa pt).raised = [] ∧ s.x.bel.sup = [])
    ∧ (∃ (s : State) (pt : ℕ) (k : ℕ), Quiet s ∧ (begin s).belOn = true ∧ s.x.role ≠ Role.standby ∧ pt < 1008 ∧ (begin s).ptOn pt = true ∧ (∃ e ∈ s.x.bel.relEnd, e.1 = k) ∧ k < 63)
    ∧ (∃ (s : State) (pt : ℕ), Quiet s ∧ (begin s).belOn = true ∧ s.x.role ≠ Role.standby ∧ pt < 1008 ∧ (begin s).ptOn pt = true ∧ s.get (PT.CHCFG2 pt) PT.CHCFG2_CHN ≠ 0 ∧ (begin s).astate pt = asNorm ∧ (begin s).supmode pt = 0 ∧ s.get (PT.DLY pt) PT.DLY_OFFDLY < s.get (PT.OFFEFF pt) PT.OFFEFF_OFFEFF) :=
  ⟨⟨st .run [on belPage, (PT.PCFG 1007, PT.PCFG_EN, 1)] (fun x => { x with bel := { aux := [(1007, { act := [6] })] } }), 1007, 6, by decide +kernel⟩,
   ⟨st .run [on belPage, (PT.PCFG 0, PT.PCFG_EN, 1)] (fun x => { x with bel := { aux := [(0, { raised := [1] })] } }), 0, 1, by decide +kernel⟩,
   ⟨st .hold [on belPage, (PT.PCFG 3, PT.PCFG_EN, 1)] (fun x => { x with bel := { aux := [(3, { shelfEnd := some 5 })] } }), 3, by decide +kernel⟩,
   ⟨st .ready [on belPage, (PT.PCFG 0, PT.PCFG_EN, 1)] (fun x => { x with bel := { relEnd := [(62, 9)] } }), 0, 62, by decide +kernel⟩,
   ⟨st .run [on belPage, (PT.PCFG 5, PT.PCFG_EN, 1), (PT.CHCFG2 5, PT.CHCFG2_CHN, 3), (PT.OFFEFF 5, PT.OFFEFF_OFFEFF, 1)] id, 5, by decide +kernel⟩⟩

/-- States that meet the hypotheses of each clause of `BusErrorChangesNothing`. -/
theorem witness_bus_error_changes_nothing :
    (∃ (s : State) (a : ℕ), Quiet s ∧ (begin s).busError a = true) :=
  ⟨st .held [] id, 0x40040, by decide +kernel⟩

/-- States that meet the hypotheses of each clause of `BusOffRecovers`. -/
theorem witness_bus_off_recovers :
    (∃ (s : State) (b : Bool), Quiet s ∧ Live s ∧ PageOn s (trkPage (tn b)) ∧ (begin s).trkState (tn b) = tsBusoff) :=
  ⟨st .held [on (trkPage 1), (TRK.STAT 1, TRK.STAT_STATE, tsBusoff)] id, true, by decide +kernel⟩

/-- States that meet the hypotheses of each clause of `CallAndWatch`. -/
theorem witness_call_and_watch :
    (∃ (s : State), Quiet s ∧ (begin s).belOn = true ∧ s.x.role ≠ Role.standby ∧ s.x.bel.cstate = 1)
    ∧ (∃ (s : State), Quiet s ∧ (begin s).belOn = true ∧ s.x.role ≠ Role.standby ∧ s.x.bel.wstate = 1)
    ∧ (∃ (s : State), Quiet s ∧ (begin s).belOn = true ∧ s.x.role ≠ Role.standby ∧ s.x.bel.wstate = 2)
    ∧ (∃ (s : State), Quiet s ∧ (begin s).belOn = true ∧ s.x.role ≠ Role.standby ∧ (s.x.bel.cstate ≠ 0 ∨ s.x.bel.wstate ≠ 0))
    ∧ (∃ (s : State), Quiet s ∧ (begin s).belOn = true ∧ s.x.role ≠ Role.standby) :=
  ⟨⟨st .run [on belPage] (fun x => { x with bel := { cstate := 1 } }), by decide +kernel⟩,
   ⟨st .run [on belPage] (fun x => { x with bel := { wstate := 1 } }), by decide +kernel⟩,
   ⟨st .run [on belPage] (fun x => { x with bel := { wstate := 2 } }), by decide +kernel⟩,
   ⟨st .run [on belPage] (fun x => { x with bel := { cstate := 2 } }), by decide +kernel⟩,
   ⟨st .run [on belPage] id, by decide +kernel⟩⟩

/-- States that meet the hypotheses of each clause of `ChangesOfDuty`. -/
theorem witness_changes_of_duty :
    (∃ (s : State), Quiet s ∧ Live s ∧ (begin s).paired = true ∧ s.x.role = Role.standby ∧ ((begin s).pstate = psReady ∨ (begin s).pstate = psCold) ∧ (begin s).dutyState = none ∧ (begin s).linkUp = true ∧ s.get PAIR.STAT PAIR.STAT_CLAIMABLE = 1)
    ∧ (∃ (s : State), Quiet s ∧ Live s ∧ (begin s).paired = true ∧ s.x.role = Role.standby ∧ (begin s).pstate = psReady ∧ (begin s).linkUp = false ∧ (begin s).evidence 0 = true ∧ (begin s).evidence 1 = true ∧ s.get PAIR.STAT PAIR.STAT_CLAIMABLE = 1 ∧ s.get PAIR.CFG PAIR.CFG_COLDTAKE = 1)
    ∧ (∃ (s : State), Quiet s ∧ Live s ∧ (begin s).paired = true ∧ s.x.role = Role.standby ∧ (begin s).pstate = psReady ∧ (begin s).linkUp = true)
    ∧ (∃ (s : State), Quiet s ∧ Live s ∧ (begin s).paired = true ∧ s.x.role = Role.standby ∧ (begin s).pstate = psTaking)
    ∧ (∃ (s : State), Quiet s ∧ Live s ∧ (begin s).paired = true ∧ s.x.role = Role.duty ∧ (begin s).pstate = psDuty ∧ (begin s).linkUp = false ∧ (begin s).noAck 0 = true ∧ (begin s).noAck 1 = true ∧ s.get PAIR.PEER PAIR.PEER_PCLAIM = 1)
    ∧ (∃ (s : State), Quiet s ∧ Live s ∧ (begin s).paired = true ∧ s.x.role = Role.duty ∧ (begin s).pstate = psDuty)
    ∧ (∃ (s : State) (p : Party) (e : ℕ) (r : ℕ), Quiet s ∧ Live s ∧ (begin s).paired = true ∧ MayStart s p pairPage 2 [Mode.ready, Mode.run, Mode.hold] ∧ e ≤ 1 ∧ (begin s).swapJudge e = Sum.inl r)
    ∧ (∃ (s : State) (p : Party) (e : ℕ) (c : Bool), Quiet s ∧ Live s ∧ (begin s).paired = true ∧ MayStart s p pairPage 2 [Mode.ready, Mode.run, Mode.hold] ∧ e ≤ 1 ∧ (begin s).swapJudge e = Sum.inr c)
    ∧ (∃ (s : State), Quiet s ∧ Live s ∧ (begin s).paired = true ∧ s.x.role = Role.duty ∧ (begin s).pstate = psDuty ∧ (begin s).linkUp = true ∧ (begin s).inService = true ∧ (begin s).partnerReady = true ∧ s.x.pair.swap = none ∧ Option.map (fun x => x.layout) s.x.pair.report = some (begin s).ownLayout)
    ∧ (∃ (s : State), Quiet s ∧ Live s ∧ (begin s).paired = true ∧ s.x.role = Role.standby ∧ (begin s).pstate = psReady ∧ (begin s).linkUp = true ∧ (begin s).inService = true ∧ s.get PAIR.STAT PAIR.STAT_MATCH = 1 ∧ (begin s).mage = 0)
    ∧ (∃ (s : State), Quiet s ∧ Live s ∧ (begin s).paired = true ∧ s.x.role = Role.duty ∧ (begin s).pstate = psOut ∧ Option.map (fun x => x.heard) s.x.pair.swap = some true)
    ∧ (∃ (s : State), Quiet s ∧ Live s ∧ (begin s).paired = true ∧ s.x.role = Role.duty ∧ (begin s).pstate = psOut ∧ Option.map (fun x => x.heard) s.x.pair.swap = some false)
    ∧ (∃ (s : State), Quiet s ∧ Live s ∧ (begin s).paired = true ∧ (begin s).settleOk = true ∧ s.x.pair.settleFrom ≠ none) :=
  ⟨⟨st .ready [(PAIR.CFG, PAIR.CFG_PAIRED, 1), (PAIR.STAT, PAIR.STAT_PSTATE, psCold), (PAIR.STAT, PAIR.STAT_LINKUP, 1), (PAIR.STAT, PAIR.STAT_CLAIMABLE, 1)] stby, by decide +kernel⟩,
   ⟨st .ready [(PAIR.CFG, PAIR.CFG_PAIRED, 1), (PAIR.STAT, PAIR.STAT_PSTATE, psReady), (PAIR.STAT, PAIR.STAT_CLAIMABLE, 1), (PAIR.CFG, PAIR.CFG_COLDTAKE, 1), on (trkPage 0), on (trkPage 1), (TRK.STAT 0, TRK.STAT_STATE, tsActive), (TRK.STAT 1, TRK.STAT_STATE, tsPassive)] (fun x => { x with role := .standby, pair := { dutyAt := some 0 }, trkA := { ackSince := true }, trkB := { ackSince := true } }), by decide +kernel⟩,
   ⟨st .ready [(PAIR.CFG, PAIR.CFG_PAIRED, 1), (PAIR.STAT, PAIR.STAT_PSTATE, psReady), (PAIR.STAT, PAIR.STAT_LINKUP, 1)] stby, by decide +kernel⟩,
   ⟨st .ready [(PAIR.CFG, PAIR.CFG_PAIRED, 1), (PAIR.STAT, PAIR.STAT_PSTATE, psTaking)] stby, by decide +kernel⟩,
   ⟨st .run [(PAIR.CFG, PAIR.CFG_PAIRED, 1), (PAIR.STAT, PAIR.STAT_PSTATE, psDuty), (PAIR.PEER, PAIR.PEER_PCLAIM, 1)] duty, by decide +kernel⟩,
   ⟨st .run [(PAIR.CFG, PAIR.CFG_PAIRED, 1), (PAIR.STAT, PAIR.STAT_PSTATE, psDuty)] duty, by decide +kernel⟩,
   ⟨st .run [(PAIR.CFG, PAIR.CFG_PAIRED, 1), on pairPage] (fun x => duty (host x)), .host 7, 1, 0x81, by decide +kernel⟩,
   ⟨st .run [(PAIR.CFG, PAIR.CFG_PAIRED, 1), on pairPage, (PAIR.STAT, PAIR.STAT_LINKUP, 1), (PAIR.STAT, PAIR.STAT_STBYRDY, 1)] (fun x => stby (host x)), .host 7, 0, false, by decide +kernel⟩,
   ⟨st .run [(PAIR.CFG, PAIR.CFG_PAIRED, 1), (PAIR.STAT, PAIR.STAT_PSTATE, psDuty), (PAIR.STAT, PAIR.STAT_LINKUP, 1)] (fun x => { x with role := .duty, pair := { report := some ⟨6, 0, true, true, 15, 0, 0, 0, 0⟩ } }), by decide +kernel⟩,
   ⟨st .run [(PAIR.CFG, PAIR.CFG_PAIRED, 1), (PAIR.STAT, PAIR.STAT_PSTATE, psReady), (PAIR.STAT, PAIR.STAT_LINKUP, 1), (PAIR.STAT, PAIR.STAT_MATCH, 1), (PAIR.MIRST, PAIR.MIRST_MAGE, 0)] stby, by decide +kernel⟩,
   ⟨st .run [(PAIR.CFG, PAIR.CFG_PAIRED, 1), (PAIR.STAT, PAIR.STAT_PSTATE, psOut)] (fun x => { x with role := .duty, pair := { swap := some ⟨false, 0, 0, 0, true⟩ } }), by decide +kernel⟩,
   ⟨st .run [(PAIR.CFG, PAIR.CFG_PAIRED, 1), (PAIR.STAT, PAIR.STAT_PSTATE, psOut)] (fun x => { x with role := .duty, pair := { swap := some ⟨false, 0, 0, 0, false⟩ } }), by decide +kernel⟩,
   ⟨st .run [(PAIR.CFG, PAIR.CFG_PAIRED, 1), (PAIR.CFG, PAIR.CFG_PREF, 1), (PAIR.CFG, PAIR.CFG_AUTORET, 1), (PAIR.STAT, PAIR.STAT_PSTATE, psReady), (PAIR.STAT, PAIR.STAT_LINKUP, 1)] (fun x => { x with role := .standby, pair := { settleFrom := some 0, peer := some ⟨4, 1, 6, 0, true, 0, 0, 0⟩ } }), by decide +kernel⟩⟩

/-- States that meet the hypotheses of each clause of `ClockCommands`. -/
theorem witness_clock_commands :
    (∃ (s : State) (n : ℕ), Quiet s ∧ Live s ∧ s.x.mode ≠ Mode.powerUp ∧ n < 2 ∧ s.get CLK.REFSTAT (refStopFld n) = 0 ∧ (begin s).refBad 0 = false ∧ (begin s).refBad 1 = false)
    ∧ (∃ (s : State) (n : ℕ), Quiet s ∧ Live s ∧ s.x.mode ≠ Mode.powerUp ∧ n < 2 ∧ s.get CLK.REFSTAT (refStopFld n) = 0 ∧ (begin s).refBad n = false ∧ (begin s).refBad (1 - n) = true)
    ∧ (∃ (s : State) (d : ℤ) (e : ℤ), Quiet s ∧ Live s ∧ s.x.mode ≠ Mode.powerUp ∧ (begin s).refBad 0 = false ∧ (begin s).refBad 1 = false ∧ (d - e).natAbs ≤ 2000 ∧ (d.natAbs ≤ 2000 ∨ e.natAbs ≤ 2000))
    ∧ (∃ (s : State) (d : ℤ) (e : ℤ), Quiet s ∧ Live s ∧ s.x.mode ≠ Mode.powerUp ∧ (begin s).refBad 0 = false ∧ (begin s).refBad 1 = false ∧ 2000 < (d - e).natAbs ∧ 2000 < d.natAbs ∧ e.natAbs ≤ 2000 ∧ s.get CLK.REFSTAT CLK.REFSTAT_JUDGEBAD = 0)
    ∧ (∃ (s : State) (d : ℤ) (e : ℤ), Quiet s ∧ Live s ∧ s.x.mode ≠ Mode.powerUp ∧ (begin s).refBad 0 = false ∧ (begin s).refBad 1 = false ∧ (d - e).natAbs ≤ 2000 ∧ 2000 < d.natAbs ∧ 2000 < e.natAbs)
    ∧ (∃ (s : State) (i : ℕ) (r : ℕ) (rest : List (ℕ × ℕ)), Quiet s ∧ Live s ∧ s.x.mode ≠ Mode.powerUp ∧ s.x.clk.switching = (i, r) :: rest ∧ i < 19 ∧ r < 2 ∧ i ≠ 10 ∧ i ≠ 11)
    ∧ (∃ (s : State) (n : ℕ), Quiet s ∧ Live s ∧ s.x.mode ≠ Mode.powerUp ∧ clkCode n = true)
    ∧ (∃ (s : State) (n : ℕ), Quiet s ∧ Live s ∧ s.x.mode ≠ Mode.powerUp ∧ n < 19 ∧ s.get CLK.LOCKMAP { lo := n, w := 1 } = 1)
    ∧ (∃ (s : State) (n : ℕ), Quiet s ∧ Live s ∧ s.x.mode ≠ Mode.powerUp ∧ n < 19 ∧ s.x.clk.losing = [(n, false)] ∧ (begin s).refBad (1 - (begin s).refOf n) = false)
    ∧ (∃ (s : State) (n : ℕ), Quiet s ∧ Live s ∧ s.x.mode ≠ Mode.powerUp ∧ (n = 0 ∨ 5 ≤ n ∧ n ≤ 9) ∧ s.x.clk.losing = [(n, true)])
    ∧ (∃ (s : State) (p : Party), Quiet s ∧ Live s ∧ s.x.mode ≠ Mode.powerUp ∧ MayStart s p clkPage 1 anyButPowerUp ∧ (begin s).clockRuns (s.get CLK.FMCTL CLK.FMCTL_BASE) = true ∧ (begin s).clockRuns (s.get CLK.FMCTL CLK.FMCTL_TARGET) = true)
    ∧ (∃ (s : State), Quiet s ∧ Live s ∧ s.x.mode ≠ Mode.powerUp ∧ (begin s).opBusy clkPage = true ∧ s.get (HDR.OPSTAT clkPage) HDR.OPSTAT_OP = 1)
    ∧ (∃ (s : State) (p : Party) (n : ℕ) (k : ℕ), Quiet s ∧ Live s ∧ s.x.mode ≠ Mode.powerUp ∧ MayStart s p clkPage 2 anyButSelfTest ∧ n < 2 ∧ k < 19 ∧ (begin s).refBad n = true)
    ∧ (∃ (s : State) (p : Party) (n : ℕ) (k : ℕ), Quiet s ∧ Live s ∧ s.x.mode ≠ Mode.powerUp ∧ MayStart s p clkPage 2 anyButSelfTest ∧ n < 2 ∧ k < 19 ∧ (begin s).refBad n = false ∧ (begin s).refOf k ≠ n ∧ s.x.clk.switching = [])
    ∧ (∃ (s : State) (p : Party) (n : ℕ) (k : ℕ), Quiet s ∧ Live s ∧ s.x.mode ≠ Mode.powerUp ∧ MayStart s p clkPage 2 anyButSelfTest ∧ n < 2 ∧ k < 19 ∧ (begin s).refBad n = false ∧ (begin s).refOf k = n ∧ s.x.clk.switching = []) :=
  ⟨⟨st .held [] id, 1, by decide +kernel⟩,
   ⟨st .held [(CLK.REFSTAT, refBadFld 0, 1)] id, 1, by decide +kernel⟩,
   ⟨st .held [] id, 2000, 0, by decide +kernel⟩,
   ⟨st .held [] id, 2001, 0, by decide +kernel⟩,
   ⟨st .held [] id, 2001, 2001, by decide +kernel⟩,
   ⟨st .held [] (fun x => { x with clk := { switching := [(18, 1)] } }), 18, 1, [], by decide +kernel⟩,
   ⟨st .held [] id, 93, by decide +kernel⟩,
   ⟨st .held [(CLK.LOCKMAP, ⟨18, 1⟩, 1)] id, 18, by decide +kernel⟩,
   ⟨st .held [] (fun x => { x with clk := { losing := [(18, false)] } }), 18, by decide +kernel⟩,
   ⟨st .held [] (fun x => { x with clk := { losing := [(9, true)] } }), 9, by decide +kernel⟩,
   ⟨st .held [on clkPage] id, .program, by decide +kernel⟩,
   ⟨st .held [busy clkPage, (HDR.OPSTAT clkPage, HDR.OPSTAT_OP, 1)] id, by decide +kernel⟩,
   ⟨st .held [on clkPage, (CLK.REFSTAT, refBadFld 1, 1)] host, .host 7, 1, 18, by decide +kernel⟩,
   ⟨st .held [on clkPage] host, .host 7, 1, 18, by decide +kernel⟩,
   ⟨st .held [on clkPage] host, .host 7, 0, 18, by decide +kernel⟩⟩

/-- States that meet the hypotheses of each clause of `ClosedGatesAnswerBusErrors`. -/
theorem witness_closed_gates_answer_bus_errors :
    (∃ (page : ℕ), page < 4096 ∧ capBit (kindOf (ctlPage page)) 4 = true)
    ∧ (∃ (page : ℕ) (s : State) (id : ℕ) (seq : ℕ) (a : ℕ) (e : Session), page < 4096 ∧ capBit (kindOf (ctlPage page)) 4 = true ∧ Quiet s ∧ Live s ∧ s.get (HDR.PGCTL (ctlPage page)) HDR.PGCTL_EN = 0 ∧ (begin s).session? id = some e ∧ (begin s).netOn e.usb = true ∧ e.seqRule seq = none ∧ a / 4096 = page ∧ (isWindow page = true ∨ 64 ≤ a % 4096))
    ∧ (∃ (page : ℕ) (s : State) (id : ℕ) (seq : ℕ) (a : ℕ) (e : Session), page < 4096 ∧ capBit (kindOf (ctlPage page)) 4 = true ∧ Quiet s ∧ Live s ∧ s.get (HDR.PGCTL (ctlPage page)) HDR.PGCTL_EN = 0 ∧ (begin s).session? id = some e ∧ (begin s).netOn e.usb = true ∧ e.seqRule seq = none ∧ a / 4096 = page ∧ isWindow page = false ∧ a % 4096 < 64 ∧ a % 4 = 0) :=
  ⟨⟨0x40, by decide +kernel⟩,
   ⟨0x40, st .held [] host, 7, 1, 0x40040, ses, by decide +kernel⟩,
   ⟨0x40, st .held [] host, 7, 1, 0x4003C, ses, by decide +kernel⟩⟩

/-- States that meet the hypotheses of each clause of `ClrtamperClearsTheFlags`. -/
theorem witness_clrtamper_clears_the_flags :
    (∃ (s : State) (p : Party), Quiet s ∧ MayStart s p cupolaPage 2 [Mode.held, Mode.ready, Mode.run, Mode.hold]) :=
  ⟨st .held [on cupolaPage] host, .host 7, by decide +kernel⟩

/-- States that meet the hypotheses of each clause of `ControlCommands`. -/
theorem witness_control_commands :
    (∃ (s : State), Quiet s ∧ (begin s).executes = true ∧ PageOn s ctlPageNo)
    ∧ (∃ (s : State), Quiet s ∧ (begin s).executes = false)
    ∧ (∃ (s : State) (f : ℕ), Quiet s ∧ s.x.mode = Mode.run ∧ s.x.role ≠ Role.standby ∧ f < 4 ∧ (begin s).place f = plVoting ∧ s.x.ctl.isOpen = true ∧ f ∉ s.x.ctl.agree ∧ f ∉ s.x.ctl.odd ∧ s.x.ctl.released = false ∧ (List.filter (s.x.ctl.agree ++ [f]).contains (begin s).voters).length < needed (begin s).voters.length ∧ ((begin s).voters.all fun g => (s.x.ctl.agree ++ [f]).contains g || s.x.ctl.odd.contains g) = false)
    ∧ (∃ (s : State) (f : ℕ), Quiet s ∧ s.x.mode = Mode.run ∧ s.x.role ≠ Role.standby ∧ f < 4 ∧ (begin s).place f = plVoting ∧ s.x.ctl.isOpen = true ∧ f ∉ s.x.ctl.agree ∧ f ∉ s.x.ctl.odd ∧ s.x.ctl.released = false ∧ needed (begin s).voters.length ≤ (List.filter (s.x.ctl.agree ++ [f]).contains (begin s).voters).length ∧ s.x.ctl.odd = [] ∧ s.x.proc.heldLane = [])
    ∧ (∃ (s : State) (f : ℕ), Quiet s ∧ s.x.mode = Mode.run ∧ s.x.role ≠ Role.standby ∧ f < 4 ∧ (begin s).place f = plVoting ∧ s.x.ctl.isOpen = true ∧ f ∉ s.x.ctl.agree ∧ f ∉ s.x.ctl.odd ∧ s.x.ctl.released = true ∧ s.x.ctl.odd = [] ∧ 3 ≤ (begin s).voters.length ∧ s.x.proc.isOpen = false ∧ s.x.proc.rot = none)
    ∧ (∃ (s : State), Quiet s ∧ s.x.mode = Mode.run ∧ s.x.role ≠ Role.standby ∧ s.x.ctl.isOpen = true ∧ (∀ g ∈ (begin s).voters, g ∈ s.x.ctl.agree) ∧ s.x.ctl.released = true ∧ s.x.ctl.odd = [])
    ∧ (∃ (s : State) (n : ℕ), Quiet s ∧ n < 64 ∧ (begin s).executes = true ∧ (begin s).lpOn n = true ∧ ((begin s).lp n).flags.testBit 0 = true ∧ s.get (RAM.LCFG2 n) RAM.LCFG2_PVBADACT = 1 ∧ (((begin s).lp n).mode = lmAuto ∨ ((begin s).lp n).mode = lmCasc))
    ∧ (∃ (s : State) (p : Party) (n : ℕ) (v : Word), Quiet s ∧ n < 64 ∧ (begin s).present p = true ∧ (begin s).busError (RAM.KP n) = false ∧ (begin s).wordRefusal p (RAM.KP n) v = none)
    ∧ (∃ (s : State) (p : Party), Quiet s ∧ (begin s).usable ctlPageNo = true ∧ (begin s).present p = true ∧ 1 ≤ (begin s).roleOf p) :=
  ⟨⟨st .run [on ctlPageNo] id, by decide +kernel⟩,
   ⟨st .hold [on ctlPageNo] id, by decide +kernel⟩,
   ⟨st .run [(FORM.FSTAT 0, FORM.FSTAT_PLACE, 1), (FORM.FSTAT 1, FORM.FSTAT_PLACE, 1), (FORM.FSTAT 3, FORM.FSTAT_PLACE, 1)] (fun x => { x with ctl := { isOpen := true } }), 3, by decide +kernel⟩,
   ⟨st .run [(FORM.FSTAT 0, FORM.FSTAT_PLACE, 1), (FORM.FSTAT 1, FORM.FSTAT_PLACE, 1), (FORM.FSTAT 3, FORM.FSTAT_PLACE, 1)] (fun x => { x with ctl := { isOpen := true, agree := [1] } }), 3, by decide +kernel⟩,
   ⟨st .run [(FORM.FSTAT 0, FORM.FSTAT_PLACE, 1), (FORM.FSTAT 1, FORM.FSTAT_PLACE, 1), (FORM.FSTAT 3, FORM.FSTAT_PLACE, 1)] (fun x => { x with ctl := { isOpen := true, agree := [0, 1], released := true } }), 3, by decide +kernel⟩,
   ⟨st .run [(FORM.FSTAT 1, FORM.FSTAT_PLACE, 1)] (fun x => { x with ctl := { isOpen := true, agree := [1], released := true } }), by decide +kernel⟩,
   ⟨st .run [on ctlPageNo, (RAM.LCFG 63, RAM.LCFG_EN, 1), (RAM.LCFG2 63, RAM.LCFG2_PVBADACT, 1)] (fun x => { x with ctl := { loops := [(63, { mode := lmCasc, flags := 1 })] } }), 63, by decide +kernel⟩,
   ⟨st .run [on ctlPageNo] host, .host 7, 63, 0, by decide +kernel⟩,
   ⟨st .run [on ctlPageNo] id, .program, by decide +kernel⟩⟩

/-- States that meet the hypotheses of each clause of `DigitalChannelCommands`. -/
theorem witness_digital_channel_commands :
    (∃ (s : State) (ch : ℕ) (l : Bool), Quiet s ∧ ch < 64 ∧ (begin s).dioLive (ch / 8) = true ∧ (begin s).dioMode ch = 1 ∧ ((begin s).dgrp (ch / 8)).dark = false ∧ ((begin s).dch ch).filt = !l)
    ∧ (∃ (s : State) (ch : ℕ), Quiet s ∧ ch < 64 ∧ (begin s).dioLive (ch / 8) = true ∧ (begin s).dioMode ch = 1 ∧ ((begin s).dgrp (ch / 8)).dark = false ∧ s.get (DCH.CFG ch) DCH.CFG_WBEN = 1)
    ∧ (∃ (s : State) (ch : ℕ), Quiet s ∧ ch < 64 ∧ (begin s).dioLive (ch / 8) = true ∧ ((begin s).dch ch).refill = true)
    ∧ (∃ (s : State) (ch : ℕ), Quiet s ∧ ch < 64 ∧ (begin s).dioLive (ch / 8) = true ∧ (begin s).dioEff ch = true)
    ∧ (∃ (s : State) (ch : ℕ), Quiet s ∧ ch < 64 ∧ (begin s).dioLive (ch / 8) = true ∧ (begin s).dioEff ch = true ∧ s.get (DCH.STAT ch) DCH.STAT_OVERLOAD = 1)
    ∧ (∃ (s : State) (ch : ℕ), Quiet s ∧ ch < 64 ∧ (begin s).dioLive (ch / 8) = true ∧ (begin s).dioMode ch = 2 ∧ (begin s).vstate (ch / 8) = vsUp ∧ ((begin s).dgrp (ch / 8)).dark = false ∧ ((begin s).dgrp (ch / 8)).link = true ∧ (begin s).dioEff ch = false)
    ∧ (∃ (s : State) (ch : ℕ), Quiet s ∧ ch < 64 ∧ (begin s).dioLive (ch / 8) = true ∧ (begin s).dioMode ch = 2 ∧ (begin s).vstate (ch / 8) = vsUp ∧ ((begin s).dgrp (ch / 8)).dark = false ∧ ((begin s).dgrp (ch / 8)).link = true ∧ (begin s).dioEff ch = false ∧ s.get (DCH.CFG ch) DCH.CFG_PAIRED = 0)
    ∧ (∃ (s : State) (ch : ℕ), Quiet s ∧ ch < 64 ∧ (begin s).dioLive (ch / 8) = true ∧ (begin s).dioMode ch = 2 ∧ (begin s).vstate (ch / 8) = vsUp ∧ ((begin s).dgrp (ch / 8)).dark = false ∧ (begin s).dioEff ch = true ∧ s.get (DCH.CFG ch) DCH.CFG_OLEN = 1)
    ∧ (∃ (s : State) (ch : ℕ), Quiet s ∧ ch < 64 ∧ (begin s).dioLive (ch / 8) = true ∧ (begin s).dioMode ch = 2 ∧ (begin s).vstate (ch / 8) = vsUp ∧ ((begin s).dgrp (ch / 8)).dark = false ∧ (begin s).dioEff ch = true ∧ s.get (DCH.STAT ch) DCH.STAT_OVERLOAD = 0) :=
  ⟨⟨st .run [on (dioPage 7), (DCH.CFG 63, DCH.CFG_MODE, 1)] id, 63, true, by decide +kernel⟩,
   ⟨st .run [on (dioPage 7), (DCH.CFG 63, DCH.CFG_MODE, 1), (DCH.CFG 63, DCH.CFG_WBEN, 1)] id, 63, by decide +kernel⟩,
   ⟨st .run [on (dioPage 0)] (fun x => { x with dio := { ch := [(0, { refill := true })] } }), 0, by decide +kernel⟩,
   ⟨st .run [on (dioPage 0), (DCH.CFG 7, DCH.CFG_MODE, 2), (DIO.GOUT 0, ⟨7, 1⟩, 1), (DIO.GSTAT 0, DIO.GSTAT_VSTATE, vsUp)] id, 7, by decide +kernel⟩,
   ⟨st .run [on (dioPage 0), (DCH.CFG 7, DCH.CFG_MODE, 2), (DIO.GOUT 0, ⟨7, 1⟩, 1), (DIO.GSTAT 0, DIO.GSTAT_VSTATE, vsUp), (DCH.STAT 7, DCH.STAT_OVERLOAD, 1)] id, 7, by decide +kernel⟩,
   ⟨st .run [on (dioPage 0), (DCH.CFG 7, DCH.CFG_MODE, 2), (DIO.GSTAT 0, DIO.GSTAT_VSTATE, vsUp)] id, 7, by decide +kernel⟩,
   ⟨st .run [on (dioPage 0), (DCH.CFG 7, DCH.CFG_MODE, 2), (DIO.GSTAT 0, DIO.GSTAT_VSTATE, vsUp)] id, 7, by decide +kernel⟩,
   ⟨st .run [on (dioPage 0), (DCH.CFG 7, DCH.CFG_MODE, 2), (DIO.GOUT 0, ⟨7, 1⟩, 1), (DIO.GSTAT 0, DIO.GSTAT_VSTATE, vsUp), (DCH.CFG 7, DCH.CFG_OLEN, 1)] id, 7, by decide +kernel⟩,
   ⟨st .run [on (dioPage 0), (DCH.CFG 7, DCH.CFG_MODE, 2), (DIO.GOUT 0, ⟨7, 1⟩, 1), (DIO.GSTAT 0, DIO.GSTAT_VSTATE, vsUp)] id, 7, by decide +kernel⟩⟩

/-- States that meet the hypotheses of each clause of `DigitalGroupCommands`. -/
theorem witness_digital_group_commands :
    (∃ (s : State) (g : ℕ) (mv : ℕ), Quiet s ∧ (begin s).dioLive g = true ∧ ((begin s).vstate g = vsUp ∨ (begin s).vstate g = vsAwait) ∧ mv < 15500)
    ∧ (∃ (s : State) (g : ℕ) (mv : ℕ), Quiet s ∧ (begin s).dioLive g = true ∧ (begin s).vstate g = vsCut ∧ 19500 ≤ mv)
    ∧ (∃ (s : State) (g : ℕ), Quiet s ∧ (begin s).dioLive g = true ∧ (begin s).vstate g = vsQualify ∧ ((begin s).dgrp g).testing = true)
    ∧ (∃ (s : State) (g : ℕ), Quiet s ∧ (begin s).dioLive g = true ∧ (begin s).vstate g = vsQualify ∧ ((begin s).dgrp g).testing = false ∧ 19500 ≤ ((begin s).dgrp g).vf)
    ∧ (∃ (s : State) (g : ℕ) (mv : ℕ), Quiet s ∧ (begin s).dioLive g = true ∧ mv < 19200)
    ∧ (∃ (s : State) (g : ℕ) (mv : ℕ), Quiet s ∧ (begin s).dioLive g = true ∧ 19500 < mv)
    ∧ (∃ (s : State) (g : ℕ) (k : ℕ), Quiet s ∧ (begin s).dioLive g = true ∧ (begin s).vstate g = vsUp ∧ ((begin s).dgrp g).next = some k ∧ (∀ (j : ℕ), k ≤ j → j < 8 → (begin s).dioWanted (8 * g + j) = false))
    ∧ (∃ (s : State) (g : ℕ) (k : ℕ), Quiet s ∧ (begin s).dioLive g = true ∧ (begin s).vstate g = vsUp ∧ k < 7 ∧ ((begin s).dgrp g).next = some k ∧ (begin s).dioWanted (8 * g + k) = true)
    ∧ (∃ (s : State) (p : Party) (g : ℕ), Quiet s ∧ (begin s).dioLive g = true ∧ (begin s).vstate g = vsAwait ∧ (begin s).present p = true ∧ (begin s).busError (DIO.GCTL g) = false ∧ (begin s).wordRefusal p (DIO.GCTL g) (DIO.GCTL_VFACK.set (s.rd (DIO.GCTL g)) 1) = none)
    ∧ (∃ (s : State) (g : ℕ) (cur : ℕ) (ch : ℕ), Quiet s ∧ (begin s).dioLive g = true ∧ (begin s).vstate g = vsUp ∧ 4200 < cur ∧ List.find? (fun c => (begin s).dioEff c && !(begin s).flag (DCH.STAT c) DCH.STAT_OVERLOAD) (groupChs g).reverse = some ch)
    ∧ (∃ (s : State) (g : ℕ), Quiet s ∧ (begin s).dioLive g = true) :=
  ⟨⟨st .held [on (dioPage 7), (DIO.GSTAT 7, DIO.GSTAT_VSTATE, vsAwait)] id, 7, 15499, by decide +kernel⟩,
   ⟨st .held [on (dioPage 7), (DIO.GSTAT 7, DIO.GSTAT_VSTATE, vsCut)] id, 7, 19500, by decide +kernel⟩,
   ⟨st .held [on (dioPage 7), (DIO.GSTAT 7, DIO.GSTAT_VSTATE, vsQualify)] (fun x => { x with dio := { grp := [(7, { testing := true })] } }), 7, by decide +kernel⟩,
   ⟨st .held [on (dioPage 7), (DIO.GSTAT 7, DIO.GSTAT_VSTATE, vsQualify)] (fun x => { x with dio := { grp := [(7, { vf := 19500 })] } }), 7, by decide +kernel⟩,
   ⟨st .held [on (dioPage 7)] id, 7, 19199, by decide +kernel⟩,
   ⟨st .held [on (dioPage 7)] id, 7, 19501, by decide +kernel⟩,
   ⟨st .held [on (dioPage 7), (DIO.GSTAT 7, DIO.GSTAT_VSTATE, vsUp)] (fun x => { x with dio := { grp := [(7, { next := some 3 })] } }), 7, 3, by decide +kernel⟩,
   ⟨st .run [on (dioPage 7), (DIO.GSTAT 7, DIO.GSTAT_VSTATE, vsUp), (DCH.CFG 62, DCH.CFG_MODE, 2), (DIO.GOUT 7, ⟨6, 1⟩, 1)] (fun x => { x with dio := { grp := [(7, { next := some 6 })] } }), 7, 6, by decide +kernel⟩,
   ⟨st .held [on (dioPage 7), (DIO.GSTAT 7, DIO.GSTAT_VSTATE, vsAwait)] host, .host 7, 7, by decide +kernel⟩,
   ⟨st .run [on (dioPage 7), (DIO.GSTAT 7, DIO.GSTAT_VSTATE, vsUp), (DCH.CFG 62, DCH.CFG_MODE, 2), (DIO.GOUT 7, ⟨6, 1⟩, 1)] id, 7, 4201, 62, by decide +kernel⟩,
   ⟨st .held [on (dioPage 7)] id, 7, by decide +kernel⟩⟩

/-- States that meet the hypotheses of each clause of `EndsOfOperations`. -/
theorem witness_ends_of_operations :
    (∃ (s : State) (p : Party) (page : ℕ), Quiet s ∧ Reach s p page ∧ capBit (kindOf page) 0 = true ∧ (begin s).opBusy page = true)
    ∧ (∃ (s : State) (page : ℕ) (o : OpRun), Quiet s ∧ (page = 20 ∨ page = 5 ∨ page = 4) ∧ Live s ∧ (begin s).op? page = some o ∧ o.abort = true ∧ (begin s).opBusy page = true)
    ∧ (∃ (s : State) (page : ℕ), Quiet s ∧ (page = 20 ∨ page = 5 ∨ page = 4) ∧ Live s ∧ (begin s).opBusy page = true) :=
  ⟨⟨st .held [on bistPage, busy bistPage] id, .program, bistPage, by decide +kernel⟩,
   ⟨st .held [busy bistPage] (fun x => { x with pages := { ops := [⟨bistPage, 1, 0, .program, true, []⟩] } }), bistPage, ⟨bistPage, 1, 0, .program, true, []⟩, by decide +kernel⟩,
   ⟨st .held [busy 20] id, 20, by decide +kernel⟩⟩

/-- States that meet the hypotheses of each clause of `EveryStepKeepsTheInvariant`. -/
theorem witness_every_step_keeps_the_invariant :
    (∃ (s : State), StateInv s) :=
  ⟨.reset, by decide +kernel⟩

/-- States that meet the hypotheses of each clause of `FskCommands`. -/
theorem witness_fsk_commands :
    (∃ (s : State) (p : Party) (n : ℕ), Quiet s ∧ n < 48 ∧ MayStart s p (loopPage n) 2 [Mode.held, Mode.ready, Mode.run, Mode.hold] ∧ s.get (LOOP.HCFG n) LOOP.HCFG_HEN = 1 ∧ s.get (LOOP.HSTAT n) LOOP.HSTAT_DEV = 1)
    ∧ (∃ (s : State) (p : Party) (n : ℕ), Quiet s ∧ n < 48 ∧ MayStart s p (loopPage n) 2 [Mode.held, Mode.ready, Mode.run, Mode.hold] ∧ s.get (LOOP.HCFG n) LOOP.HCFG_HEN = 1 ∧ s.get (LOOP.HSTAT n) LOOP.HSTAT_DEV = 0)
    ∧ (∃ (s : State) (n : ℕ), Quiet s ∧ n < 48 ∧ (begin s).hartOn n = true ∧ s.get (LOOP.HCFG n) LOOP.HCFG_SCANPER ≠ 0 ∧ (island s n).txn = none ∧ (island s n).scanDue = [])
    ∧ (∃ (s : State) (n : ℕ), Quiet s ∧ n < 48 ∧ (begin s).hartOn n = true ∧ (begin s).hartBlock n = none ∧ (begin s).hartMayStart n = true ∧ (island s n).txn = none ∧ s.get (LOOP.HSTAT n) LOOP.HSTAT_DEV = 0)
    ∧ (∃ (s : State) (n : ℕ), Quiet s ∧ n < 48 ∧ (begin s).hartOn n = true ∧ (∃ k, (begin s).hartBlock n = some k))
    ∧ (∃ (s : State) (n : ℕ), Quiet s ∧ n < 48 ∧ (begin s).hartOn n = true ∧ (island s n).dropReply = false ∧ (island s n).txn = some { kind := HartKind.identify, tries := 1, garbled := 0, sent := true })
    ∧ (∃ (s : State) (n : ℕ), Quiet s ∧ n < 48 ∧ (begin s).hartOn n = true ∧ (island s n).tier ≠ 1)
    ∧ (∃ (s : State) (n : ℕ) (x : HartTxn), Quiet s ∧ n < 48 ∧ (island s n).txn = some x ∧ x.sent = true ∧ x.tries ≤ s.get (LOOP.HCFG n) LOOP.HCFG_RETRY)
    ∧ (∃ (s : State) (n : ℕ) (x : HartTxn) (k : ℕ), Quiet s ∧ n < 48 ∧ (island s n).txn = some x ∧ x.sent = true ∧ x.kind = HartKind.scan k ∧ s.get (LOOP.HCFG n) LOOP.HCFG_RETRY < x.tries) :=
  ⟨⟨st .held [on (loopPage 47), (LOOP.HCFG 47, LOOP.HCFG_HEN, 1), (LOOP.HSTAT 47, LOOP.HSTAT_DEV, 1)] host, .host 7, 47, by decide +kernel⟩,
   ⟨st .held [on (loopPage 47), (LOOP.HCFG 47, LOOP.HCFG_HEN, 1)] host, .host 7, 47, by decide +kernel⟩,
   ⟨st .held [on (loopPage 47), (LOOP.HCFG 47, LOOP.HCFG_HEN, 1), (LOOP.HCFG 47, LOOP.HCFG_SCANPER, 1), (LOOP.CFG 47, LOOP.CFG_MODE, 1)] (fun x => { x with loops := { isl := [(47, { st := isMeasure, link := true })] } }), 47, by decide +kernel⟩,
   ⟨st .held [on (loopPage 47), (LOOP.HCFG 47, LOOP.HCFG_HEN, 1), (LOOP.CFG 47, LOOP.CFG_MODE, 1)] (fun x => { x with loops := { isl := [(47, { st := isMeasure, link := true, cur := 34000 })] } }), 47, by decide +kernel⟩,
   ⟨st .held [on (loopPage 47), (LOOP.HCFG 47, LOOP.HCFG_HEN, 1), (LOOP.CFG 47, LOOP.CFG_MODE, 1)] (fun x => { x with loops := { isl := [(47, { st := isMeasure, link := true, cur := 33999 })] } }), 47, by decide +kernel, by decide +kernel, by decide +kernel, 0, by decide +kernel⟩,
   ⟨st .held [on (loopPage 47), (LOOP.HCFG 47, LOOP.HCFG_HEN, 1), (LOOP.CFG 47, LOOP.CFG_MODE, 1)] (fun x => { x with loops := { isl := [(47, { st := isMeasure, link := true, txn := some ⟨.identify, 1, 0, true⟩ })] } }), 47, by decide +kernel⟩,
   ⟨st .held [on (loopPage 47), (LOOP.HCFG 47, LOOP.HCFG_HEN, 1), (LOOP.CFG 47, LOOP.CFG_MODE, 1)] (fun x => { x with loops := { isl := [(47, { st := isMeasure, link := true, tier := 2 })] } }), 47, by decide +kernel⟩,
   ⟨st .held [(LOOP.HCFG 47, LOOP.HCFG_RETRY, 3)] (fun x => { x with loops := { isl := [(47, { txn := some ⟨.pass, 3, 0, true⟩ })] } }), 47, ⟨.pass, 3, 0, true⟩, by decide +kernel⟩,
   ⟨st .held [(LOOP.HCFG 47, LOOP.HCFG_RETRY, 3)] (fun x => { x with loops := { isl := [(47, { txn := some ⟨.scan 2, 4, 0, true⟩ })] } }), 47, ⟨.scan 2, 4, 0, true⟩, 2, by decide +kernel⟩⟩

/-- States that meet the hypotheses of each clause of `GatesAndSoftResets`. -/
theorem witness_gates_and_soft_resets :
    (∃ (s : State) (p : Party) (page : ℕ), Quiet s ∧ (page = 28 ∨ page = 29) ∧ Reach s p page ∧ 2 ≤ (begin s).roleOf p ∧ s.get (HDR.PGCTL page) HDR.PGCTL_EN = 0 ∧ page ∉ s.x.pages.closing)
    ∧ (∃ (s : State) (p : Party) (page : ℕ), Quiet s ∧ capBit (kindOf page) 4 = true ∧ Reach s p page ∧ 2 ≤ (begin s).roleOf p ∧ PageOn s page ∧ s.x.mode ≠ Mode.ready ∧ s.x.mode ≠ Mode.run ∧ s.x.mode ≠ Mode.hold)
    ∧ (∃ (s : State) (page : ℕ), Quiet s ∧ page ∈ s.x.pages.closing ∧ page ∉ s.x.pages.reopen ∧ page ≠ 0 ∧ page ≠ 20 ∧ (begin s).opBusy page = false)
    ∧ (∃ (s : State) (page : ℕ) (ss : Session) (seq : ℕ), Quiet s ∧ page ∈ s.x.pages.closing ∧ page ∉ s.x.pages.reopen ∧ page ≠ 0 ∧ page ≠ 20 ∧ (begin s).opBusy page = false ∧ ss ∈ s.x.net.sessions ∧ (begin s).session? ss.id = some ss ∧ (begin s).netOn ss.usb = true ∧ ss.seqRule seq = none)
    ∧ (∃ (s : State) (p : Party) (page : ℕ), Quiet s ∧ (page = 14 ∨ page = 21) ∧ Reach s p page ∧ 2 ≤ (begin s).roleOf p ∧ (begin s).opBusy page = false ∧ (begin s).inUse page = false ∧ PageOn s page) :=
  ⟨⟨st .held [(HDR.PGCTL 29, HDR.PGCTL_EN, 0)] host, .host 7, 29, by decide +kernel⟩,
   ⟨st .held [on (loopPage 0)] host, .host 7, loopPage 0, by decide +kernel⟩,
   ⟨st .held [] (fun x => { x with pages := { closing := [loopPage 0] } }), loopPage 0, by decide +kernel⟩,
   ⟨st .held [] (fun x => { host x with pages := { closing := [loopPage 0] } }), loopPage 0, ses, 1, by decide +kernel⟩,
   ⟨st .held [on 21] host, .host 7, 21, by decide +kernel⟩⟩

/-- States that meet the hypotheses of each clause of `IdlePassesOneMillisecond`. -/
theorem witness_idle_passes_one_millisecond :
    (∃ (s : State), s.pending = [] ∧ Quiet s) :=
  ⟨.reset, by decide +kernel⟩

/-- States that meet the hypotheses of each clause of `InterruptWordsOfAPage`. -/
theorem witness_interrupt_words_of_a_page :
    (∃ (s : State) (p : Party) (page : ℕ), Quiet s ∧ Reach s p page ∧ page ≠ 0 ∧ page ≠ 20) :=
  ⟨st .held [on 2] id, .program, 2, by decide +kernel⟩

/-- States that meet the hypotheses of each clause of `IrqsetSetsItsBits`. -/
theorem witness_irqset_sets_its_bits :
    (∃ (s : State) (p : Party) (page : ℕ), Quiet s ∧ Reach s p page) :=
  ⟨st .held [] id, .program, 0, by decide +kernel⟩

/-- States that meet the hypotheses of each clause of `IslandStates`. -/
theorem witness_island_states :
    (∃ (s : State) (n : ℕ), Quiet s ∧ n < 48 ∧ (island s n).mode = 2 ∧ (island s n).st = isRegulate ∧ (island s n).link = true)
    ∧ (∃ (s : State) (n : ℕ), Quiet s ∧ n < 48 ∧ (island s n).st ≠ isDark)
    ∧ (∃ (s : State) (n : ℕ) (cur : ℕ), Quiet s ∧ n < 48 ∧ (island s n).st = isDark ∧ 15000 ≤ cur)
    ∧ (∃ (s : State) (n : ℕ), Quiet s ∧ n < 48 ∧ (island s n).st = isWake ∧ (island s n).mode ≠ 2)
    ∧ (∃ (s : State) (n : ℕ), Quiet s ∧ n < 48 ∧ (island s n).st = isWake ∧ (island s n).link = false ∧ (island s n).mode = 2)
    ∧ (∃ (s : State) (n : ℕ) (cur : ℕ), Quiet s ∧ n < 48 ∧ (island s n).st ≠ isDark ∧ (island s n).mode ≠ 2 ∧ cur < 57000)
    ∧ (∃ (s : State) (n : ℕ) (cur : ℕ), Quiet s ∧ n < 48 ∧ (island s n).st ≠ isDark ∧ (island s n).st ≠ isAhold ∧ regulating (island s n).st = false ∧ 100000 ≤ cur)
    ∧ (∃ (s : State) (n : ℕ), Quiet s ∧ n < 48 ∧ (island s n).mode = 2 ∧ regulating (island s n).st = true)
    ∧ (∃ (s : State) (n : ℕ), Quiet s ∧ n < 48 ∧ (island s n).st = isAhold ∧ (begin s).islCommand n = IslCmd.none)
    ∧ (∃ (s : State) (n : ℕ), Quiet s ∧ n < 48 ∧ (island s n).st = isPhold)
    ∧ (∃ (s : State) (n : ℕ), Quiet s ∧ n < 48 ∧ (island s n).st = isBypass ∧ (island s n).mode = 2) :=
  ⟨⟨st .run [] (fun x => { x with loops := { isl := [(47, { mode := 2, st := isRegulate, link := true })] } }), 47, by decide +kernel⟩,
   ⟨st .run [] (fun x => { x with loops := { isl := [(47, { st := isMeasure })] } }), 47, by decide +kernel⟩,
   ⟨st .run [] id, 47, 15000, by decide +kernel⟩,
   ⟨st .run [] (fun x => { x with loops := { isl := [(47, { st := isWake })] } }), 47, by decide +kernel⟩,
   ⟨st .run [] (fun x => { x with loops := { isl := [(47, { mode := 2, st := isWake })] } }), 47, by decide +kernel⟩,
   ⟨st .run [] (fun x => { x with loops := { isl := [(47, { st := isMeasure })] } }), 47, 56999, by decide +kernel⟩,
   ⟨st .run [] (fun x => { x with loops := { isl := [(47, { st := isMeasure })] } }), 47, 100000, by decide +kernel⟩,
   ⟨st .run [] (fun x => { x with loops := { isl := [(47, { mode := 2, st := isNoreg })] } }), 47, by decide +kernel⟩,
   ⟨st .run [] (fun x => { x with loops := { isl := [(47, { mode := 2, st := isAhold })] } }), 47, by decide +kernel⟩,
   ⟨st .run [] (fun x => { x with loops := { isl := [(47, { mode := 2, st := isPhold })] } }), 47, by decide +kernel⟩,
   ⟨st .run [] (fun x => { x with loops := { isl := [(47, { mode := 2, st := isBypass })] } }), 47, by decide +kernel⟩⟩

/-- States that meet the hypotheses of each clause of `KeysAndUnlocks`. -/
theorem witness_keys_and_unlocks :
    (∃ (s : State) (p : Party) (page : ℕ) (v : Word), Quiet s ∧ Reach s p page ∧ (begin s).hdrRefusal p (HDR.PGKEY page) v = none ∧ (s.x.pages.keys.any fun k => decide (k.1 = page) && decide (k.2.1 = HDR.PGKEY_ROLE.get v) && decide (k.2.2 = HDR.PGKEY_KEY.get v)) = true)
    ∧ (∃ (s : State) (p : Party) (page : ℕ) (v : Word), Quiet s ∧ Reach s p page ∧ (begin s).hdrRefusal p (HDR.PGKEY page) v = none ∧ (s.x.pages.keys.any fun k => decide (k.1 = page) && decide (k.2.1 = HDR.PGKEY_ROLE.get v) && decide (k.2.2 = HDR.PGKEY_KEY.get v)) = false)
    ∧ (∃ (s : State), Quiet s)
    ∧ (∃ (s : State) (p : Party) (page : ℕ), Quiet s ∧ Reach s p page ∧ s.get (HDR.PGKEY page) HDR.PGKEY_HOLDER ≤ (begin s).roleOf p) :=
  ⟨⟨st .held [] (fun x => { host x with pages := { keys := [(taskPage, 2, 77)] } }), .host 7, taskPage, HDR.PGKEY_KEY.set (HDR.PGKEY_ROLE.set 0 2) 77, by decide +kernel⟩,
   ⟨st .held [] (fun x => { host x with pages := { keys := [(taskPage, 2, 77)] } }), .host 7, taskPage, HDR.PGKEY_KEY.set (HDR.PGKEY_ROLE.set 0 2) 76, by decide +kernel⟩,
   ⟨st .held [] id, by decide +kernel⟩,
   ⟨st .held [] id, .program, taskPage, by decide +kernel⟩⟩

/-- States that meet the hypotheses of each clause of `LanternCommands`. -/
theorem witness_lantern_commands :
    (∃ (s : State) (k : ℕ), Quiet s ∧ Live s ∧ PageOn s lanternPage ∧ k < 16 ∧ s.get LANTERN.LSTAT { lo := 16 + k, w := 1 } = 0 ∧ (9 < s.get (LANTERN.KEYMAP k) LANTERN.KEYMAP_FUNC ∨ s.get (LANTERN.KEYMAP k) LANTERN.KEYMAP_FUNC = 0))
    ∧ (∃ (s : State) (k : ℕ), Quiet s ∧ Live s ∧ PageOn s lanternPage ∧ k < 16 ∧ s.get LANTERN.LSTAT { lo := 16 + k, w := 1 } = 0 ∧ s.get (LANTERN.KEYMAP k) LANTERN.KEYMAP_FUNC = 1 ∧ s.x.role ≠ Role.standby ∧ (begin s).belRefusal BelSrc.panel (bcmd 1 2 0 0) = none)
    ∧ (∃ (s : State) (k : ℕ), Quiet s ∧ Live s ∧ PageOn s lanternPage ∧ k < 16 ∧ s.get LANTERN.LSTAT { lo := 16 + k, w := 1 } = 1 ∧ k ∉ s.x.lantern.stuck)
    ∧ (∃ (s : State) (k : ℕ), Quiet s ∧ Live s ∧ k < 16)
    ∧ (∃ (s : State) (n : ℕ), Quiet s ∧ Live s ∧ PageOn s lanternPage ∧ n < 16)
    ∧ (∃ (s : State), Quiet s ∧ Live s)
    ∧ (∃ (s : State) (p : Party) (n : ℕ), Quiet s ∧ Live s ∧ MayStart s p lanternPage 1 [Mode.held, Mode.ready, Mode.run, Mode.hold] ∧ 1 ≤ n ∧ n ≤ 60 ∧ s.x.lantern.dark = false)
    ∧ (∃ (s : State), Quiet s ∧ Live s ∧ (begin s).lampTesting = true ∧ PageOn s lanternPage ∧ s.x.lantern.dark = false ∧ s.x.mode = Mode.held) :=
  ⟨⟨st .run [on lanternPage, (LANTERN.KEYMAP 15, LANTERN.KEYMAP_FUNC, 10)] id, 15, by decide +kernel⟩,
   ⟨st .run [on lanternPage, on belPage, (LANTERN.KEYMAP 15, LANTERN.KEYMAP_FUNC, 1)] id, 15, by decide +kernel⟩,
   ⟨st .run [on lanternPage, (LANTERN.LSTAT, ⟨31, 1⟩, 1)] id, 15, by decide +kernel⟩,
   ⟨st .run [] id, 15, by decide +kernel⟩,
   ⟨st .run [on lanternPage] id, 15, by decide +kernel⟩,
   ⟨st .run [] id, by decide +kernel⟩,
   ⟨st .run [on lanternPage] id, .program, 60, by decide +kernel⟩,
   ⟨st .held [on lanternPage, busy lanternPage] id, by decide +kernel⟩⟩

/-- States that meet the hypotheses of each clause of `LogicFeedChangeShowsTheFeed`. -/
theorem witness_logic_feed_change_shows_the_feed :
    (∃ (s : State), Quiet s ∧ s.x.mode ≠ Mode.off) :=
  ⟨st .failed [] id, by decide +kernel⟩

/-- States that meet the hypotheses of each clause of `LoopMeasurements`. -/
theorem witness_loop_measurements :
    (∃ (s : State) (n : ℕ), Quiet s ∧ n < 48 ∧ (begin s).publishes n = true ∧ loopModeOf s n = 1 ∧ s.get (LOOP.STAT n) LOOP.STAT_TRIMMING = 0 ∧ s.get (LOOP.STAT n) LOOP.STAT_RBDEV = 0 ∧ (island s n).st = isMeasure)
    ∧ (∃ (s : State) (n : ℕ), Quiet s ∧ n < 48 ∧ (begin s).publishes n = true ∧ loopModeOf s n = 2)
    ∧ (∃ (s : State) (n : ℕ), Quiet s ∧ n < 48 ∧ (begin s).publishes n = true)
    ∧ (∃ (s : State) (n : ℕ) (b : Bool), Quiet s ∧ n < 48 ∧ (begin s).publishes n = true ∧ (begin s).rbEvaluated n = true ∧ (begin s).rbBeyond n = b)
    ∧ (∃ (s : State) (n : ℕ), Quiet s ∧ n < 48 ∧ (begin s).publishes n = true ∧ loopModeOf s n = 1)
    ∧ (∃ (s : State) (n : ℕ), Quiet s ∧ n < 48 ∧ (begin s).publishes n = true ∧ loopModeOf s n = 2 ∧ (begin s).handover n = false ∧ (island s n).st = isRegulate)
    ∧ (∃ (s : State) (n : ℕ), Quiet s ∧ n < 48 ∧ (island s n).switch = true)
    ∧ (∃ (s : State) (n : ℕ), Quiet s ∧ n < 48 ∧ (island s n).switch = false ∧ (island s n).lsup = true ∧ s.x.loops.vlDown.contains (vlOf n) = false) :=
  ⟨⟨st .run [on (loopPage 47), (LOOP.CFG 47, LOOP.CFG_MODE, 1)] (fun x => { x with loops := { isl := [(47, { st := isMeasure })] } }), 47, by decide +kernel⟩,
   ⟨st .run [on (loopPage 47), (LOOP.CFG 47, LOOP.CFG_MODE, 2)] (fun x => { x with loops := { isl := [(47, { st := isRegulate })] } }), 47, by decide +kernel⟩,
   ⟨st .run [on (loopPage 47), (LOOP.CFG 47, LOOP.CFG_MODE, 1)] (fun x => { x with loops := { isl := [(47, { st := isMeasure })] } }), 47, by decide +kernel⟩,
   ⟨st .run [on (loopPage 47), (LOOP.CFG 47, LOOP.CFG_MODE, 1), (LOOP.RBCFG 47, LOOP.RBCFG_RBTOL, 1), (LOOP.RBVALUE 47, LOOP.RBVALUE_I, 101)] (fun x => { x with loops := { isl := [(47, { st := isMeasure })] } }), 47, true, by decide +kernel⟩,
   ⟨st .run [on (loopPage 47), (LOOP.CFG 47, LOOP.CFG_MODE, 1)] (fun x => { x with loops := { isl := [(47, { st := isMeasure })] } }), 47, by decide +kernel⟩,
   ⟨st .run [on (loopPage 47), (LOOP.CFG 47, LOOP.CFG_MODE, 2)] (fun x => { x with loops := { isl := [(47, { st := isRegulate })] } }), 47, by decide +kernel⟩,
   ⟨st .run [] (fun x => { x with loops := { isl := [(47, { switch := true })] } }), 47, by decide +kernel⟩,
   ⟨st .run [(LOOP.STAT 47, LOOP.STAT_LSFAULT, 1)] (fun x => { x with loops := { isl := [(47, { lsup := true })] } }), 47, by decide +kernel⟩⟩

/-- States that meet the hypotheses of each clause of `Mailboxes`. -/
theorem witness_mailboxes :
    (∃ (s : State) (p : Party) (b : Bool) (m : ℕ), Quiet s ∧ Live s ∧ m < 64 ∧ (begin s).usable (trkPage (tn b)) = true ∧ (begin s).present p = true ∧ 1 ≤ (begin s).roleOf p ∧ (begin s).mbOwner p (tn b) m = true ∧ (begin s).mbSends (tn b) m = true)
    ∧ (∃ (s : State) (p : Party) (b : Bool) (m : ℕ), Quiet s ∧ Live s ∧ m < 64 ∧ (begin s).usable (trkPage (tn b)) = true ∧ (begin s).present p = true ∧ 1 ≤ (begin s).roleOf p ∧ (begin s).mbOwner p (tn b) m = false)
    ∧ (∃ (s : State) (p : Party) (b : Bool) (m : ℕ) (k : ℕ), Quiet s ∧ Live s ∧ m < 64 ∧ (begin s).usable (trkPage (tn b)) = true ∧ (begin s).present p = true ∧ 1 ≤ (begin s).roleOf p ∧ k < 16 ∧ s.get (TRK.MBSEL (tn b)) TRK.MBSEL_SEL = m ∧ s.get (TRK.MBCFG (tn b) m) TRK.MBCFG_DIR = 1 ∧ (whoOf p ≠ 1 ∨ s.get (TRK.MBCFG (tn b) m) TRK.MBCFG_OWN = 1))
    ∧ (∃ (s : State) (b : Bool) (m : ℕ) (k : ℕ), Quiet s ∧ Live s ∧ m < 64 ∧ (begin s).trkHears (tn b) = true ∧ (∀ j < m, s.get (TRK.MBCFG (tn b) j) TRK.MBCFG_EN = 0) ∧ s.get (TRK.MBCFG (tn b) m) TRK.MBCFG_EN = 1 ∧ s.get (TRK.MBCFG (tn b) m) TRK.MBCFG_DIR = 0 ∧ s.get (TRK.MBCFG (tn b) m) TRK.MBCFG_INDEX = k ∧ s.get (TRK.MBCFG (tn b) m) TRK.MBCFG_NODE = 255) :=
  ⟨⟨st .run [on (trkPage 1), (TRK.MBCFG 1 63, TRK.MBCFG_EN, 1), (TRK.MBCFG 1 63, TRK.MBCFG_DIR, 1)] id, .program, true, 63, by decide +kernel⟩,
   ⟨st .run [on (trkPage 1)] host, .host 7, true, 63, by decide +kernel⟩,
   ⟨st .run [on (trkPage 1), (TRK.MBSEL 1, TRK.MBSEL_SEL, 63), (TRK.MBCFG 1 63, TRK.MBCFG_DIR, 1), (TRK.MBCFG 1 63, TRK.MBCFG_OWN, 1)] host, .host 7, true, 63, 15, by decide +kernel⟩,
   ⟨st .run [on (trkPage 1), (TRK.MBCFG 1 2, TRK.MBCFG_EN, 1), (TRK.MBCFG 1 2, TRK.MBCFG_INDEX, 9), (TRK.MBCFG 1 2, TRK.MBCFG_NODE, 255)] id, true, 2, 9, by decide +kernel⟩⟩

/-- States that meet the hypotheses of each clause of `MainBoundaryActs`. -/
theorem witness_main_boundary_acts :
    (∃ (s : State), Quiet s ∧ [Mode.held, Mode.ready, Mode.run, Mode.hold].contains s.x.mode = false)
    ∧ (∃ (s : State), Quiet s ∧ [Mode.held, Mode.ready, Mode.run, Mode.hold].contains s.x.mode = true ∧ Calm s ∧ (begin s).op? taskPage = none ∧ s.x.upsets = [])
    ∧ (∃ (s : State), Quiet s ∧ [Mode.held, Mode.ready, Mode.run, Mode.hold].contains s.x.mode = true ∧ Calm s ∧ (begin s).op? taskPage = none ∧ s.x.upsets = [] ∧ s.x.mode = Mode.run ∧ (begin s).executes = true ∧ ((begin s).trun 0).running = false)
    ∧ (∃ (s : State) (e : ℕ × Word), Quiet s ∧ [Mode.held, Mode.ready, Mode.run, Mode.hold].contains s.x.mode = true ∧ Calm s ∧ (begin s).op? taskPage = none ∧ e.2 ≠ 0 ∧ (begin s).belOn = true ∧ s.get TASK.MAIN TASK.MAIN_P0 ≠ 1 ∧ s.x.upsets = [[e]])
    ∧ (∃ (s : State) (e : ℕ × Word), Quiet s ∧ [Mode.held, Mode.ready, Mode.run, Mode.hold].contains s.x.mode = true ∧ Calm s ∧ (begin s).op? taskPage = none ∧ e.2 ≠ 0 ∧ (begin s).belOn = true ∧ s.get TASK.MAIN TASK.MAIN_P0 ≠ 1 ∧ s.x.upsets = [[e], [e]]) :=
  ⟨⟨st .failed [] id, by decide +kernel⟩,
   ⟨st .held [] id, by decide +kernel⟩,
   ⟨st .run [] id, by decide +kernel⟩,
   ⟨st .run [on belPage, (TASK.MAIN, TASK.MAIN_P0, 4)] (fun x => { x with upsets := [[(BELFRY.BSTAT, 1)]] }), (BELFRY.BSTAT, 1), by decide +kernel⟩,
   ⟨st .run [on belPage, (TASK.MAIN, TASK.MAIN_P0, 4)] (fun x => { x with upsets := [[(BELFRY.BSTAT, 1)], [(BELFRY.BSTAT, 1)]] }), (BELFRY.BSTAT, 1), by decide +kernel⟩⟩

/-- States that meet the hypotheses of each clause of `MainCheckpoint`. -/
theorem witness_main_checkpoint :
    (∃ (s : State) (f : ℕ) (g : ℕ) (h : ℕ) (c : Checkpoint) (e : Shown) (e' : Shown) (e'' : Shown), Quiet s ∧ s.x.mode = Mode.run ∧ s.x.role = Role.solo ∧ s.x.proc.isOpen = true ∧ s.x.proc.closed = false ∧ f ≠ g ∧ f ≠ h ∧ g ≠ h ∧ (begin s).voters.length = 3 ∧ s.x.proc.held = [] ∧ (∀ k ∈ [f, g, h], k < 4 ∧ (begin s).place k = plVoting) ∧ (begin s).pstate ≠ psOut ∧ s.x.proc.rot = none ∧ s.x.proc.resync = [] ∧ s.get PROCTOR.STAT PROCTOR.STAT_FALLBACK = 0 ∧ e.form = g ∧ e'.form = h ∧ e''.form = f ∧ s.x.proc.cps = [] ∧ s.x.proc.done = false ∧ c.claims = [])
    ∧ (∃ (s : State) (f : ℕ) (g : ℕ) (h : ℕ) (d : Checkpoint) (e : Shown) (e' : Shown) (e'' : Shown), Quiet s ∧ s.x.mode = Mode.run ∧ s.x.role = Role.solo ∧ s.x.proc.isOpen = true ∧ s.x.proc.closed = false ∧ f ≠ g ∧ f ≠ h ∧ g ≠ h ∧ (begin s).voters.length = 3 ∧ s.x.proc.held = [] ∧ (∀ k ∈ [f, g, h], k < 4 ∧ (begin s).place k = plVoting) ∧ (begin s).pstate ≠ psOut ∧ s.x.proc.rot = none ∧ s.x.proc.resync = [] ∧ s.get PROCTOR.STAT PROCTOR.STAT_FALLBACK = 0 ∧ e.form = g ∧ e'.form = h ∧ e''.form = f ∧ s.x.proc.cps = [e] ∧ s.x.proc.done = false ∧ d.words = e.cp.words ∧ d.station = e.cp.station ∧ d.mail = e.cp.mail ∧ s.x.proc.common.signature d = e.sig ∧ d.claims = [])
    ∧ (∃ (s : State) (f : ℕ) (g : ℕ) (h : ℕ) (d : Checkpoint) (e : Shown) (e' : Shown) (e'' : Shown), Quiet s ∧ s.x.mode = Mode.run ∧ s.x.role = Role.solo ∧ s.x.proc.isOpen = true ∧ s.x.proc.closed = false ∧ f ≠ g ∧ f ≠ h ∧ g ≠ h ∧ (begin s).voters.length = 3 ∧ s.x.proc.held = [] ∧ (∀ k ∈ [f, g, h], k < 4 ∧ (begin s).place k = plVoting) ∧ (begin s).pstate ≠ psOut ∧ s.x.proc.rot = none ∧ s.x.proc.resync = [] ∧ s.get PROCTOR.STAT PROCTOR.STAT_FALLBACK = 0 ∧ e.form = g ∧ e'.form = h ∧ e''.form = f ∧ s.x.proc.cps = [e] ∧ s.x.proc.done = false ∧ (d.words ≠ e.cp.words ∨ s.x.proc.common.signature d ≠ e.sig) ∧ d.claims = [])
    ∧ (∃ (s : State) (f : ℕ) (g : ℕ) (h : ℕ) (e : Shown) (e' : Shown) (e'' : Shown), Quiet s ∧ s.x.mode = Mode.run ∧ s.x.role = Role.solo ∧ s.x.proc.isOpen = true ∧ s.x.proc.closed = false ∧ f ≠ g ∧ f ≠ h ∧ g ≠ h ∧ (begin s).voters.length = 3 ∧ s.x.proc.held = [] ∧ (∀ k ∈ [f, g, h], k < 4 ∧ (begin s).place k = plVoting) ∧ (begin s).pstate ≠ psOut ∧ s.x.proc.rot = none ∧ s.x.proc.resync = [] ∧ s.get PROCTOR.STAT PROCTOR.STAT_FALLBACK = 0 ∧ e.form = g ∧ e'.form = h ∧ e''.form = f ∧ s.x.proc.cps = [e, e'] ∧ s.x.proc.done = true ∧ s.x.proc.agree = [g, h] ∧ ((begin s).trun 0).relAt % 256 ≠ 0)
    ∧ (∃ (s : State) (f : ℕ) (g : ℕ) (h : ℕ) (e : Shown) (e' : Shown) (e'' : Shown), Quiet s ∧ s.x.mode = Mode.run ∧ s.x.role = Role.solo ∧ s.x.proc.isOpen = true ∧ s.x.proc.closed = false ∧ f ≠ g ∧ f ≠ h ∧ g ≠ h ∧ (begin s).voters.length = 3 ∧ s.x.proc.held = [] ∧ (∀ k ∈ [f, g, h], k < 4 ∧ (begin s).place k = plVoting) ∧ (begin s).pstate ≠ psOut ∧ s.x.proc.rot = none ∧ s.x.proc.resync = [] ∧ s.get PROCTOR.STAT PROCTOR.STAT_FALLBACK = 0 ∧ e.form = g ∧ e'.form = h ∧ e''.form = f ∧ s.x.proc.cps = [e, e'] ∧ s.x.proc.done = false ∧ s.x.proc.agree = [])
    ∧ (∃ (s : State) (f : ℕ) (g : ℕ) (h : ℕ) (e : Shown) (e' : Shown) (e'' : Shown), Quiet s ∧ s.x.mode = Mode.run ∧ s.x.role = Role.solo ∧ s.x.proc.isOpen = true ∧ s.x.proc.closed = false ∧ f ≠ g ∧ f ≠ h ∧ g ≠ h ∧ (begin s).voters.length = 3 ∧ s.x.proc.held = [] ∧ (∀ k ∈ [f, g, h], k < 4 ∧ (begin s).place k = plVoting) ∧ (begin s).pstate ≠ psOut ∧ s.x.proc.rot = none ∧ s.x.proc.resync = [] ∧ s.get PROCTOR.STAT PROCTOR.STAT_FALLBACK = 0 ∧ e.form = g ∧ e'.form = h ∧ e''.form = f ∧ s.x.proc.cps = [e, e', e''] ∧ s.x.proc.done = true ∧ s.x.proc.agree = [g, h, f] ∧ ((begin s).trun 0).relAt % 256 = 0 ∧ e.hash = e'.hash ∧ e''.hash ≠ e.hash ∧ s.x.proc.lats = []) :=
  ⟨⟨st .run voting (fun x => { x with proc := { isOpen := true } }), 0, 1, 2, cp [], shw 1 (cp []) 0, shw 2 (cp []) 0, shw 0 (cp []) 1, by decide +kernel⟩,
   ⟨st .run voting (fun x => { x with proc := { isOpen := true, cps := [shw 1 (cp []) 0] } }), 0, 1, 2, cp [], shw 1 (cp []) 0, shw 2 (cp []) 0, shw 0 (cp []) 1, by decide +kernel⟩,
   ⟨st .run voting (fun x => { x with proc := { isOpen := true, cps := [shw 1 (cp []) 0] } }), 0, 1, 2, cp [(0, 1)], shw 1 (cp []) 0, shw 2 (cp []) 0, shw 0 (cp []) 1, by decide +kernel⟩,
   ⟨st .run voting (fun x => { x with proc := { isOpen := true, cps := [shw 1 (cp []) 0, shw 2 (cp []) 0], done := true, agree := [1, 2] }, task := { run := [(0, { relAt := 1 })] } }), 0, 1, 2, shw 1 (cp []) 0, shw 2 (cp []) 0, shw 0 (cp []) 1, by decide +kernel⟩,
   ⟨st .run voting (fun x => { x with proc := { isOpen := true, cps := [shw 1 (cp []) 0, shw 2 (cp []) 0] } }), 0, 1, 2, shw 1 (cp []) 0, shw 2 (cp []) 0, shw 0 (cp []) 1, by decide +kernel⟩,
   ⟨st .run voting (fun x => { x with proc := { isOpen := true, cps := [shw 1 (cp []) 0, shw 2 (cp []) 0, shw 0 (cp []) 1], done := true, agree := [1, 2, 0] } }), 0, 1, 2, shw 1 (cp []) 0, shw 2 (cp []) 0, shw 0 (cp []) 1, by decide +kernel⟩⟩

/-- States that meet the hypotheses of each clause of `NetworkPorts`. -/
theorem witness_network_ports :
    (∃ (s : State) (b : Bool), Quiet s ∧ Live s ∧ PageOn s (netPage (bn b)))
    ∧ (∃ (s : State) (b : Bool), Quiet s ∧ Live s ∧ PageOn s (netPage (bn b)) ∧ s.get (NET.LINK (bn b)) NET.LINK_UP = 1)
    ∧ (∃ (s : State) (b : Bool) (k : ℕ), Quiet s ∧ Live s ∧ PageOn s (netPage (bn b)) ∧ 2 ≤ k)
    ∧ (∃ (s : State) (b : Bool), Quiet s ∧ Live s ∧ PageOn s (netPage (bn b)) ∧ s.x.net.ipPending = true) :=
  ⟨⟨st .run [on (netPage 1)] id, true, by decide +kernel⟩,
   ⟨st .run [on (netPage 1), (NET.LINK 1, NET.LINK_UP, 1)] id, true, by decide +kernel⟩,
   ⟨st .run [on (netPage 1)] id, true, 2, by decide +kernel⟩,
   ⟨st .run [on (netPage 1)] (fun x => { x with net := { ipPending := true } }), true, by decide +kernel⟩⟩

/-- States that meet the hypotheses of each clause of `OverrunsAndTraps`. -/
theorem witness_overruns_and_traps :
    (∃ (s : State) (i : ℕ), Quiet s ∧ i < 4 ∧ s.x.mode = Mode.run ∧ s.x.role ≠ Role.standby ∧ ((begin s).trun i).running = true ∧ (begin s).activeContent.safeVals = [] ∧ (begin s).activeContent.owners = [] ∧ s.x.proc.withheld = false)
    ∧ (∃ (s : State) (i : ℕ), Quiet s ∧ i < 4 ∧ s.x.mode = Mode.run ∧ s.x.role ≠ Role.standby ∧ ((begin s).trun i).running = true ∧ (begin s).activeContent.safeVals = [] ∧ (begin s).activeContent.owners = [])
    ∧ (∃ (s : State) (i : ℕ) (f : ℕ), Quiet s ∧ i < 4 ∧ s.x.mode = Mode.run ∧ s.x.role ≠ Role.standby ∧ ((begin s).trun i).running = true ∧ (begin s).activeContent.safeVals = [] ∧ (begin s).activeContent.owners = [] ∧ f < 4 ∧ (begin s).place f = plVoting ∧ s.x.proc.isOpen = false ∧ s.x.proc.rot = none) :=
  ⟨⟨st .run [] (fun x => { x with task := { run := [(3, { running := true })] } }), 3, by decide +kernel⟩,
   ⟨st .run [] (fun x => { x with task := { run := [(3, { running := true })] } }), 3, by decide +kernel⟩,
   ⟨st .run voting (fun x => { x with task := { run := [(3, { running := true })] } }), 3, 2, by decide +kernel⟩⟩

/-- States that meet the hypotheses of each clause of `PageIdentities`. -/
theorem witness_page_identities :
    (∃ (page : ℕ), page < 4096 ∧ kindOf page ≠ Kind.unmapped ∧ isWindow page = false)
    ∧ (∃ (page : ℕ) (s : State) (p : Party), page < 4096 ∧ kindOf page ≠ Kind.unmapped ∧ isWindow page = false ∧ Quiet s ∧ Reach s p page) :=
  ⟨⟨71, by decide +kernel⟩,
   ⟨0xC, st .held [on 0xC] id, .program, by decide +kernel⟩⟩

/-- States that meet the hypotheses of each clause of `PairLink`. -/
theorem witness_pair_link :
    (∃ (s : State), Quiet s ∧ Live s ∧ (begin s).paired = true)
    ∧ (∃ (s : State) (hb : PairHb), Quiet s ∧ Live s ∧ (begin s).paired = true ∧ hb.node < 256 ∧ hb.role < 256 ∧ hb.state < 256 ∧ hb.health < 4 ∧ hb.epoch < 2 ^ 32 ∧ hb.cycle < 2 ^ 32 ∧ hb.phase < 2 ^ 32)
    ∧ (∃ (s : State) (bytes : List Byte), Quiet s ∧ Live s ∧ (begin s).paired = true ∧ pairHbOf bytes = none)
    ∧ (∃ (s : State) (n : ℕ) (hb : PairHb) (bytes : List Byte), Quiet s ∧ Live s ∧ (begin s).paired = true ∧ n < 2 ∧ pairHbOf bytes = some hb ∧ (begin s).linkUp = false)
    ∧ (∃ (s : State) (n : ℕ) (hb : PairHb) (bytes : List Byte), Quiet s ∧ Live s ∧ (begin s).paired = true ∧ n < 2 ∧ pairHbOf bytes = some hb ∧ (begin s).linkUp = true ∧ s.x.role ≠ Role.standby)
    ∧ (∃ (s : State) (n : ℕ) (k : ℕ), Quiet s ∧ Live s ∧ (begin s).paired = true ∧ (begin s).linkUp = false ∧ ¬(n = (begin s).pnode ∧ k = (begin s).node))
    ∧ (∃ (s : State), Quiet s ∧ Live s ∧ (begin s).paired = true ∧ (begin s).linkUp = false ∧ s.x.role ≠ Role.standby)
    ∧ (∃ (s : State), Quiet s ∧ Live s ∧ (begin s).paired = true ∧ (begin s).linkUp = true)
    ∧ (∃ (s : State) (n : ℕ), Quiet s ∧ Live s ∧ (begin s).paired = true ∧ n < 2) :=
  ⟨⟨st .run [(PAIR.CFG, PAIR.CFG_PAIRED, 1)] id, by decide +kernel⟩,
   ⟨st .run [(PAIR.CFG, PAIR.CFG_PAIRED, 1)] id, ⟨3, 1, 6, 0, true, 5, 9, 0⟩, by decide +kernel⟩,
   ⟨st .run [(PAIR.CFG, PAIR.CFG_PAIRED, 1)] id, [], by decide +kernel⟩,
   ⟨st .run [(PAIR.CFG, PAIR.CFG_PAIRED, 1)] id, 1, ⟨3, 1, 6, 0, true, 5, 9, 0⟩, pairHbBytes ⟨3, 1, 6, 0, true, 5, 9, 0⟩, by decide +kernel⟩,
   ⟨st .run [(PAIR.CFG, PAIR.CFG_PAIRED, 1), (PAIR.STAT, PAIR.STAT_LINKUP, 1)] duty, 1, ⟨3, 1, 6, 0, true, 5, 9, 0⟩, pairHbBytes ⟨3, 1, 6, 0, true, 5, 9, 0⟩, by decide +kernel⟩,
   ⟨st .run [(PAIR.CFG, PAIR.CFG_PAIRED, 1), (PAIR.CFG, PAIR.CFG_PNODE, 4)] id, 5, 0, by decide +kernel⟩,
   ⟨st .run [(PAIR.CFG, PAIR.CFG_PAIRED, 1), (PAIR.CFG, PAIR.CFG_PNODE, 4)] duty, by decide +kernel⟩,
   ⟨st .run [(PAIR.CFG, PAIR.CFG_PAIRED, 1), (PAIR.STAT, PAIR.STAT_LINKUP, 1)] duty, by decide +kernel⟩,
   ⟨st .run [(PAIR.CFG, PAIR.CFG_PAIRED, 1)] id, 1, by decide +kernel⟩⟩

/-- States that meet the hypotheses of each clause of `ProctorCommands`. -/
theorem witness_proctor_commands :
    (∃ (s : State) (n : ℕ) (b : ℕ), Quiet s ∧ Live s ∧ s.x.role = Role.solo ∧ b < 2 ∧ n < 4096)
    ∧ (∃ (s : State) (n : ℕ) (b : ℕ), Quiet s ∧ Live s ∧ s.x.role = Role.solo ∧ b < 2 ∧ n < 4096 ∧ s.get PROCTOR.STAT PROCTOR.STAT_BANK = 1 - b ∧ (∃ e ∈ s.x.proc.bankErrs, e.1 = b ∧ (begin s).now < e.2 + day24) ∧ s.get PROCTOR.STAT (bankLost b) = 0 ∧ s.get PROCTOR.STAT (bankLost (1 - b)) = 0)
    ∧ (∃ (s : State), Quiet s ∧ Live s ∧ s.x.role = Role.solo ∧ (begin s).serves = true ∧ s.get PROCTOR.STAT PROCTOR.STAT_FALLBACK = 0 ∧ s.x.proc.fbNext = false ∧ s.x.proc.voterBad = false)
    ∧ (∃ (s : State) (f : ℕ) (k : ℕ), Quiet s ∧ Live s ∧ s.x.role = Role.solo ∧ s.x.proc.resync = [(f, k, false)] ∧ f < 4)
    ∧ (∃ (s : State) (f : ℕ), Quiet s ∧ Live s ∧ s.x.role = Role.solo ∧ f < 4 ∧ (begin s).place f = plTest ∧ (begin s).voters.length = 3 ∧ (begin s).quadOn = false ∧ s.x.proc.rot = none)
    ∧ (∃ (s : State) (f : ℕ), Quiet s ∧ Live s ∧ s.x.role = Role.solo ∧ f < 4 ∧ (begin s).place f = plTest ∧ (begin s).formsIn plExcluded = [] ∧ s.x.proc.rot = none)
    ∧ (∃ (s : State), Quiet s ∧ Live s ∧ s.x.role = Role.solo ∧ s.get PROCTOR.STAT PROCTOR.STAT_SPLIT = 1 ∧ ((begin s).formsIn plSplit).length + ((begin s).formsIn plIdle).length < 3)
    ∧ (∃ (s : State), Quiet s ∧ Live s ∧ s.x.role = Role.solo ∧ s.get PROCTOR.STAT PROCTOR.STAT_SPLIT = 1 ∧ s.x.mode = Mode.ready ∧ (begin s).formsIn plSplit = [0, 1, 2] ∧ (begin s).place 3 = plIdle)
    ∧ (∃ (s : State) (f : ℕ), Quiet s ∧ Live s ∧ s.x.role = Role.solo ∧ (begin s).rotReady = true ∧ (begin s).voters ≠ [] ∧ (begin s).formsIn plIdle = [f])
    ∧ (∃ (s : State) (p : Party), Quiet s ∧ Live s ∧ s.x.role = Role.solo ∧ MayStart s p proctorPage 2 [Mode.held, Mode.ready, Mode.run, Mode.hold] ∧ (begin s).rotReady = true ∧ (begin s).voters ≠ [])
    ∧ (∃ (s : State) (p : Party), Quiet s ∧ Live s ∧ s.x.role = Role.solo ∧ MayStart s p proctorPage 2 [Mode.held, Mode.ready, Mode.run, Mode.hold] ∧ (begin s).rotReady = false)
    ∧ (∃ (s : State) (f : ℕ) (n : ℕ) (k : ℕ), Quiet s ∧ Live s ∧ s.x.role = Role.solo ∧ s.x.proc.passes = [{ res := n, owner := f, lapse := k, concur := [] }] ∧ k ≤ (begin s).cycle) :=
  ⟨⟨st .run [] id, 4095, 1, by decide +kernel⟩,
   ⟨st .run [(PROCTOR.STAT, PROCTOR.STAT_BANK, 0)] (fun x => { x with proc := { bankErrs := [(1, 0)] } }), 4095, 1, by decide +kernel⟩,
   ⟨st .run voting id, by decide +kernel⟩,
   ⟨st .run voting (fun x => { x with proc := { resync := [(3, 0, false)] } }), 3, 0, by decide +kernel⟩,
   ⟨st .run (voting ++ [(FORM.FSTAT 3, FORM.FSTAT_PLACE, plTest)]) id, 3, by decide +kernel⟩,
   ⟨st .run (voting ++ [(FORM.FSTAT 3, FORM.FSTAT_PLACE, plTest)]) id, 3, by decide +kernel⟩,
   ⟨st .ready [(PROCTOR.STAT, PROCTOR.STAT_SPLIT, 1), (FORM.FSTAT 0, FORM.FSTAT_PLACE, plSplit), (FORM.FSTAT 1, FORM.FSTAT_PLACE, plSplit)] id, by decide +kernel⟩,
   ⟨st .ready [(PROCTOR.STAT, PROCTOR.STAT_SPLIT, 1), (FORM.FSTAT 0, FORM.FSTAT_PLACE, plSplit), (FORM.FSTAT 1, FORM.FSTAT_PLACE, plSplit), (FORM.FSTAT 2, FORM.FSTAT_PLACE, plSplit), (FORM.FSTAT 3, FORM.FSTAT_PLACE, plIdle)] id, by decide +kernel⟩,
   ⟨st .run (voting ++ [(FORM.FSTAT 3, FORM.FSTAT_PLACE, plIdle)]) id, 3, by decide +kernel⟩,
   ⟨st .run (voting ++ [(FORM.FSTAT 3, FORM.FSTAT_PLACE, plIdle), on proctorPage]) host, .host 7, by decide +kernel⟩,
   ⟨st .run (voting ++ [on proctorPage]) host, .host 7, by decide +kernel⟩,
   ⟨st .run [] (fun x => { x with proc := { passes := [⟨258, 1, 0, []⟩] } }), 1, 258, 0, by decide +kernel⟩⟩

/-- States that meet the hypotheses of each clause of `RecorderCommands`. -/
theorem witness_recorder_commands :
    (∃ (s : State) (n : ℕ) (e : Event), Quiet s ∧ s.x.evt.arrivals = [e] ∧ e.data = [n] ∧ e.detail = false ∧ s.x.evt.draining = false ∧ s.x.evt.lostSince = 0 ∧ s.x.evt.rep = [] ∧ e.ep = 0 ∧ s.get EVT.STAT EVT.STAT_FROZEN = 0 ∧ (s.rd EVT.HEADSEQ = 4294967295 ∨ BitVec.toNat (s.rd EVT.HEADSEQ) + 1 < 4095))
    ∧ (∃ (s : State) (e : Event), Quiet s ∧ s.x.evt.arrivals = [e] ∧ s.x.evt.draining = false ∧ s.x.evt.lostSince = 0 ∧ s.get EVT.STAT EVT.STAT_FROZEN = 1 ∧ (begin s).queueDepth + e.data.length < 256)
    ∧ (∃ (s : State), Quiet s ∧ Live s)
    ∧ (∃ (s : State) (p : Party) (n : ℕ), Quiet s ∧ MayStart s p evtPage 0 anyButPowerUp ∧ n ≤ 60 ∧ s.get EVT.STAT EVT.STAT_FROZEN = 0)
    ∧ (∃ (s : State) (p : Party) (n : ℕ), Quiet s ∧ MayStart s p evtPage 0 anyButPowerUp ∧ n ≤ 60 ∧ s.get EVT.STAT EVT.STAT_FROZEN = 1)
    ∧ (∃ (s : State) (p : Party), Quiet s ∧ MayStart s p evtPage 0 anyButPowerUp ∧ s.x.evt.holder = some p ∧ s.get EVT.STAT EVT.STAT_FROZEN = 1)
    ∧ (∃ (s : State) (p : Party), Quiet s ∧ MayStart s p evtPage 0 anyButPowerUp ∧ s.x.evt.holder ≠ some p)
    ∧ (∃ (s : State), Quiet s ∧ Live s ∧ s.get EVT.STAT EVT.STAT_FROZEN = 1)
    ∧ (∃ (s : State), Quiet s ∧ s.x.evt.draining = true)
    ∧ (∃ (s : State) (p : Party), Quiet s ∧ MayStart s p evtPage 2 anyButSelfTest ∧ s.get EVT.STAT EVT.STAT_FROZEN = 0)
    ∧ (∃ (s : State) (p : Party), Quiet s ∧ MayStart s p evtPage 2 anyButPowerUp ∧ s.get EVT.STAT EVT.STAT_EPKEEP = 1) :=
  ⟨⟨st .run [] (fun x => { x with evt := { arrivals := [⟨1, 0, 0, false, 0x403, 3, 1023, [9], false, false, 0⟩] } }), 9, ⟨1, 0, 0, false, 0x403, 3, 1023, [9], false, false, 0⟩, by decide +kernel⟩,
   ⟨st .run [(EVT.STAT, EVT.STAT_FROZEN, 1)] (fun x => { x with evt := { arrivals := [⟨1, 0, 0, false, 0x403, 3, 1023, [9], false, false, 0⟩] } }), ⟨1, 0, 0, false, 0x403, 3, 1023, [9], false, false, 0⟩, by decide +kernel⟩,
   ⟨.reset, by decide +kernel⟩,
   ⟨st .run [on evtPage] id, .program, 60, by decide +kernel⟩,
   ⟨st .run [on evtPage, (EVT.STAT, EVT.STAT_FROZEN, 1)] id, .program, 60, by decide +kernel⟩,
   ⟨st .run [on evtPage, (EVT.STAT, EVT.STAT_FROZEN, 1)] (fun x => { x with evt := { holder := some .program } }), .program, by decide +kernel⟩,
   ⟨st .run [on evtPage] id, .program, by decide +kernel⟩,
   ⟨st .run [(EVT.STAT, EVT.STAT_FROZEN, 1)] id, by decide +kernel⟩,
   ⟨st .run [] (fun x => { x with evt := { draining := true } }), by decide +kernel⟩,
   ⟨st .run [on evtPage] host, .host 7, by decide +kernel⟩,
   ⟨st .run [on evtPage, (EVT.STAT, EVT.STAT_EPKEEP, 1)] host, .host 7, by decide +kernel⟩⟩

/-- States that meet the hypotheses of each clause of `RefusedWriteShowsWhy`. -/
theorem witness_refused_write_shows_why :
    (∃ (s : State) (p : Party) (a : ℕ) (v : Word) (c : ℕ), Quiet s ∧ (begin s).present p = true ∧ (begin s).busError a = false ∧ (begin s).wordRefusal p a v = some c) :=
  ⟨st .run [on belPage] id, .program, HDR.PGCTL belPage, 0, rejRole, by decide +kernel⟩

/-- States that meet the hypotheses of each clause of `RemoteIoFrames`. -/
theorem witness_remote_io_frames :
    (∃ (s : State) (k : ℕ) (b : Bool) (d : List Byte), Quiet s ∧ Live s ∧ PageOn s iosPage ∧ k < (begin s).nsta ∧ s.get IOSYNC.CFG IOSYNC.CFG_EN = 1 ∧ (begin s).trkHears (tn b) = true ∧ d.length = s.get (IOSYNC.SCFG k) IOSYNC.SCFG_INLEN)
    ∧ (∃ (s : State) (k : ℕ) (b : Bool), Quiet s ∧ Live s ∧ PageOn s iosPage ∧ k < (begin s).nsta ∧ (begin s).trkHears (tn b) = true ∧ s.x.ios.outAt = some k)
    ∧ (∃ (s : State) (k : ℕ), Quiet s ∧ Live s ∧ PageOn s iosPage ∧ k < (begin s).nsta ∧ s.x.ios.outAt = some k)
    ∧ (∃ (s : State) (k : ℕ), Quiet s ∧ Live s ∧ PageOn s iosPage ∧ k < (begin s).nsta ∧ s.x.mode ≠ Mode.run ∧ s.x.ios.started = true ∧ s.x.ios.phase = false) :=
  ⟨⟨st .run [on iosPage, on (trkPage 1), (IOSYNC.CFG, IOSYNC.CFG_EN, 1), (IOSYNC.CFG, IOSYNC.CFG_NSTA, 32), (IOSYNC.SCFG 31, IOSYNC.SCFG_INLEN, 2)] id, 31, true, [1, 2], by decide +kernel⟩,
   ⟨st .run [on iosPage, on (trkPage 1), (IOSYNC.CFG, IOSYNC.CFG_NSTA, 32)] (fun x => { x with ios := { outAt := some 31 } }), 31, true, by decide +kernel⟩,
   ⟨st .run [on iosPage, (IOSYNC.CFG, IOSYNC.CFG_NSTA, 32)] (fun x => { x with ios := { outAt := some 31 } }), 31, by decide +kernel⟩,
   ⟨st .hold [on iosPage, (IOSYNC.CFG, IOSYNC.CFG_NSTA, 1)] (fun x => { x with ios := { started := true } }), 0, by decide +kernel⟩⟩

/-- States that meet the hypotheses of each clause of `RolesOfTheParties`. -/
theorem witness_roles_of_the_parties :
    (∃ (s : State) (id : ℕ) (e : Session), (begin s).session? id = some e) :=
  ⟨st .run [] host, 7, ses, by decide +kernel⟩

/-- States that meet the hypotheses of each clause of `SafetyCommandsKeepSafeOutputs`. -/
theorem witness_safety_commands_keep_safe_outputs :
    (∃ (c : Instr) (s : State), Quiet s ∧ SafeOutputs s ∧ SafetyCommand c) :=
  ⟨.safetyDark, st .run [(SAFE.FCFG0 2, SAFE.FCFG0_TYPE, 1), (SAFE.FCFG0 2, SAFE.FCFG0_OUTMASK, 8)] (fun x => { x with safe := { ss := ssActive, fns := [(2, { st := fsStopping }), (10, { st := fsStopping })], outs := [(3, { a := true, b := true })] } }), by decide +kernel, by decide +kernel, trivial⟩

/-- States that meet the hypotheses of each clause of `SafetyInputsAndFunctions`. -/
theorem witness_safety_inputs_and_functions :
    (∃ (s : State) (v : ℕ) (f : ℕ) (i : ℕ), Quiet s ∧ v < 2 ∧ f < 8 ∧ s.x.safe.dark = false ∧ (begin s).safeRuns = true ∧ i < 16)
    ∧ (∃ (s : State) (v : ℕ) (f : ℕ) (tp : ℕ), Quiet s ∧ v < 2 ∧ f < 8 ∧ s.x.safe.dark = false ∧ (begin s).safeRuns = true ∧ tp < 2 ∧ (begin s).fType f ≠ 0 ∧ ((begin s).sin f).closed = true ∧ s.get (SAFE.FCFG0 f) SAFE.FCFG0_TPA = tp + 1 ∧ 1 ≤ ((begin s).sin f).miss)
    ∧ (∃ (s : State) (v : ℕ) (f : ℕ), Quiet s ∧ v < 2 ∧ f < 8 ∧ s.x.safe.dark = false ∧ (begin s).safeRuns = true ∧ (begin s).fType f = 1 ∧ (begin s).satA v f ≠ (begin s).satB v f ∧ ((begin s).sfn v f).st = fsSafe)
    ∧ (∃ (s : State) (v : ℕ) (f : ℕ) (g : ℕ) (ms : ℕ), Quiet s ∧ v < 2 ∧ f < 8 ∧ s.x.safe.dark = false ∧ (begin s).safeRuns = true ∧ (begin s).fType f = 6 ∧ 100 ≤ ms ∧ ms ≤ 5000 ∧ (begin s).healthyA 0 f = true ∧ s.x.safe.ss = ssActive ∧ g < 8 ∧ (begin s).fType g = 1 ∧ (begin s).fReset g = 1 ∧ s.get (SAFE.FCFG0 g) SAFE.FCFG0_RSTF = f ∧ ((begin s).sfn 0 g).st = fsWait ∧ (begin s).fDemand 0 g = false ∧ (begin s).fFaulted 0 g = false ∧ ((begin s).sfn 0 f).actAt = none)
    ∧ (∃ (s : State) (v : ℕ) (f : ℕ) (ms : ℕ), Quiet s ∧ v < 2 ∧ f < 8 ∧ s.x.safe.dark = false ∧ (begin s).safeRuns = true ∧ (begin s).fType f = 6 ∧ (ms < 100 ∨ 5000 < ms))
    ∧ (∃ (s : State) (v : ℕ) (f : ℕ), Quiet s ∧ v < 2 ∧ f < 8 ∧ s.x.safe.dark = false ∧ (begin s).safeRuns = true ∧ ((begin s).sfn v f).st = fsStopping ∧ (begin s).fType f = 1 ∧ (begin s).fFaulted v f = true)
    ∧ (∃ (s : State) (v : ℕ) (f : ℕ), Quiet s ∧ v < 2 ∧ f < 8 ∧ s.x.safe.dark = false ∧ (begin s).safeRuns = true ∧ ((begin s).sfn v f).st = fsStopping ∧ (begin s).fType f = 1)
    ∧ (∃ (s : State) (v : ℕ) (f : ℕ), Quiet s ∧ v < 2 ∧ f < 8 ∧ s.x.safe.dark = false ∧ (begin s).safeRuns = true ∧ ((begin s).sfn v f).deg = true ∧ ((begin s).sfn v f).low = false)
    ∧ (∃ (s : State) (v : ℕ) (f : ℕ), Quiet s ∧ v < 2 ∧ f < 8 ∧ s.x.safe.dark = false ∧ (begin s).safeRuns = true ∧ ((begin s).sfn v f).deg = true ∧ ((begin s).sfn v f).st = fsRun ∧ (begin s).fType f = 1)
    ∧ (∃ (s : State) (v : ℕ) (f : ℕ), Quiet s ∧ v < 2 ∧ f < 8 ∧ s.x.safe.dark = false ∧ (begin s).safeRuns = true ∧ ((begin s).sfn v f).deg = true ∧ (begin s).fFaulted v f = false ∧ (begin s).satA v f = (begin s).satB v f) :=
  ⟨⟨st .run [] (fun x => { x with safe := { ss := ssActive } }), 1, 7, 15, by decide +kernel⟩,
   ⟨st .run [(SAFE.FCFG0 7, SAFE.FCFG0_TYPE, 1), (SAFE.FCFG0 7, SAFE.FCFG0_TPA, 2)] (fun x => { x with safe := { ss := ssActive, ins := [(7, { closed := true, miss := 1 })] } }), 0, 7, 1, by decide +kernel⟩,
   ⟨st .run [(SAFE.FCFG0 7, SAFE.FCFG0_TYPE, 1)] (fun x => { x with safe := { ss := ssActive, seen := [(7, { closed := true })], fns := [(15, { st := fsSafe })] } }), 1, 7, by decide +kernel⟩,
   ⟨st .run [(SAFE.FCFG0 7, SAFE.FCFG0_TYPE, 6), (SAFE.FCFG0 0, SAFE.FCFG0_TYPE, 1), (SAFE.FCFG0 0, SAFE.FCFG0_RESET, 1), (SAFE.FCFG0 0, SAFE.FCFG0_RSTF, 7)] (fun x => { x with safe := { ss := ssActive, ins := [(0, { closed := true }), (8, { closed := true })], seen := [(8, { closed := true })], fns := [(0, { st := fsWait })] } }), 0, 7, 0, 5000, by decide +kernel⟩,
   ⟨st .run [(SAFE.FCFG0 7, SAFE.FCFG0_TYPE, 6)] (fun x => { x with safe := { ss := ssActive } }), 0, 7, 5001, by decide +kernel⟩,
   ⟨st .run [(SAFE.FCFG0 7, SAFE.FCFG0_TYPE, 1)] (fun x => { x with safe := { ss := ssActive, seen := [(7, { xfault := true })], fns := [(15, { st := fsStopping })] } }), 1, 7, by decide +kernel⟩,
   ⟨st .run [(SAFE.FCFG0 7, SAFE.FCFG0_TYPE, 1)] (fun x => { x with safe := { ss := ssActive, fns := [(15, { st := fsStopping })] } }), 1, 7, by decide +kernel⟩,
   ⟨st .run [] (fun x => { x with safe := { ss := ssActive, fns := [(15, { deg := true })] } }), 1, 7, by decide +kernel⟩,
   ⟨st .run [(SAFE.FCFG0 7, SAFE.FCFG0_TYPE, 1)] (fun x => { x with safe := { ss := ssActive, fns := [(15, { deg := true, st := fsRun })] } }), 1, 7, by decide +kernel⟩,
   ⟨st .run [(SAFE.FCFG0 7, SAFE.FCFG0_TYPE, 1)] (fun x => { x with safe := { ss := ssActive, fns := [(15, { deg := true })] } }), 1, 7, by decide +kernel⟩⟩

/-- States that meet the hypotheses of each clause of `SafetyOutputCommands`. -/
theorem witness_safety_output_commands :
    (∃ (s : State) (n : ℕ), Quiet s ∧ n < 4 ∧ s.x.safe.dark = false ∧ (begin s).safeRuns = true ∧ SafeOutputs s)
    ∧ (∃ (s : State) (n : ℕ), Quiet s ∧ n < 4 ∧ s.x.safe.dark = false ∧ (begin s).safeRuns = true ∧ SafeOutputs s ∧ ((begin s).sout n).on = true)
    ∧ (∃ (s : State) (n : ℕ), Quiet s ∧ n < 4 ∧ s.x.safe.dark = false ∧ (begin s).safeRuns = true ∧ SafeOutputs s ∧ ((begin s).sout n).on = false)
    ∧ (∃ (s : State) (n : ℕ) (h : Bool), Quiet s ∧ n < 4 ∧ s.x.safe.dark = false ∧ (begin s).safeRuns = true ∧ SafeOutputs s ∧ (if h = true then ((begin s).sout n).a else ((begin s).sout n).b) = false) :=
  ⟨⟨st .run [] (fun x => { x with safe := { ss := ssIdle } }), 3, by decide +kernel⟩,
   ⟨st .run [(SAFE.FCFG0 2, SAFE.FCFG0_TYPE, 1), (SAFE.FCFG0 2, SAFE.FCFG0_OUTMASK, 8)] (fun x => { x with safe := { ss := ssActive, fns := [(2, { st := fsStopping }), (10, { st := fsStopping })], outs := [(3, { a := true, b := true })] } }), 3, by decide +kernel⟩,
   ⟨st .run [] (fun x => { x with safe := { ss := ssActive, outs := [(3, { a := true })] } }), 3, by decide +kernel⟩,
   ⟨st .run [] (fun x => { x with safe := { ss := ssActive, outs := [(3, { a := true })] } }), 3, false, by decide +kernel⟩⟩

/-- States that meet the hypotheses of each clause of `SafetySectionStates`. -/
theorem witness_safety_section_states :
    (∃ (s : State), Quiet s ∧ s.x.safe.dark = false ∧ s.x.safe.ss ≠ ssFault)
    ∧ (∃ (s : State) (i : ℕ), Quiet s ∧ s.x.safe.dark = false ∧ s.x.safe.ss ≠ ssFault ∧ i < 16)
    ∧ (∃ (s : State), Quiet s ∧ s.x.safe.ka = true ∧ (begin s).safeRuns = true)
    ∧ (∃ (s : State), Quiet s)
    ∧ (∃ (s : State) (mv : ℕ), Quiet s ∧ (begin s).safeRuns = true ∧ (mv < 16000 ∨ 32000 < mv))
    ∧ (∃ (s : State) (mv : ℕ), Quiet s ∧ 19500 < mv ∧ mv ≤ 32000 ∧ s.x.safe.ss ≠ ssFault ∧ s.x.safe.ka = true ∧ s.x.safe.needStart = true)
    ∧ (∃ (s : State) (mv : ℕ), Quiet s ∧ 19500 < mv ∧ mv ≤ 32000 ∧ s.x.safe.ss ≠ ssFault ∧ s.x.safe.ka = true ∧ s.x.safe.needStart = false ∧ s.x.safe.ss = ssTripped)
    ∧ (∃ (s : State), Quiet s ∧ s.x.safe.testing = true)
    ∧ (∃ (s : State), Quiet s ∧ s.x.safe.testing = true ∧ s.x.safe.sealed = false)
    ∧ (∃ (s : State), Quiet s ∧ s.x.safe.testing = true ∧ s.x.safe.sealed = true ∧ s.rd SAFE.SIG = s.x.safe.sigA ∧ s.rd SAFE.SIG = s.x.safe.sigB ∧ s.rd SAFE.SIG = s.rd SAFE.PENDSIG ∧ sealBad (begin s).sealedCfg = false) :=
  ⟨⟨st .run [] id, by decide +kernel⟩,
   ⟨st .run [] id, 15, by decide +kernel⟩,
   ⟨st .run [] (fun x => { x with safe := { ss := ssIdle, ka := true } }), by decide +kernel⟩,
   ⟨.reset, by decide +kernel⟩,
   ⟨st .run [] (fun x => { x with safe := { ss := ssIdle } }), 15999, by decide +kernel⟩,
   ⟨st .run [] (fun x => { x with safe := { dark := true, ka := true } }), 32000, by decide +kernel⟩,
   ⟨st .run [] (fun x => { x with safe := { ss := ssTripped, ka := true, needStart := false } }), 19501, by decide +kernel⟩,
   ⟨st .run [] (fun x => { x with safe := { testing := true } }), by decide +kernel⟩,
   ⟨st .run [] (fun x => { x with safe := { testing := true } }), by decide +kernel⟩,
   ⟨st .run [] (fun x => { x with safe := { testing := true, sealed := true } }), by decide +kernel⟩⟩

/-- States that meet the hypotheses of each clause of `SealAndPassword`. -/
theorem witness_seal_and_password :
    (∃ (s : State) (p : Party) (a : ℕ), Quiet s ∧ MaySeal s p [Mode.held] ∧ (s.x.safe.shown = ssUnsealed ∨ s.x.safe.shown = ssIdle) ∧ (begin s).pwCheck true = none ∧ (begin s).activeContent.safe ≠ [] ∧ s.rd SAFE.PENDSIG ≠ 0 ∧ a = BitVec.toNat (s.rd SAFE.PENDSIG) % 65536 ∧ (sealBad fun f => (BitVec.toNat ((begin s).activeContent.safe.getD (2 * f) 0), BitVec.toNat ((begin s).activeContent.safe.getD (2 * f + 1) 0))) = false)
    ∧ (∃ (s : State) (p : Party) (r : ℕ), Quiet s ∧ MaySeal s p [Mode.held] ∧ (s.x.safe.shown = ssUnsealed ∨ s.x.safe.shown = ssIdle) ∧ (begin s).pwCheck true = some r)
    ∧ (∃ (s : State) (p : Party) (a : ℕ), Quiet s ∧ MaySeal s p [Mode.held, Mode.ready, Mode.run, Mode.hold] ∧ a = 0 ∧ (begin s).pwCheck false = none ∧ pwShape (pwBytes s.x.safe.npwbuf (SAFE.PWLEN_NLEN.get s.x.safe.pwlen)) (SAFE.PWLEN_NLEN.get s.x.safe.pwlen) = true)
    ∧ (∃ (s : State) (p : Party) (a : ℕ) (r : ℕ), Quiet s ∧ MaySeal s p [Mode.held, Mode.ready, Mode.run, Mode.hold] ∧ a = 0 ∧ (begin s).pwCheck false = some r)
    ∧ (∃ (s : State), Quiet s ∧ s.x.safe.pwLock = true) :=
  ⟨⟨st .held [on safePage, (SAFE.PENDSIG, whole, 0x12345)] (fun x => { host x with pages := { unlocks := [⟨safePage, .host 7, 3, 0⟩] }, safe := { ss := ssUnsealed, password := some ([1], pwHash [1] (List.replicate 8 0x41)), pwbuf := [(0, 0x41414141), (1, 0x41414141)], pwlen := SAFE.PWLEN_LEN.set 0 8 }, img := { slot0 := ⟨[], { safe := List.replicate 16 0 }⟩ } }), .host 7, 0x2345, by decide +kernel⟩,
   ⟨st .held [on safePage] (fun x => { host x with pages := { unlocks := [⟨safePage, .host 7, 3, 0⟩] }, safe := { ss := ssIdle } }), .host 7, 0x86, by decide +kernel⟩,
   ⟨st .run [on safePage] (fun x => { host x with pages := { unlocks := [⟨safePage, .host 7, 3, 0⟩] }, safe := { npwbuf := [(0, 0x41414141), (1, 0x41414141)], pwlen := SAFE.PWLEN_NLEN.set 0 8 } }), .host 7, 0, by decide +kernel⟩,
   ⟨st .run [on safePage] (fun x => { host x with pages := { unlocks := [⟨safePage, .host 7, 3, 0⟩] }, safe := { password := some ([1], pwHash [1] (List.replicate 8 0x41)) } }), .host 7, 0, 0x85, by decide +kernel⟩,
   ⟨st .run [] (fun x => { x with safe := { pwLock := true } }), by decide +kernel⟩⟩

/-- States that meet the hypotheses of each clause of `SelfTestAndMemoryErrors`. -/
theorem witness_self_test_and_memory_errors :
    (∃ (s : State) (p : Party) (f : ℕ), Quiet s ∧ MayStart s p bistPage 2 [Mode.held, Mode.ready, Mode.run, Mode.hold] ∧ f < 4 ∧ (begin s).place f = plExcluded)
    ∧ (∃ (s : State) (f : ℕ), Quiet s ∧ Live s ∧ (begin s).opBusy bistPage = true ∧ s.x.bist.retestForm = some f ∧ f < 4)
    ∧ (∃ (s : State) (p : Party), Quiet s ∧ MayStart s p bistPage 2 anyButSelfTest ∧ s.x.mode = Mode.held)
    ∧ (∃ (s : State) (f : ℕ), Quiet s ∧ Live s ∧ f < 4 ∧ s.x.bist.ecc = [] ∧ s.x.bist.weak = [])
    ∧ (∃ (s : State) (f : ℕ) (a : ℕ), Quiet s ∧ Live s ∧ f < 4 ∧ s.x.bist.ecc = [(f, a, (begin s).now)] ∧ s.x.bist.weak = [])
    ∧ (∃ (s : State) (f : ℕ), Quiet s ∧ Live s ∧ f < 4 ∧ (begin s).place f = plVoting ∧ s.x.proc.isOpen = false ∧ s.x.proc.rot = none) :=
  ⟨⟨st .run [on bistPage, (FORM.FSTAT 3, FORM.FSTAT_PLACE, plExcluded)] host, .host 7, 3, by decide +kernel⟩,
   ⟨st .run [busy bistPage] (fun x => { x with bist := { retestForm := some 3 } }), 3, by decide +kernel⟩,
   ⟨st .held [on bistPage] host, .host 7, by decide +kernel⟩,
   ⟨st .run [] id, 3, by decide +kernel⟩,
   ⟨st .run [] (fun x => { x with bist := { ecc := [(3, 77, 0)] } }), 3, 77, by decide +kernel⟩,
   ⟨st .run voting id, 2, by decide +kernel⟩⟩

/-- States that meet the hypotheses of each clause of `SensorCommands`. -/
theorem witness_sensor_commands :
    (∃ (s : State) (g : ℕ), Quiet s ∧ g < 4 ∧ (begin s).sensLive g = true ∧ (begin s).slot? g = none)
    ∧ (∃ (s : State) (g : ℕ) (k : ℕ), Quiet s ∧ g < 4 ∧ (begin s).sensLive g = true ∧ (begin s).slot? g = some k)
    ∧ (∃ (s : State) (g : ℕ), Quiet s ∧ g < 4 ∧ (begin s).sensLive g = true ∧ (begin s).slot? g = some cjSlot)
    ∧ (∃ (s : State) (ch : ℕ), Quiet s ∧ ch < 32 ∧ (begin s).sensLive (ch / 8) = true ∧ (begin s).inSlot ch = true ∧ ((begin s).sen ch).checkDue = false ∧ ch / 8 ∉ s.x.sens.dark)
    ∧ (∃ (s : State) (ch : ℕ), Quiet s ∧ ch < 32 ∧ (begin s).sensLive (ch / 8) = true ∧ (begin s).inSlot ch = true ∧ ((begin s).sen ch).checkDue = true ∧ ch / 8 ∉ s.x.sens.dark)
    ∧ (∃ (s : State) (g : ℕ), Quiet s ∧ g < 4 ∧ (begin s).sensLive g = true ∧ s.get (SENS.GCFG g) SENS.GCFG_VEXC ≠ 0)
    ∧ (∃ (s : State) (g : ℕ), Quiet s ∧ g < 4 ∧ (begin s).sensLive g = true ∧ s.get (SENS.GSTAT g) SENS.GSTAT_EXCOVL = 1)
    ∧ (∃ (s : State) (p : Party) (ch : ℕ), Quiet s ∧ ch < 32 ∧ (begin s).present p = true ∧ (begin s).busError (SCH.SETCFG ch) = false ∧ (begin s).wordRefusal p (SCH.SETCFG ch) (SCH.SETCFG_SETCLR.set (s.rd (SCH.SETCFG ch)) 1) = none)
    ∧ (∃ (s : State) (g : ℕ), Quiet s ∧ g < 4 ∧ (begin s).alive = true ∧ PageOn s (sensPage g) ∧ s.get (SENS.GCFG g) SENS.GCFG_BLKON = 1)
    ∧ (∃ (s : State) (ch : ℕ), Quiet s ∧ ch < 32 ∧ (begin s).sensLive (ch / 8) = true ∧ ((begin s).sen ch).blanked = true ∧ s.get (SENS.BLKMAX (ch / 8)) SENS.BLKMAX_T ≠ 0) :=
  ⟨⟨st .run [on (sensPage 3)] id, 3, by decide +kernel⟩,
   ⟨st .run [on (sensPage 3), (SCH.CFG 31, SCH.CFG_TYPE, 1)] (fun x => { x with sens := { scan := [(3, [7])] } }), 3, 7, by decide +kernel⟩,
   ⟨st .run [on (sensPage 3)] (fun x => { x with sens := { scan := [(3, [8, 0])] } }), 3, by decide +kernel⟩,
   ⟨st .run [on (sensPage 3), (SCH.CFG 31, SCH.CFG_TYPE, 1)] (fun x => { x with sens := { scan := [(3, [7])] } }), 31, by decide +kernel⟩,
   ⟨st .run [on (sensPage 3), (SCH.CFG 31, SCH.CFG_TYPE, 1), (SCH.CFG 31, SCH.CFG_BOEN, 1)] (fun x => { x with sens := { scan := [(3, [7])], ch := [(31, { checkDue := true })] } }), 31, by decide +kernel⟩,
   ⟨st .run [on (sensPage 3), (SENS.GCFG 3, SENS.GCFG_VEXC, 1)] id, 3, by decide +kernel⟩,
   ⟨st .run [on (sensPage 3), (SENS.GSTAT 3, SENS.GSTAT_EXCOVL, 1)] id, 3, by decide +kernel⟩,
   ⟨st .run [on (sensPage 3)] host, .host 7, 31, by decide +kernel⟩,
   ⟨st .run [on (sensPage 3), (SENS.GCFG 3, SENS.GCFG_BLKON, 1)] id, 3, by decide +kernel⟩,
   ⟨st .run [on (sensPage 3), (SENS.BLKMAX 3, SENS.BLKMAX_T, 1)] (fun x => { x with sens := { ch := [(31, { blanked := true })] } }), 31, by decide +kernel⟩⟩

/-- States that meet the hypotheses of each clause of `Sessions`. -/
theorem witness_sessions :
    (∃ (s : State) (src : ℕ) (n : ℕ) (usb : Bool), Quiet s ∧ (begin s).netOn usb = true ∧ src ∉ s.x.net.blocked ∧ s.x.mode ≠ Mode.powerUp ∧ n ∈ s.x.net.userLocks)
    ∧ (∃ (s : State) (src : ℕ) (id : ℕ) (n : ℕ) (usb : Bool), Quiet s ∧ (begin s).netOn usb = true ∧ src ∉ s.x.net.blocked ∧ s.x.mode ≠ Mode.powerUp ∧ n ∉ s.x.net.userLocks ∧ ((List.filter (fun e => e.usb == usb) s.x.net.sessions).length + (List.filter (fun o => o.usb == usb) s.x.net.offers).length < if usb = true then 1 else 8) ∧ (begin s).usedSessions.contains id = false ∧ 1 ≤ id ∧ id ≤ 65535)
    ∧ (∃ (s : State) (src : ℕ) (mac : List Byte) (o : Offer) (u : User), Quiet s ∧ s.x.net.offers = [o] ∧ (begin s).user? o.user = some u ∧ (begin s).netOn o.usb = true ∧ src ∉ s.x.net.blocked ∧ s.x.mode ≠ Mode.powerUp ∧ (o.user = 1 → o.usb = true) ∧ mac = hmac (sessionKey u.secret o.hostNonce o.modNonce o.user) (proofBytes o.id o.hostNonce o.modNonce))
    ∧ (∃ (s : State) (src : ℕ) (mac : List Byte) (o : Offer) (u : User), Quiet s ∧ s.x.net.offers = [o] ∧ (begin s).user? o.user = some u ∧ (begin s).netOn o.usb = true ∧ src ∉ s.x.net.blocked ∧ s.x.mode ≠ Mode.powerUp ∧ (o.user = 1 → o.usb = true) ∧ mac ≠ hmac (sessionKey u.secret o.hostNonce o.modNonce o.user) (proofBytes o.id o.hostNonce o.modNonce))
    ∧ (∃ (s : State), Quiet s)
    ∧ (∃ (s : State) (id : ℕ) (k : ℕ) (e : Session), Quiet s ∧ (begin s).session? id = some e ∧ (begin s).netOn e.usb = true ∧ e.seqRule k = none)
    ∧ (∃ (s : State) (id : ℕ) (k : ℕ) (e : Session) (st : ℕ) (d : List Word), Quiet s ∧ (begin s).session? id = some e ∧ (begin s).netOn e.usb = true ∧ e.seqRule k = some (st, d))
    ∧ (∃ (s : State) (src : ℕ), Quiet s ∧ Live s ∧ s.x.mode ≠ Mode.powerUp ∧ src ∉ s.x.net.blocked)
    ∧ (∃ (s : State) (src : ℕ), Quiet s ∧ src ∈ s.x.net.blocked)
    ∧ (∃ (s : State) (id : ℕ) (e : Session), Quiet s ∧ (begin s).session? id = some e ∧ e.usb = false ∧ (begin s).netOn false = true ∧ (begin s).irqRisen e = true ∧ e.noteSeq = 0)
    ∧ (∃ (s : State) (id : ℕ) (e : Session), Quiet s ∧ (begin s).session? id = some e ∧ e.usb = false ∧ (begin s).netOn false = true ∧ e.noteAck < e.noteFirst)
    ∧ (∃ (s : State) (k : ℕ) (e : Session), Quiet s ∧ s.x.net.sessions = [e] ∧ k ≤ e.noteSeq) :=
  ⟨⟨st .run [] (fun x => { x with net := { userLocks := [2] } }), 1, 2, true, by decide +kernel⟩,
   ⟨st .run [] id, 1, 65535, 2, true, by decide +kernel⟩,
   ⟨st .run [] (fun x => { x with net := { offers := [⟨9, true, 1, [], []⟩] } }), 1, hmac (sessionKey factorySecret [] [] 1) (proofBytes 9 [] []), ⟨9, true, 1, [], []⟩, ⟨1, 2, factorySecret⟩, by decide +kernel, by decide +kernel, by decide +kernel, by decide +kernel, by decide +kernel, by decide +kernel, by decide +kernel, rfl⟩,
   ⟨st .run [] (fun x => { x with net := { offers := [⟨9, true, 1, [], []⟩] } }), 1, [], ⟨9, true, 1, [], []⟩, ⟨1, 2, factorySecret⟩, by decide +kernel⟩,
   ⟨.reset, by decide +kernel⟩,
   ⟨st .run [] host, 7, 1, ses, by decide +kernel⟩,
   ⟨st .run [] host, 7, 0, ses, stSeqOld, [], by decide +kernel⟩,
   ⟨st .run [] id, 1, by decide +kernel⟩,
   ⟨st .run [] (fun x => { x with net := { blocked := [1] } }), 1, by decide +kernel⟩,
   ⟨st .run [on (netPage 1), (TASK.IRQSUM 4, whole, 1)] (fun x => { x with net := { sessions := [{ ses with usb := false }] } }), 7, { ses with usb := false }, by decide +kernel⟩,
   ⟨st .run [on (netPage 0)] (fun x => { x with net := { sessions := [{ ses with usb := false, noteFirst := 1 }] } }), 7, { ses with usb := false, noteFirst := 1 }, by decide +kernel⟩,
   ⟨st .run [] (fun x => { x with net := { sessions := [{ ses with noteSeq := 4 }] } }), 4, { ses with noteSeq := 4 }, by decide +kernel⟩⟩

/-- States that meet the hypotheses of each clause of `SlateCommands`. -/
theorem witness_slate_commands :
    (∃ (s : State) (r : ℕ), Quiet s ∧ Live s ∧ r < 5 ∧ PageOn s slatePage ∧ s.x.slate.busy = [] ∧ s.x.slate.cleaning = false ∧ r ∈ s.x.slate.waiting ∧ 5 ∉ s.x.slate.waiting ∧ 6 ∉ s.x.slate.waiting ∧ (begin s).slateDue r = true)
    ∧ (∃ (s : State), Quiet s ∧ Live s ∧ PageOn s slatePage ∧ s.x.slate.busy = [] ∧ s.x.slate.cleaning = false ∧ 6 ∈ s.x.slate.waiting)
    ∧ (∃ (s : State), Quiet s ∧ Live s ∧ s.x.slate.busy ≠ [] ∧ s.x.slate.cleaning = false ∧ s.x.slate.full = false)
    ∧ (∃ (s : State), Quiet s ∧ Live s)
    ∧ (∃ (s : State) (p : Party), Quiet s ∧ Live s ∧ MayStart s p slatePage 1 anyButPowerUp ∧ 5 ∉ s.x.slate.waiting ∧ 6 ∉ s.x.slate.waiting)
    ∧ (∃ (s : State) (p : Party), Quiet s ∧ Live s ∧ MayStart s p slatePage 2 anyButPowerUp) :=
  ⟨⟨st .run [on slatePage] (fun x => { x with slate := { waiting := [4] } }), 4, by decide +kernel⟩,
   ⟨st .run [on slatePage] (fun x => { x with slate := { waiting := [6] } }), by decide +kernel⟩,
   ⟨st .run [] (fun x => { x with slate := { busy := [0] } }), by decide +kernel⟩,
   ⟨st .run [] id, by decide +kernel⟩,
   ⟨st .run [on slatePage] id, .program, by decide +kernel⟩,
   ⟨st .run [on slatePage] host, .host 7, by decide +kernel⟩⟩

/-- States that meet the hypotheses of each clause of `StandbyCommands`. -/
theorem witness_standby_commands :
    (∃ (s : State), Quiet s ∧ Live s ∧ s.x.role = Role.standby ∧ (begin s).linkUp = true ∧ (begin s).pstate ≠ psTaking)
    ∧ (∃ (s : State), Quiet s ∧ Live s ∧ s.x.role = Role.standby)
    ∧ (∃ (s : State), Quiet s ∧ Live s ∧ s.x.role = Role.duty)
    ∧ (∃ (s : State), Quiet s ∧ Live s ∧ s.x.role = Role.standby ∧ (begin s).linkUp = false ∧ (begin s).pstate ≠ psTaking)
    ∧ (∃ (s : State) (f : ℕ), Quiet s ∧ Live s ∧ s.x.role = Role.standby ∧ f < 4 ∧ (begin s).place f = plTest ∧ (begin s).voters.length < 3 ∧ (begin s).formsIn plIdle = [] ∧ (begin s).formsIn plJoining = [])
    ∧ (∃ (s : State) (f : ℕ), Quiet s ∧ Live s ∧ s.x.role = Role.standby ∧ f < 4 ∧ (begin s).place f = plTest ∧ (begin s).formsIn plExcluded = [])
    ∧ (∃ (s : State) (p : Party), Quiet s ∧ Live s ∧ MayStart s p pairPage 2 anyButSelfTest ∧ (begin s).paired = true ∧ s.x.role = Role.standby ∧ (begin s).linkUp = true)
    ∧ (∃ (s : State) (p : Party), Quiet s ∧ Live s ∧ MayStart s p pairPage 2 anyButSelfTest ∧ (begin s).paired = true ∧ s.x.role ≠ Role.standby) :=
  ⟨⟨st .run [(PAIR.STAT, PAIR.STAT_LINKUP, 1)] stby, by decide +kernel⟩,
   ⟨st .run [] stby, by decide +kernel⟩,
   ⟨st .run [] duty, by decide +kernel⟩,
   ⟨st .run [] stby, by decide +kernel⟩,
   ⟨st .run [(FORM.FSTAT 3, FORM.FSTAT_PLACE, plTest)] stby, 3, by decide +kernel⟩,
   ⟨st .run [(FORM.FSTAT 3, FORM.FSTAT_PLACE, plTest)] stby, 3, by decide +kernel⟩,
   ⟨st .run [on pairPage, (PAIR.CFG, PAIR.CFG_PAIRED, 1), (PAIR.STAT, PAIR.STAT_LINKUP, 1)] (fun x => stby (host x)), .host 7, by decide +kernel⟩,
   ⟨st .run [on pairPage, (PAIR.CFG, PAIR.CFG_PAIRED, 1)] (fun x => duty (host x)), .host 7, by decide +kernel⟩⟩

/-- States that meet the hypotheses of each clause of `StartUpCommands`. -/
theorem witness_start_up_commands :
    (∃ (s : State) (va : ℕ) (vb : ℕ), Quiet s ∧ s.x.mode = Mode.off ∧ (17500 ≤ va ∨ 17500 ≤ vb))
    ∧ (∃ (s : State), Quiet s ∧ s.x.mode ≠ Mode.off)
    ∧ (∃ (s : State), Quiet s ∧ s.x.mode = Mode.powerUp)
    ∧ (∃ (s : State) (f : ℕ), Quiet s ∧ s.x.mode = Mode.selfTest ∧ f < 4 ∧ (begin s).place f = plUndecided ∧ f ∉ s.x.bist.lbistRun ∧ (∀ g < f, g ∈ s.x.bist.lbistRun ∧ (f ≤ g + 1 ∨ (begin s).memoryOver g = true)))
    ∧ (∃ (s : State) (f : ℕ) (g : ℕ), Quiet s ∧ s.x.mode = Mode.selfTest ∧ g < f ∧ g ∉ s.x.bist.lbistRun ∧ (begin s).firstPassOver = false)
    ∧ (∃ (s : State) (f : ℕ), Quiet s ∧ s.x.mode = Mode.selfTest ∧ f < 4 ∧ (begin s).place f = plUndecided ∧ s.get BIST.FORMSTAT { lo := 4 * f, w := 1 } = 1 ∧ f ∉ s.x.bist.mbistRun ∧ s.get BIST.FORMSTAT { lo := 4 * f + 1, w := 1 } = 0 ∧ s.get BIST.FORMSTAT { lo := 4 * f + 3, w := 1 } = 0)
    ∧ (∃ (s : State) (f : ℕ) (k : ℕ), Quiet s ∧ s.x.mode = Mode.selfTest ∧ f < 4 ∧ k < 10 ∧ (begin s).place f = plUndecided ∧ s.get BIST.FORMSTAT { lo := 4 * f, w := 1 } = 1 ∧ f ∉ s.x.bist.mbistRun ∧ s.get BIST.FORMSTAT { lo := 4 * f + 1, w := 1 } = 0 ∧ s.get BIST.FORMSTAT { lo := 4 * f + 3, w := 1 } = 0 ∧ s.x.bist.repairs = [] ∧ s.x.bist.weak = [] ∧ s.x.bist.records.length < 8192)
    ∧ (∃ (s : State), Quiet s ∧ s.x.mode = Mode.selfTest ∧ (∀ f ∈ allForms, (begin s).formPassed f = true ∧ (begin s).place f = plUndecided) ∧ s.x.proc.moveBank = false)
    ∧ (∃ (s : State) (a : Bool) (b : Bool) (c : Bool), Quiet s ∧ s.x.mode = Mode.selfTest ∧ (∀ f ∈ allForms, (begin s).formPassed f = true) ∧ (c = false ∨ a = false ∧ b = false))
    ∧ (∃ (s : State), Quiet s ∧ s.x.mode = Mode.imageCheck ∧ (begin s).actSlot.bytes = [])
    ∧ (∃ (s : State) (r : ℕ), Quiet s ∧ s.x.mode = Mode.imageCheck ∧ (begin s).actSlot.bytes ≠ [] ∧ (begin s).imageFault (begin s).actSlot = some r)
    ∧ (∃ (s : State), Quiet s ∧ s.x.mode = Mode.imageCheck ∧ (begin s).actSlot.bytes ≠ [] ∧ (begin s).imageFault (begin s).actSlot = none)
    ∧ (∃ (s : State), Quiet s ∧ s.x.mode = Mode.ready ∧ s.x.role ≠ Role.standby ∧ (s.x.img.restart = 1 ∨ s.x.img.restart = 2))
    ∧ (∃ (s : State), Quiet s ∧ s.x.xfer.fwTrial = true ∧ (s.x.mode = Mode.powerUp ∨ s.x.mode = Mode.selfTest ∨ s.x.mode = Mode.failed)) :=
  ⟨⟨st .off [] id, 17500, 0, by decide +kernel⟩,
   ⟨.reset, by decide +kernel⟩,
   ⟨.reset, by decide +kernel⟩,
   ⟨st .selfTest [(BIST.FORMSTAT, whole, 0x33)] (fun x => { x with bist := { lbistRun := [0, 1, 2], mbistRun := [0, 1] } }), 3, by decide +kernel⟩,
   ⟨st .selfTest [] id, 2, 1, by decide +kernel⟩,
   ⟨st .selfTest [(BIST.FORMSTAT, ⟨12, 1⟩, 1)] id, 3, by decide +kernel⟩,
   ⟨st .selfTest [(BIST.FORMSTAT, ⟨12, 1⟩, 1)] id, 3, 9, by decide +kernel⟩,
   ⟨st .selfTest [(BIST.FORMSTAT, whole, 0x3333)] id, by decide +kernel⟩,
   ⟨st .selfTest [(BIST.FORMSTAT, whole, 0x3333)] id, false, false, true, by decide +kernel⟩,
   ⟨st .imageCheck [] id, by decide +kernel⟩,
   ⟨st .imageCheck [] (fun x => { x with img := { slot0 := ⟨[0x42], imgSlot.content⟩ } }), 0x81, by decide +kernel⟩,
   ⟨st .imageCheck [] (fun x => { x with img := { slot0 := imgSlot } }), by decide +kernel⟩,
   ⟨st .ready [] (fun x => { x with img := { restart := 2 } }), by decide +kernel⟩,
   ⟨st .failed [] (fun x => { x with xfer := { fwTrial := true } }), by decide +kernel⟩⟩

/-- States that meet the hypotheses of each clause of `StepRunsTheFrontCommand`. -/
theorem witness_step_runs_the_front_command :
    (∃ (c : Instr) (s : State) (rest : List Instr), s.pending = c :: rest) :=
  ⟨.cupolaCopy, { State.reset with pending := [.cupolaCopy] }, [], by decide +kernel⟩

/-- States that meet the hypotheses of each clause of `SupplyCommandsComplete`. -/
theorem witness_supply_commands_complete :
    (∃ (s : State), Quiet s ∧ s.x.mode ≠ Mode.off)
    ∧ (∃ (s : State) (mv : ℕ), Quiet s ∧ s.x.mode ≠ Mode.off ∧ mv < 18000)
    ∧ (∃ (s : State) (mv : ℕ), Quiet s ∧ s.x.mode ≠ Mode.off ∧ 18500 < mv)
    ∧ (∃ (s : State) (b : Bool), Quiet s ∧ s.x.mode ≠ Mode.off ∧ s.get PWR.LSTAT (feedOver b) = 0)
    ∧ (∃ (s : State) (b : Bool) (mv : ℕ), Quiet s ∧ s.x.mode ≠ Mode.off ∧ s.get PWR.LSTAT (feedOver b) ≠ 0 ∧ 17500 ≤ mv ∧ mv ≤ 32000)
    ∧ (∃ (s : State), Quiet s ∧ Live s)
    ∧ (∃ (s : State) (f : ℕ), Quiet s ∧ tamperFlags[f]? ≠ none)
    ∧ (∃ (s : State) (g : ℕ), Quiet s ∧ 1 ≤ g ∧ g ≤ 6) :=
  ⟨⟨.reset, by decide +kernel⟩,
   ⟨.reset, 17999, by decide +kernel⟩,
   ⟨.reset, 18501, by decide +kernel⟩,
   ⟨.reset, true, by decide +kernel⟩,
   ⟨st .run [(PWR.LSTAT, feedOver true, 1)] id, true, 32000, by decide +kernel⟩,
   ⟨.reset, by decide +kernel⟩,
   ⟨.reset, 2, by decide +kernel⟩,
   ⟨.reset, 6, by decide +kernel⟩⟩

/-- States that meet the hypotheses of each clause of `SysOperations`. -/
theorem witness_sys_operations :
    (∃ (s : State) (p : Party), Quiet s ∧ MayStart s p sysPage 2 anyButSelfTest ∧ 2 ≤ s.get SYS.IMAGE SYS.IMAGE_PEND)
    ∧ (∃ (s : State) (p : Party), Quiet s ∧ MayStart s p sysPage 2 [Mode.held, Mode.ready] ∧ 2 ≤ s.get SYS.IMAGE SYS.IMAGE_PEND)
    ∧ (∃ (s : State), Quiet s ∧ Live s ∧ (begin s).opBusy sysPage = true ∧ s.get (HDR.OPSTAT sysPage) HDR.OPSTAT_OP = 1 ∧ 2 ≤ s.get SYS.IMAGE SYS.IMAGE_PEND ∧ (begin s).imageFault (begin s).pendSlot = none)
    ∧ (∃ (s : State) (r : ℕ), Quiet s ∧ Live s ∧ (begin s).opBusy sysPage = true ∧ s.get (HDR.OPSTAT sysPage) HDR.OPSTAT_OP = 1 ∧ 2 ≤ s.get SYS.IMAGE SYS.IMAGE_PEND ∧ (begin s).imageFault (begin s).pendSlot = some r)
    ∧ (∃ (s : State), Quiet s ∧ (s.x.mode = Mode.held ∨ s.x.mode = Mode.ready) ∧ (begin s).opBusy sysPage = true ∧ s.get (HDR.OPSTAT sysPage) HDR.OPSTAT_OP = 2 ∧ 2 ≤ s.get SYS.IMAGE SYS.IMAGE_PEND ∧ (begin s).imageFault (begin s).pendSlot = none)
    ∧ (∃ (s : State) (p : Party), Quiet s ∧ MayStart s p sysPage 2 [Mode.held] ∧ s.x.img.activeOk = true ∧ (begin s).paired = false)
    ∧ (∃ (s : State) (p : Party), Quiet s ∧ MayStart s p sysPage 2 [Mode.ready])
    ∧ (∃ (s : State) (p : Party), Quiet s ∧ MayStart s p sysPage 2 anyButPowerUp) :=
  ⟨⟨st .run [on sysPage, (SYS.IMAGE, SYS.IMAGE_PEND, 2)] host, .host 7, by decide +kernel⟩,
   ⟨st .ready [on sysPage, (SYS.IMAGE, SYS.IMAGE_PEND, 2)] host, .host 7, by decide +kernel⟩,
   ⟨st .run [busy sysPage, (HDR.OPSTAT sysPage, HDR.OPSTAT_OP, 1), (SYS.IMAGE, SYS.IMAGE_PEND, 2)] (fun x => { x with img := { slot1 := imgSlot } }), by decide +kernel⟩,
   ⟨st .run [busy sysPage, (HDR.OPSTAT sysPage, HDR.OPSTAT_OP, 1), (SYS.IMAGE, SYS.IMAGE_PEND, 2)] id, 0x81, by decide +kernel⟩,
   ⟨st .ready [busy sysPage, (HDR.OPSTAT sysPage, HDR.OPSTAT_OP, 2), (SYS.IMAGE, SYS.IMAGE_PEND, 2)] (fun x => { x with img := { slot1 := imgSlot } }), by decide +kernel⟩,
   ⟨st .held [on sysPage] (fun x => { host x with img := { activeOk := true } }), .host 7, by decide +kernel⟩,
   ⟨st .ready [on sysPage] host, .host 7, by decide +kernel⟩,
   ⟨st .run [on sysPage] host, .host 7, by decide +kernel⟩⟩

/-- States that meet the hypotheses of each clause of `TaskOperationsWaitForTheBoundary`. -/
theorem witness_task_operations_wait_for_the_boundary :
    (∃ (s : State) (p : Party) (a : ℕ), Quiet s ∧ s.x.role ≠ Role.standby ∧ p ≠ Party.program ∧ (a = 1 ∨ a = 2) ∧ MayStart s p taskPage a [Mode.ready])
    ∧ (∃ (s : State) (p : Party) (a : ℕ), Quiet s ∧ s.x.role ≠ Role.standby ∧ p ≠ Party.program ∧ a = 0 ∧ MayStart s p taskPage 1 [Mode.hold])
    ∧ (∃ (s : State) (p : Party) (a : ℕ), Quiet s ∧ s.x.role ≠ Role.standby ∧ a = 0 ∧ MayStart s p taskPage 1 (if p = Party.program then [Mode.run] else [Mode.run, Mode.hold]))
    ∧ (∃ (s : State) (p : Party) (a : ℕ), Quiet s ∧ s.x.role ≠ Role.standby ∧ a = 0 ∧ MayStart s p taskPage 1 [Mode.run])
    ∧ (∃ (s : State) (p : Party) (a : ℕ), Quiet s ∧ s.x.role ≠ Role.standby ∧ a = 0 ∧ MayStart s p taskPage 2 [Mode.ready, Mode.run, Mode.hold] ∧ (begin s).forceFault (BitVec.toNat (s.rd TASK.FVAR)) = none ∧ s.x.task.forces.length < 256)
    ∧ (∃ (s : State) (p : Party) (a : ℕ), Quiet s ∧ s.x.role ≠ Role.standby ∧ a = 0 ∧ MayStart s p taskPage 2 [Mode.ready, Mode.run, Mode.hold] ∧ (∃ e ∈ s.x.task.forces, e.2.1 = BitVec.toNat (s.rd TASK.FVAR)))
    ∧ (∃ (s : State) (p : Party) (a : ℕ), Quiet s ∧ s.x.role ≠ Role.standby ∧ a = 0 ∧ MayStart s p taskPage 2 [Mode.ready, Mode.run, Mode.hold])
    ∧ (∃ (s : State) (p : Party) (a : ℕ) (es : List OlcEnt), Quiet s ∧ s.x.role ≠ Role.standby ∧ a = 0 ∧ MayStart s p taskPage 2 [Mode.ready, Mode.run, Mode.hold] ∧ (begin s).olcCheck = Sum.inr es)
    ∧ (∃ (s : State) (p : Party) (a : ℕ) (r : ℕ) (e : ℕ), Quiet s ∧ s.x.role ≠ Role.standby ∧ a = 0 ∧ MayStart s p taskPage 2 [Mode.ready, Mode.run, Mode.hold] ∧ (begin s).olcCheck = Sum.inl (r, e)) :=
  ⟨⟨st .ready [on taskPage] host, .host 7, 2, by decide +kernel⟩,
   ⟨st .hold [on taskPage] host, .host 7, 0, by decide +kernel⟩,
   ⟨st .hold [on taskPage] host, .host 7, 0, by decide +kernel⟩,
   ⟨st .run [on taskPage] id, .program, 0, by decide +kernel⟩,
   ⟨st .run [on taskPage, on (loopPage 0), (TASK.FVAR, whole, 0x8001_0011)] host, .host 7, 0, by decide +kernel⟩,
   ⟨st .hold [on taskPage, (TASK.FVAR, whole, 5)] (fun x => { host x with task := { forces := [(0, 5, 9)] } }), .host 7, 0, by decide +kernel⟩,
   ⟨st .hold [on taskPage] host, .host 7, 0, by decide +kernel⟩,
   ⟨st .hold [on taskPage] (fun x => { host x with task := { setBuf := setBytes, vars := [⟨5, 1, true, 0⟩] } }), .host 7, 0, [⟨1, 1, 5, 9⟩], by decide +kernel⟩,
   ⟨st .hold [on taskPage] host, .host 7, 0, 0x84, 0xFFFF, by decide +kernel⟩⟩

/-- States that meet the hypotheses of each clause of `TheMachineAfterReset`. -/
theorem witness_the_machine_after_reset :
    (∃ (page : ℕ), page < 4096 ∧ kindOf page ≠ Kind.unmapped ∧ isWindow page = false) :=
  ⟨0x40, by decide +kernel⟩

/-- States that meet the hypotheses of each clause of `TimeCommands`. -/
theorem witness_time_commands :
    (∃ (s : State), Quiet s ∧ (begin s).timeRuns = true ∧ (begin s).timeRole = trMaster ∧ (begin s).node ≠ 255 ∧ PageOn s (trkPage 0) ∧ PageOn s (trkPage 1) ∧ ((begin s).trk 0).queue = [] ∧ ((begin s).trk 1).queue = [])
    ∧ (∃ (s : State) (b : Bool), Quiet s ∧ (begin s).timeRuns = true ∧ (((begin s).trk (tn b)).queue.any fun f => decide (f.kind = kTimeSync)) = true)
    ∧ (∃ (s : State) (ts : TimeSync), Quiet s ∧ (begin s).timeRuns = true ∧ (begin s).trkHears 0 = true ∧ (begin s).timeRole ≠ trMaster ∧ s.x.time.heard = [] ∧ (begin s).opBusy timePage = false ∧ ts.node < 256)
    ∧ (∃ (s : State), Quiet s ∧ (begin s).timeRuns = true ∧ (begin s).candidate = true ∧ (begin s).timeRole ≠ trMaster ∧ s.x.time.heard = [])
    ∧ (∃ (s : State) (o : ℤ), Quiet s ∧ (begin s).timeRuns = true ∧ (begin s).candidate = true ∧ s.get TIME.CFG TIME.CFG_PPSEN = 1 ∧ -1000 ≤ o ∧ o ≤ 1000 ∧ 1 ≤ (begin s).stepMax)
    ∧ (∃ (s : State), Quiet s ∧ (begin s).timeRuns = true ∧ (begin s).candidate = true ∧ s.get TIME.CFG TIME.CFG_PPSEN = 1)
    ∧ (∃ (s : State), Quiet s ∧ (begin s).timeRuns = true)
    ∧ (∃ (s : State) (p : Party), Quiet s ∧ (begin s).timeRuns = true ∧ MayStart s p timePage 2 anyButPowerUp ∧ (begin s).candidate = true)
    ∧ (∃ (s : State) (p : Party), Quiet s ∧ (begin s).timeRuns = true ∧ MayStart s p timePage 2 anyButPowerUp ∧ (begin s).candidate = false)
    ∧ (∃ (s : State) (p : Party), Quiet s ∧ (begin s).timeRuns = true ∧ MayStart s p timePage 2 anyButPowerUp) :=
  ⟨⟨st .run [(TIME.STAT, TIME.STAT_ROLE, trMaster), (TRK.CFG 0, TRK.CFG_NODE, 3), on (trkPage 0), on (trkPage 1)] id, by decide +kernel⟩,
   ⟨st .run [] (fun x => { x with trkB := { queue := [⟨0, kTimeSync, 0, 0, []⟩] } }), true, by decide +kernel⟩,
   ⟨st .run [on (trkPage 0)] id, ⟨255, 1, 0, false, false, false, 0, 0, 0, 0, 0, 0⟩, by decide +kernel⟩,
   ⟨st .run [(TIME.CFG, TIME.CFG_MASTEREN, 1)] id, by decide +kernel⟩,
   ⟨st .run [(TIME.CFG, TIME.CFG_MASTEREN, 1), (TIME.CFG, TIME.CFG_PPSEN, 1), (TIME.STEPMAX, whole, 1000)] id, -1000, by decide +kernel⟩,
   ⟨st .run [(TIME.CFG, TIME.CFG_MASTEREN, 1), (TIME.CFG, TIME.CFG_PPSEN, 1)] id, by decide +kernel⟩,
   ⟨st .run [] id, by decide +kernel⟩,
   ⟨st .run [(TIME.CFG, TIME.CFG_MASTEREN, 1), on timePage] host, .host 7, by decide +kernel⟩,
   ⟨st .run [on timePage] host, .host 7, by decide +kernel⟩,
   ⟨st .run [on timePage] host, .host 7, by decide +kernel⟩⟩

/-- States that meet the hypotheses of each clause of `Transfers`. -/
theorem witness_transfers :
    (∃ (s : State) (p : Party) (d : ℕ) (r : ℕ), Quiet s ∧ MayStart s p xferPage 2 anyButSelfTest ∧ d ≤ 15 ∧ (begin s).descBad d kdImage = some r)
    ∧ (∃ (s : State) (p : Party) (d : ℕ), Quiet s ∧ MayStart s p xferPage 2 anyButSelfTest ∧ d ≤ 15 ∧ (begin s).descBad d kdImage = none)
    ∧ (∃ (s : State) (p : Party) (d : ℕ), Quiet s ∧ MayStart s p xferPage 2 anyButSelfTest ∧ d ≤ 15 ∧ (begin s).descBad d kdFirmware = none)
    ∧ (∃ (s : State) (p : Party) (d : ℕ), Quiet s ∧ MayStart s p xferPage 2 [Mode.ready, Mode.run, Mode.hold] ∧ d ≤ 15 ∧ (begin s).descBad d kdChangeset = none)
    ∧ (∃ (s : State) (p : Party) (d : ℕ), Quiet s ∧ MayStart s p xferPage 0 anyButPowerUp ∧ d ≤ 15 ∧ (begin s).descBad d kdEvents = none ∧ (begin s).evtEmpty = true ∧ s.x.evt.first = [] ∧ s.x.evt.circ = [])
    ∧ (∃ (s : State), Quiet s ∧ (begin s).batchReady = true ∧ s.x.xfer.evSent ≠ 0)
    ∧ (∃ (s : State) (f : Flight), Quiet s ∧ s.x.xfer.flights = [f] ∧ f.isRead = false ∧ (begin s).xferOp = none)
    ∧ (∃ (s : State) (f : Flight), Quiet s ∧ s.x.xfer.flights = [f] ∧ (begin s).netOn false = true ∧ f.sends < 5)
    ∧ (∃ (s : State) (f : Flight), Quiet s ∧ s.x.xfer.flights = [f] ∧ (begin s).netOn false = true ∧ 5 ≤ f.sends ∧ 1 ≤ f.ch ∧ f.ch ≤ 7)
    ∧ (∃ (s : State) (p : Party) (d : ℕ) (f : Flight) (ws : List Word), Quiet s ∧ s.x.xfer.flights = [f] ∧ f.isRead = true ∧ f.ch = 0 ∧ f.offset = 0 ∧ ws.length = f.count ∧ (begin s).netOn false = true ∧ (begin s).opBusy xferPage = true ∧ (begin s).op? xferPage = some { page := xferPage, op := 3, arg := d, party := p, abort := false, saved := [] } ∧ 16 + 16 * (BitVec.toNat (ws.getD 2 0) % 65536) ≤ 4 * ws.length ∧ s.x.xfer.pullOffset = 4 * f.count ∧ s.x.xfer.pulled = [] ∧ ws ≠ [] ∧ (begin s).descBytes d ≤ 4 * f.count)
    ∧ (∃ (s : State) (p : Party), Quiet s ∧ MayStart s p xferPage 2 [Mode.held, Mode.ready] ∧ s.x.role ≠ Role.standby ∧ s.get XFER.FWSTAT XFER.FWSTAT_LOADED = 1)
    ∧ (∃ (s : State) (n : ℕ) (e : Session), Quiet s ∧ (begin s).session? n = some e ∧ MayStart s (Party.host n) xferPage 2 [Mode.held] ∧ e.usb = true)
    ∧ (∃ (s : State) (n : ℕ) (e : Session), Quiet s ∧ (begin s).session? n = some e ∧ MayStart s (Party.host n) xferPage 2 [Mode.held] ∧ e.usb = false)
    ∧ (∃ (s : State) (n : ℕ), Quiet s ∧ 1 ≤ n ∧ n ≤ 7 ∧ PageOn s xferPage ∧ [Mode.ready, Mode.run, Mode.hold].contains s.x.mode = true ∧ s.get (XFER.TRCFG (n - 1)) XFER.TRCFG_EN = 1 ∧ ((begin s).trend n).nsamp + 1 < 1008 / (4 * ((begin s).trendRegs n).length)) :=
  ⟨⟨st .run [on xferPage] host, .host 7, 15, 0x81, by decide +kernel⟩,
   ⟨st .run [on xferPage, (XFER.DADDR 15, whole, 1), (XFER.DCFG 15, XFER.DCFG_KIND, kdImage), (XFER.DCFG 15, XFER.DCFG_USERID, 1), (XFER.DSIZE 15, XFER.DSIZE_KIB, 1)] host, .host 7, 15, by decide +kernel⟩,
   ⟨st .run [on xferPage, (XFER.DADDR 15, whole, 1), (XFER.DCFG 15, XFER.DCFG_KIND, kdFirmware), (XFER.DCFG 15, XFER.DCFG_USERID, 1), (XFER.DSIZE 15, XFER.DSIZE_KIB, 1)] host, .host 7, 15, by decide +kernel⟩,
   ⟨st .run [on xferPage, (XFER.DADDR 15, whole, 1), (XFER.DCFG 15, XFER.DCFG_KIND, kdChangeset), (XFER.DCFG 15, XFER.DCFG_USERID, 1), (XFER.DSIZE 15, XFER.DSIZE_KIB, 1)] host, .host 7, 15, by decide +kernel⟩,
   ⟨st .run [on xferPage, (XFER.DADDR 15, whole, 1), (XFER.DCFG 15, XFER.DCFG_KIND, kdEvents), (XFER.DCFG 15, XFER.DCFG_USERID, 1), (XFER.DSIZE 15, XFER.DSIZE_KIB, 1)] id, .program, 15, by decide +kernel⟩,
   ⟨st .run [busy xferPage] (fun x => { x with pages := { ops := [⟨xferPage, 2, 0, .program, false, []⟩] }, xfer := { evSent := 1 } }), by decide +kernel⟩,
   ⟨st .run [] (fun x => { x with xfer := { flights := [⟨7, 3, false, 0, 4, [], 1⟩] } }), ⟨7, 3, false, 0, 4, [], 1⟩, by decide +kernel⟩,
   ⟨st .run [on (netPage 0)] (fun x => { x with xfer := { flights := [⟨7, 3, false, 0, 4, [], 4⟩] } }), ⟨7, 3, false, 0, 4, [], 4⟩, by decide +kernel⟩,
   ⟨st .run [on (netPage 0)] (fun x => { x with xfer := { flights := [⟨7, 3, false, 0, 4, [], 5⟩] } }), ⟨7, 3, false, 0, 4, [], 5⟩, by decide +kernel⟩,
   ⟨st .run [on (netPage 0), busy xferPage] (fun x => { x with pages := { ops := [⟨xferPage, 3, 0, .program, false, []⟩] }, xfer := { flights := [⟨0, 3, true, 0, 4, [], 1⟩], pullOffset := 16 } }), .program, 0, ⟨0, 3, true, 0, 4, [], 1⟩, [0, 0, 0, 0], by decide +kernel⟩,
   ⟨st .ready [on xferPage, (XFER.FWSTAT, XFER.FWSTAT_LOADED, 1)] host, .host 7, by decide +kernel⟩,
   ⟨st .held [on xferPage] host, 7, ses, by decide +kernel⟩,
   ⟨st .held [on xferPage, on (netPage 0)] (fun x => { x with net := { sessions := [{ ses with usb := false }] } }), 7, { ses with usb := false }, by decide +kernel⟩,
   ⟨st .run [on xferPage, (XFER.TRCFG 6, XFER.TRCFG_EN, 1), (XFER.TRCFG 6, XFER.TRCFG_NREG, 7)] id, 7, by decide +kernel⟩⟩

/-- States that meet the hypotheses of each clause of `TrimCommands`. -/
theorem witness_trim_commands :
    (∃ (s : State) (p : Party) (n : ℕ) (v : Word), Quiet s ∧ n < 48 ∧ (begin s).present p = true ∧ (begin s).busError (LOOP.TRIMZ n) = false ∧ (begin s).wordRefusal p (LOOP.TRIMZ n) v = none)
    ∧ (∃ (s : State) (p : Party) (n : ℕ), Quiet s ∧ n < 48 ∧ MayStart s p (loopPage n) 2 ((begin s).trimModes n) ∧ (begin s).trimRunning = none ∧ (island s n).st ≠ isDark)
    ∧ (∃ (s : State) (n : ℕ) (o : OpRun), Quiet s ∧ n < 48 ∧ (begin s).trimRunning = some n ∧ (begin s).op? (loopPage n) = some o ∧ o.abort = false ∧ loopModeOf s n = 1 ∧ ↑((begin s).getI (LOOP.TRIMZ n) LOOP.TRIMZ_Z + (40000 - (begin s).getI (LOOP.VALUE n) LOOP.VALUE_I)).natAbs ≤ 2000)
    ∧ (∃ (s : State) (n : ℕ) (o : OpRun), Quiet s ∧ n < 48 ∧ (begin s).trimRunning = some n ∧ (begin s).op? (loopPage n) = some o ∧ o.abort = false ∧ loopModeOf s n = 2 ∧ (island s n).trimSel ≠ 2)
    ∧ (∃ (s : State) (n : ℕ) (o : OpRun), Quiet s ∧ n < 48 ∧ (begin s).trimRunning = some n ∧ (begin s).op? (loopPage n) = some o ∧ o.abort = false)
    ∧ (∃ (s : State) (n : ℕ) (o : OpRun), Quiet s ∧ n < 48 ∧ (begin s).trimRunning = some n ∧ (begin s).op? (loopPage n) = some o ∧ o.abort = false ∧ (begin s).opBusy (loopPage n) = true) :=
  ⟨⟨st .run [on (loopPage 47)] host, .host 7, 47, 0, by decide +kernel⟩,
   ⟨st .run [on (loopPage 47), (LOOP.CFG 47, LOOP.CFG_MODE, 1)] (fun x => { host x with loops := { isl := [(47, { st := isMeasure })] } }), .host 7, 47, by decide +kernel⟩,
   ⟨st .run [(LOOP.CFG 47, LOOP.CFG_MODE, 1), (LOOP.VALUE 47, LOOP.VALUE_I, 38000)] (fun x => { x with pages := { ops := [⟨loopPage 47, 1, 0, .host 7, false, []⟩] } }), 47, ⟨loopPage 47, 1, 0, .host 7, false, []⟩, by decide +kernel⟩,
   ⟨st .run [(LOOP.CFG 47, LOOP.CFG_MODE, 2)] (fun x => { x with pages := { ops := [⟨loopPage 47, 1, 0, .host 7, false, []⟩] } }), 47, ⟨loopPage 47, 1, 0, .host 7, false, []⟩, by decide +kernel⟩,
   ⟨st .run [(LOOP.CFG 47, LOOP.CFG_MODE, 2)] (fun x => { x with pages := { ops := [⟨loopPage 47, 1, 0, .host 7, false, []⟩] } }), 47, ⟨loopPage 47, 1, 0, .host 7, false, []⟩, by decide +kernel⟩,
   ⟨st .run [busy (loopPage 47)] (fun x => { x with pages := { ops := [⟨loopPage 47, 1, 0, .host 7, false, []⟩] } }), 47, ⟨loopPage 47, 1, 0, .host 7, false, []⟩, by decide +kernel⟩⟩

/-- States that meet the hypotheses of each clause of `TrunkStates`. -/
theorem witness_trunk_states :
    (∃ (s : State) (b : Bool), Quiet s ∧ (begin s).trkHears (tn b) = true ∧ s.x.role = Role.solo ∧ s.x.mode ≠ Mode.powerUp ∧ (begin s).node ≠ 255 ∧ (begin s).trkState (tn b) = tsRestricted ∧ ((begin s).trk (tn b)).queue = [])
    ∧ (∃ (s : State) (b : Bool) (n : ℕ), Quiet s ∧ (begin s).trkHears (tn b) = true ∧ n < 120 ∧ n ≠ (begin s).node ∧ (begin s).paired = false)
    ∧ (∃ (s : State) (b : Bool) (n : ℕ), Quiet s ∧ (begin s).trkHears (tn b) = true ∧ (begin s).paired = false ∧ (begin s).seen? (tn b) n ≠ none ∧ n < 120)
    ∧ (∃ (s : State) (b : Bool) (a : Attempt), Quiet s ∧ (begin s).trkHears (tn b) = true ∧ ((begin s).trk (tn b)).attempt = some a ∧ a.mbox = none ∧ (begin s).trkState (tn b) = tsActive ∧ ((begin s).trk (tn b)).queue = [a.frame] ∧ s.get (TRK.ERR (tn b)) TRK.ERR_REC < 128 ∧ s.get (TRK.ERR (tn b)) TRK.ERR_TEC < 128 ∧ (∀ m < 64, s.get (TRK.MBSTAT (tn b) m) TRK.MBSTAT_TXPEND = 0))
    ∧ (∃ (s : State) (b : Bool), Quiet s ∧ (begin s).trkHears (tn b) = true ∧ (begin s).trkState (tn b) = tsActive)
    ∧ (∃ (s : State) (b : Bool), Quiet s ∧ (begin s).trkHears (tn b) = true ∧ ((begin s).trkState (tn b) = tsActive ∨ (begin s).trkState (tn b) = tsPassive))
    ∧ (∃ (s : State) (b : Bool), Quiet s ∧ (begin s).trkHears (tn b) = true ∧ (begin s).trkMayLeave (tn b) = true ∧ s.get (TRK.STAT (tn b)) TRK.STAT_RATEERR = 0)
    ∧ (∃ (s : State) (b : Bool), Quiet s ∧ (begin s).trkHears (tn b) = true)
    ∧ (∃ (s : State) (b : Bool), Quiet s ∧ (begin s).trkHears (tn b) = true ∧ (begin s).node ≠ 255) :=
  ⟨⟨st .run [on (trkPage 1), (TRK.CFG 0, TRK.CFG_NODE, 3), (TRK.STAT 1, TRK.STAT_STATE, tsRestricted)] id, true, by decide +kernel⟩,
   ⟨st .run [on (trkPage 1), (TRK.CFG 0, TRK.CFG_NODE, 3)] id, true, 119, by decide +kernel⟩,
   ⟨st .run [on (trkPage 1)] (fun x => { x with trkB := { seen := [(119, hb0)] } }), true, 119, by decide +kernel⟩,
   ⟨st .run [on (trkPage 1), (TRK.STAT 1, TRK.STAT_STATE, tsActive)] (fun x => { x with trkB := { attempt := some ⟨⟨1, 2, 3, 0, []⟩, none, []⟩, queue := [⟨1, 2, 3, 0, []⟩] } }), true, ⟨⟨1, 2, 3, 0, []⟩, none, []⟩, by decide +kernel⟩,
   ⟨st .run [on (trkPage 1), (TRK.STAT 1, TRK.STAT_STATE, tsActive)] id, true, by decide +kernel⟩,
   ⟨st .run [on (trkPage 1), (TRK.STAT 1, TRK.STAT_STATE, tsPassive)] id, true, by decide +kernel⟩,
   ⟨st .run [on (trkPage 1), (TRK.STAT 1, TRK.STAT_STATE, tsRestricted)] id, true, by decide +kernel⟩,
   ⟨st .run [on (trkPage 1)] id, true, by decide +kernel⟩,
   ⟨st .run [on (trkPage 1), (TRK.CFG 0, TRK.CFG_NODE, 119)] id, true, by decide +kernel⟩⟩

/-- States that meet the hypotheses of each clause of `UsersetWritesTheTable`. -/
theorem witness_userset_writes_the_table :
    (∃ (s : State) (id : ℕ) (k : ℕ) (r : ℕ) (e : Session) (users : List User), (begin s).session? id = some e ∧ Quiet s ∧ MayStart s (Party.host id) xferPage 0 anyButPowerUp ∧ k = BitVec.toNat ((begin s).keyWord 0) ∧ 1 ≤ k / 65536 ∧ k / 65536 < 65535 ∧ k % 8 ≤ 4 ∧ (r = if k % 8 = 4 then 0 else k % 8) ∧ users = usersSet s.x.net.users (if k % 8 = 0 then none else some { id := k / 65536, role := r, secret := (begin s).keyBytes }) (k / 65536) ∧ r ≤ e.role ∧ Option.all (fun u => decide (u.role ≤ e.role)) ((begin s).user? (k / 65536)) = true ∧ users.length ≤ 32 ∧ (0 < engineers s.x.net.users → 0 < engineers users))
    ∧ (∃ (s : State) (id : ℕ) (k : ℕ) (r : ℕ) (e : Session) (users : List User), (begin s).session? id = some e ∧ Quiet s ∧ MayStart s (Party.host id) xferPage 0 anyButPowerUp ∧ k = BitVec.toNat ((begin s).keyWord 0) ∧ 1 ≤ k / 65536 ∧ k / 65536 < 65535 ∧ k % 8 ≤ 4 ∧ (r = if k % 8 = 4 then 0 else k % 8) ∧ users = usersSet s.x.net.users (if k % 8 = 0 then none else some { id := k / 65536, role := r, secret := (begin s).keyBytes }) (k / 65536) ∧ e.role < r) :=
  ⟨⟨st .run [on xferPage] (fun x => { x with net := { sessions := [ses], users := [⟨1, 2, []⟩] }, xfer := { keybuf := [0x50001] } }), 7, 0x50001, 1, ses, [⟨1, 2, []⟩, ⟨5, 1, List.replicate 32 0⟩], by decide +kernel⟩,
   ⟨st .run [on xferPage] (fun x => { x with net := { sessions := [{ ses with role := 2 }], users := [⟨1, 2, []⟩] }, xfer := { keybuf := [0x50003] } }), 7, 0x50003, 3, { ses with role := 2 }, [⟨1, 2, []⟩, ⟨5, 3, List.replicate 32 0⟩], by decide +kernel⟩⟩

end Sys2Proof
end

section
/-! PROOF. The machine's step and its invariant. Every effect ends in `finish`, which commits the registers in canonical form and lets the
header words of a released image act; so a step brings the invariant about, whatever state it began in, and the queue is the one the
command ran with. -/

namespace Sys2Proof.Proofs

open Sys2Proof.Machine Sys2Proof.Laws

/-- What a command leaves meets the invariant, whatever its effect was. -/
theorem stateInv_finish (s : State) (w : Work) : StateInv (finish s w) := ⟨regsWf_finish s w, quiet_finish s w⟩

/-- Any effect, run from any state, ends in a next state that meets the invariant and has the same queue. -/
theorem runCmd_stateInv (s : State) (f : Work → Work) :
    ∃ t, runCmd s f = .next t ∧ StateInv t ∧ t.pending = s.pending :=
  ⟨finish s (f (begin s)), rfl, stateInv_finish s _, pending_finish s _⟩

/-- Any command, run from any state, does the same. -/
theorem exec_stateInv (i : Instr) (s : State) : ∃ t, exec i s = .next t ∧ StateInv t ∧ t.pending = s.pending := by
  obtain ⟨f, hf⟩ := exec_runs i s
  rw [hf]
  exact runCmd_stateInv s f

/-- Settles O56, by the two things a step can do: on an empty queue 1 ms passes, else the command at the front runs with the queue's
rest. The premise is not used: a step also repairs a state that does not meet the invariant. -/
theorem everyStepKeepsTheInvariant : Obligations.EveryStepKeepsTheInvariant := by
  intro s _
  rcases step_cases s with ⟨hq, hstep⟩ | ⟨c, rest, hq, hstep⟩
  · obtain ⟨t, ht, hinv, hpend⟩ := runCmd_stateInv s Work.tick
    exact ⟨t, hstep.trans ht, hinv, by rw [hpend, hq, List.tail_nil]⟩
  · obtain ⟨t, ht, hinv, hpend⟩ := exec_stateInv c { s with pending := rest }
    exact ⟨t, hstep.trans ht, hinv, by rw [hpend, hq, List.tail_cons]⟩

end Sys2Proof.Proofs
end

section
/-! PROOF. What every command ends in: a next state with the queue as it was and the invariant of every step. -/

namespace Sys2Proof.Proofs

open Sys2Proof.Machine Sys2Proof.Laws

/-- Settles O55: a command's outcome is a next state that meets the invariant and keeps the queue. -/
theorem everyCommandEndsInANextState : Obligations.EveryCommandEndsInANextState := by
  intro c s
  obtain ⟨t, ht, hinv, hpend⟩ := exec_stateInv c s
  exact ⟨t, ht, hpend, hinv⟩

end Sys2Proof.Proofs
end

section
/-! PROOF. Image check passed on a paired module that hears its Duty in Run. Leaving Image check a paired module becomes Standby (R427), and
a Standby follows the state its Duty's heartbeats give (R435): it is then in Run, neither Ready nor Held. -/

namespace Sys2Proof.Proofs

open Sys2Proof.Machine Sys2Proof.Laws

/-- The signed part of an image: its header (format 0x10000, revision 1, 128 bytes in 4 sections) and four empty sections. -/
def pairedImageHead : List Byte :=
  ascii "B960" ++ bytesOfNat 4 0x10000 ++ bytesOfNat 4 1 ++ bytesOfNat 4 128 ++ bytesOfNat 2 4 ++ bytesOfNat 14 0
    ++ [1, 2, 3, 4].flatMap fun t => bytesOfNat 4 t ++ bytesOfNat 4 0x60 ++ bytesOfNat 8 0

/-- A verifiable image without tasks that configures one thing: the module is one of a pair, its partner node 2. -/
def pairedImage : Slot :=
  ⟨pairedImageHead ++ hmac factorySecret pairedImageHead,
    { revs := blockTypes.map fun t => (t, 1), pages := [(PAIR.CFG, 0x8002_0000, 0x80FF_0000)] }⟩

/-- A module in Image check with that image in its active slot, permitted to run, which hears on its first trunk the heartbeats of node 2:
the Duty, in Run. Belfry's gate is still closing, so that the image has it opened afterwards
(R584), not within the command. -/
def besideRunningDuty : State :=
  { regs := ([(SYS.STATE, SYS.STATE_PERMIT, 1), (HDR.PGCTL (trkPage 0), HDR.PGCTL_EN, 1), (TRK.CFG 0, TRK.CFG_NODE, 1),
        (TRK.SEEN 0 0, ⟨2, 1⟩, 1)]).foldl (fun r e => regsSet r e.1 (e.2.1.set (regsGet r e.1) e.2.2)) State.reset.regs,
    x := { State.reset.x with
      mode := .imageCheck, pages := { closing := [0x24] }, img := { slot0 := pairedImage },
      trkA := { seen := [(2, ⟨6, 1, 0, 0, 0, 0, 0⟩)] } },
    pending := [] }

theorem besideRunningDuty_image : (begin besideRunningDuty).actSlot.bytes ≠ []
    ∧ (begin besideRunningDuty).imageFault (begin besideRunningDuty).actSlot = none := by decide +kernel

theorem besideRunningDuty_runs : (imageCheckDone (begin besideRunningDuty)).x.mode = .run
    ∧ (imageCheckDone (begin besideRunningDuty)).x.task.hdr = [] := by decide +kernel

/-- Refutes O10: its clause of IMAGE_CHECK_DONE with a verified image leaves out the paired module, which leaves Image check as Standby and
takes its Duty's state, here Run. -/
theorem not_startUpCommands : ¬ Obligations.StartUpCommands := by
  intro h
  obtain ⟨-, -, -, -, -, -, -, -, -, -, -, verified, -⟩ := h besideRunningDuty rfl
  obtain ⟨present, sound⟩ := besideRunningDuty_image
  obtain ⟨follows, waiting⟩ := besideRunningDuty_runs
  obtain ⟨t, ht, -, ended⟩ := verified rfl present sound
  have left : t = finish besideRunningDuty (imageCheckDone (begin besideRunningDuty)) := (Host.Outcome.next.inj ht).symm
  have run : t.x.mode = .run := by rw [left, fin_x waiting, noisy_mode, follows]
  rw [run] at ended
  exact absurd ended (by decide)

end Sys2Proof.Proofs
end

section
/-! PROOF. The trunks: which registers and which part of the state a trunk's operations touch. -/

namespace Sys2Proof.Proofs

open Sys2Proof.Machine Sys2Proof.Laws

/-! The registers of a trunk's page -/

/-- The word at an offset of a trunk's page. -/
def trkReg (t off : Nat) : Nat := 0x18000 + 0x1000 * t + off

/-- The registers that the trunk's commands read and write, by their offsets (R481 to R484, R486). -/
theorem trk_regs (t : Nat) : TRK.STAT t = trkReg t 0x44 ∧ TRK.ERR t = trkReg t 0x48 ∧ TRK.TXCNT t = trkReg t 0x4c
    ∧ TRK.RXCNT t = trkReg t 0x50 ∧ TRK.ERRCNT t = trkReg t 0x54 ∧ TRK.AGES t = trkReg t 0x5c ∧ TRK.QSTAT t = trkReg t 0x70
    ∧ HDR.IRQSTAT (trkPage t) = trkReg t 0x14 ∧ HDR.PGHEALTH (trkPage t) = trkReg t 0x2c
    ∧ (∀ i, TRK.SEEN t i = trkReg t (0x60 + 4 * i)) ∧ ∀ m, TRK.MBSTAT t m = trkReg t (0x404 + 16 * m) := by
  refine ⟨?_, ?_, ?_, ?_, ?_, ?_, ?_, ?_, ?_, fun i => ?_, fun m => ?_⟩ <;>
    simp only [TRK.STAT, TRK.ERR, TRK.TXCNT, TRK.RXCNT, TRK.ERRCNT, TRK.AGES, TRK.QSTAT, TRK.SEEN, TRK.MBSTAT, HDR.IRQSTAT, HDR.PGHEALTH,
      trkPage, pg, trkReg] <;> omega

theorem err_reg (t : Nat) : TRK.ERR t = trkReg t 0x48 := by simp only [trk_regs]
theorem stat_reg (t : Nat) : TRK.STAT t = trkReg t 0x44 := by simp only [trk_regs]
theorem irqstat_reg (t : Nat) : HDR.IRQSTAT (trkPage t) = trkReg t 0x14 := by simp only [trk_regs]

/-- The fields of those registers. -/
theorem trk_flds : TRK.STAT_STATE = ⟨0, 3⟩ ∧ TRK.STAT_HEARD = ⟨8, 1⟩ ∧ TRK.STAT_LONE = ⟨9, 1⟩ ∧ TRK.STAT_RATEERR = ⟨10, 1⟩
    ∧ TRK.STAT_DUPNODE = ⟨11, 1⟩ ∧ TRK.STAT_TXFAULT = ⟨13, 1⟩ ∧ TRK.ERR_UNACK = ⟨24, 8⟩ ∧ TRK.ERR_LASTPH = ⟨20, 1⟩
    ∧ TRK.ERR_LASTERR = ⟨16, 4⟩ ∧ TRK.ERR_REC = ⟨8, 8⟩ ∧ TRK.ERR_TEC = ⟨0, 8⟩ ∧ TRK.TXCNT_N = ⟨0, 32⟩ ∧ TRK.RXCNT_N = ⟨0, 32⟩
    ∧ TRK.ERRCNT_ERRFR = ⟨16, 16⟩ ∧ TRK.ERRCNT_BUSOFFS = ⟨0, 16⟩ ∧ TRK.QSTAT_DEPTH = ⟨16, 8⟩ := by decide

@[simp] theorem trkReg_inj (t a b : Nat) : trkReg t a = trkReg t b ↔ a = b := by simp [trkReg]

theorem trkReg_page {t off : Nat} (h : off < 0x1000) : trkReg t off / 4096 = trkPage t := by unfold trkReg trkPage; omega

theorem tn_lt (b : Bool) : tn b < 2 := by cases b <;> decide

theorem notRec_trkReg (t off : Nat) : NotRec (trkReg t off) := by unfold NotRec trkReg EVT.LOST; omega

theorem notCause_trkReg {t off : Nat} (ht : t < 2) (ho : off < 0x1000) : NotCause (trkReg t off) := by
  unfold NotCause NotRec trkReg EVT.LOST SLATE.SSTAT; omega

/-! A trunk's part of the state -/

/-- The state beside the registers with one trunk's part changed. -/
def atTrk (t : Nat) (g : TrkSt → TrkSt) (x : Inner) : Inner :=
  if t = 0 then { x with trkA := g x.trkA } else { x with trkB := g x.trkB }

section
variable (w : Work) (t : Nat) (g : TrkSt → TrkSt)
@[simp] theorem get_trkSet (a : Nat) (f : Fld) : (w.trkSet t g).get a f = w.get a f := rfl
@[simp] theorem flag_trkSet (a : Nat) (f : Fld) : (w.trkSet t g).flag a f = w.flag a f := rfl
@[simp] theorem trkState_trkSet (u : Nat) : (w.trkSet t g).trkState u = w.trkState u := rfl
@[simp] theorem now_trkSet : (w.trkSet t g).now = w.now := rfl
@[simp] theorem trk_wr (u a : Nat) (v : Word) : (w.wr a v).trk u = w.trk u := rfl
@[simp] theorem trk_put (u a : Nat) (f : Fld) (n : Nat) : (w.put a f n).trk u = w.trk u := rfl
@[simp] theorem trk_putB (u a : Nat) (f : Fld) (b : Bool) : (w.putB a f b).trk u = w.trk u := rfl
@[simp] theorem trk_irq (u p i : Nat) : (w.irq p i).trk u = w.trk u := rfl
@[simp] theorem trk_incSat (u a : Nat) (f : Fld) : (w.incSat a f).trk u = w.trk u := rfl
@[simp] theorem trk_incWrap (u a : Nat) (f : Fld) : (w.incWrap a f).trk u = w.trk u := rfl
@[simp] theorem trk_trkDepth (u : Nat) : (w.trkDepth t).trk u = w.trk u := rfl
end

/-- An announcement leaves the trunks alone. -/
theorem trks_of_noise {x y : Inner} (h : Noise x y) : y.trkA = x.trkA ∧ y.trkB = x.trkB := by
  obtain ⟨_, _, _, _, _, rfl⟩ := h
  exact ⟨rfl, rfl⟩

theorem trk_of_noise {u w : Work} (h : Noise u.x w.x) (t : Nat) : w.trk t = u.trk t := by
  unfold Work.trk
  rw [(trks_of_noise h).1, (trks_of_noise h).2]

theorem trk_when (w : Work) (c : Bool) (f : Work → Work) (u : Nat) : (w.when c f).trk u = if c then (f w).trk u else w.trk u := by
  unfold Work.when; split <;> rfl
@[simp] theorem trk_evFlag (w : Work) (p s a i : Nat) (l : Bool) (u : Nat) : (w.evFlag p s a i l).trk u = w.trk u :=
  trk_of_noise (noise_emit ..) u
@[simp] theorem trk_evState (w : Work) (p s a l o n u : Nat) : (w.evState p s a l o n).trk u = w.trk u := trk_of_noise (noise_emit ..) u
@[simp] theorem trk_setFlag (w : Work) (p s a : Nat) (f : Fld) (l : Bool) (u : Nat) : (w.setFlag p s a f l).trk u = w.trk u :=
  trk_of_noise (noise_setFlag ..) u
@[simp] theorem trk_blockFault (w : Work) (p c m : Nat) (o : Bool) (u : Nat) : (w.blockFault p c m o).trk u = w.trk u :=
  trk_of_noise (blockFault_spec ..).1 u

/-! What an operation of one trunk touches -/

/-- The registers of a trunk's operations: its page's, the recorder's two that an event may change, Slate's requests. -/
def TrkRegs (t a : Nat) : Prop := a / 4096 = trkPage t ∨ evtRegs a ∨ a = SLATE.SSTAT

/-- From `u` to `w` one trunk has been at work: no register but its own and those of announcements, and nothing beside the registers but its own
part has changed. -/
structure TrkStep (t : Nat) (u w : Work) : Prop where
  regs : Keeps (TrkRegs t) u w
  rest : ∃ s, Noise (atTrk t (fun _ => s) u.x) w.x

section
variable {t : Nat} {u v w : Work}

theorem noise_atTrk (t : Nat) (s : TrkSt) {x y : Inner} (h : Noise x y) : Noise (atTrk t (fun _ => s) x) (atTrk t (fun _ => s) y) := by
  obtain ⟨_, _, _, _, _, rfl⟩ := h
  unfold atTrk
  split <;> exact ⟨_, _, _, _, _, rfl⟩

theorem atTrk_self (t : Nat) (w : Work) : atTrk t (fun _ => w.trk t) w.x = w.x := by
  unfold atTrk Work.trk
  split <;> rfl

theorem atTrk_atTrk (t : Nat) (g h : TrkSt → TrkSt) (x : Inner) : atTrk t g (atTrk t h x) = atTrk t (fun s => g (h s)) x := by
  unfold atTrk
  split <;> simp_all

theorem TrkStep.trans (h : TrkStep t u v) (k : TrkStep t v w) : TrkStep t u w := by
  obtain ⟨s, hs⟩ := h.rest
  obtain ⟨r, hr⟩ := k.rest
  refine ⟨h.regs.trans k.regs, r, ?_⟩
  have := noise_atTrk t r hs
  rw [atTrk_atTrk] at this
  exact this.trans hr

theorem TrkStep.of_noise (h : Keeps (TrkRegs t) u w) (k : Noise u.x w.x) : TrkStep t u w :=
  ⟨h, u.trk t, by rw [atTrk_self]; exact k⟩

theorem TrkStep.refl (w : Work) : TrkStep t w w := .of_noise (Keeps.refl _ _) (.refl _)

theorem TrkStep.trkSet (h : TrkStep t u w) (g : TrkSt → TrkSt) : TrkStep t u (w.trkSet t g) :=
  h.trans ⟨fun _ _ => rfl, g (w.trk t), by
    have : atTrk t (fun _ => g (w.trk t)) w.x = (w.trkSet t g).x := by unfold atTrk Work.trk Work.trkSet; simp only [x_upd]; split <;> rfl
    rw [this]; exact .refl _⟩

theorem TrkStep.wr (h : TrkStep t u w) {a : Nat} (ha : a / 4096 = trkPage t) (v : Word) : TrkStep t u (w.wr a v) :=
  h.trans (.of_noise (keeps_wr _ _ _ (.inl ha)) (.refl _))
theorem TrkStep.put (h : TrkStep t u w) {a : Nat} (ha : a / 4096 = trkPage t) (f : Fld) (n : Nat) : TrkStep t u (w.put a f n) := h.wr ha _
theorem TrkStep.irq (h : TrkStep t u w) (i : Nat) : TrkStep t u (w.irq (trkPage t) i) :=
  h.trans (.of_noise (keeps_irq _ _ _ (.inl (by unfold HDR.IRQSTAT pg trkPage; omega))) (.refl _))
theorem TrkStep.emit (h : TrkStep t u w) (p n s : Nat) (d : List Nat) : TrkStep t u (w.emit p n s d) :=
  h.trans (.of_noise ((keeps_emit w p n s d).mono fun _ h => .inr (.inl h)) (noise_emit ..))
theorem TrkStep.setFlag (h : TrkStep t u w) (p s : Nat) {a : Nat} (ha : a / 4096 = trkPage t) (f : Fld) (l : Bool) :
    TrkStep t u (w.setFlag p s a f l) := by
  unfold Work.setFlag
  split
  · exact h
  · exact (h.put ha _ _).emit _ _ _ _
theorem TrkStep.blockFault (h : TrkStep t u w) (p m : Nat) (on : Bool) : TrkStep t u (w.blockFault (trkPage t) p m on) := by
  refine h.trans (.of_noise (fun a ha => (blockFault_spec ..).2 a ?_) (blockFault_spec ..).1)
  simp only [TrkRegs, evtRegs, not_or] at ha
  obtain ⟨hpage, ⟨hirq, hlost⟩, hslate⟩ := ha
  refine ⟨⟨⟨hirq, hlost⟩, hslate⟩, ?_, ?_⟩ <;> rintro rfl <;> apply hpage <;>
    simp only [HDR.PGHEALTH, HDR.IRQSTAT, pg] <;> omega
theorem TrkStep.when (h : TrkStep t u w) (c : Bool) {f : Work → Work} (hf : TrkStep t u w → TrkStep t u (f w)) : TrkStep t u (w.when c f) := by
  unfold Work.when
  split
  · exact hf h
  · exact h

theorem TrkStep.task (h : TrkStep t u w) : w.x.task = u.x.task := by
  obtain ⟨s, hs⟩ := h.rest
  rw [hs.eq, noisy_task]
  unfold atTrk
  split <;> rfl
theorem TrkStep.mode (h : TrkStep t u w) : w.x.mode = u.x.mode := by
  obtain ⟨s, hs⟩ := h.rest
  rw [hs.eq, noisy_mode]
  unfold atTrk
  split <;> rfl
/-- The other trunk's part stays. -/
theorem TrkStep.trk_other (h : TrkStep t u w) {t' : Nat} (ht : ¬(t = 0 ↔ t' = 0)) : w.trk t' = u.trk t' := by
  obtain ⟨s, hs⟩ := h.rest
  unfold Work.trk
  rw [(trks_of_noise hs).1, (trks_of_noise hs).2]
  unfold atTrk
  by_cases h0 : t = 0 <;> by_cases h1 : t' = 0 <;> simp_all
end

end Sys2Proof.Proofs
end

section
/-! PROOF. The operations of a trunk: arbitration, states, counters (chapter 14). -/

namespace Sys2Proof.Proofs

open Sys2Proof.Machine Sys2Proof.Laws

section
variable (w : Work) (t : Nat)

/-! Arbitration -/

@[simp] theorem rd_arbitrate (a : Nat) : (w.arbitrate t).rd a = w.rd a := by
  unfold Work.arbitrate
  split
  · dsimp only
    split <;> rfl
  · rfl
@[simp] theorem get_arbitrate (a : Nat) (f : Fld) : (w.arbitrate t).get a f = w.get a f := by unfold Work.get; rw [rd_arbitrate]
@[simp] theorem trkState_arbitrate (u : Nat) : (w.arbitrate t).trkState u = w.trkState u := get_arbitrate ..

/-- An arbitration reads the clock into a queued TIME_SYNC and chooses an attempt; of the trunk's part it leaves the rest. -/
theorem trk_arbitrate : ∃ q a m, (w.arbitrate t).trk t = { w.trk t with queue := q, attempt := a, mboxes := m } := by
  unfold Work.arbitrate
  split
  · dsimp only
    split <;> simp only [Work.mboxSet, trk_trkSet, if_true] <;> exact ⟨_, _, _, rfl⟩
  · exact ⟨_, _, _, rfl⟩

theorem lastRx_arbitrate : ((w.arbitrate t).trk t).lastRx = (w.trk t).lastRx := by
  obtain ⟨_, _, _, h⟩ := trk_arbitrate w t
  rw [h]
theorem lastAck_arbitrate : ((w.arbitrate t).trk t).lastAck = (w.trk t).lastAck := by
  obtain ⟨_, _, _, h⟩ := trk_arbitrate w t
  rw [h]

/-- A trunk that does not send has no arbitration. -/
theorem arbitrate_silent (h : w.trkSends t = false) : w.arbitrate t = w := by
  unfold Work.arbitrate
  rw [if_neg (by simp [h])]

/-- With nothing queued and no mailbox pending, none is the attempt. -/
theorem arbitrate_nothing (hq : (w.trk t).queue = []) (ha : (w.trk t).attempt = none)
    (hm : ∀ m < 64, w.get (TRK.MBSTAT t m) TRK.MBSTAT_TXPEND = 0) :
    ((w.arbitrate t).trk t).queue = [] ∧ ((w.arbitrate t).trk t).attempt = none := by
  have none_pends : ∀ g, ((w.trkSet t g).trk t).queue = [] → lowestOffer ((w.trkSet t g).trkOffers t) = none := by
    intro g hg
    have : (List.range 64).filter (fun m => (w.trkSet t g).flag (TRK.MBSTAT t m) TRK.MBSTAT_TXPEND) = [] := by
      rw [List.filter_eq_nil_iff]
      intro m hm'
      simp [Work.flag, hm m (List.mem_range.mp hm')]
    unfold Work.trkOffers
    rw [hg, this]
    rfl
  unfold Work.arbitrate
  split
  · dsimp only
    rw [none_pends _ (by simp [hq])]
    simp [hq]
  · exact ⟨hq, ha⟩

theorem step_arbitrate : TrkStep t w (w.arbitrate t) := by
  unfold Work.arbitrate
  split
  · dsimp only
    split
    · exact (((TrkStep.refl w).trkSet _).trkSet _).trkSet _
    · exact ((TrkStep.refl w).trkSet _).trkSet _
  · exact .refl w

/-! States -/

/-- A trunk's new state is shown; entries into PASSIVE, BUSOFF and RESTRICTED are recorded. -/
def stateShown (w : Work) (t st : Nat) : Work :=
  (w.put (TRK.STAT t) TRK.STAT_STATE st).when
    (decide (w.trkState t ≠ st) && (decide (st = tsPassive) || decide (st = tsBusoff) || decide (st = tsRestricted))) fun u =>
      u.evState (trkPage t) noSub (TRK.STAT t) 0 (w.trkState t) st

theorem trkEnter_restricted : w.trkEnter t tsRestricted
    = ((((stateShown w t tsRestricted).put (TRK.ERR t) TRK.ERR_TEC 0).put (TRK.ERR t) TRK.ERR_REC 0).trkSet t fun s =>
        { s with valid := 0, attempt := none, window := none }) := rfl
theorem trkEnter_active : w.trkEnter t tsActive = ((stateShown w t tsActive).putB (TRK.STAT t) TRK.STAT_RATEERR false).arbitrate t := rfl
theorem trkEnter_passive : w.trkEnter t tsPassive
    = (stateShown w t tsPassive).when (decide (w.trkState t ≠ tsPassive)) fun u => u.irq (trkPage t) 17 := rfl
theorem trkEnter_busoff : w.trkEnter t tsBusoff
    = (((stateShown w t tsBusoff).when (decide (w.trkState t ≠ tsBusoff)) fun u =>
        (u.irq (trkPage t) 18).incSat (TRK.ERRCNT t) TRK.ERRCNT_BUSOFFS).trkSet t fun s =>
          { s with queue := s.queue.filter (fun f => superseding f.kind), attempt := none, window := none }).trkDepth t := rfl

theorem stat_page : TRK.STAT t / 4096 = trkPage t := by unfold TRK.STAT trkPage; omega
theorem err_page : TRK.ERR t / 4096 = trkPage t := by unfold TRK.ERR trkPage; omega
theorem errcnt_page : TRK.ERRCNT t / 4096 = trkPage t := by unfold TRK.ERRCNT trkPage; omega
theorem qstat_page : TRK.QSTAT t / 4096 = trkPage t := by unfold TRK.QSTAT trkPage; omega
theorem txcnt_page : TRK.TXCNT t / 4096 = trkPage t := by unfold TRK.TXCNT trkPage; omega
theorem rxcnt_page : TRK.RXCNT t / 4096 = trkPage t := by unfold TRK.RXCNT trkPage; omega
theorem ages_page : TRK.AGES t / 4096 = trkPage t := by unfold TRK.AGES trkPage; omega

theorem notRec_stat : NotRec (TRK.STAT t) := by rw [stat_reg]; exact notRec_trkReg _ _

theorem step_stateShown (st : Nat) : TrkStep t w (stateShown w t st) :=
  ((TrkStep.refl w).put (stat_page t) _ _).when _ fun h => h.emit _ _ _ _

theorem step_trkDepth : TrkStep t w (w.trkDepth t) := (TrkStep.refl w).put (qstat_page t) _ _

@[simp] theorem trk_stateShown (st u : Nat) : (stateShown w t st).trk u = w.trk u := by
  unfold stateShown
  rw [trk_when, trk_evState, ite_self, trk_put]

theorem rd_stateShown {st off : Nat} (h : off ≠ 0x44) : (stateShown w t st).rd (trkReg t off) = w.rd (trkReg t off) := by
  unfold stateShown
  rw [rd_when, rd_evState _ _ _ _ _ _ _ _ (notRec_trkReg t off), ite_self, rd_put_ne _ _ _ _ _ (by simpa [trk_regs] using Ne.symm h)]

theorem get_stateShown {st : Nat} (h : st < 8) : (stateShown w t st).get (TRK.STAT t) TRK.STAT_STATE = st := by
  unfold stateShown
  rw [get_when, get_evState _ _ _ _ _ _ _ _ _ (notRec_stat t), ite_self, get_put_same _ _ _ _ (by decide)]
  exact Nat.mod_eq_of_lt h

theorem get_stateShown_other {st : Nat} {f : Fld} (h : 3 ≤ f.lo) (hf : f.lo + f.w ≤ 32) :
    (stateShown w t st).get (TRK.STAT t) f = w.get (TRK.STAT t) f := by
  unfold stateShown
  rw [get_when, get_evState _ _ _ _ _ _ _ _ _ (notRec_stat t), ite_self,
    get_put_other _ _ _ _ _ hf (.inr (show TRK.STAT_STATE.lo + TRK.STAT_STATE.w ≤ f.lo from h))]

/-- The state that a trunk has entered (R472). -/
theorem trkState_enter {st : Nat} (h : st ∈ [tsRestricted, tsActive, tsPassive, tsBusoff]) : (w.trkEnter t st).trkState t = st := by
  have shown : st < 8 := by revert h; simp [tsRestricted, tsActive, tsPassive, tsBusoff]; omega
  have hs := get_stateShown w t shown
  unfold Work.trkState
  simp only [List.mem_cons, List.not_mem_nil, or_false] at h
  rcases h with rfl | rfl | rfl | rfl
  · rw [trkEnter_restricted]
    simpa [trk_regs] using hs
  · rw [trkEnter_active]
    simpa [trk_regs, trk_flds] using hs
  · rw [trkEnter_passive]
    simpa [trk_regs, get_when] using hs
  · rw [trkEnter_busoff]
    simpa [trk_regs, get_when, Work.trkDepth] using hs

/-- No entry touches the other flags of STAT but RATEERR. -/
theorem get_enter_stat {st : Nat} {f : Fld} (h : st ∈ [tsRestricted, tsActive, tsPassive, tsBusoff]) (hl : 3 ≤ f.lo) (hf : f.lo + f.w ≤ 32)
    (hr : f.lo + f.w ≤ 10 ∨ 11 ≤ f.lo) : (w.trkEnter t st).get (TRK.STAT t) f = w.get (TRK.STAT t) f := by
  have hs := get_stateShown_other w t (st := st) hl hf
  simp only [List.mem_cons, List.not_mem_nil, or_false] at h
  rcases h with rfl | rfl | rfl | rfl
  · rw [trkEnter_restricted]
    simpa [trk_regs] using hs
  · rw [trkEnter_active]
    simpa [trk_regs, trk_flds, hf, hr] using hs
  · rw [trkEnter_passive]
    simpa [trk_regs, get_when] using hs
  · rw [trkEnter_busoff]
    simpa [trk_regs, get_when, Work.trkDepth] using hs

/-- An entry into ACTIVE, PASSIVE or RESTRICTED leaves the counters of frames alone, into the first two the error counters as well. -/
theorem rd_enter_active {off : Nat} (h : off ≠ 0x44) : (w.trkEnter t tsActive).rd (trkReg t off) = w.rd (trkReg t off) := by
  rw [trkEnter_active, rd_arbitrate, rd_putB_ne _ _ _ _ _ (by simpa [trk_regs] using Ne.symm h), rd_stateShown w t h]
theorem rd_enter_passive {off : Nat} (h : off ≠ 0x44) (hi : off ≠ 0x14) : (w.trkEnter t tsPassive).rd (trkReg t off) = w.rd (trkReg t off) := by
  rw [trkEnter_passive, rd_when, rd_irq_ne _ _ _ _ (by simpa [trk_regs] using Ne.symm hi), ite_self, rd_stateShown w t h]
theorem rd_enter_restricted {off : Nat} (h : off ≠ 0x44) (he : off ≠ 0x48) :
    (w.trkEnter t tsRestricted).rd (trkReg t off) = w.rd (trkReg t off) := by
  have ne : TRK.ERR t ≠ trkReg t off := by simpa [trk_regs] using Ne.symm he
  rw [trkEnter_restricted, rd_trkSet, rd_put_ne _ _ _ _ _ ne, rd_put_ne _ _ _ _ _ ne, rd_stateShown w t h]

/-- The entry into PASSIVE raises its source (R481). -/
theorem irq_enter_passive (h : w.trkState t ≠ tsPassive) : (w.trkEnter t tsPassive).get (HDR.IRQSTAT (trkPage t)) ⟨17, 1⟩ = 1 := by
  rw [trkEnter_passive, get_when, if_pos (decide_eq_true h), get_irq_same _ _ _ (by decide)]

/-- The entry into BUSOFF raises its source, is counted, ends the attempt and discards the frames that do not supersede (R470, R481). -/
theorem enter_busoff_spec (h : w.trkState t ≠ tsBusoff) : (w.trkEnter t tsBusoff).get (HDR.IRQSTAT (trkPage t)) ⟨18, 1⟩ = 1
    ∧ ((w.trkEnter t tsBusoff).trk t).attempt = none
    ∧ (w.trkEnter t tsBusoff).get (TRK.ERRCNT t) TRK.ERRCNT_BUSOFFS
      = min (w.get (TRK.ERRCNT t) TRK.ERRCNT_BUSOFFS + 1) (2 ^ TRK.ERRCNT_BUSOFFS.w - 1)
    ∧ ∀ f ∈ ((w.trkEnter t tsBusoff).trk t).queue, superseding f.kind = true := by
  have kept : (stateShown w t tsBusoff).get (trkReg t 0x54) ⟨0, 16⟩ = w.get (trkReg t 0x54) ⟨0, 16⟩ := by
    unfold Work.get
    rw [rd_stateShown w t (by decide)]
  rw [trkEnter_busoff]
  refine ⟨?_, ?_, ?_, ?_⟩
  · rw [Work.trkDepth, get_put_ne _ _ _ _ _ _ (by simp [trk_regs]), get_trkSet, get_when, if_pos (decide_eq_true h),
      get_incSat_ne _ _ _ _ _ (by simp [trk_regs]), get_irq_same _ _ _ (by decide)]
  · simp
  · simp [Work.trkDepth, trk_regs, trk_flds, get_when, h, kept]
  · simp

theorem step_trkEnter {st : Nat} (h : st ∈ [tsRestricted, tsActive, tsPassive, tsBusoff]) : TrkStep t w (w.trkEnter t st) := by
  have shown := step_stateShown w t st
  simp only [List.mem_cons, List.not_mem_nil, or_false] at h
  rcases h with rfl | rfl | rfl | rfl
  · rw [trkEnter_restricted]
    exact ((shown.put (err_page t) _ _).put (err_page t) _ _).trkSet _
  · rw [trkEnter_active]
    exact (shown.put (stat_page t) _ _).trans (step_arbitrate _ _)
  · rw [trkEnter_passive]
    exact shown.when _ (f := fun u => u.irq (trkPage t) 17) fun k => k.irq _
  · rw [trkEnter_busoff]
    exact ((shown.when _ (f := fun u => (u.irq (trkPage t) 18).incSat (TRK.ERRCNT t) TRK.ERRCNT_BUSOFFS) fun k =>
      (k.irq _).put (errcnt_page t) _ _).trkSet _).trans (step_trkDepth _ _)

theorem lastRx_enter {st : Nat} (h : st ∈ [tsRestricted, tsActive, tsPassive, tsBusoff]) :
    ((w.trkEnter t st).trk t).lastRx = (w.trk t).lastRx := by
  simp only [List.mem_cons, List.not_mem_nil, or_false] at h
  rcases h with rfl | rfl | rfl | rfl
  · simp [trkEnter_restricted]
  · simp [trkEnter_active, lastRx_arbitrate]
  · simp [trkEnter_passive, trk_when]
  · simp [trkEnter_busoff, trk_when]

/-- Fault confinement leaves a trunk's state, or moves it between ACTIVE and PASSIVE (R472). -/
theorem trkConfine_cases : w.trkConfine t = w
    ∨ (w.trkState t = tsActive ∧ (128 ≤ w.get (TRK.ERR t) TRK.ERR_TEC ∨ 128 ≤ w.get (TRK.ERR t) TRK.ERR_REC) ∧ w.trkConfine t = w.trkEnter t tsPassive)
    ∨ (w.trkState t = tsPassive ∧ w.trkConfine t = w.trkEnter t tsActive) := by
  unfold Work.trkConfine
  dsimp only
  split
  · rename_i h
    exact .inr (.inl ⟨h.1, by simpa using h.2, rfl⟩)
  · split
    · rename_i h
      exact .inr (.inr ⟨h.1, rfl⟩)
    · exact .inl rfl

theorem trkConfine_active (h : w.trkState t = tsActive) : w.trkConfine t
    = if 128 ≤ w.get (TRK.ERR t) TRK.ERR_TEC ∨ 128 ≤ w.get (TRK.ERR t) TRK.ERR_REC then w.trkEnter t tsPassive else w := by
  unfold Work.trkConfine
  dsimp only
  rw [h]
  simp [tsActive, tsPassive]

theorem step_trkConfine : TrkStep t w (w.trkConfine t) := by
  rcases trkConfine_cases w t with h | ⟨-, -, h⟩ | ⟨-, h⟩ <;> rw [h]
  · exact .refl w
  · exact step_trkEnter w t (by decide)
  · exact step_trkEnter w t (by decide)

end

end Sys2Proof.Proofs
end

section
/-! PROOF. What the next state shows of a trunk's command; heartbeats, sent, heard and missed (R23, R24, R465). -/

namespace Sys2Proof.Proofs

open Sys2Proof.Machine Sys2Proof.Laws

/-! From what a trunk's command leaves to what its next state shows -/

/-- The next state shows what the effect left: the registers that follow none, and the trunks' parts. -/
structure Shows (w : Work) (u : State) : Prop where
  rd : ∀ a, ¬ Follows a → u.rd a = w.rd a
  trk : ∀ t, (begin u).trk t = w.trk t

section
variable {w : Work} {u : State} (h : Shows w u) {t : Nat} (ht : t < 2)
include h ht

theorem Shows.get {a : Nat} (ha : a / 4096 = trkPage t) (f : Fld) : u.get a f = w.get a f := by
  unfold State.get Work.get
  rw [h.rd a (not_follows (by unfold trkPage at ha; omega))]

theorem Shows.trkState : (begin u).trkState t = w.trkState t := h.get ht (stat_page t) _

end

theorem Shows.seen? {w : Work} {u : State} (h : Shows w u) (t n : Nat) : (begin u).seen? t n = w.seen? t n := by
  unfold Work.seen?
  rw [h.trk]

/-- What the effect leaves alone the next state leaves alone, but for the registers that follow. -/
theorem Shows.same {w : Work} {s u : State} (h : Shows w u) {P : Nat → Prop} (k : Keeps P (begin s) w) :
    Same (fun a => P a ∨ Follows a) s u :=
  fun a ha => (h.rd a fun f => ha (.inr f)).trans (k a fun p => ha (.inl p))

/-- A command that leaves the header words waiting as they were shows what its effect left. -/
theorem runs_shows {i : Instr} {s : State} {f : Work → Work} {P : State → Prop} (he : exec i s = runCmd s f) (hq : Quiet s)
    (task : (f (begin s)).x.task = (begin s).x.task) (h : ∀ u, Shows (f (begin s)) u → P u) : Runs i s P :=
  runs_quiet he (by rw [task]; exact hq) fun u hrd _ hx => h u ⟨hrd, fun t => by
    unfold Work.trk
    rw [x_begin, (trks_of_noise hx).1, (trks_of_noise hx).2]⟩

/-- A trunk that hears: what that says of the module and of its page. -/
theorem trkHears_iff (w : Work) (t : Nat) : w.trkHears t = true ↔
    w.alive = true ∧ w.x.clk.stopped.contains (10 + t) = false ∧ w.enabled (trkPage t) = true ∧ w.trkState t ≠ tsBusoff := by
  simp [Work.trkHears, and_assoc]

/-! HEARTBEAT_TIMER -/

section
variable (w : Work) (t kind index : Nat) (data : List Byte)

theorem keeps_queueFrame : Keeps (fun a => a = TRK.QSTAT t ∨ evtRegs a) w (w.queueFrame t kind index data) := by
  unfold Work.queueFrame
  split
  · exact .refl _ _
  · dsimp only
    refine Keeps.trans ?_ fun a _ => rd_arbitrate _ _ a
    refine Keeps.put ?_ (.inl rfl) _ _
    split
    · exact fun _ _ => rfl
    · split
      · exact fun _ _ => rfl
      · exact (keeps_put _ _ _ _ (.inl rfl)).trans ((keeps_emit _ _ _ _ _).mono fun _ => .inr)

theorem step_queueFrame : TrkStep t w (w.queueFrame t kind index data) := by
  unfold Work.queueFrame
  split
  · exact .refl w
  · dsimp only
    refine TrkStep.trans ?_ (step_arbitrate _ t)
    refine TrkStep.trans ?_ (step_trkDepth _ t)
    split
    · exact (TrkStep.refl w).trkSet _
    · split
      · exact (TrkStep.refl w).trkSet _
      · exact ((TrkStep.refl w).put (qstat_page t) _ _).emit _ _ _ _

/-- A trunk in RESTRICTED keeps in its queue the one frame that found it empty. -/
theorem queueFrame_restricted (ha : w.alive = true) (he : w.enabled (trkPage t) = true) (hn : w.node ≠ 0xFF)
    (hs : w.trkState t = tsRestricted) (hq : (w.trk t).queue = []) :
    ((w.queueFrame t kind index data).trk t).queue = [⟨kindPrio kind, kind, w.node, index % 4096, data⟩]
      ∧ (w.queueFrame t kind index data).get (TRK.QSTAT t) TRK.QSTAT_DEPTH = 1 := by
  have silent : ∀ g, ((w.trkSet t g).trkDepth t).trkSends t = false := by
    intro g
    have : ((w.trkSet t g).trkDepth t).trkState t = tsRestricted := by
      rw [← hs]
      simp [Work.trkState, Work.trkDepth, trk_regs]
    simp [Work.trkSends, this, tsRestricted, tsActive, tsPassive]
  unfold Work.queueFrame
  rw [if_neg (by simp [ha, he, hn])]
  simp only [hq, List.any_nil, Bool.false_eq_true, and_false, if_false, List.length_nil, Nat.zero_lt_succ, if_true, arbitrate_silent _ _ (silent _)]
  constructor
  · simp [hq]
  · simp [Work.trkDepth, hq, trk_flds]

end

/-- HEARTBEAT_TIMER of a Solo module past Power-up offers the heartbeat to both trunks (R465). -/
theorem heartbeatTimer_sends (w : Work) (ha : w.alive = true) (hr : w.x.role = .solo) (hm : w.x.mode ≠ .powerUp) :
    heartbeatTimer w = (w.queueFrame 0 kHeartbeat 0 w.heartbeat).queueFrame 1 kHeartbeat 0 w.heartbeat := by
  unfold heartbeatTimer Work.sendHeartbeat
  rw [if_pos (.inl hr), if_pos ⟨ha, hm⟩]
  rfl

theorem heartbeatTimer_task (w : Work) (ha : w.alive = true) (hr : w.x.role = .solo) (hm : w.x.mode ≠ .powerUp) :
    (heartbeatTimer w).x.task = w.x.task := by
  rw [heartbeatTimer_sends w ha hr hm, (step_queueFrame _ _ _ _ _).task, (step_queueFrame _ _ _ _ _).task]

/-- Each trunk in RESTRICTED with an empty queue holds the heartbeat then. -/
theorem heartbeatTimer_queues (w : Work) (b : Bool) (hr : w.x.role = .solo) (hm : w.x.mode ≠ .powerUp) (hn : w.node ≠ 0xFF)
    (hh : w.trkHears (tn b) = true) (hs : w.trkState (tn b) = tsRestricted) (hq : (w.trk (tn b)).queue = []) :
    ((heartbeatTimer w).trk (tn b)).queue = [⟨1, kHeartbeat, w.node, 0, w.heartbeat⟩]
      ∧ (heartbeatTimer w).get (TRK.QSTAT (tn b)) TRK.QSTAT_DEPTH = 1 := by
  obtain ⟨ha, -, he, -⟩ := (trkHears_iff _ _).1 hh
  rw [heartbeatTimer_sends w ha hr hm]
  cases b with
  | false =>
    have first := queueFrame_restricted w 0 kHeartbeat 0 w.heartbeat ha he hn hs hq
    have second := step_queueFrame (w.queueFrame 0 kHeartbeat 0 w.heartbeat) 1 kHeartbeat 0 w.heartbeat
    show ((_ : Work).trk 0).queue = _ ∧ (_ : Work).get (TRK.QSTAT 0) _ = _
    rw [second.trk_other (by decide), (keeps_queueFrame _ 1 _ _ _).get (by simp only [evtRegs]; decide)]
    exact first
  | true =>
    have first := step_queueFrame w 0 kHeartbeat 0 w.heartbeat
    have kept := keeps_queueFrame w 0 kHeartbeat 0 w.heartbeat
    have hnode : (w.queueFrame 0 kHeartbeat 0 w.heartbeat).node = w.node := kept.get (by simp only [evtRegs]; decide) _
    have hctl : (w.queueFrame 0 kHeartbeat 0 w.heartbeat).enabled (trkPage 1) = true := by
      unfold Work.enabled Work.flag
      rw [kept.get (by simp only [evtRegs]; decide)]
      exact he
    have hstate : (w.queueFrame 0 kHeartbeat 0 w.heartbeat).trkState 1 = tsRestricted :=
      (kept.get (by simp only [evtRegs]; decide) _).trans hs
    rw [← hnode]
    refine queueFrame_restricted _ 1 kHeartbeat 0 w.heartbeat ?_ hctl (by rwa [hnode]) hstate ?_
    · unfold Work.alive
      rw [first.mode]
      exact ha
    · rw [first.trk_other (by decide)]
      exact hq

/-! HEARTBEAT_RX and NODE_LOST -/

section
variable {w u : Work} {t : Nat}

/-- A register of another page, and no announcement's, reads as before a trunk's operation. -/
theorem TrkStep.get_other (h : TrkStep t u w) {a : Nat} (ha : ¬ TrkRegs t a) (f : Fld) : w.get a f = u.get a f := h.regs.get ha f

theorem TrkStep.paired (h : TrkStep t u w) : w.paired = u.paired := by
  unfold Work.paired Work.flag
  rw [h.get_other]
  simp only [TrkRegs, evtRegs, PAIR.CFG, HDR.IRQSTAT, EVT.LOST, SLATE.SSTAT, pg, trkPage]
  omega

theorem TrkStep.now (h : TrkStep t u w) : w.now = u.now := by
  unfold Work.now Work.rd64
  rw [h.regs, h.regs] <;> simp only [TrkRegs, evtRegs, CUPOLA.OPTIME, CUPOLA.OPTIMEH, HDR.IRQSTAT, EVT.LOST, SLATE.SSTAT, pg, trkPage] <;>
    omega
end

section
variable (w : Work) (t n : Nat)

theorem seen_page (h : n < 120) : TRK.SEEN t (n / 32) / 4096 = trkPage t := by unfold TRK.SEEN trkPage; omega

theorem step_seenBit (on : Bool) : TrkStep t w (w.seenBit t n on) := by
  unfold Work.seenBit
  split
  · exact (TrkStep.refl w).put (seen_page t n ‹_›) _ _
  · exact .refl w

theorem step_trkSeen (hb : Heartbeat) : TrkStep t w (w.trkSeen t n hb) := ((TrkStep.refl w).trkSet _).trans (step_seenBit _ _ _ _)

/-- A node's heartbeat is kept, its SEEN bit set; nothing else changes (R23). -/
theorem trkSeen_spec (hb : Heartbeat) (h : n < 120) : (w.trkSeen t n hb).seen? t n = some hb
    ∧ (w.trkSeen t n hb).get (TRK.SEEN t (n / 32)) ⟨n % 32, 1⟩ = 1 ∧ Keeps (fun a => a = TRK.SEEN t (n / 32)) w (w.trkSeen t n hb) := by
  have e : w.trkSeen t n hb
      = (w.trkSet t fun s => { s with seen := tabSet s.seen n hb }).putB (TRK.SEEN t (n / 32)) ⟨n % 32, 1⟩ true := by
    unfold Work.trkSeen Work.seenBit; rw [if_pos h]
  rw [e]
  refine ⟨by simp [Work.seen?, tabSet], ?_, ?_⟩
  · rw [get_putB_same _ _ _ _ (show n % 32 + 1 ≤ 32 by omega) Nat.one_ne_zero]; rfl
  · exact keeps_putB (P := fun a => a = TRK.SEEN t (n / 32)) (w.trkSet t _) _ _ _ rfl

theorem heartbeatRx_unpaired (b : Bool) (hb : Heartbeat) (hh : w.trkHears (tn b) = true) (hn : n < 0x78) (ho : n ≠ w.node)
    (hp : w.paired = false) : heartbeatRx b n hb w = w.trkSeen (tn b) n hb := by
  unfold heartbeatRx
  rw [if_neg (by simp [hh, ho]; omega)]
  exact if_pos (.inl ((step_trkSeen w (tn b) n hb).paired.trans hp))

/-- A node seen until now is forgotten, its SEEN bit cleared, NODELOST raised (R23, R481). -/
theorem trkLost_spec (hs : w.seen? t n ≠ none) (h : n < 120) : TrkStep t w (w.trkLost t n) ∧ (w.trkLost t n).seen? t n = none
    ∧ (w.trkLost t n).get (TRK.SEEN t (n / 32)) ⟨n % 32, 1⟩ = 0 ∧ (w.trkLost t n).get (HDR.IRQSTAT (trkPage t)) ⟨22, 1⟩ = 1 := by
  have known : ((w.trk t).seen.any fun e => decide (e.1 = n)) = true := by
    by_contra hk
    apply hs
    unfold Work.seen?
    rw [List.find?_eq_none.2 fun e he hd => hk (List.any_eq_true.2 ⟨e, he, hd⟩)]
    rfl
  have e : w.trkLost t n = ((w.trkSet t fun s => { s with seen := s.seen.filter fun e => decide (e.1 ≠ n) }).putB
      (TRK.SEEN t (n / 32)) ⟨n % 32, 1⟩ false).irq (trkPage t) 22 := by
    unfold Work.trkLost Work.seenBit; rw [if_pos known, if_pos h]
  rw [e]
  refine ⟨(((TrkStep.refl w).trkSet _).put (seen_page t n h) _ _).irq _, ?_, ?_, get_irq_same _ _ _ (by decide)⟩
  · simp [Work.seen?]
  · rw [get_irq_ne _ _ _ _ _ (by simp only [trk_regs, ne_eq, trkReg_inj]; omega),
      get_putB_same _ _ _ _ (show n % 32 + 1 ≤ 32 by omega) Nat.one_ne_zero]
    rfl

theorem nodeLost_unpaired (b : Bool) (ha : w.alive = true) (hp : w.paired = false) (hs : w.seen? (tn b) n ≠ none) (h : n < 120) :
    nodeLost b n w = w.trkLost (tn b) n := by
  unfold nodeLost
  rw [if_neg (by simp [ha])]
  exact if_pos (.inl ((trkLost_spec w (tn b) n hs h).1.paired.trans hp))

end

end Sys2Proof.Proofs
end

section
/-! PROOF. Attempts and errors of a trunk: counters, fault confinement and the way off the bus (R470 to R473). -/

namespace Sys2Proof.Proofs

open Sys2Proof.Machine Sys2Proof.Laws

/-! TX_ATTEMPT_END -/

section
variable (w : Work) (t : Nat)

theorem trkIsolation_clear : w.trkIsolation t false false = ((w.setFlag (trkPage t) noSub (TRK.STAT t) TRK.STAT_LONE false).setFlag (trkPage t)
    noSub (TRK.STAT t) TRK.STAT_TXFAULT false).blockFault (trkPage t) 0x01 0x09 false := rfl

theorem step_trkIsolation_clear : TrkStep t w (w.trkIsolation t false false) := by
  rw [trkIsolation_clear]
  exact (((TrkStep.refl w).setFlag _ _ (stat_page t) _ _).setFlag _ _ (stat_page t) _ _).blockFault _ _ _

theorem rd_trkIsolation_clear {off : Nat} (ht : t < 2) (ho : off < 0x1000) (hs : off ≠ 0x44) (hi : off ≠ 0x14) (hh : off ≠ 0x2c) :
    (w.trkIsolation t false false).rd (trkReg t off) = w.rd (trkReg t off) := by
  have other : trkReg t off ≠ TRK.STAT t := by simpa [trk_regs] using hs
  rw [trkIsolation_clear, rd_blockFault _ _ _ _ _ _ ⟨notCause_trkReg ht ho, by simpa [trk_regs] using hh, by simpa [trk_regs] using hi⟩,
    rd_setFlag _ _ _ _ _ _ _ ⟨notRec_trkReg _ _, other⟩, rd_setFlag _ _ _ _ _ _ _ ⟨notRec_trkReg _ _, other⟩]

theorem get_trkIsolation_lone (ht : t < 2) : (w.trkIsolation t false false).get (TRK.STAT t) TRK.STAT_LONE = 0 := by
  rw [trkIsolation_clear, get_blockFault _ _ _ _ _ _ _ (by
      simp only [trk_regs]; exact ⟨notCause_trkReg ht (by decide), by simp, by simp⟩),
    get_setFlag_other _ _ _ _ _ _ _ (notRec_stat t) (by decide) (by decide), get_setFlag_same _ _ _ _ _ _ (notRec_stat t) (by decide) (by decide)]
  rfl

end

section
variable (w : Work) (t : Nat)

theorem tec_lt : w.get (TRK.ERR t) TRK.ERR_TEC < 256 := get_lt TRK.ERR_TEC _ (by decide)

/-- The counters after an acknowledged attempt (R471, R484). -/
def ackCounted : Work :=
  let w := ((w.incWrap (TRK.TXCNT t) TRK.TXCNT_N).put (TRK.ERR t) TRK.ERR_UNACK 0).put (TRK.AGES t) TRK.AGES_ACKAGE 0
  w.put (TRK.ERR t) TRK.ERR_TEC (w.get (TRK.ERR t) TRK.ERR_TEC - 1)

theorem step_ackCounted : TrkStep t w (ackCounted w t) :=
  ((((TrkStep.refl w).put (txcnt_page t) _ _).put (err_page t) _ _).put (ages_page t) _ _).put
    (err_page t) _ _

theorem trkState_ackCounted : (ackCounted w t).trkState t = w.trkState t := by
  simp [ackCounted, Work.trkState, trk_regs]

theorem rd_ackCounted {off : Nat} (h : off ≠ 0x48) (hc : off ≠ 0x4c) (ha : off ≠ 0x5c) : (ackCounted w t).rd (trkReg t off) = w.rd (trkReg t off) := by
  simp [ackCounted, trk_regs, h.symm, hc.symm, ha.symm]

theorem get_ackCounted_txcnt : (ackCounted w t).get (TRK.TXCNT t) TRK.TXCNT_N = (w.get (TRK.TXCNT t) TRK.TXCNT_N + 1) % 2 ^ TRK.TXCNT_N.w := by
  simp [ackCounted, trk_regs, trk_flds]

theorem get_ackCounted_tec : (ackCounted w t).get (TRK.ERR t) TRK.ERR_TEC = w.get (TRK.ERR t) TRK.ERR_TEC - 1 := by
  have := tec_lt w t
  simp [ackCounted, trk_regs, trk_flds] at this ⊢
  omega

theorem get_ackCounted_rec : (ackCounted w t).get (TRK.ERR t) TRK.ERR_REC = w.get (TRK.ERR t) TRK.ERR_REC := by
  simp [ackCounted, trk_regs, trk_flds]

theorem trkConfine_ackCounted (hs : w.trkState t = tsActive) (hr : w.get (TRK.ERR t) TRK.ERR_REC < 128)
    (ht : w.get (TRK.ERR t) TRK.ERR_TEC < 128) : (ackCounted w t).trkConfine t = ackCounted w t := by
  rcases trkConfine_cases (ackCounted w t) t with h | ⟨-, h, -⟩ | ⟨h, -⟩
  · exact h
  · rw [get_ackCounted_tec, get_ackCounted_rec] at h
    omega
  · rw [trkState_ackCounted, hs] at h
    exact absurd h (by decide)

/-- An acknowledged attempt of a queued frame, on a trunk that stays in ACTIVE (R470, R473). -/
theorem txAcked_queued (a : Attempt) (ha : a.mbox = none) (hc : (ackCounted w t).trkConfine t = ackCounted w t) :
    w.txAcked t a = ((((ackCounted w t).trkSet t fun s =>
      { s with attempt := none, lastAck := some (ackCounted w t).now, ackSince := true, heardSince := false }).trkIsolation t false false).trkSet t
        fun s => { s with queue := eraseFirst a.frame s.queue, window := if a.frame.kind = kIoOut then some a.frame.index else s.window }).trkDepth t := by
  unfold ackCounted at hc
  unfold Work.txAcked
  rw [ha]
  dsimp only at hc ⊢
  rw [hc]
  rfl

end

section
variable {w : Work} {t : Nat} {a : Attempt} (ha : a.mbox = none) (hc : (ackCounted w t).trkConfine t = ackCounted w t)
include ha hc

theorem step_txAcked : TrkStep t w (w.txAcked t a) := by
  rw [txAcked_queued w t a ha hc]
  exact ((((step_ackCounted w t).trkSet _).trans (step_trkIsolation_clear _ t)).trkSet _).trans (step_trkDepth _ t)

theorem trk_txAcked : ((w.txAcked t a).trk t).queue = eraseFirst a.frame (w.trk t).queue ∧ ((w.txAcked t a).trk t).attempt = none
    ∧ ((w.txAcked t a).trk t).lastAck = some w.now := by
  have idle (u : Work) : (u.trkIsolation t false false).trk t = u.trk t := by
    rw [trkIsolation_clear, trk_blockFault, trk_setFlag, trk_setFlag]
  have counted : (ackCounted w t).trk t = w.trk t := rfl
  rw [txAcked_queued w t a ha hc, (step_ackCounted w t).now]
  simp [idle, counted]

/-- A register of the trunk that neither the counters nor the isolation flags share reads as before. -/
theorem rd_txAcked (ht : t < 2) {off : Nat} (ho : off < 0x1000) (hs : off ∉ [0x14, 0x2c, 0x44, 0x70]) :
    (w.txAcked t a).rd (trkReg t off) = (ackCounted w t).rd (trkReg t off) := by
  simp only [List.mem_cons, List.not_mem_nil, or_false, not_or] at hs
  obtain ⟨hirq, hhealth, hstat, hqstat⟩ := hs
  rw [txAcked_queued w t a ha hc, Work.trkDepth, rd_put_ne _ _ _ _ _ (by simpa [trk_regs] using Ne.symm hqstat), rd_trkSet,
    rd_trkIsolation_clear _ _ ht ho hstat hirq hhealth, rd_trkSet]

theorem get_txAcked_lone (ht : t < 2) : (w.txAcked t a).get (TRK.STAT t) TRK.STAT_LONE = 0 := by
  rw [txAcked_queued w t a ha hc, Work.trkDepth, get_put_ne _ _ _ _ _ _ (by simp [trk_regs]), get_trkSet, get_trkIsolation_lone _ _ ht]

end

/-- TX_ATTEMPT_END without an error: the frame leaves the queue, the counters count it, nothing is left to send. -/
theorem txAttemptEnd_acked (w : Work) (b : Bool) (a : Attempt) (hh : w.trkHears (tn b) = true) (hatt : (w.trk (tn b)).attempt = some a)
    (ha : a.mbox = none) (hs : w.trkState (tn b) = tsActive) (hq : (w.trk (tn b)).queue = [a.frame])
    (hr : w.get (TRK.ERR (tn b)) TRK.ERR_REC < 128) (he : w.get (TRK.ERR (tn b)) TRK.ERR_TEC < 128)
    (hm : ∀ m < 64, w.get (TRK.MBSTAT (tn b) m) TRK.MBSTAT_TXPEND = 0) :
    let v := txAttemptEnd b none w
    TrkStep (tn b) w v ∧ (v.trk (tn b)).queue = [] ∧ (v.trk (tn b)).attempt = none ∧ (v.trk (tn b)).lastAck = some w.now
      ∧ v.get (TRK.TXCNT (tn b)) TRK.TXCNT_N = (w.get (TRK.TXCNT (tn b)) TRK.TXCNT_N + 1) % 2 ^ TRK.TXCNT_N.w
      ∧ v.get (TRK.ERR (tn b)) TRK.ERR_TEC = w.get (TRK.ERR (tn b)) TRK.ERR_TEC - 1 ∧ v.get (TRK.STAT (tn b)) TRK.STAT_LONE = 0 := by
  have ht := tn_lt b
  have hc := trkConfine_ackCounted w (tn b) hs hr he
  obtain ⟨queue, attempt, lastAck⟩ := trk_txAcked ha hc
  rw [hq] at queue
  have kept {off : Nat} (ho : off < 0x1000) (h : off ∉ [0x14, 0x2c, 0x44, 0x70]) (f : Fld) :
      (w.txAcked (tn b) a).get (trkReg (tn b) off) f = (ackCounted w (tn b)).get (trkReg (tn b) off) f := by
    unfold Work.get
    rw [rd_txAcked ha hc ht ho h]
  have pending : ∀ m < 64, (w.txAcked (tn b) a).get (TRK.MBSTAT (tn b) m) TRK.MBSTAT_TXPEND = 0 := by
    intro m hm64
    rw [← hm m hm64]
    simp only [trk_regs]
    rw [kept (by omega) (by simp; omega)]
    unfold Work.get
    rw [rd_ackCounted _ _ (by omega) (by omega) (by omega)]
  obtain ⟨queue', attempt'⟩ := arbitrate_nothing _ _ (queue.trans (by simp [eraseFirst])) attempt pending
  have e : txAttemptEnd b none w = (w.txAcked (tn b) a).arbitrate (tn b) := by
    unfold txAttemptEnd
    dsimp only
    rw [if_pos (by simp [Work.trkSends, hh, hs]), hatt]
  dsimp only
  rw [e]
  refine ⟨(step_txAcked ha hc).trans (step_arbitrate _ _), queue', attempt', (lastAck_arbitrate _ _).trans lastAck, ?_, ?_, ?_⟩
  · rw [get_arbitrate, ← get_ackCounted_txcnt]
    simpa only [trk_regs] using kept (by decide) (by decide) _
  · rw [get_arbitrate, ← get_ackCounted_tec]
    simpa only [trk_regs] using kept (by decide) (by decide) _
  · rw [get_arbitrate, get_txAcked_lone ha hc ht]

/-! TRUNK_ERROR -/

section
variable (w : Work) (t : Nat)

/-- What every error shows (R484): its code and phase, one more in the count of error frames. -/
def errNoted (kind : TrunkErr) (dataPhase : Bool) : Work :=
  ((w.put (TRK.ERR t) TRK.ERR_LASTERR (errCode kind)).putB (TRK.ERR t) TRK.ERR_LASTPH dataPhase).incSat (TRK.ERRCNT t) TRK.ERRCNT_ERRFR

/-- The error counters that an error leaves. -/
def errCounted (kind : TrunkErr) (dataPhase : Bool) (tec r : Nat) : Work :=
  ((errNoted w t kind dataPhase).put (TRK.ERR t) TRK.ERR_TEC (min tec 255)).put (TRK.ERR t) TRK.ERR_REC (min r 255)

/-- The transmit error counter after an acknowledgement error (R471). -/
def tecAfterAck (old : Nat) : Nat := if old < 128 then min (old + 8) 128 else old

theorem step_errCounted (kind : TrunkErr) (d : Bool) (tec r : Nat) : TrkStep t w (errCounted w t kind d tec r) :=
  (((((TrkStep.refl w).put (err_page t) _ _).put (err_page t) _ _).put (errcnt_page t) _ _).put (err_page t) _ _).put (err_page t) _ _

theorem trkState_errCounted (kind : TrunkErr) (d : Bool) (tec r : Nat) : (errCounted w t kind d tec r).trkState t = w.trkState t := by
  simp [errCounted, errNoted, Work.trkState, trk_regs]

theorem get_errCounted_tec (kind : TrunkErr) (d : Bool) (tec r : Nat) : (errCounted w t kind d tec r).get (TRK.ERR t) TRK.ERR_TEC = min tec 255 := by
  simp [errCounted, trk_flds]

theorem get_errCounted_lasterr (d : Bool) (tec r : Nat) : (errCounted w t .ack d tec r).get (TRK.ERR t) TRK.ERR_LASTERR = 5 := by
  simp [errCounted, errNoted, trk_regs, trk_flds, errCode]

theorem get_errCounted_busoffs (kind : TrunkErr) (d : Bool) (tec r : Nat) :
    (errCounted w t kind d tec r).get (TRK.ERRCNT t) TRK.ERRCNT_BUSOFFS = w.get (TRK.ERRCNT t) TRK.ERRCNT_BUSOFFS := by
  simp [errCounted, errNoted, trk_regs, trk_flds]

theorem trkState_errNoted (kind : TrunkErr) (d : Bool) : (errNoted w t kind d).trkState t = w.trkState t := by
  simp [errNoted, Work.trkState, trk_regs]

theorem get_errNoted_counters (kind : TrunkErr) (d : Bool) : (errNoted w t kind d).get (TRK.ERR t) TRK.ERR_TEC = w.get (TRK.ERR t) TRK.ERR_TEC
    ∧ (errNoted w t kind d).get (TRK.ERR t) TRK.ERR_REC = w.get (TRK.ERR t) TRK.ERR_REC := by
  simp [errNoted, trk_regs, trk_flds]

/-- The two error counters after an error: those of fault confinement, or of R471 after an acknowledgement error. -/
def errorsAfter (kind : TrunkErr) (tec r : Nat) : Nat × Nat :=
  match kind with
  | .ack => (tecAfterAck (w.get (TRK.ERR t) TRK.ERR_TEC), w.get (TRK.ERR t) TRK.ERR_REC)
  | _ => (tec, r)

/-- An error on a trunk in ACTIVE or PASSIVE is counted; beyond 255 the trunk leaves the bus, else fault confinement follows (R472). -/
theorem trunkError_live (b d : Bool) (kind : TrunkErr) (e r : Nat) (hh : w.trkHears (tn b) = true)
    (hs : w.trkState (tn b) = tsActive ∨ w.trkState (tn b) = tsPassive) :
    trunkError b kind d e r w
      = if 255 < (errorsAfter w (tn b) kind e r).1 then
          (errCounted w (tn b) kind d (errorsAfter w (tn b) kind e r).1 (errorsAfter w (tn b) kind e r).2).trkEnter (tn b) tsBusoff
        else (errCounted w (tn b) kind d (errorsAfter w (tn b) kind e r).1 (errorsAfter w (tn b) kind e r).2).trkConfine (tn b) := by
  have noted := trkState_errNoted w (tn b) kind d
  obtain ⟨tec, rec'⟩ := get_errNoted_counters w (tn b) kind d
  have unrestricted : (errNoted w (tn b) kind d).trkState (tn b) ≠ tsRestricted := by
    rw [noted]
    rcases hs with h | h <;> rw [h] <;> decide
  rw [← noted] at hs
  refine (if_pos hh).trans ((if_neg unrestricted).trans ((if_pos hs).trans ?_))
  unfold errorsAfter
  rw [← tec, ← rec']
  cases kind <;> rfl

theorem tecAfterAck_bounds {old : Nat} (h : old < 256) : tecAfterAck old ≤ 255 ∧ (128 ≤ old + 8 → 128 ≤ tecAfterAck old) := by
  unfold tecAfterAck
  split <;> omega

/-- The counters after an acknowledgement error. -/
def ackErrCounted (d : Bool) : Work :=
  errCounted w t .ack d (tecAfterAck (w.get (TRK.ERR t) TRK.ERR_TEC)) (w.get (TRK.ERR t) TRK.ERR_REC)

theorem get_ackErrCounted_tec (d : Bool) : (ackErrCounted w t d).get (TRK.ERR t) TRK.ERR_TEC = tecAfterAck (w.get (TRK.ERR t) TRK.ERR_TEC) :=
  (get_errCounted_tec ..).trans (Nat.min_eq_left (tecAfterAck_bounds (tec_lt w t)).1)

/-- An acknowledgement error on an error-active trunk never takes it off the bus (R471). -/
theorem trunkError_ack (b d : Bool) (e r : Nat) (hh : w.trkHears (tn b) = true) (hs : w.trkState (tn b) = tsActive) :
    trunkError b .ack d e r w = (ackErrCounted w (tn b) d).trkConfine (tn b) :=
  (trunkError_live w b d .ack e r hh (.inl hs)).trans (if_neg (Nat.not_lt.2 (tecAfterAck_bounds (tec_lt w _)).1))

/-- It raises TEC to 128 at most, and makes the trunk error-passive there (R471, R472). -/
theorem ack_confined (b d : Bool) (e r : Nat) (hh : w.trkHears (tn b) = true) (hs : w.trkState (tn b) = tsActive) :
    let v := trunkError b .ack d e r w
    TrkStep (tn b) w v ∧ v.get (TRK.ERR (tn b)) TRK.ERR_LASTERR = 5
      ∧ v.get (TRK.ERR (tn b)) TRK.ERR_TEC = tecAfterAck (w.get (TRK.ERR (tn b)) TRK.ERR_TEC) ∧ v.trkState (tn b) ≠ tsBusoff
      ∧ (128 ≤ w.get (TRK.ERR (tn b)) TRK.ERR_TEC + 8 → v.trkState (tn b) = tsPassive ∧ v.get (HDR.IRQSTAT (trkPage (tn b))) ⟨17, 1⟩ = 1) := by
  have step : TrkStep (tn b) w (ackErrCounted w (tn b) d) := step_errCounted ..
  have active : (ackErrCounted w (tn b) d).trkState (tn b) = tsActive := (trkState_errCounted ..).trans hs
  have lasterr : (ackErrCounted w (tn b) d).get (TRK.ERR (tn b)) TRK.ERR_LASTERR = 5 := get_errCounted_lasterr ..
  have tec := get_ackErrCounted_tec w (tn b) d
  have high := (tecAfterAck_bounds (tec_lt w (tn b))).2
  dsimp only
  rw [trunkError_ack w b d e r hh hs]
  generalize ackErrCounted w (tn b) d = u at *
  refine ⟨step.trans (step_trkConfine u _), ?_⟩
  rw [trkConfine_active u _ active]
  split
  · have state := trkState_enter u (tn b) (st := tsPassive) (by decide)
    have kept (f : Fld) : (u.trkEnter (tn b) tsPassive).get (TRK.ERR (tn b)) f = u.get (TRK.ERR (tn b)) f := by
      unfold Work.get
      rw [err_reg, rd_enter_passive u (tn b) (off := 0x48) (by decide) (by decide)]
    exact ⟨(kept _).trans lasterr, (kept _).trans tec, by rw [state]; decide,
      fun _ => ⟨state, irq_enter_passive u (tn b) (by rw [active]; decide)⟩⟩
  · rename_i low
    exact ⟨lasterr, tec, by rw [active]; decide, fun h => absurd (.inl (tec ▸ high h)) low⟩

/-- An error beyond 255 takes the trunk off the bus: BUSOFF counted and raised, what does not supersede itself discarded (R470, R472). -/
theorem bit_busoff (b d : Bool) (n : Nat) (hh : w.trkHears (tn b) = true) (hs : w.trkState (tn b) = tsActive ∨ w.trkState (tn b) = tsPassive) :
    let v := trunkError b .bit d 256 n w
    TrkStep (tn b) w v ∧ v.trkState (tn b) = tsBusoff ∧ v.get (HDR.IRQSTAT (trkPage (tn b))) ⟨18, 1⟩ = 1 ∧ (v.trk (tn b)).attempt = none
      ∧ v.get (TRK.ERRCNT (tn b)) TRK.ERRCNT_BUSOFFS
        = min (w.get (TRK.ERRCNT (tn b)) TRK.ERRCNT_BUSOFFS + 1) (2 ^ TRK.ERRCNT_BUSOFFS.w - 1)
      ∧ ∀ f ∈ (v.trk (tn b)).queue, superseding f.kind = true := by
  have step := step_errCounted w (tn b) .bit d 256 n
  have counted := get_errCounted_busoffs w (tn b) .bit d 256 n
  have live : (errCounted w (tn b) .bit d 256 n).trkState (tn b) ≠ tsBusoff := by
    rw [trkState_errCounted]
    rcases hs with h | h <;> rw [h] <;> decide
  have off : trunkError b .bit d 256 n w = (errCounted w (tn b) .bit d 256 n).trkEnter (tn b) tsBusoff :=
    (trunkError_live w b d .bit 256 n hh hs).trans (if_pos (show 255 < 256 by decide))
  dsimp only
  rw [off, ← counted]
  generalize errCounted w (tn b) .bit d 256 n = u at *
  obtain ⟨irq, attempt, count, queue⟩ := enter_busoff_spec u (tn b) live
  exact ⟨step.trans (step_trkEnter u _ (by decide)), trkState_enter u _ (by decide), irq, attempt, count, queue⟩

end

end Sys2Proof.Proofs
end

section
/-! PROOF. Frames that a trunk hears, its way out of RESTRICTED, and a node number used twice (R461, R472, R474). -/

namespace Sys2Proof.Proofs

open Sys2Proof.Machine Sys2Proof.Laws

/-! VALID_FRAME_RX -/

section
variable (w : Work) (t : Nat)

/-- The registers that a valid frame of another node moves (R484). -/
def frameCounted : Work :=
  ((w.incWrap (TRK.RXCNT t) TRK.RXCNT_N).put (TRK.AGES t) TRK.AGES_RXAGE 0).putB (TRK.STAT t) TRK.STAT_HEARD true

/-- What every valid frame of another node leaves (R461, R484): counted, the bus heard, the own offer to be made anew. -/
def frameNoted : Work :=
  (frameCounted w t).trkSet t fun s => { s with lastRx := some (frameCounted w t).now, heardSince := true, attempt := none }

/-- Heard in ACTIVE or PASSIVE, a valid frame lowers the receive error counter (R471, R472). -/
def frameConfined : Work :=
  if w.trkState t = tsActive ∨ w.trkState t = tsPassive then
    (w.put (TRK.ERR t) TRK.ERR_REC (recAfterFrame (w.get (TRK.ERR t) TRK.ERR_REC))).trkConfine t
  else w

/-- One valid frame more has been heard in RESTRICTED, of the four that lead out (R472). -/
def frameValid (s : TrkSt) : TrkSt := { s with valid := min (s.valid + 1) 4 }

/-- What a valid frame does to a trunk's state (R471, R472). -/
def frameJudged : Work :=
  if w.trkState t = tsRestricted then
    if ((frameConfined w t).trkSet t frameValid).trkMayLeave t ∧ (((frameConfined w t).trkSet t frameValid).trk t).valid = 4 then
      ((frameConfined w t).trkSet t frameValid).trkEnter t tsActive
    else (frameConfined w t).trkSet t frameValid
  else frameConfined w t

/-- A frame of the kind and source awaited closes the window (R465). -/
def windowClosed (src kind : Nat) (s : TrkSt) : TrkSt :=
  { s with window := if kind = 0x0A ∧ s.window = some src then none else s.window }

theorem validFrameRx_hears (b : Bool) (src kind : Nat) (h : w.trkHears (tn b) = true) : validFrameRx b src kind w
    = ((frameJudged (frameNoted w (tn b)) (tn b)).trkSet (tn b) (windowClosed src kind)).arbitrate (tn b) := by
  unfold validFrameRx
  dsimp only
  rw [if_pos h]
  rfl

/-- A frame has been received: counted, the bus heard, its time kept. -/
structure Received (v : Work) : Prop where
  step : TrkStep t w v
  count : v.get (TRK.RXCNT t) TRK.RXCNT_N = (w.get (TRK.RXCNT t) TRK.RXCNT_N + 1) % 2 ^ TRK.RXCNT_N.w
  heard : v.get (TRK.STAT t) TRK.STAT_HEARD = 1
  lastRx : (v.trk t).lastRx = some w.now

theorem step_frameCounted : TrkStep t w (frameCounted w t) :=
  (((TrkStep.refl w).put (rxcnt_page t) _ _).put (ages_page t) _ _).put (stat_page t) _ _

theorem received_noted : Received w t (frameNoted w t) where
  step := (step_frameCounted w t).trkSet _
  count := by simp [frameNoted, frameCounted, trk_regs, trk_flds]
  heard := by simp [frameNoted, frameCounted, trk_flds]
  lastRx := by simp [frameNoted, (step_frameCounted w t).now]

section
variable {w t} {v : Work} (h : Received w t v)
include h

theorem Received.trkSet (g : TrkSt → TrkSt) (hg : ∀ s, (g s).lastRx = s.lastRx) : Received w t (v.trkSet t g) :=
  ⟨h.step.trkSet g, h.count, h.heard, by rw [trk_trkSet, if_pos Iff.rfl, hg]; exact h.lastRx⟩

theorem Received.put_err (f : Fld) (n : Nat) : Received w t (v.put (TRK.ERR t) f n) :=
  ⟨h.step.put (err_page t) _ _, by rw [get_put_ne _ _ _ _ _ _ (by simp [trk_regs])]; exact h.count,
    by rw [get_put_ne _ _ _ _ _ _ (by simp [trk_regs])]; exact h.heard, h.lastRx⟩

theorem Received.arbitrate : Received w t (v.arbitrate t) :=
  ⟨h.step.trans (step_arbitrate _ _), by rw [get_arbitrate]; exact h.count, by rw [get_arbitrate]; exact h.heard,
    by rw [lastRx_arbitrate]; exact h.lastRx⟩

theorem Received.enter {st : Nat} (hs : st = tsActive ∨ st = tsPassive) : Received w t (v.trkEnter t st) := by
  have mem : st ∈ [tsRestricted, tsActive, tsPassive, tsBusoff] := by rcases hs with rfl | rfl <;> decide
  have count : (v.trkEnter t st).rd (TRK.RXCNT t) = v.rd (TRK.RXCNT t) := by
    simp only [trk_regs]
    rcases hs with rfl | rfl
    · exact rd_enter_active v t (by decide)
    · exact rd_enter_passive v t (by decide) (by decide)
  refine ⟨h.step.trans (step_trkEnter v t mem), ?_, ?_, (lastRx_enter v t mem).trans h.lastRx⟩
  · unfold Work.get
    rw [count]
    exact h.count
  · rw [get_enter_stat v t mem (by decide) (by decide) (by decide)]
    exact h.heard

theorem Received.confine : Received w t (v.trkConfine t) := by
  rcases trkConfine_cases v t with e | ⟨-, -, e⟩ | ⟨-, e⟩ <;> rw [e]
  · exact h
  · exact h.enter (.inr rfl)
  · exact h.enter (.inl rfl)

theorem Received.confined : Received w t (frameConfined v t) := by
  unfold frameConfined
  split
  · exact (h.put_err _ _).confine
  · exact h

theorem Received.judged : Received w t (frameJudged v t) := by
  have valid := h.confined.trkSet frameValid fun _ => rfl
  unfold frameJudged
  split
  · split
    · exact valid.enter (.inl rfl)
    · exact valid
  · exact h.confined

end

/-- Whether a trunk may leave RESTRICTED is a matter of CFG and of its STAT. -/
theorem trkMayLeave_noted : (frameNoted w t).trkMayLeave t = w.trkMayLeave t := by
  have cfg : ∀ k, trkReg t k ≠ TRK.CFG t ∨ k = 0x40 := by intro k; unfold trkReg TRK.CFG; omega
  have rate := (cfg 0x50).resolve_right (by decide)
  have ages := (cfg 0x5c).resolve_right (by decide)
  have stat := (cfg 0x44).resolve_right (by decide)
  simp [frameNoted, frameCounted, Work.trkMayLeave, Work.trkState, Work.flag, trk_regs, trk_flds, rate, ages, stat]

/-- In RESTRICTED, and free to leave it, the fourth valid frame in a row is the one that leads out (R472). -/
theorem frameJudged_restricted (h : w.trkMayLeave t = true) :
    (frameJudged w t).trkState t = if 3 ≤ (w.trk t).valid then tsActive else tsRestricted := by
  have restricted : w.trkState t = tsRestricted := by
    unfold Work.trkMayLeave at h
    simp only [Bool.and_eq_true, decide_eq_true_eq] at h
    obtain ⟨⟨state, -⟩, -⟩ := h
    exact state
  have unconfined : frameConfined w t = w := by
    unfold frameConfined
    rw [restricted]
    exact if_neg (by decide)
  have full : ((w.trkSet t frameValid).trk t).valid = 4 ↔ 3 ≤ (w.trk t).valid := by
    rw [trk_trkSet, if_pos Iff.rfl]
    show min ((w.trk t).valid + 1) 4 = 4 ↔ _
    omega
  unfold frameJudged
  rw [if_pos restricted, unconfined]
  have leaves : (w.trkSet t frameValid).trkMayLeave t = true := h
  simp only [leaves, full, true_and]
  split
  · exact trkState_enter _ t (by decide)
  · exact restricted

end

/-- VALID_FRAME_RX of a trunk that hears. -/
theorem validFrameRx_spec (w : Work) (b : Bool) (src kind : Nat) (h : w.trkHears (tn b) = true) :
    Received w (tn b) (validFrameRx b src kind w) ∧ (w.trkMayLeave (tn b) = true →
      (validFrameRx b src kind w).trkState (tn b) = if 3 ≤ (w.trk (tn b)).valid then tsActive else tsRestricted) := by
  rw [validFrameRx_hears w b src kind h]
  refine ⟨((received_noted w _).judged.trkSet (windowClosed src kind) fun _ => rfl).arbitrate, fun hl => ?_⟩
  have valid : ((frameNoted w (tn b)).trk (tn b)).valid = (w.trk (tn b)).valid := by simp [frameNoted, frameCounted]
  rw [trkState_arbitrate, trkState_trkSet, frameJudged_restricted _ _ (by rwa [trkMayLeave_noted]), valid]

/-! RESTRICTED_IDLE, DUPNODE_FRAME, DUPNODE_CLEAR -/

theorem restrictedIdle_leaves (w : Work) (b : Bool) (hh : w.trkHears (tn b) = true) (hl : w.trkMayLeave (tn b) = true)
    (hr : w.get (TRK.STAT (tn b)) TRK.STAT_RATEERR = 0) : restrictedIdle b w = w.trkEnter (tn b) tsActive := by
  unfold restrictedIdle
  exact if_pos ⟨hh, hl, by simp [Work.flag, hr]⟩

section
variable (w : Work) (t : Nat)

/-- A frame with the module's own node number is flagged, at its rise with a source and a record (R474). -/
def dupnodeNoted : Work :=
  (w.putB (TRK.STAT t) TRK.STAT_DUPNODE true).when (!w.flag (TRK.STAT t) TRK.STAT_DUPNODE) fun u =>
    (u.irq (trkPage t) 19).evFlag (trkPage t) noSub (TRK.STAT t) 11 true

theorem step_dupnodeNoted : TrkStep t w (dupnodeNoted w t) :=
  ((TrkStep.refl w).put (stat_page t) _ _).when _ (f := fun u => (u.irq (trkPage t) 19).evFlag (trkPage t) noSub (TRK.STAT t) 11 true)
    fun h => (h.irq _).emit _ _ _ _

theorem dupnodeNoted_spec : (dupnodeNoted w t).get (TRK.STAT t) TRK.STAT_DUPNODE = 1 ∧ (dupnodeNoted w t).trkState t = w.trkState t
    ∧ (w.get (TRK.STAT t) TRK.STAT_DUPNODE = 0 → (dupnodeNoted w t).get (HDR.IRQSTAT (trkPage t)) ⟨19, 1⟩ = 1) := by
  have hrec := notRec_stat t
  have irq : NotRec (HDR.IRQSTAT (trkPage t)) := by rw [irqstat_reg]; exact notRec_trkReg _ _
  have ne : HDR.IRQSTAT (trkPage t) ≠ TRK.STAT t := by simp [trk_regs]
  refine ⟨?_, ?_, fun h => ?_⟩
  · rw [dupnodeNoted, get_when, get_evFlag _ _ _ _ _ _ _ _ hrec, get_irq_ne _ _ _ _ _ ne, get_putB_same _ _ _ _ (by decide) (by decide), ite_self]
    rfl
  · rw [Work.trkState, dupnodeNoted, get_when, get_evFlag _ _ _ _ _ _ _ _ hrec, get_irq_ne _ _ _ _ _ ne,
      get_putB_other _ _ _ _ _ (by decide) (by decide), ite_self]
    rfl
  · rw [dupnodeNoted, get_when, if_pos (by simp [Work.flag, h]), get_evFlag _ _ _ _ _ _ _ _ irq, get_irq_same _ _ _ (by decide)]

end

/-- DUPNODE_FRAME of a trunk that hears, in a module with a node number: flagged, and out of the states in which it sends. -/
theorem dupnodeFrame_spec (w : Work) (b : Bool) (hh : w.trkHears (tn b) = true) (hn : w.node ≠ 0xFF) :
    let v := dupnodeFrame b w
    TrkStep (tn b) w v ∧ v.get (TRK.STAT (tn b)) TRK.STAT_DUPNODE = 1 ∧ v.trkState (tn b) ≠ tsActive ∧ v.trkState (tn b) ≠ tsPassive
      ∧ (w.get (TRK.STAT (tn b)) TRK.STAT_DUPNODE = 0 → v.get (HDR.IRQSTAT (trkPage (tn b))) ⟨19, 1⟩ = 1) := by
  have step := step_dupnodeNoted w (tn b)
  obtain ⟨dup, state, irq⟩ := dupnodeNoted_spec w (tn b)
  have e : dupnodeFrame b w = if (dupnodeNoted w (tn b)).trkState (tn b) = tsActive ∨ (dupnodeNoted w (tn b)).trkState (tn b) = tsPassive then
      (dupnodeNoted w (tn b)).trkEnter (tn b) tsRestricted else (dupnodeNoted w (tn b)).trkSet (tn b) fun s => { s with valid := 0 } :=
    if_pos ⟨hh, hn⟩
  dsimp only
  rw [e]
  generalize dupnodeNoted w (tn b) = u at *
  split
  · have entered := trkState_enter u (tn b) (st := tsRestricted) (by decide)
    have kept : (u.trkEnter (tn b) tsRestricted).get (HDR.IRQSTAT (trkPage (tn b))) ⟨19, 1⟩ = u.get (HDR.IRQSTAT (trkPage (tn b))) ⟨19, 1⟩ := by
      unfold Work.get
      rw [irqstat_reg, rd_enter_restricted u (tn b) (off := 0x14) (by decide) (by decide)]
    refine ⟨step.trans (step_trkEnter u _ (by decide)), ?_, by rw [entered]; decide, by rw [entered]; decide, fun h => ?_⟩
    · rw [get_enter_stat u _ (by decide) (by decide) (by decide) (by decide)]; exact dup
    · exact kept.trans (irq h)
  · rename_i silent
    exact ⟨step.trkSet _, dup, fun h => silent (.inl h), fun h => silent (.inr h), irq⟩

/-- DUPNODE_CLEAR of an open trunk: the flag is down, beside it only a record. -/
theorem dupnodeClear_spec (w : Work) (b : Bool) (hh : w.trkHears (tn b) = true) : TrkStep (tn b) w (dupnodeClear b w)
    ∧ (dupnodeClear b w).get (TRK.STAT (tn b)) TRK.STAT_DUPNODE = 0
    ∧ Keeps (fun a => a = TRK.STAT (tn b) ∨ evtRegs a) w (dupnodeClear b w) := by
  obtain ⟨alive, -, enabled, -⟩ := (trkHears_iff _ _).1 hh
  have e : dupnodeClear b w = w.setFlag (trkPage (tn b)) noSub (TRK.STAT (tn b)) TRK.STAT_DUPNODE false := if_pos ⟨alive, enabled⟩
  rw [e]
  refine ⟨(TrkStep.refl w).setFlag _ _ (stat_page _) _ _, get_setFlag_same _ _ _ _ _ _ (notRec_stat _) (by decide) (by decide), ?_⟩
  unfold Work.setFlag
  split
  · exact .refl _ _
  · exact (keeps_putB _ _ _ _ (.inl rfl)).trans ((keeps_emit _ _ _ _ _).mono fun _ => .inr)

end Sys2Proof.Proofs
end

section
/-! PROOF. The commands of a trunk's heartbeats, attempts, errors and states, each by what its effect leaves. -/

namespace Sys2Proof.Proofs

open Sys2Proof.Machine Sys2Proof.Laws

/-- The recorder's registers that an event may change follow (R507). -/
theorem follows_of_evtRegs {a : Nat} (h : evtRegs a) : Follows a := by
  rcases h with rfl | rfl <;> decide

/-- A trunk's operation changes no register but its page's and those that follow. -/
theorem TrkStep.keeps_page {t : Nat} {u w : Work} (h : TrkStep t u w) : Keeps (fun a => a / 4096 = trkPage t ∨ Follows a) u w :=
  h.regs.mono fun a ha => by
    rcases ha with page | recorder | rfl
    · exact .inl page
    · exact .inr (follows_of_evtRegs recorder)
    · exact .inr (by decide)

/-- Settles O38, from what each command's effect leaves of the trunk; the next state shows it. -/
theorem trunkStates : Obligations.TrunkStates := by
  intro s b n k hq hh
  have ht := tn_lt b
  obtain ⟨alive, -, -, -⟩ := (trkHears_iff _ _).1 hh
  have irq_page : HDR.IRQSTAT (trkPage (tn b)) / 4096 = trkPage (tn b) := by unfold HDR.IRQSTAT pg; omega
  refine ⟨?heartbeatTimer, ?heartbeatRx, ?nodeLost, ?txAttemptEnd, ?ackError, ?bitError, ?restrictedIdle, ?validFrameRx, ?dupnodeFrame,
    ?dupnodeClear⟩
  case heartbeatTimer =>
    intro solo past node restricted empty
    obtain ⟨queue, depth⟩ := heartbeatTimer_queues (begin s) b solo past node hh restricted empty
    exact runs_shows rfl hq (heartbeatTimer_task _ alive solo past) fun u hu => ⟨by rw [hu.trk, queue], by rw [hu.get ht (qstat_page _), depth]⟩
  case heartbeatRx =>
    intro number other unpaired hb
    have e := heartbeatRx_unpaired (begin s) n b hb hh number other unpaired
    obtain ⟨seen, bit, keeps⟩ := trkSeen_spec (begin s) (tn b) n hb number
    have task := (step_trkSeen (begin s) (tn b) n hb).task
    rw [← e] at seen bit keeps task
    exact runs_shows rfl hq task fun u hu => ⟨by rw [hu.seen?, seen], by rw [hu.get ht (seen_page _ _ number), bit], hu.same keeps⟩
  case nodeLost =>
    intro unpaired known number
    have e := nodeLost_unpaired (begin s) n b alive unpaired known number
    obtain ⟨step, gone, bit, irq⟩ := trkLost_spec (begin s) (tn b) n known number
    rw [← e] at step gone bit irq
    exact runs_shows rfl hq step.task fun u hu => ⟨by rw [hu.seen?, gone], by rw [hu.get ht (seen_page _ _ number), bit],
      by rw [hu.get ht irq_page, irq], fun a ha => hu.same step.keeps_page a fun h => ha (h.elim id .inr)⟩
  case txAttemptEnd =>
    intro a attempt queued active only recLow tecLow idle
    obtain ⟨step, queue, ended, acked, count, tec', lone⟩ := txAttemptEnd_acked (begin s) b a hh attempt queued active only recLow tecLow idle
    exact runs_shows rfl hq step.task fun u hu => ⟨by rw [hu.trk, queue], by rw [hu.trk, ended], by rw [hu.trk, acked],
      (hu.get ht (txcnt_page _) _).trans count, (hu.get ht (err_page _) _).trans tec', by rw [hu.get ht (stat_page _), lone]⟩
  case ackError =>
    intro d e r active
    obtain ⟨step, code, tec, on, passive⟩ := ack_confined (begin s) b d e r hh active
    exact runs_shows rfl hq step.task fun u hu => ⟨by rw [hu.get ht (err_page _), code], (hu.get ht (err_page _) _).trans tec,
      by rw [hu.trkState ht]; exact on, fun h => ⟨by rw [hu.trkState ht, (passive h).1], by rw [hu.get ht irq_page, (passive h).2]⟩⟩
  case bitError =>
    intro d live
    obtain ⟨step, off, irq, ended, count, queue⟩ := bit_busoff (begin s) b d n hh live
    exact runs_shows rfl hq step.task fun u hu => ⟨by rw [hu.trkState ht, off], by rw [hu.get ht irq_page, irq], by rw [hu.trk, ended],
      (hu.get ht (errcnt_page _) _).trans count, by rw [hu.trk]; exact queue⟩
  case restrictedIdle =>
    intro free rate
    have e := restrictedIdle_leaves (begin s) b hh free rate
    have step := step_trkEnter (begin s) (tn b) (st := tsActive) (by decide)
    have state := trkState_enter (begin s) (tn b) (st := tsActive) (by decide)
    rw [← e] at step state
    exact runs_shows rfl hq step.task fun u hu => by rw [hu.trkState ht, state]
  case validFrameRx =>
    obtain ⟨⟨step, count, heard, lastRx⟩, leaves⟩ := validFrameRx_spec (begin s) b n k hh
    refine runs_shows rfl hq step.task fun u hu => ⟨(hu.get ht (rxcnt_page _) _).trans count, by rw [hu.get ht (stat_page _), heard],
      by rw [hu.trk, lastRx], fun free full => ?_, fun free few => ?_⟩
    · rw [hu.trkState ht, leaves free, if_pos full]
      decide
    · rw [hu.trkState ht, leaves free, if_neg (by omega)]
  case dupnodeFrame =>
    intro node
    obtain ⟨step, dup, inactive, unpassive, irq⟩ := dupnodeFrame_spec (begin s) b hh node
    exact runs_shows rfl hq step.task fun u hu => ⟨by rw [hu.get ht (stat_page _), dup], by rw [hu.trkState ht]; exact inactive,
      by rw [hu.trkState ht]; exact unpassive, fun h => by rw [hu.get ht irq_page, irq h]⟩
  case dupnodeClear =>
    obtain ⟨step, dup, keeps⟩ := dupnodeClear_spec (begin s) b hh
    exact runs_shows rfl hq step.task fun u hu => ⟨by rw [hu.get ht (stat_page _), dup],
      fun a ha => hu.same keeps a fun h => ha (h.elim (Or.imp_right fun r => .inr (follows_of_evtRegs r)) fun f => .inr (.inr f))⟩

end Sys2Proof.Proofs
end

section
/-! PROOF. From what a command's effect leaves to what its next state shows, of every part that announcing a change leaves alone; what happens
to the interrupt words at a command's end (R51). -/

namespace Sys2Proof.Proofs

open Sys2Proof.Machine Sys2Proof.Laws

/-- The next state shows what the effect left: the registers that follow none, and beside the registers all that no announcement touches. -/
structure Settled (w : Work) (t : State) : Prop where
  rd : ∀ a, ¬ Follows a → t.rd a = w.rd a
  noise : Noise w.x t.x

section
variable {w : Work} {s t : State} (h : Settled w t)
include h

theorem Settled.get {a : Nat} (ha : ¬ Follows a) (f : Fld) : t.get a f = w.get a f := by unfold State.get Work.get; rw [h.rd a ha]

theorem Settled.parts : t.x.mode = w.x.mode ∧ t.x.role = w.x.role ∧ t.x.out = w.x.out ∧ t.x.pages = w.x.pages ∧ t.x.net = w.x.net
    ∧ t.x.safe = w.x.safe ∧ t.x.task = w.x.task ∧ t.x.ctl = w.x.ctl ∧ t.x.loops = w.x.loops := by
  obtain ⟨_, _, _, _, _, e⟩ := h.noise
  rw [e]
  exact ⟨rfl, rfl, rfl, rfl, rfl, rfl, rfl, rfl, rfl⟩

theorem Settled.mode : t.x.mode = w.x.mode := by obtain ⟨mode, -⟩ := h.parts; exact mode
theorem Settled.out : t.x.out = w.x.out := by obtain ⟨-, -, out, -⟩ := h.parts; exact out
theorem Settled.pages : t.x.pages = w.x.pages := by obtain ⟨-, -, -, pages, -⟩ := h.parts; exact pages
theorem Settled.net : t.x.net = w.x.net := by obtain ⟨-, -, -, -, net, -⟩ := h.parts; exact net
theorem Settled.loops : t.x.loops = w.x.loops := by obtain ⟨-, -, -, -, -, -, -, -, loops⟩ := h.parts; exact loops

/-- What the effect leaves alone the next state leaves alone, but for the registers that follow. -/
theorem Settled.same {P : Nat → Prop} (k : Keeps P (begin s) w) : Same (fun a => P a ∨ Follows a) s t :=
  fun a ha => (h.rd a fun f => ha (.inr f)).trans (k a fun p => ha (.inl p))

/-- An effect that changes no register but those of announcements leaves all that follow none. -/
theorem Settled.same_follows {P : Nat → Prop} (k : Keeps P (begin s) w) (hp : ∀ a, P a → Follows a) : Same Follows s t :=
  fun a ha => h.same k a fun o => ha (o.elim (hp a) id)

end

theorem settled_finish {s : State} {w : Work} (hq : w.x.task.hdr = []) : Settled w (finish s w) :=
  ⟨fun _ ha => fin_rd hq ha, by rw [x_finish]; exact (settle_spec _ _ hq).1⟩

/-- A command that leaves no header word waiting shows what its effect left. -/
theorem runs_settled {i : Instr} {s : State} {f : Work → Work} {P : State → Prop} (he : exec i s = runCmd s f)
    (hq : (f (begin s)).x.task.hdr = []) (h : ∀ t, Settled (f (begin s)) t → P t) : Runs i s P :=
  runs_cmd he (h _ (settled_finish hq))

/-- A command whose effect is none shows the state it ran from. -/
theorem runs_still {i : Instr} {s : State} {f : Work → Work} {P : State → Prop} (he : exec i s = runCmd s f) (hq : Quiet s)
    (hf : f (begin s) = begin s) (h : ∀ t, Settled (begin s) t → P t) : Runs i s P :=
  runs_settled he (by rw [hf]; exact hq) (by rw [hf]; exact h)

/-! At a command's end no bit of an interrupt word is lost -/

/-- Every bit of an interrupt word that is set in `u` is set in `w`. -/
def IrqGrows (u w : Work) : Prop := ∀ page, u.rd (HDR.IRQSTAT page) &&& ~~~(w.rd (HDR.IRQSTAT page)) = 0

theorem irqGrows_of_rd {u w : Work} (h : ∀ page, w.rd (HDR.IRQSTAT page) = u.rd (HDR.IRQSTAT page)) : IrqGrows u w :=
  fun page => by rw [h page]; exact BitVec.and_not_self _

theorem and_not_trans {x y z : Word} (h : x &&& ~~~y = 0) (k : y &&& ~~~z = 0) : x &&& ~~~z = 0 := by
  apply BitVec.eq_of_getLsbD_eq
  intro i hi
  have h' := congrArg (fun v => v.getLsbD i) h
  have k' := congrArg (fun v => v.getLsbD i) k
  simp [hi] at h' k' ⊢
  exact fun hx => k' (h' hx)

/-- Setting bits loses none, and sets them. -/
theorem and_not_or_right (x y : Word) : y &&& ~~~(x ||| y) = 0 := by
  apply BitVec.eq_of_getLsbD_eq
  intro i hi
  simp [hi]
  tauto

theorem IrqGrows.refl (w : Work) : IrqGrows w w := irqGrows_of_rd fun _ => rfl
theorem IrqGrows.trans {u v w : Work} (h : IrqGrows u v) (k : IrqGrows v w) : IrqGrows u w := fun page => and_not_trans (h page) (k page)

theorem and_not_set_bit (v : Word) (b : Nat) : v &&& ~~~((⟨b, 1⟩ : Fld).set v 1) = 0 := by
  apply BitVec.eq_of_getLsbD_eq
  intro i hi
  simp [Fld.set, Fld.mask, hi]
  exact fun set lost => lost.resolve_left (by simp [set])

theorem irqGrows_irq (w : Work) (page b : Nat) : IrqGrows w (w.irq page b) := by
  intro q
  show w.rd _ &&& ~~~((w.put (HDR.IRQSTAT page) ⟨b, 1⟩ 1).rd (HDR.IRQSTAT q)) = 0
  rw [rd_put]
  split
  · rename_i e
    rw [e]
    exact and_not_set_bit _ _
  · exact BitVec.and_not_self _

theorem lost_not_irqstat (page : Nat) : EVT.LOST ≠ HDR.IRQSTAT page := by unfold EVT.LOST HDR.IRQSTAT pg; omega
theorem slate_not_irqstat (page : Nat) : HDR.IRQSTAT page ≠ SLATE.SSTAT := by unfold SLATE.SSTAT HDR.IRQSTAT pg; omega

theorem irqGrows_emit (w : Work) (page num sub : Nat) (data : List Nat) : IrqGrows w (w.emit page num sub data) := by
  unfold Work.emit Work.arrive
  split
  · exact .refl w
  · refine IrqGrows.trans (v := if w.get EVT.LOST EVT.LOST_QLOST = 0 then w.irq 0x14 18 else w) ?_ ?_
    · split
      · exact irqGrows_irq _ _ _
      · exact .refl w
    · exact irqGrows_of_rd fun q => by rw [rd_upd, rd_put_ne _ _ _ _ _ (lost_not_irqstat q)]

theorem irqGrows_setState (w : Work) (page sub : Nat) {a : Nat} (ha : ∀ q, a ≠ HDR.IRQSTAT q) (f : Fld) (n : Nat) :
    IrqGrows w (w.setState page sub a f n) := by
  unfold Work.setState
  split
  · exact .refl w
  · exact (irqGrows_of_rd fun q => rd_put_ne _ _ _ _ _ (ha q)).trans (irqGrows_emit _ _ _ _ _)

theorem irqGrows_wr (w : Work) {a : Nat} (ha : ∀ q, a ≠ HDR.IRQSTAT q) (v : Word) : IrqGrows w (w.wr a v) :=
  irqGrows_of_rd fun q => by rw [rd_wr, if_neg (ha q)]

theorem irqGrows_slateRequest (w : Work) (r : Nat) : IrqGrows w (w.slateRequest r) :=
  irqGrows_of_rd fun q => rd_slateRequest _ _ _ (slate_not_irqstat q)

theorem irqGrows_ite {c : Prop} [Decidable c] {u v w : Work} (hv : IrqGrows u v) (hw : IrqGrows u w) : IrqGrows u (if c then v else w) := by
  split <;> assumption

theorem irqGrows_each {α : Type} {f : Work → α → Work} (h : ∀ w a, IrqGrows w (f w a)) (l : List α) :
    ∀ w : Work, IrqGrows w (w.each l f) := by
  induction l with
  | nil => exact IrqGrows.refl
  | cons a t ih => exact fun w => (h w a).trans (ih (f w a))

/-- Proctor's view lies in registers of SYS and Proctor (R100, R421). -/
theorem irqGrows_procShow (w : Work) : IrqGrows w w.procShow := by
  have stat : ∀ q, PROCTOR.STAT ≠ HDR.IRQSTAT q := fun q => by unfold PROCTOR.STAT HDR.IRQSTAT pg; omega
  have state : ∀ q, SYS.STATE ≠ HDR.IRQSTAT q := fun q => by unfold SYS.STATE HDR.IRQSTAT pg; omega
  have recnext (u : Work) : IrqGrows u u.recnextShow :=
    irqGrows_of_rd fun q => rd_recnextShow _ _ (by unfold PROCTOR.RECNEXT HDR.IRQSTAT pg; omega)
  unfold Work.procShow
  refine IrqGrows.trans ?_ (recnext _)
  refine IrqGrows.trans ?_ (irqGrows_ite (.refl _) (irqGrows_wr _ state _))
  refine IrqGrows.trans ?_ (irqGrows_setState _ _ _ stat _ _)
  exact irqGrows_ite (.refl _) (irqGrows_wr _ stat _)

theorem irqGrows_vlFollow (w : Work) : IrqGrows w w.vlFollow := by
  refine irqGrows_each (fun u e => ?_) _ w
  unfold Work.vlShow
  dsimp only
  by_cases group : e.1 < 1 ∨ 6 < e.1
  · rw [if_pos (group.elim .inl fun k => .inr (.inl k))]
    exact .refl u
  · exact irqGrows_ite (.refl u) (irqGrows_wr u (fun q => by unfold PWR.VL HDR.IRQSTAT pg; omega) _)

theorem irqGrows_syncMode (w : Work) (s : State) : IrqGrows w (w.syncMode s) := by
  unfold Work.syncMode
  refine IrqGrows.trans (irqGrows_ite (c := w.x.mode = s.x.mode ∧ w.x.role = s.x.role) (.refl w) (irqGrows_procShow w)) ?_
  exact irqGrows_ite (.refl _) (irqGrows_slateRequest _ _)

theorem irqGrows_syncHealth (w : Work) : IrqGrows w w.syncHealth := by
  have health : ∀ q, HDR.PGHEALTH 0 ≠ HDR.IRQSTAT q := fun q => by unfold HDR.PGHEALTH HDR.IRQSTAT pg; omega
  have swap (u : Work) : IrqGrows u u.drSwap := irqGrows_of_rd fun q => (drSwap_spec u).2 _
  unfold Work.syncHealth
  refine irqGrows_ite (.refl w) ?_
  refine IrqGrows.trans ((irqGrows_wr _ health _).trans (irqGrows_wr _ health _)) (irqGrows_ite (.refl _) ?_)
  refine IrqGrows.trans ((irqGrows_irq _ _ _).trans (irqGrows_slateRequest _ _)) (irqGrows_ite (swap _) (.refl _))

/-- At a command's end no interrupt bit is lost (R51, R53). -/
theorem irqGrows_settle (w : Work) (s : State) (hq : w.x.task.hdr = []) : IrqGrows w (w.settle s) := by
  have drained : w.drainHdr = w := by unfold Work.drainHdr; exact if_pos hq
  unfold Work.settle
  rw [drained]
  exact ((irqGrows_syncMode w s).trans (irqGrows_vlFollow _)).trans (irqGrows_syncHealth _)

end Sys2Proof.Proofs
end

section
/-! PROOF. A word of a page's header written by a party: what stands in the way, and what an accepted write does (R47 to R63); accesses
answered with a bus error (R68). -/

namespace Sys2Proof.Proofs

open Sys2Proof.Machine Sys2Proof.Laws

/-! The addresses of a header -/

theorem hdr_page {page off : Nat} (h : off < 0x1000) : (pg page + off) / 4096 = page := by unfold pg; omega
theorem hdr_off {page off : Nat} (h : off < 0x1000) : (pg page + off) % 4096 = off := by unfold pg; omega

/-- The words of a header lie at the same offsets of every page (R34). -/
theorem hdr_regs (page : Nat) : HDR.PGCTL page = pg page + 0x0c ∧ HDR.PGSTAT page = pg page + 0x10 ∧ HDR.IRQSTAT page = pg page + 0x14
    ∧ HDR.IRQEN page = pg page + 0x18 ∧ HDR.IRQSET page = pg page + 0x1c ∧ HDR.OPSTAT page = pg page + 0x24
    ∧ HDR.PGKEY page = pg page + 0x28 ∧ HDR.PGHEALTH page = pg page + 0x2c := ⟨rfl, rfl, rfl, rfl, rfl, rfl, rfl, rfl⟩

/-- Of the header's words only IRQSTAT and PGHEALTH of two pages follow. -/
theorem hdr_not_follows {page off : Nat} (ho : off < 0x40) (h14 : off ≠ 0x14) (h2c : off ≠ 0x2c) : ¬ Follows (pg page + off) := by
  simp only [Follows, HDR.PGHEALTH, HDR.IRQSTAT, PROCTOR.STAT, SYS.STATE, PROCTOR.RECNEXT, EVT.LOST, SLATE.SSTAT, PWR.VL, pg]
  omega

theorem reachable_iff (w : Work) (page : Nat) :
    w.reachable page = true ↔ w.alive = true ∧ kindOf page ≠ .unmapped ∧ isWindow page = false := by
  simp [Work.reachable, and_assoc]

theorem window_of_reachable {w : Work} {page : Nat} (h : w.reachable page = true) : isWindow page = false := by
  obtain ⟨-, -, window⟩ := (reachable_iff w page).1 h
  exact window

theorem isHdr_hdr {page off : Nat} (hw : isWindow page = false) (ho : off < 0x40) : isHdr (pg page + off) = true := by
  unfold isHdr
  rw [hdr_page (by omega), hdr_off (by omega), hw]
  simpa using ho

/-- A header word of a page that answers is no bus error. -/
theorem busError_hdr {w : Work} {page off : Nat} (hr : w.reachable page = true) (ho : off < 0x40) (h4 : off % 4 = 0) :
    w.busError (pg page + off) = false := by
  obtain ⟨alive, mapped, window⟩ := (reachable_iff w page).1 hr
  have aligned : (pg page + off) % 4 = 0 := by unfold pg; omega
  simp [Work.busError, hdr_page (show off < 0x1000 by omega), hdr_off (show off < 0x1000 by omega), alive, window, aligned, mapped, ho]

/-! One word written -/

section
variable {w : Work} {p : Party} {a : Nat} {v : Word}

theorem write1_busError (h : w.busError a = true) : w.write1 p a v = w := if_pos (.inr h)

/-- A header word concerns no point record. -/
theorem pointsOf_hdr (h : isHdr a = true) : pointsOf [(a, v)] = [] := by
  have : kindOf (a / 4096) ≠ .pt := by
    intro k
    simp [isHdr, isWindow, k] at h
  simp [pointsOf, this]

theorem access_hdr (hh : isHdr a = true) (hn : w.hdrRefusal p a v = none) : w.access p [(a, v)] = (none, w.hdrStore p a v) := by
  have words : Work.accessWords p [(a, v)] 0 w = (none, w.hdrStore p a v) := by
    simp only [Work.accessWords, Work.wordRefusal, Work.wordStore, if_pos hh, hn]
  unfold Work.access
  rw [words]
  simp only [pointsOf_hdr hh, List.find?_nil]

end

section
variable {w : Work} {p : Party} {page : Nat} {v : Word} (hr : w.reachable page = true) (hp : w.present p = true)
include hr hp

/-- An accepted write of a header word. -/
theorem writeHdr_accepted {off : Nat} (ho : off < 0x40) (h4 : off % 4 = 0) (hn : w.hdrRefusal p (pg page + off) v = none) :
    w.writeHdr p (pg page + off) v = w.hdrStore p (pg page + off) v := by
  have hh := isHdr_hdr (window_of_reachable hr) ho
  unfold Work.writeHdr Work.write1
  rw [if_pos hh, if_neg (by simp [hp, busError_hdr hr ho h4]), access_hdr hh hn]

/-! What an accepted write of each word does -/

theorem irqsetWrite_reached : irqsetWrite p page v w = w.wr (HDR.IRQSTAT page) (w.rd (HDR.IRQSTAT page) ||| (v &&& irqMask)) := by
  have free : w.hdrRefusal p (HDR.IRQSET page) v = none := by simp [Work.hdrRefusal, hdr_regs, hdr_off]
  refine (writeHdr_accepted hr hp (by decide) (by decide) free).trans ?_
  simp [Work.hdrStore, hdr_off, hdr_page]

theorem pgkeyWrite_reached (hn : w.hdrRefusal p (HDR.PGKEY page) v = none) : pgkeyWrite p page v w = w.keyStore p page v := by
  refine (writeHdr_accepted hr hp (by decide) (by decide) hn).trans ?_
  simp [Work.hdrStore, hdr_off, hdr_page]

theorem pgctlWrite_reached (hn : w.ctlRefusal p page v = []) : w.writeHdr p (HDR.PGCTL page) v = w.ctlStore page v := by
  have free : w.hdrRefusal p (HDR.PGCTL page) v = none := by simp [Work.hdrRefusal, hdr_regs, hdr_off, hdr_page, hn, lowest]
  refine (writeHdr_accepted hr hp (by decide) (by decide) free).trans ?_
  simp [Work.hdrStore, hdr_off, hdr_page]

end

/-- A write of IRQEN within a session's access. -/
theorem access_irqen {w : Work} {p : Party} {page : Nat} (v : Word) (hr : w.reachable page = true) :
    w.access p [(HDR.IRQEN page, v)] = (none, w.wr (HDR.IRQEN page) (v &&& irqMask)) := by
  have free : w.hdrRefusal p (HDR.IRQEN page) v = none := by simp [Work.hdrRefusal, hdr_regs, hdr_off]
  have header : isHdr (HDR.IRQEN page) = true := isHdr_hdr (window_of_reachable hr) (by decide)
  rw [access_hdr header free]
  simp [Work.hdrStore, hdr_regs, hdr_off]

/-- PGCTL's bits in the words that the rows of PGCTL write: EN is kept by a soft reset and a lock request. -/
theorem enBit_bits (w : Work) (page : Nat) : decide (HDR.PGCTL_EN.get (w.enBit page ||| 2) = 1) = w.enabled page
    ∧ HDR.PGCTL_SRST.get (w.enBit page ||| 2) = 1 ∧ HDR.PGCTL_LOCKREQ.get (w.enBit page ||| 2) = 0
    ∧ decide (HDR.PGCTL_EN.get (w.enBit page ||| 4) = 1) = w.enabled page
    ∧ HDR.PGCTL_SRST.get (w.enBit page ||| 4) = 0 ∧ HDR.PGCTL_LOCKREQ.get (w.enBit page ||| 4) = 1 := by
  unfold Work.enBit
  cases w.enabled page <;> decide

section
variable {w : Work} {p : Party} {page : Nat} {v : Word} (en : decide (HDR.PGCTL_EN.get v = 1) = w.enabled page)
include en

/-- Nothing refuses a lock request by a party with the holder's role or a higher one (R63). -/
theorem ctlRefusal_lockReq (srst : HDR.PGCTL_SRST.get v = 0) (role : w.get (HDR.PGKEY page) HDR.PGKEY_HOLDER ≤ w.roleOf p) :
    w.ctlRefusal p page v = [] := by
  simp [Work.ctlRefusal, en, srst, Nat.not_lt.2 role]

/-- Nothing refuses an Engineer's soft reset of a page that is neither busy nor in use (R48). -/
theorem ctlRefusal_softReset (lock : HDR.PGCTL_LOCKREQ.get v = 0) (role : 2 ≤ w.roleOf p) (idle : w.opBusy page = false)
    (unused : w.inUse page = false) : w.ctlRefusal p page v = [] := by
  simp [Work.ctlRefusal, en, lock, idle, unused, Nat.not_lt.2 role]

/-- A write of PGCTL that leaves EN as it stands soft-resets the page, or ends its unlock, as its bits say. -/
theorem ctlStore_enKept : w.ctlStore page v = (fun u => if HDR.PGCTL_LOCKREQ.get v = 1 then u.lock page else u)
    (if HDR.PGCTL_SRST.get v = 1 then w.srstWrite page else w) := by
  have kept : w.enWrite page (w.enabled page) = w := if_pos (.inr rfl)
  simp only [Work.ctlStore, en, kept]

end

/-! Bus errors -/

theorem regWrite_busError {w : Work} {p : Party} {a : Nat} {v : Word} (h : w.busError a = true) : regWrite p a v w = w := by
  unfold regWrite
  rw [if_neg (by simp [h]), write1_busError h]

/-- Settles O3: an access answered with a bus error has no effect. -/
theorem busErrorChangesNothing : Obligations.BusErrorChangesNothing := by
  intro s p a v hq hb
  refine runs_still rfl hq (regWrite_busError hb) fun t ht => ?_
  obtain ⟨mode, role, -, pages, net, safe, task, ctl, loops⟩ := ht.parts
  exact ⟨ht.rd, mode, role, pages, net, safe, task, ctl, loops⟩

/-! IRQSET -/

/-- Settles O2: the write sets its bits, and the command's end loses none. -/
theorem irqsetSetsItsBits : Obligations.IrqsetSetsItsBits := by
  intro s p page v hq ⟨hr, hp⟩
  have effect := irqsetWrite_reached (v := v) hr hp
  have quiet : (irqsetWrite p page v (begin s)).x.task.hdr = [] := by rw [effect]; exact hq
  have grows := irqGrows_settle _ s quiet page
  refine runs_cmd rfl ⟨?_, fun a ha => ?_⟩
  · rw [rd_finish]
    refine and_not_trans (y := (irqsetWrite p page v (begin s)).rd (HDR.IRQSTAT page)) ?_ grows
    rw [effect, rd_wr, if_pos rfl]
    exact and_not_or_right _ _
  · refine (settled_finish quiet).same (P := fun a => a = HDR.IRQSTAT page) ?_ a ha
    rw [effect]
    exact keeps_wr _ _ _ rfl

/-- Settles O5, by what the party's role is. -/
theorem rolesOfTheParties : Obligations.RolesOfTheParties := by
  intro s id
  refine ⟨rfl, fun e open_ => ?_⟩
  simp only [Work.roleOf, open_]

end Sys2Proof.Proofs
end

section
/-! PROOF. Keys, unlocks and lockouts (R61 to R64). -/

namespace Sys2Proof.Proofs

open Sys2Proof.Machine Sys2Proof.Laws

/-! PGKEY_WRITE -/

/-- Is a word of PGKEY a key of the page and the role it names (R62)? -/
def rightKey (w : Work) (page : Nat) (v : Word) : Bool :=
  w.x.pages.keys.any fun k => decide (k.1 = page) && decide (k.2.1 = HDR.PGKEY_ROLE.get v) && decide (k.2.2 = HDR.PGKEY_KEY.get v)

/-- A page unlocked by a party in a role, for the time that R63 gives. -/
def unlockedFor (w : Work) (p : Party) (page role : Nat) : Work :=
  ((w.upd fun x => { x with pages := { x.pages with
    unlocks := x.pages.unlocks.filter (fun u => decide (u.page ≠ page)) ++ [⟨page, p, role, w.now⟩] } }).put
      (HDR.PGKEY page) HDR.PGKEY_HOLDER role).put (HDR.PGKEY page) HDR.PGKEY_REMAIN 255

/-- The wrong keys at a page within the last 60 s (R64). -/
def wrongLately (w : Work) (page : Nat) : List (Nat × Nat) :=
  w.x.pages.wrong.filter fun e => decide (e.1 = page) && decide (w.now < e.2 + 60000)

section
variable (w : Work) (p : Party) (page : Nat)

theorem keyStore_right {v : Word} (h : rightKey w page v = true) : w.keyStore p page v = unlockedFor w p page (HDR.PGKEY_ROLE.get v) := if_pos h

theorem keyStore_wrong {v : Word} (h : rightKey w page v = false) : w.keyStore p page v = w.wrongKey p page :=
  if_neg (ne_true_of_eq_false h)

theorem get_unlockedFor {role : Nat} (h : role < 16) : (unlockedFor w p page role).get (HDR.PGKEY page) HDR.PGKEY_HOLDER = role
    ∧ (unlockedFor w p page role).get (HDR.PGKEY page) HDR.PGKEY_REMAIN = 255 := by
  unfold unlockedFor
  constructor
  · rw [get_put_other _ _ _ _ _ (by decide) (by decide), get_put_same _ _ _ _ (by decide)]
    exact Nat.mod_eq_of_lt h
  · exact get_put_same _ _ _ _ (by decide)

/-- The page has this one unlock. -/
theorem unlocks_unlockedFor (role : Nat) : (unlockedFor w p page role).x.pages.unlocks.filter (fun u => decide (u.page = page))
    = [⟨page, p, role, w.now⟩] := by
  simp [unlockedFor]

theorem keeps_unlockedFor (role : Nat) : Keeps (fun a => a = HDR.PGKEY page) w (unlockedFor w p page role) :=
  (((Keeps.refl (fun a => a = HDR.PGKEY page) w).upd _).put (a := HDR.PGKEY page) rfl _ _).put (a := HDR.PGKEY page) rfl _ _

/-- A wrong key shows in the recorder alone; it unlocks nothing, and the third within 60 s locks the page out. -/
theorem wrongKey_spec : Keeps evtRegs w (w.wrongKey p page) ∧ (w.wrongKey p page).x.task = w.x.task
    ∧ (w.wrongKey p page).x.pages.unlocks = w.x.pages.unlocks
    ∧ (2 ≤ (wrongLately w page).length → (w.wrongKey p page).x.pages.lockouts = w.x.pages.lockouts ++ [page]) := by
  have count : (((w.x.pages.wrong.filter fun e => decide (w.now < e.2 + 60000)) ++ [(page, w.now)]).filter fun e => decide (e.1 = page)).length
      = (wrongLately w page).length + 1 := by
    simp [wrongLately, List.filter_filter]
  have noted {u v : Work} (h : Keeps evtRegs u v) (a i c : Nat) : Keeps evtRegs u (v.evOccur page noSub a i c) :=
    h.trans (keeps_emit _ _ _ _ _)
  unfold Work.wrongKey
  dsimp only
  rw [count]
  split
  · rename_i few
    exact ⟨noted ((Keeps.refl _ w).upd _) _ _ _, by simp, by simp, fun many => absurd few (by omega)⟩
  · exact ⟨((noted ((Keeps.refl _ w).upd _) _ _ _).upd _).trans (keeps_emit _ _ _ _ _), by simp, by simp, fun _ => by simp⟩

end

/-! The end of an unlock -/

section
variable (w : Work) (page : Nat)

theorem unlock?_isSome_iff : (w.unlock? page).isSome = true ↔ ∃ u ∈ w.x.pages.unlocks, u.page = page := by
  simp [Work.unlock?, List.find?_isSome]

theorem task_lock : (w.lock page).x.task = w.x.task := by
  rcases x_lock w page with e | e <;> rw [e]

/-- A locked page has no unlock. -/
theorem unlocks_lock : ∀ u ∈ (w.lock page).x.pages.unlocks, u.page ≠ page := by
  intro u hu
  unfold Work.lock at hu
  split at hu
  · simp only [x_put, x_upd, List.mem_filter, decide_eq_true_eq] at hu
    exact hu.2
  · rename_i locked
    exact fun e => locked ((unlock?_isSome_iff w page).2 ⟨u, hu, e⟩)

/-- Where an unlock has ended, HOLDER and REMAIN read 0 (R63). -/
theorem get_lock (h : ∃ u ∈ w.x.pages.unlocks, u.page = page) : (w.lock page).get (HDR.PGKEY page) HDR.PGKEY_HOLDER = 0
    ∧ (w.lock page).get (HDR.PGKEY page) HDR.PGKEY_REMAIN = 0 := by
  unfold Work.lock
  rw [if_pos ((unlock?_isSome_iff w page).2 h)]
  constructor
  · rw [get_put_other _ _ _ _ _ (by decide) (by decide), get_put_same _ _ _ _ (by decide), Nat.zero_mod]
  · rw [get_put_same _ _ _ _ (by decide), Nat.zero_mod]

end

/-- LOCKREQ of a party with at least the holder's role ends the unlock. -/
theorem lockReq_reached {w : Work} {p : Party} {page : Nat} (hr : w.reachable page = true) (hp : w.present p = true)
    (role : w.get (HDR.PGKEY page) HDR.PGKEY_HOLDER ≤ w.roleOf p) : lockReq p page w = w.lock page := by
  obtain ⟨-, -, -, en, srst, lockreq⟩ := enBit_bits w page
  refine (pgctlWrite_reached hr hp (ctlRefusal_lockReq en srst role)).trans ?_
  rw [ctlStore_enKept en, srst, lockreq]
  rfl

/-- Settles O6, by what a right key, a wrong key and the end of an unlock leave; the next state shows it. -/
theorem keysAndUnlocks : Obligations.KeysAndUnlocks := by
  intro s p page v hq
  have pgkey : ¬ Follows (HDR.PGKEY page) := hdr_not_follows (by decide) (by decide) (by decide)
  have locked : Same (fun a => a = HDR.PGKEY page ∨ Follows a) s (finish s ((begin s).lock page)) :=
    fin_same (by rw [task_lock]; exact hq) (keeps_lock _ page)
  refine ⟨fun ⟨hr, hp⟩ free right => ?rightKey, fun ⟨hr, hp⟩ free wrong => ?wrongKey, ?lockoutEnd, ?unlockTimeout,
    fun ⟨hr, hp⟩ role => ?lockReq⟩
  case rightKey =>
    have effect : pgkeyWrite p page v (begin s) = unlockedFor (begin s) p page (HDR.PGKEY_ROLE.get v) :=
      (pgkeyWrite_reached hr hp free).trans (keyStore_right _ p page right)
    obtain ⟨holder, remain⟩ := get_unlockedFor (begin s) p page (get_lt HDR.PGKEY_ROLE v (by decide))
    refine runs_settled rfl (by rw [effect]; exact hq) fun t ht => ?_
    rw [effect] at ht
    exact ⟨(ht.get pgkey _).trans holder, (ht.get pgkey _).trans remain, by rw [ht.pages, unlocks_unlockedFor],
      ht.same (keeps_unlockedFor _ _ _ _)⟩
  case wrongKey =>
    have effect : pgkeyWrite p page v (begin s) = (begin s).wrongKey p page :=
      (pgkeyWrite_reached hr hp free).trans (keyStore_wrong _ p page wrong)
    obtain ⟨keeps, task, unlocks, lockouts⟩ := wrongKey_spec (begin s) p page
    refine runs_settled rfl (by rw [effect, task]; exact hq) fun t ht => ?_
    rw [effect] at ht
    exact ⟨by rw [ht.pages, unlocks]; rfl, fun many => by rw [ht.pages, lockouts many]; rfl, ht.same_follows keeps fun _ => follows_of_evtRegs⟩
  case lockoutEnd =>
    refine runs_settled rfl hq fun t ht => ⟨?_, fun q hne => ?_, ht.rd⟩
    · rw [ht.pages]
      simp [keyLockoutEnd]
    · rw [ht.pages]
      simp [keyLockoutEnd, hne]
  case unlockTimeout =>
    refine runs_settled (f := fun w => w.lock page) rfl (by rw [task_lock]; exact hq) fun t ht =>
      ⟨by rw [ht.pages]; exact unlocks_lock _ _, fun held => ?_, ht.same (keeps_lock _ _)⟩
    obtain ⟨holder, remain⟩ := get_lock (begin s) page held
    exact ⟨(ht.get pgkey _).trans holder, (ht.get pgkey _).trans remain⟩
  case lockReq =>
    have effect : lockReq p page (begin s) = (begin s).lock page := lockReq_reached hr hp role
    refine runs_settled rfl (by rw [effect, task_lock]; exact hq) fun t ht => ?_
    rw [effect] at ht
    exact ⟨by rw [ht.pages]; exact unlocks_lock _ _, ht.same (keeps_lock _ _)⟩

end Sys2Proof.Proofs
end

section
/-! PROOF. Requests of a session: READ and WRITE of one word, and the latch of a wide counter (R40, R69, R530, R531). -/

namespace Sys2Proof.Proofs

open Sys2Proof.Machine Sys2Proof.Laws

/-! The answer to a request -/

section
variable (w : Work) (id seq status : Nat) (data : List Word)

@[simp] theorem rd_answer (a : Nat) : (w.answer id seq status data).rd a = w.rd a := rfl
@[simp] theorem out_answer : (w.answer id seq status data).x.out = w.x.out ++ [.answer id seq status data] := rfl
@[simp] theorem task_answer : (w.answer id seq status data).x.task = w.x.task := rfl

/-- An answer is kept as the session's last (R530). -/
theorem last_of_answer {q : Session} (h : (w.answer id seq status data).session? id = some q) : q.last = some ⟨seq, status, data⟩ := by
  have its : q.id = id := by simpa using List.find?_some h
  obtain ⟨s, -, hs⟩ := List.mem_map.1 (List.mem_of_find?_eq_some h)
  by_cases hid : s.id = id
  · rw [if_pos hid] at hs
    rw [← hs]
  · rw [if_neg hid] at hs
    exact absurd (hs ▸ its) hid

end

theorem spanOf_one (a : Nat) : spanOf a 1 = [a] := by simp [spanOf]
theorem badSpan_one (a : Nat) : badSpan a 1 = false := by simp [badSpan]

/-- A request with a new SEQ of an open session on a running port (R530). -/
structure NewRequest (w : Work) (id seq : Nat) (e : Session) : Prop where
  session : w.session? id = some e
  port : w.netOn e.usb = true
  isNew : e.seqRule seq = none

section
variable {w : Work} {id seq : Nat} {e : Session} (h : NewRequest w id seq e)
include h

theorem request_new (act : Work → Work) : w.request id seq act = act w := by
  simp [Work.request, h.session, h.port, h.isNew]

theorem read_word {a : Nat} (hb : w.busError a = false) : read id seq a 1 w = (w.latch id a).answer id seq stOk [w.hostWord id a] := by
  unfold Machine.read
  rw [request_new h]
  simp [badSpan_one, spanOf_one, hb, Work.readWords]

theorem read_busError {a : Nat} (hb : w.busError a = true) : read id seq a 1 w = w.answer id seq stBus [] := by
  unfold Machine.read
  rw [request_new h]
  simp [badSpan_one, spanOf_one, hb]

theorem write_word {a : Nat} {v : Word} {u : Work} (hb : w.busError a = false) (ha : w.access (.host id) [(a, v)] = (none, u)) :
    write id seq a [v] w = u.answer id seq stOk [] := by
  unfold Machine.write
  rw [request_new h]
  simp [badSpan_one, spanOf_one, hb, ha]

theorem write_busError {a : Nat} {v : Word} (hb : w.busError a = true) : write id seq a [v] w = w.answer id seq stBus [] := by
  unfold Machine.write
  rw [request_new h]
  simp [badSpan_one, spanOf_one, hb]

end

/-! The latch (R69) -/

section
variable (w : Work) (session a : Nat)

/-- A latch touches the latches alone. -/
theorem latch_spec : (∀ b, (w.latch session a).rd b = w.rd b)
    ∧ ∃ l, (w.latch session a).x = { w.x with pages := { w.x.pages with latches := l } } := by
  unfold Work.latch
  split
  · exact ⟨fun _ => rfl, _, rfl⟩
  · exact ⟨fun _ => rfl, _, rfl⟩

theorem mem_latch (h : a ∈ wideCounters) : (session, a + 4, w.rd (a + 4)) ∈ (w.latch session a).x.pages.latches := by
  simp [Work.latch, h]

/-- Where no upper word is latched, a session reads a block's word as it stands. -/
theorem hostWord_block {w : Work} {session a : Nat} (evw : kindOf (a / 4096) ≠ .evw) (block : isHdr a = false)
    (unlatched : (w.x.pages.latches.all fun l => decide (l.2.1 ≠ a)) = true) : w.hostWord session a = w.rd a := by
  have none_found : (w.x.pages.latches.find? fun l => decide (l.1 = session) && decide (l.2.1 = a)) = none := by
    rw [List.find?_eq_none]
    intro l hl
    have := List.all_eq_true.1 unlatched l hl
    simp at this ⊢
    exact fun _ => this
  simp [Work.hostWord, evw, block, none_found]

end

/-! From a request to the state it leaves -/

section
variable {s : State} {id seq a : Nat} {e : Session} (hq : Quiet s) (h : NewRequest (begin s) id seq e)
include hq h

/-- An access of a session that is answered with a bus error changes nothing (R68). -/
theorem runs_busError (v : Word) (hb : (begin s).busError a = true) :
    Runs (.read id seq a 1) s (fun t => t.x.out = [.answer id seq stBus []] ∧ Same Follows s t)
    ∧ Runs (.write id seq a [v]) s fun t => t.x.out = [.answer id seq stBus []] ∧ Same Follows s t := by
  have effects := And.intro (read_busError h hb) (write_busError (v := v) h hb)
  constructor
  · refine runs_settled rfl (by rw [effects.1]; exact hq) fun t ht => ?_
    rw [effects.1] at ht
    exact ⟨ht.out, ht.rd⟩
  · refine runs_settled rfl (by rw [effects.2]; exact hq) fun t ht => ?_
    rw [effects.2] at ht
    exact ⟨ht.out, ht.rd⟩

/-- A READ of one word is answered with what the session reads there, and changes no register. -/
theorem runs_read (hb : (begin s).busError a = false) : Runs (.read id seq a 1) s fun t =>
    t.x.out = [.answer id seq stOk [(begin s).hostWord id a]] ∧ Same Follows s t
      ∧ ∀ q, (begin t).session? id = some q → q.last = some ⟨seq, stOk, [(begin s).hostWord id a]⟩ := by
  obtain ⟨kept, l, part⟩ := latch_spec (begin s) id a
  have effect := read_word h hb
  refine runs_settled rfl (by rw [effect, task_answer, part]; exact hq) fun t ht => ?_
  rw [effect] at ht
  refine ⟨?_, fun b hb => (ht.rd b hb).trans (kept b), fun q hq => last_of_answer ((begin s).latch id a) id seq stOk _ ?_⟩
  · rw [ht.out, out_answer, part]
    rfl
  · rw [← hq]
    unfold Work.session?
    rw [x_begin, ← ht.net]

/-- A WRITE of IRQEN is carried out (R51). -/
theorem runs_write_irqen {page : Nat} (v : Word) (hr : (begin s).reachable page = true) :
    Runs (.write id seq (HDR.IRQEN page) [v]) s fun t => t.x.out = [.answer id seq stOk []] ∧ t.rd (HDR.IRQEN page) = v &&& irqMask
      ∧ Same (fun b => b = HDR.IRQEN page ∨ Follows b) s t := by
  have answers : (begin s).busError (HDR.IRQEN page) = false := busError_hdr hr (by decide) (by decide)
  have effect := write_word h answers (access_irqen v hr)
  refine runs_settled rfl (by rw [effect]; exact hq) fun t ht => ?_
  rw [effect] at ht
  have irqen : ¬ Follows (HDR.IRQEN page) := hdr_not_follows (by decide) (by decide) (by decide)
  refine ⟨ht.out, ?_, ht.same (keeps_wr (P := fun b => b = HDR.IRQEN page) (begin s) _ _ rfl)⟩
  rw [ht.rd _ irqen, rd_answer, rd_wr, if_pos rfl]

end

/-- Settles O9, from what each request of one word does; a latch touches no register. -/
theorem accessesOfASession : Obligations.AccessesOfASession := by
  intro s id seq a e hq session port isNew
  have h : NewRequest (begin s) id seq e := ⟨session, port, isNew⟩
  refine ⟨fun answers evw block unlatched => ?_, fun hb => (runs_busError hq h 0 hb).1, fun v hr ha => ?_,
    fun v hb => (runs_busError hq h v hb).2, fun answers wide => ?_⟩
  · have reads := runs_read hq h answers
    rw [hostWord_block evw block unlatched] at reads
    exact reads
  · have writes := runs_write_irqen hq h v hr
    rw [← ha] at writes
    exact writes
  · have effect : latchedCounterRead id a (begin s) = (begin s).latch id a := if_neg (by simp [Work.present, session, answers])
    obtain ⟨kept, l, part⟩ := latch_spec (begin s) id a
    refine runs_settled rfl (by rw [effect, part]; exact hq) fun t ht => ?_
    rw [effect] at ht
    exact ⟨by rw [ht.pages]; exact mem_latch (begin s) id a wide, fun b hb => (ht.rd b hb).trans (kept b)⟩

end Sys2Proof.Proofs
end

section
/-! PROOF. Gates and soft resets (R36, R37, R48, R584): what a page's opening, closing and soft reset leave of its header. -/

namespace Sys2Proof.Proofs

open Sys2Proof.Machine Sys2Proof.Laws

/-- From `u` to `w` registers within `P` alone have changed. -/
structure RegsOnly (P : Nat → Prop) (u w : Work) : Prop where
  keeps : Keeps P u w
  x : w.x = u.x

section
variable {P : Nat → Prop} {u v w : Work}

theorem RegsOnly.refl (w : Work) : RegsOnly P w w := ⟨.refl _ _, rfl⟩
theorem RegsOnly.trans (h : RegsOnly P u v) (k : RegsOnly P v w) : RegsOnly P u w := ⟨h.keeps.trans k.keeps, k.x.trans h.x⟩
theorem RegsOnly.wr (h : RegsOnly P u w) {a : Nat} (ha : P a) (v : Word) : RegsOnly P u (w.wr a v) := ⟨h.keeps.wr ha v, h.x⟩
theorem RegsOnly.put (h : RegsOnly P u w) {a : Nat} (ha : P a) (f : Fld) (n : Nat) : RegsOnly P u (w.put a f n) := h.wr ha _

theorem regsOnly_each {α : Type} {f : Work → α → Work} {l : List α} (h : ∀ w, ∀ a ∈ l, RegsOnly P w (f w a)) :
    ∀ w : Work, RegsOnly P w (w.each l f) := by
  induction l with
  | nil => exact RegsOnly.refl
  | cons a t ih =>
    exact fun w => (h w a List.mem_cons_self).trans (ih (fun u b hb => h u b (List.mem_cons_of_mem _ hb)) (f w a))

end

/-! Writes of PGCTL that move EN -/

section
variable {w : Work} {p : Party} {page : Nat} {v : Word} (srst : HDR.PGCTL_SRST.get v = 0) (lock : HDR.PGCTL_LOCKREQ.get v = 0)
include srst lock

theorem ctlRefusal_open (en : HDR.PGCTL_EN.get v = 1) (role : 2 ≤ w.roleOf p) : w.ctlRefusal p page v = [] := by
  simp [Work.ctlRefusal, en, srst, lock, Nat.not_lt.2 role]

/-- Outside Ready, Run and Hold no page is in use (R36). -/
theorem ctlRefusal_close (en : HDR.PGCTL_EN.get v = 0) (role : 2 ≤ w.roleOf p) (ready : w.x.mode ≠ .ready) (run : w.x.mode ≠ .run)
    (hold : w.x.mode ≠ .hold) : w.ctlRefusal p page v = [] := by
  simp [Work.ctlRefusal, en, srst, lock, Nat.not_lt.2 role, ready, run, hold]

theorem ctlStore_en : w.ctlStore page v = w.enWrite page (decide (HDR.PGCTL_EN.get v = 1)) := by
  simp [Work.ctlStore, srst, lock]

end

theorem pageEnable_reached {w : Work} {p : Party} {page : Nat} (hr : w.reachable page = true) (hp : w.present p = true)
    (role : 2 ≤ w.roleOf p) (gated : capBit (kindOf page) 4 = true) (closed : w.enabled page = false) (still : page ∉ w.x.pages.closing) :
    pageEnable p page w = w.enablePage page := by
  refine (pgctlWrite_reached hr hp (ctlRefusal_open (by decide) (by decide) (by decide) role)).trans ?_
  rw [ctlStore_en (by decide) (by decide)]
  show w.enWrite page true = _
  simp [Work.enWrite, gated, closed, still]

/-- A gate that has begun to close (R584). -/
def gateClosing (w : Work) (page : Nat) : Work :=
  (w.put (HDR.PGCTL page) HDR.PGCTL_EN 0).upd fun x => { x with pages := { x.pages with closing := x.pages.closing ++ [page] } }

theorem gateClose_reached {w : Work} {p : Party} {page : Nat} (hr : w.reachable page = true) (hp : w.present p = true)
    (role : 2 ≤ w.roleOf p) (gated : capBit (kindOf page) 4 = true) (isOpen : w.enabled page = true) (ready : w.x.mode ≠ .ready)
    (run : w.x.mode ≠ .run) (hold : w.x.mode ≠ .hold) : gateClose p page w = gateClosing w page := by
  refine (pgctlWrite_reached hr hp (ctlRefusal_close (by decide) (by decide) (by decide) role ready run hold)).trans ?_
  rw [ctlStore_en (by decide) (by decide)]
  show w.enWrite page false = _
  simp [Work.enWrite, Work.closeGate, gateClosing, gated, isOpen]

/-! Soft resets -/

/-- The words of a header that a soft reset returns to their values (R48). -/
def resetWords (page : Nat) : List Nat := [HDR.IRQSTAT page, HDR.IRQEN page, HDR.OPSTAT page, HDR.PGSTAT page, HDR.PGKEY page]

/-- A soft reset of a header clears its interrupt words and OPSTAT and ends the unlock; EN and PGHEALTH stay (R48, R66). -/
structure HeaderReset (page : Nat) (u w : Work) : Prop where
  irqstat : w.rd (HDR.IRQSTAT page) = 0
  irqen : w.rd (HDR.IRQEN page) = 0
  opstat : w.rd (HDR.OPSTAT page) = 0
  keeps : Keeps (fun a => a ∈ resetWords page) u w
  unlocks : ∀ l ∈ w.x.pages.unlocks, l.page ≠ page
  task : w.x.task = u.x.task

theorem headerReset (w : Work) (page : Nat) : HeaderReset page w (w.resetHeaderFields page) := by
  unfold Work.resetHeaderFields
  dsimp only
  have locked (u : Work) {off : Nat} (h : off ≠ 0x28) : (u.lock page).rd (pg page + off) = u.rd (pg page + off) :=
    keeps_lock u page _ (by simpa [hdr_regs] using h)
  refine ⟨?_, ?_, ?_, ?_, unlocks_lock _ page, task_lock _ page⟩
  · simp [hdr_regs, locked]
  · simp [hdr_regs, locked]
  · simp [hdr_regs, locked]
  · refine Keeps.trans ?_ ((keeps_lock _ page).mono fun a ha => by simp [resetWords, ha])
    refine Keeps.wr (Keeps.wr (Keeps.wr (Keeps.wr ((Keeps.refl _ w).upd _) ?_ _) ?_ _) ?_ _) ?_ _ <;> simp [resetWords]

/-- A header word lies outside the words of a page's block. -/
theorem inPage_hdr {page off : Nat} (hw : isWindow page = false) (ho : off < 0x40) : inPage page (pg page + off) = false := by
  unfold inPage
  rw [hdr_page (by omega), hdr_off (by omega), hw]
  simp
  omega

theorem inPage_of_mem_pageWords {w : Work} {c : ImageContent} {page a : Nat} (h : a ∈ w.pageWords c page) : inPage page a = true := by
  unfold Work.pageWords at h
  rw [List.mem_eraseDups] at h
  exact (List.mem_filter.1 h).2

/-- A page whose gate opens, before its block starts (R37): EN, a soft reset, READY, the image's keys. -/
def freshPage (w : Work) (page : Nat) : Work :=
  (((w.put (HDR.PGCTL page) HDR.PGCTL_EN 1).softResetPage page).put (HDR.PGSTAT page) HDR.PGSTAT_READY 1).loadKeys
    ((w.put (HDR.PGCTL page) HDR.PGCTL_EN 1).softResetPage page).liveContent page

theorem enablePage_closed {w : Work} {page : Nat} (h : w.enabled page = false) : w.enablePage page = (freshPage w page).blockStart w page :=
  if_neg (ne_true_of_eq_false h)

section
variable {page : Nat} (net : page = 0x01C ∨ page = 0x01D) (w : Work)
include net

theorem kindOf_net : kindOf page = .net := by rcases net with rfl | rfl <;> rfl

/-- The network pages' own registers lie in their blocks (R544 to R546). -/
theorem inPage_net : inPage page (NET.CNT2 (page - 0x01C)) = true ∧ inPage page (NET.SESS (page - 0x01C)) = true
    ∧ inPage page (NET.LINK (page - 0x01C)) = true := by rcases net with rfl | rfl <;> decide

/-- A soft reset of a network page's block touches the block's registers alone. -/
theorem resetFields_net : RegsOnly (fun a => inPage page a = true) w (w.resetFields page) := by
  obtain ⟨cnt2, sess, -⟩ := inPage_net net
  simp only [Work.resetFields, Work.blockReset, kindOf_net net]
  refine RegsOnly.wr (RegsOnly.put (regsOnly_each (fun u a ha => ?_) w) cnt2 _ _) sess _
  split
  · exact .refl u
  · exact (RegsOnly.refl u).wr (inPage_of_mem_pageWords ha) _

theorem blockStart_net (old : Work) : RegsOnly (fun a => inPage page a = true) w (w.blockStart old page) := by
  obtain ⟨-, -, link⟩ := inPage_net net
  simp only [Work.blockStart, kindOf_net net]
  exact (RegsOnly.refl w).wr link _

/-- What changes the block's registers alone leaves the header's words. -/
theorem hdr_of_net {u v : Work} (h : RegsOnly (fun a => inPage page a = true) u v) {off : Nat} (ho : off < 0x40) :
    v.rd (pg page + off) = u.rd (pg page + off) := by
  have window : isWindow page = false := by unfold isWindow; rw [kindOf_net net]
  exact h.keeps _ (by simp [inPage_hdr window ho])

/-- Beside READY the header of a network page that opens is as its soft reset leaves it. -/
theorem freshPage_net {off : Nat} (ho : off < 0x40) (hs : off ≠ 0x10) : (freshPage w page).rd (pg page + off)
    = ((w.put (HDR.PGCTL page) HDR.PGCTL_EN 1).resetHeaderFields page).rd (pg page + off) :=
  (rd_put_ne _ _ _ _ _ (by simpa [hdr_regs] using Ne.symm hs)).trans (hdr_of_net net (resetFields_net net _) ho)

/-- A network page opens with a fresh header (R37). -/
theorem enablePage_net (closed : w.enabled page = false) : (w.enablePage page).get (HDR.PGCTL page) HDR.PGCTL_EN = 1
    ∧ (w.enablePage page).get (HDR.PGSTAT page) HDR.PGSTAT_READY = 1 ∧ (w.enablePage page).rd (HDR.IRQEN page) = 0
    ∧ (w.enablePage page).rd (HDR.OPSTAT page) = 0 ∧ (w.enablePage page).x.task = w.x.task := by
  rw [enablePage_closed closed]
  have start := blockStart_net net (freshPage w page) w
  have reset := headerReset (w.put (HDR.PGCTL page) HDR.PGCTL_EN 1) page
  have header {off : Nat} (ho : off < 0x40) (hs : off ≠ 0x10) := (hdr_of_net net start ho).trans (freshPage_net net w ho hs)
  have pgctl : ((freshPage w page).blockStart w page).rd (HDR.PGCTL page) = (w.put (HDR.PGCTL page) HDR.PGCTL_EN 1).rd (HDR.PGCTL page) :=
    (header (by decide) (by decide)).trans (reset.keeps _ (by simp [resetWords, hdr_regs]))
  have pgstat : ((freshPage w page).blockStart w page).rd (HDR.PGSTAT page) = (freshPage w page).rd (HDR.PGSTAT page) :=
    hdr_of_net net start (by decide)
  refine ⟨?_, ?_, (header (by decide) (by decide)).trans reset.irqen, (header (by decide) (by decide)).trans reset.opstat, ?_⟩
  · unfold Work.get
    rw [pgctl]
    exact get_put_same _ _ _ _ (by decide)
  · unfold Work.get
    rw [pgstat]
    exact get_put_same _ _ _ _ (by decide)
  · rw [start.x]
    exact (congrArg Inner.task (resetFields_net net _).x).trans reset.task

end

section
variable {page : Nat}

theorem resetWords_in_page {a : Nat} (h : a ∈ resetWords page) : a / 4096 = page := by
  simp only [resetWords, hdr_regs, List.mem_cons, List.not_mem_nil, or_false] at h
  rcases h with rfl | rfl | rfl | rfl | rfl <;> exact hdr_page (by decide)

theorem softReset_reached {w : Work} {p : Party} (hr : w.reachable page = true) (hp : w.present p = true) (role : 2 ≤ w.roleOf p)
    (idle : w.opBusy page = false) (unused : w.inUse page = false) (resets : capBit (kindOf page) 3 = true) (isOn : w.enabled page = true) :
    softReset p page w = w.softResetPage page := by
  obtain ⟨en, srst, lock, -⟩ := enBit_bits w page
  refine (pgctlWrite_reached hr hp (ctlRefusal_softReset en lock role idle unused)).trans ?_
  rw [ctlStore_enKept en, srst, lock]
  simp [Work.srstWrite, resets, isOn]

/-- A soft reset of the PAIR or TIME page touches, beside the header, one register of the block (R48, R452, R499). -/
theorem softResetPage_few (few : page = 0x00E ∨ page = 0x015) (w : Work) :
    RegsOnly (fun a => a / 4096 = page ∧ 0x40 ≤ a % 4096) (w.resetHeaderFields page) (w.softResetPage page)
      ∧ (page = 0x015 → (w.softResetPage page).rd TIME.CNT = 0)
      ∧ (page = 0x00E → (w.softResetPage page).get PAIR.MIRST PAIR.MIRST_DMAX = 0) := by
  rcases few with rfl | rfl
  · have effect : w.softResetPage 0x00E = (w.resetHeaderFields 0x00E).put PAIR.MIRST PAIR.MIRST_DMAX 0 := rfl
    rw [effect]
    exact ⟨(RegsOnly.refl _).put (by decide) _ _, fun h => absurd h (by decide), fun _ => get_put_same _ _ _ _ (by decide)⟩
  · have effect : w.softResetPage 0x015 = (w.resetHeaderFields 0x015).wr TIME.CNT 0 := rfl
    rw [effect]
    exact ⟨(RegsOnly.refl _).wr (by decide) _, fun _ => by rw [rd_wr, if_pos rfl], fun h => absurd h (by decide)⟩

end

/-! The end of a closure -/

/-- A gate that has closed, its port idle or isolated (R584). -/
def gateClosed (w : Work) (page : Nat) (forced : Bool) : Work :=
  ((w.upd fun x => { x with pages := { x.pages with
      closing := x.pages.closing.filter fun q => decide (q ≠ page)
      reopen := x.pages.reopen.filter fun q => decide (q ≠ page) } }).put (HDR.PGSTAT page) HDR.PGSTAT_READY 0).when forced fun u =>
    u.put (HDR.PGSTAT page) HDR.PGSTAT_GATE_FORCED 1

section
variable (w : Work) (page : Nat) (forced : Bool)

theorem keeps_gateClosed : Keeps (fun a => a = HDR.PGSTAT page) w (gateClosed w page forced) :=
  Keeps.when (((Keeps.refl (fun a => a = HDR.PGSTAT page) w).upd _).put (a := HDR.PGSTAT page) rfl _ _) forced fun u =>
    (Keeps.refl (fun a => a = HDR.PGSTAT page) u).put (a := HDR.PGSTAT page) rfl _ _

theorem x_gateClosed : (gateClosed w page forced).x = { w.x with pages := { w.x.pages with
    closing := w.x.pages.closing.filter fun q => decide (q ≠ page), reopen := w.x.pages.reopen.filter fun q => decide (q ≠ page) } } := by
  cases forced <;> rfl

theorem get_gateClosed : (gateClosed w page forced).get (HDR.PGSTAT page) HDR.PGSTAT_READY = 0
    ∧ (forced = true → (gateClosed w page forced).get (HDR.PGSTAT page) HDR.PGSTAT_GATE_FORCED = 1) := by
  unfold gateClosed
  constructor
  · rw [get_when, get_put_other _ _ _ _ _ (by decide) (by decide), ite_self, get_put_same _ _ _ _ (by decide), Nat.zero_mod]
  · intro isForced
    rw [get_when, if_pos isForced, get_put_same _ _ _ _ (by decide)]
    decide

/-- With no operation BUSY and no reopening asked for, a closing gate closes and does no more. -/
theorem gateShut_idle {w : Work} {page : Nat} (closing : page ∈ w.x.pages.closing) (final : page ∉ w.x.pages.reopen)
    (idle : w.opBusy page = false) : w.gateShut page forced = gateClosed w page forced := by
  have stillIdle : (gateClosed w page forced).opBusy page = false := by
    unfold Work.opBusy at idle ⊢
    rw [(keeps_gateClosed w page forced).get (opstat_ne_pgstat page).symm]
    exact idle
  have quits : (gateClosed w page forced).opStop page opFailed 0x03 = gateClosed w page forced := if_pos stillIdle
  have isClosing : ¬ w.x.pages.closing.contains page = false := by simp [closing]
  have stays : ¬ w.x.pages.reopen.contains page = true := by simp [final]
  refine (if_neg isClosing).trans ((if_neg stays).trans quits)

end

/-- Settles O7, by what each row of PGCTL and the end of a closure leave; the next state shows it. -/
theorem gatesAndSoftResets : Obligations.GatesAndSoftResets := by
  intro s p page hq
  have pgctl : ¬ Follows (HDR.PGCTL page) := hdr_not_follows (by decide) (by decide) (by decide)
  have pgstat : ¬ Follows (HDR.PGSTAT page) := hdr_not_follows (by decide) (by decide) (by decide)
  have irqen : ¬ Follows (HDR.IRQEN page) := hdr_not_follows (by decide) (by decide) (by decide)
  have opstat : ¬ Follows (HDR.OPSTAT page) := hdr_not_follows (by decide) (by decide) (by decide)
  refine ⟨fun net ⟨hr, hp⟩ role shut still => ?pageEnable, fun gated ⟨hr, hp⟩ role isOpen ready run hold => ?gateClose,
    fun closing final _ _ idle => ⟨?portIdle, fun e _ seq session port isNew => ?isolated⟩,
    fun which ⟨hr, hp⟩ role idle unused isOn => ?softReset⟩
  case pageEnable =>
    have closed : (begin s).enabled page = false := decide_eq_false fun h => h shut
    have effect : pageEnable p page (begin s) = (begin s).enablePage page :=
      pageEnable_reached hr hp role (by rw [kindOf_net net]; rfl) closed still
    obtain ⟨en, ready, enabled, idle, task⟩ := enablePage_net net (begin s) closed
    refine runs_settled rfl (by rw [effect, task]; exact hq) fun t ht => ?_
    rw [effect] at ht
    exact ⟨(ht.get pgctl _).trans en, (ht.get pgstat _).trans ready, (ht.rd _ irqen).trans enabled, (ht.rd _ opstat).trans idle⟩
  case gateClose =>
    have effect : gateClose p page (begin s) = gateClosing (begin s) page :=
      gateClose_reached hr hp role gated (decide_eq_true isOpen) ready run hold
    refine runs_settled rfl (by rw [effect]; exact hq) fun t ht => ?_
    rw [effect] at ht
    refine ⟨(ht.get pgctl _).trans (get_put_same _ _ _ _ (by decide)), ?_, ht.same (keeps_put (P := fun a => a = HDR.PGCTL page) _ _ _ _ rfl)⟩
    rw [ht.pages]
    simp [gateClosing]
  case portIdle =>
    have effect : gateCloseComplete page none (begin s) = gateClosed (begin s) page false := gateShut_idle false closing final idle
    refine runs_settled rfl (by rw [effect, x_gateClosed]; exact hq) fun t ht => ?_
    rw [effect] at ht
    refine ⟨?_, (ht.get pgstat _).trans (get_gateClosed _ _ _).1, ht.same (keeps_gateClosed _ _ _)⟩
    rw [ht.pages, x_gateClosed]
    simp
  case isolated =>
    have answered : (begin s).portError (.host e.id seq) = (begin s).answer e.id seq stBus [] :=
      request_new (e := e) ⟨session, port, isNew⟩ fun w => w.answer e.id seq stBus []
    have effect : gateCloseComplete page (some (.host e.id seq)) (begin s) = gateClosed ((begin s).answer e.id seq stBus []) page true := by
      rw [← answered]
      refine (if_pos (by simpa using closing)).trans (gateShut_idle true ?_ ?_ ?_) <;> rw [answered]
      · exact closing
      · exact final
      · exact idle
    refine runs_settled rfl (by rw [effect, x_gateClosed]; exact hq) fun t ht => ?_
    rw [effect] at ht
    have keeps : Keeps (fun a => a = HDR.PGSTAT page) (begin s) _ := keeps_gateClosed ((begin s).answer e.id seq stBus []) page true
    refine ⟨?_, (ht.get pgstat _).trans (get_gateClosed _ _ _).1, (ht.get pgstat _).trans ((get_gateClosed _ _ _).2 rfl), ?_, ht.same keeps⟩
    · rw [ht.pages, x_gateClosed]
      simp
    · rw [ht.out, x_gateClosed]
      simp
  case softReset =>
    have settled {a : Nat} (h : a / 4096 = page) : ¬ Follows a := not_follows (by omega)
    have resets : capBit (kindOf page) 3 = true := by rcases which with rfl | rfl <;> rfl
    have effect : softReset p page (begin s) = (begin s).softResetPage page :=
      softReset_reached hr hp role idle unused resets (decide_eq_true isOn)
    have header := headerReset (begin s) page
    obtain ⟨block, cnt, dmax⟩ := softResetPage_few which (begin s)
    have part := block.x
    refine runs_settled rfl (by rw [effect, part, header.task]; exact hq) fun t ht => ?_
    rw [effect] at ht
    have word {off : Nat} (ho : off < 0x40) : t.rd (pg page + off) = ((begin s).resetHeaderFields page).rd (pg page + off) :=
      (ht.rd _ (settled (hdr_page (by omega)))).trans (block.keeps _ (by rw [hdr_off (by omega)]; omega))
    refine ⟨(word (by decide)).trans header.irqen, (word (by decide)).trans header.irqstat, (word (by decide)).trans header.opstat,
      (word (by decide)).trans (header.keeps _ (by simp [resetWords, hdr_regs])), ?_, fun h => ?_, fun h => ?_, ht.same ?_⟩
    · rw [ht.pages, part]
      exact header.unlocks
    · exact (ht.rd _ (settled (by rw [h]; rfl))).trans (cnt h)
    · exact (ht.get (settled (by rw [h]; rfl)) _).trans (dmax h)
    · exact (header.keeps.mono fun _ => resetWords_in_page).trans (block.keeps.mono fun _ h => h.1)

end Sys2Proof.Proofs
end

section
/-! PROOF. The machine right after reset (R36, R47, R66, R73, R105, R601), and a page whose gate is closed (R36). -/

namespace Sys2Proof.Proofs

open Sys2Proof.Machine Sys2Proof.Laws

/-! Right after reset -/

/-- After reset every word of a header reads its reset word: the five registers that differ lie in blocks. -/
theorem rd_reset_hdr {page off : Nat} (h : off < 0x40) : State.reset.rd (pg page + off) = resetWord (pg page + off) := by
  simp only [State.rd, State.reset, regsGet]
  rw [if_neg, if_neg, if_neg, if_neg, if_neg] <;> unfold pg <;> omega

/-- A mapped page's header word, right after reset. -/
theorem resetWord_hdr {page off : Nat} (mapped : kindOf page ≠ .unmapped) (window : isWindow page = false) (ho : off < 0x40) (h4 : off % 4 = 0) :
    resetWord (pg page + off) = BitVec.ofNat 32 (resetHeader page off) := by
  have aligned : (pg page + off) % 4 = 0 := by unfold pg; omega
  unfold resetWord
  rw [if_pos aligned, hdr_page (by omega), hdr_off (by omega), if_pos ⟨window, ho⟩]
  split
  · exact absurd ‹_› mapped
  · rfl

section
variable {page : Nat} (mapped : kindOf page ≠ .unmapped) (window : isWindow page = false)
include mapped window

/-- After reset a gate is closed, and a page without one enabled (R36, R47). -/
theorem get_reset_en : State.reset.get (HDR.PGCTL page) HDR.PGCTL_EN = if capBit (kindOf page) 4 then 0 else 1 := by
  have word : State.reset.rd (HDR.PGCTL page) = BitVec.ofNat 32 (resetHeader page 0x0c) :=
    (rd_reset_hdr (by decide)).trans (resetWord_hdr mapped window (by decide) (by decide))
  unfold State.get
  rw [word]
  cases gated : capBit (kindOf page) 4 <;> simp [resetHeader, gated] <;> decide

/-- After reset a page's health and its operation's state read 0 (R55, R66). -/
theorem rd_reset_quiet : State.reset.rd (HDR.PGHEALTH page) = 0 ∧ State.reset.rd (HDR.OPSTAT page) = 0 :=
  ⟨(rd_reset_hdr (by decide)).trans (resetWord_hdr mapped window (by decide) (by decide)),
    (rd_reset_hdr (by decide)).trans (resetWord_hdr mapped window (by decide) (by decide))⟩

end

/-- Settles O57: what stands beside the registers and the few listed registers by evaluation, the headers of all pages by their reset
words. -/
theorem theMachineAfterReset : Obligations.TheMachineAfterReset := by
  refine ⟨rfl, rfl, by decide, by decide, fun page _ mapped window => ⟨get_reset_en mapped window, rd_reset_quiet mapped window⟩,
    ⟨by decide, rfl⟩, fun n _ on => ?_⟩
  have off : ((begin State.reset).sout n).on = false := rfl
  exact absurd (off.symm.trans on) (by decide)

/-! A closed gate -/

theorem isWindow_iff (page : Nat) : isWindow page = true ↔ kindOf page = .ram ∨ kindOf page = .pt ∨ kindOf page = .evw := by
  unfold isWindow
  cases kindOf page <;> simp

/-- A gated page is mapped, and no window. -/
theorem mapped_of_gated {page : Nat} (h : capBit (kindOf page) 4 = true) : kindOf page ≠ .unmapped ∧ isWindow page = false := by
  have gated {k : Kind} (hk : capBit k 4 = false) : kindOf page ≠ k := fun e => by rw [e, hk] at h; exact absurd h (by decide)
  refine ⟨gated (by decide), eq_false_of_ne_true fun window => ?_⟩
  rcases (isWindow_iff page).1 window with k | k | k
  · exact gated (by decide) k
  · exact gated (by decide) k
  · exact gated (by decide) k

theorem ctlPage_of_not_window {page : Nat} (h : isWindow page = false) : ctlPage page = page := by
  have noWindow := mt (isWindow_iff page).2 (ne_true_of_eq_false h)
  unfold ctlPage
  split
  · exact absurd (.inl ‹_›) noWindow
  · exact absurd (.inr (.inl ‹_›)) noWindow
  · exact absurd (.inr (.inr ‹_›)) noWindow
  · rfl

/-- While its controlling page's gate is closed, a block's word or a window's is answered with a bus error (R36). -/
theorem busError_closed {w : Work} {a : Nat} (h : w.enabled (ctlPage (a / 4096)) = false)
    (block : isWindow (a / 4096) = true ∨ 0x40 ≤ a % 4096) : w.busError a = true := by
  simp [Work.busError, Work.usable, h, block]

/-- Settles O59: after reset by the header's reset word; later by the bus error that a closed gate answers, and the accesses of a header's
word, which it does not concern. -/
theorem closedGatesAnswerBusErrors : Obligations.ClosedGatesAnswerBusErrors := by
  intro page _ gated
  obtain ⟨mapped, window⟩ := mapped_of_gated gated
  refine ⟨(get_reset_en mapped window).trans (if_pos gated), fun s id seq a e v hq live shut session port isNew ha =>
    ⟨fun block => ?_, fun notWindow low h4 => ?_⟩⟩
  · have closed : (begin s).busError a = true := busError_closed (by rw [ha]; exact decide_eq_false fun h => h shut) (by rw [ha]; exact block)
    obtain ⟨reads, writes⟩ := runs_busError hq ⟨session, port, isNew⟩ v closed
    exact ⟨reads, writes, runs_still rfl hq (regWrite_busError closed) fun t ht => ⟨ht.rd, ht.mode, ht.pages⟩⟩
  · rw [ctlPage_of_not_window notWindow] at mapped
    have alive : (begin s).alive = true := by simp [Work.alive, live.1, live.2]
    have reach : (begin s).reachable page = true := (reachable_iff _ _).2 ⟨alive, mapped, notWindow⟩
    have place : a = pg page + a % 4096 := by unfold pg; omega
    have answers : (begin s).busError a = false := by rw [place]; exact busError_hdr reach (by omega) (by omega)
    obtain ⟨t, ht, out, -⟩ := runs_read hq ⟨session, port, isNew⟩ answers
    exact ⟨⟨t, ht, _, out⟩, runs_write_irqen hq ⟨session, port, isNew⟩ v reach⟩

end Sys2Proof.Proofs
end

section
/-! PROOF. Commands that name a loop channel the module does not have (R33, log entry 132). -/

namespace Sys2Proof.Proofs

open Sys2Proof.Machine Sys2Proof.Laws

/-- A command of an absent loop channel has no effect, whatever its effect on a present one. -/
theorem runs_absent {i : Instr} {s : State} {n : Nat} {f : Work → Work} (hq : Quiet s) (hn : 48 ≤ n)
    (he : exec i s = runIf (decide (n < 48)) s f) :
    Runs i s fun t => Same Follows s t ∧ t.x.loops = s.x.loops ∧ t.x.mode = s.x.mode :=
  runs_still he hq (if_neg (by simpa using hn)) fun _ ht => ⟨ht.rd, ht.loops, ht.mode⟩

/-- Settles O17: each of the commands runs only if its channel is one of the 48. -/
theorem absentChannelsChangeNothing : Obligations.AbsentChannelsChangeNothing := by
  intro s n hq hn
  simp only [List.forall_mem_cons, List.not_mem_nil, false_imp_iff, implies_true, and_true]
  and_intros <;> exact runs_absent hq hn rfl

end Sys2Proof.Proofs
end

section
/-! PROOF. Announcements that neither a health reason nor an episode hears: records, changes of a state field, Slate's requests and all that
follows at the end of a command. -/

namespace Sys2Proof.Proofs

open Sys2Proof.Machine Sys2Proof.Laws

/-- From `u` to `w` something was announced, and the health lists and the running episodes are what they were. -/
structure Hush (u w : Work) : Prop where
  noise : Noise u.x w.x
  health : w.x.health = u.x.health
  episodes : w.x.evt.episodes = u.x.evt.episodes

/-- A waiting event changes the recorder's arrivals and its loss count alone. -/
theorem episodes_arrive (w : Work) (e : Event) : (w.arrive e).x.evt.episodes = w.x.evt.episodes := by
  unfold Work.arrive
  split
  · rfl
  · split <;> rfl

namespace Hush
variable {u v w : Work}

theorem of_x (h : w.x = u.x) : Hush u w := ⟨h ▸ .refl _, by rw [h], by rw [h]⟩
theorem refl (w : Work) : Hush w w := of_x rfl
theorem trans (h : Hush u v) (k : Hush v w) : Hush u w :=
  ⟨h.noise.trans k.noise, k.health.trans h.health, k.episodes.trans h.episodes⟩
theorem ite (h : Hush u v) (k : Hush u w) {c : Prop} {_ : Decidable c} : Hush u (if c then v else w) := by
  split <;> assumption

theorem wr (h : Hush u w) (a : Nat) (n : Word) : Hush u (w.wr a n) := h.trans (of_x rfl)
theorem put (h : Hush u w) (a : Nat) (f : Fld) (n : Nat) : Hush u (w.put a f n) := h.trans (of_x rfl)
theorem irq (h : Hush u w) (page bit : Nat) : Hush u (w.irq page bit) := h.trans (of_x rfl)

theorem emit (h : Hush u w) (page num sub : Nat) (data : List Nat) : Hush u (w.emit page num sub data) :=
  h.trans ⟨noise_emit .., by rw [x_emit], episodes_arrive _ _⟩

theorem setState (h : Hush u w) (page sub a : Nat) (f : Fld) (n : Nat) : Hush u (w.setState page sub a f n) := by
  unfold Work.setState
  exact h.ite ((h.put _ _ _).emit _ _ _ _)

theorem setFlag (h : Hush u w) (page sub a : Nat) (f : Fld) (l : Bool) : Hush u (w.setFlag page sub a f l) := by
  unfold Work.setFlag
  exact h.ite ((h.put _ _ _).emit _ _ _ _)

theorem slateRequest (h : Hush u w) (r : Nat) : Hush u (w.slateRequest r) := by
  refine h.trans ⟨noise_slateRequest w r, ?_, ?_⟩ <;> · unfold Work.slateRequest; dsimp only; split_ifs <;> rfl

theorem drSwap (h : Hush u w) : Hush u w.drSwap := by
  refine h.trans ⟨(drSwap_spec w).1, ?_, ?_⟩ <;> · unfold Work.drSwap; split <;> rfl

theorem procShow (h : Hush u w) : Hush u w.procShow := by
  unfold Work.procShow
  extract_lets a v0 v1 v2 v3 v4 stat service n
  have statH : Hush u stat := h.ite (h.wr _ _)
  have serviceH : Hush u service := statH.setState _ _ _ _ _
  exact (serviceH.ite (serviceH.put _ _ _)).trans (of_x (x_recnextShow _))

/-! What follows at the end of a command -/

theorem syncMode (h : Hush u w) (s : State) : Hush u (w.syncMode s) := by
  unfold Work.syncMode
  extract_lets shown
  have shownH : Hush u shown := h.ite h.procShow
  exact shownH.ite (shownH.slateRequest _)

theorem syncHealth (h : Hush u w) : Hush u w.syncHealth := by
  unfold Work.syncHealth
  extract_lets a old worst put told
  have putH : Hush u put := (h.put _ _ _).put _ _ _
  have toldH : Hush u told := (putH.irq _ _).slateRequest _
  exact h.ite (putH.ite (toldH.drSwap.ite toldH))

/-- What follows at the end of a command leaves the health lists and the running episodes. -/
theorem settle (s : State) (h : w.x.task.hdr = []) : Hush w (w.settle s) := by
  have drained : w.drainHdr = w := by unfold Work.drainHdr; dsimp only; rw [if_pos h]
  unfold Work.settle
  rw [drained]
  exact (((refl w).syncMode s).trans (of_x (vlFollow_spec _).1)).syncHealth

end Hush

end Sys2Proof.Proofs
end
section
/-! PROOF. The recorder at work: the episodes, and the registers of its own page alone. -/

namespace Sys2Proof.Proofs

open Sys2Proof.Machine Sys2Proof.Laws

/-- From `u` to `w` the recorder alone has been at work. -/
structure Recorded (u w : Work) : Prop where
  regs : Keeps (fun a => a / 4096 = evtPage) u w
  rest : w.x = { u.x with evt := w.x.evt }

namespace Recorded
variable {u v w : Work}

theorem refl (w : Work) : Recorded w w := ⟨Keeps.refl _ _, rfl⟩
theorem trans (h : Recorded u v) (k : Recorded v w) : Recorded u w := ⟨h.regs.trans k.regs, by rw [k.rest, h.rest]⟩
theorem ite (h : Recorded u v) (k : Recorded u w) {c : Prop} {_ : Decidable c} : Recorded u (if c then v else w) := by
  split <;> assumption

theorem put (h : Recorded u w) {a : Nat} (ha : a / 4096 = evtPage) (g : Fld) (n : Nat) : Recorded u (w.put a g n) :=
  h.trans ⟨keeps_put _ _ _ _ ha, rfl⟩
theorem irq (h : Recorded u w) (bit : Nat) : Recorded u (w.irq evtPage bit) := h.trans ⟨keeps_irq w evtPage bit (by decide), rfl⟩
theorem evtUpd (h : Recorded u w) (g : EvtSt → EvtSt) : Recorded u (w.evtUpd g) := h.trans ⟨(Keeps.refl _ w).upd _, rfl⟩
theorem emit (h : Recorded u w) (page num sub : Nat) (data : List Nat) : Recorded u (w.emit page num sub data) :=
  h.trans ⟨(keeps_emit w page num sub data).mono fun a ha => by rcases ha with rfl | rfl <;> decide, x_emit _ _ _ _ _⟩
theorem flagIrq (h : Recorded u w) {a : Nat} (ha : a / 4096 = evtPage) (g : Fld) (l : Bool) (bit : Nat) :
    Recorded u (w.flagIrq evtPage a g l bit) := by
  unfold Work.flagIrq Work.when
  exact .ite ((h.put ha _ _).irq _) (h.put ha _ _)

/-- An episode that opens is one that runs. -/
theorem openEpisode (w : Work) (kind : Nat) :
    Recorded w (w.openEpisode kind) ∧ kind ∈ (w.openEpisode kind).x.evt.episodes := by
  unfold Work.openEpisode
  extract_lets s emptied logged opened
  have loggedR : Recorded w logged :=
    .ite (.ite ((refl w).put (by decide) _ _) ((((refl w).evtUpd _).put (by decide) _ _).put (by decide) _ _ |>.flagIrq (by decide) _ _ _))
      (refl w)
  split
  case isTrue runs => exact ⟨refl w, by simpa [s] using runs.2⟩
  · refine ⟨((loggedR.evtUpd _).put (by decide) _ _).emit _ _ _ _, ?_⟩
    have last : kind ∈ opened.x.evt.episodes := List.mem_append_right _ (.head _)
    exact (episodes_arrive opened _).symm ▸ last

theorem closeEpisode (w : Work) (kind : Nat) (excl : Bool) : Recorded w (w.closeEpisode kind excl) := by
  unfold Work.closeEpisode
  extract_lets s said keep kept rest left
  have saidR : Recorded w said := (refl w).emit _ _ _ _
  have keptR : Recorded w kept := .ite (saidR.flagIrq (by decide) _ _ _) saidR
  exact .ite ((keptR.evtUpd _).put (by decide) _ _) (refl w)

end Recorded

end Sys2Proof.Proofs
end

section
/-! PROOF. Proctor at work beside one Form: places, passes, receivers, splits and the Standby's state may change; that Form's place, the count
of vote-outs, the BIST's memory, the health lists and a closed checkpoint do not. -/

namespace Sys2Proof.Proofs

open Sys2Proof.Machine Sys2Proof.Laws

/-- The registers that Proctor may change beside Form `f`: all but CNT1 and the Form's FSTAT. Beside no Form (`4 ≤ f`) every FSTAT may change. -/
def BesideRegs (f a : Nat) : Prop := a ≠ PROCTOR.CNT1 ∧ (f < 4 → a ≠ FORM.FSTAT f)

theorem besideRegs {f a : Nat} (h : a ≠ 0xc04c) (k : a % 0x1000 ≠ 0x40 ∨ a < 0x8000 ∨ 0xc000 ≤ a) : BesideRegs f a := by
  unfold BesideRegs PROCTOR.CNT1 FORM.FSTAT
  omega

theorem besideRegs_fstat {f g : Nat} (h : f < 4 → g ≠ f) : BesideRegs f (FORM.FSTAT g) := by
  unfold BesideRegs PROCTOR.CNT1 FORM.FSTAT
  omega

/-- A header's words lie below every block's. -/
theorem besideRegs_hdr {f page off : Nat} (h : off < 0x40) : BesideRegs f (pg page + off) :=
  besideRegs (by unfold pg; omega) (by unfold pg; omega)

/-- From `u` to `w` Proctor has been at work beside Form `f`. -/
structure Beside (f : Nat) (u w : Work) : Prop where
  regs : Keeps (BesideRegs f) u w
  bist : w.x.bist = u.x.bist
  health : w.x.health = u.x.health
  task : w.x.task = u.x.task
  shut : u.x.proc.isOpen = false → w.x.proc.isOpen = false

namespace Beside
variable {f : Nat} {u v w : Work}

theorem refl (f : Nat) (w : Work) : Beside f w w := ⟨Keeps.refl _ _, rfl, rfl, rfl, id⟩
theorem trans (h : Beside f u v) (k : Beside f v w) : Beside f u w :=
  ⟨h.regs.trans k.regs, k.bist.trans h.bist, k.health.trans h.health, k.task.trans h.task, k.shut ∘ h.shut⟩
theorem ite (h : Beside f u v) (k : Beside f u w) {c : Prop} {_ : Decidable c} : Beside f u (if c then v else w) := by
  split <;> assumption

/-- The Form's place stays. -/
theorem place (h : Beside f u w) (hf : f < 4) : w.place f = u.place f := h.regs.get (fun k => k.2 hf rfl) _

/-! One change -/

theorem wr (h : Beside f u w) {a : Nat} (ha : BesideRegs f a) (n : Word) : Beside f u (w.wr a n) :=
  ⟨h.regs.wr ha n, h.bist, h.health, h.task, h.shut⟩
theorem put (h : Beside f u w) {a : Nat} (ha : BesideRegs f a) (g : Fld) (n : Nat) : Beside f u (w.put a g n) := h.wr ha _
theorem irq (h : Beside f u w) (page bit : Nat) : Beside f u (w.irq page bit) :=
  h.trans ⟨keeps_irq w page bit (besideRegs_hdr (by decide)), rfl, rfl, rfl, id⟩

theorem upd (h : Beside f u w) (g : Inner → Inner) (hb : (g w.x).bist = w.x.bist) (hh : (g w.x).health = w.x.health)
    (ht : (g w.x).task = w.x.task) (hs : w.x.proc.isOpen = false → (g w.x).proc.isOpen = false) : Beside f u (w.upd g) :=
  ⟨h.regs.upd g, hb.trans h.bist, hh.trans h.health, ht.trans h.task, hs ∘ h.shut⟩
theorem procUpd (h : Beside f u w) (g : ProcSt → ProcSt) (hs : w.x.proc.isOpen = false → (g w.x.proc).isOpen = false) :
    Beside f u (w.procUpd g) := h.upd _ rfl rfl rfl hs
theorem pairUpd (h : Beside f u w) (g : PairSt → PairSt) : Beside f u (w.pairUpd g) := h.upd _ rfl rfl rfl id

/-- An announcement that no health list hears. -/
theorem hush (h : Beside f u v) (k : Hush v w) (hr : Keeps (BesideRegs f) v w) : Beside f u w := by
  refine ⟨h.regs.trans hr, ?_, k.health.trans h.health, ?_, fun hs => ?_⟩
  · rw [k.noise.eq, noisy_bist, h.bist]
  · rw [k.noise.eq, noisy_task, h.task]
  · rw [k.noise.eq, noisy_proc, h.shut hs]

theorem emit (h : Beside f u w) (page num sub : Nat) (data : List Nat) : Beside f u (w.emit page num sub data) :=
  h.hush ((Hush.refl w).emit ..) <| (keeps_emit w page num sub data).mono fun a ha => by
    rcases ha with rfl | rfl <;> exact besideRegs (by decide) (by decide)

theorem setState (h : Beside f u w) (page sub : Nat) {a : Nat} (ha : BesideRegs f a) (g : Fld) (n : Nat) :
    Beside f u (w.setState page sub a g n) := by
  unfold Work.setState
  exact h.ite ((h.put ha _ _).emit _ _ _ _)

theorem setFlag (h : Beside f u w) (page sub : Nat) {a : Nat} (ha : BesideRegs f a) (g : Fld) (l : Bool) :
    Beside f u (w.setFlag page sub a g l) := by
  unfold Work.setFlag
  exact h.ite ((h.put ha _ _).emit _ _ _ _)

theorem opEnd (h : Beside f u w) (page state reason : Nat) : Beside f u (w.opEnd page state reason) := by
  have hx := x_opEnd w page state reason
  refine h.trans ⟨(keeps_opEnd w page state reason).mono fun a ha => ?_, ?_, ?_, ?_, ?_⟩
  · rcases ha with rfl | rfl | rfl <;> exact besideRegs_hdr (by decide)
  case refine_5 => rw [hx]; split <;> exact id
  all_goals rw [hx]; split <;> rfl

theorem each {α : Type} (l : List α) {g : Work → α → Work} (hg : ∀ v, ∀ e ∈ l, Beside f u v → Beside f u (g v e)) (h : Beside f u w) :
    Beside f u (w.each l g) := List.foldlRecOn l g h fun v k e he => hg v e he k

/-! Places -/

theorem recnextShow (h : Beside f u w) : Beside f u w.recnextShow := by
  unfold Work.recnextShow
  exact h.ite (h.wr (besideRegs (by decide) (by decide)) _)

theorem procShow (h : Beside f u w) : Beside f u w.procShow :=
  h.hush (Hush.refl w).procShow fun a ha => (procShow_spec w).2 a <| by
    refine ⟨⟨?_, ?_⟩, ?_, ?_, ?_⟩ <;> · rintro rfl; exact ha (besideRegs (by decide) (by decide))

theorem setPlace (h : Beside f u w) {g p : Nat} (hg : f < 4 → g ≠ f) (hp : p ≠ plExcluded) : Beside f u (w.setPlace g p) := by
  unfold Work.setPlace
  extract_lets was placed marked told
  have placedB : Beside f u placed := (h.setState _ _ (besideRegs_fstat hg) _ _).irq _ _
  have markedB : Beside f u marked := .ite (placedB.put (besideRegs (by decide) (by decide)) _ _) placedB
  have toldB : told = marked := by simp [told, Work.when, hp]
  exact h.ite (toldB ▸ markedB.procShow)

theorem recorded (h : Beside f u v) (k : Recorded v w) : Beside f u w := by
  have kept : Beside f v w := by
    refine ⟨k.regs.mono fun a ha => ?_, ?_, ?_, ?_, ?_⟩
    · unfold evtPage at ha
      exact besideRegs (by omega) (by omega)
    case refine_5 => rw [k.rest]; exact id
    all_goals rw [k.rest]
  exact h.trans kept

theorem openEpisode (h : Beside f u w) (kind : Nat) : Beside f u (w.openEpisode kind) := h.recorded (Recorded.openEpisode w kind).1
theorem closeEpisode (h : Beside f u w) (kind : Nat) (excl : Bool) : Beside f u (w.closeEpisode kind excl) :=
  h.recorded (Recorded.closeEpisode w kind excl)

/-! Passes -/

theorem passSet (h : Beside f u w) (l : List Pass) : Beside f u (w.passSet l) := by
  unfold Work.passSet
  extract_lets old held boxes
  have heldB : Beside f u held := (h.procUpd _ id).put (besideRegs (by decide) (by decide)) _ _
  refine each _ (fun v r _ k => k.put (besideRegs ?_ ?_) _ _) heldB <;> unfold TRK.MBSTAT <;> omega

theorem claim (h : Beside f u w) (g r : Nat) : Beside f u (w.claim g r) := by
  unfold Work.claim
  extract_lets l
  refine h.ite ?_
  split
  · exact h.passSet _
  · exact h.ite (h.passSet _)

theorem revoke (h : Beside f u w) (g : Nat) : Beside f u (w.revoke g) := by
  unfold Work.revoke
  exact (h.put (besideRegs (by decide) (by decide)) _ _).passSet _

theorem copyFree (h : Beside f u w) : Beside f u w.copyFree := by
  unfold Work.copyFree
  exact (h.passSet _).ite h

/-! Rotations, receivers -/

theorem rotEnd (h : Beside f u w) (state reason : Nat) : Beside f u (w.rotEnd state reason) := by
  unfold Work.rotEnd
  split
  · exact h
  · have ended := (h.procUpd (fun s => { s with rot := none, lastRot := w.now }) id).irq proctorPage 21
    exact (Beside.ite (ended.opEnd _ _ _) ended).recnextShow

theorem rotAbandon (h : Beside f u w) (reason : Nat) : Beside f u (w.rotAbandon reason) := by
  unfold Work.rotAbandon
  split
  · exact h
  · exact ((h.put (besideRegs (by decide) (by decide)) _ _).emit _ _ _ _).rotEnd _ _

theorem outEnd (h : Beside f u w) (g : Nat) : Beside f u (w.outEnd g) := by
  unfold Work.outEnd
  exact ((h.procUpd _ id).closeEpisode _ _).ite h

theorem beginResync (h : Beside f u w) {g : Nat} (hg : f < 4 → g ≠ f) : Beside f u (w.beginResync g) := by
  unfold Work.beginResync
  split
  · exact h
  · extract_lets tested received
    have testedB : Beside f u tested := by
      unfold tested
      split
      · exact (h.rotEnd _ _).ite h
      · exact h
    have receivedB : Beside f u received :=
      (testedB.procUpd _ id).put (besideRegs (by unfold FORM.RESYNC; omega) (by unfold FORM.RESYNC; omega)) _ _
    exact ((receivedB.setPlace hg (by decide)).outEnd _).claim _ _

theorem resyncLose (h : Beside f u w) (g : Nat) : Beside f u (w.resyncLose g) := by
  unfold Work.resyncLose
  exact (h.procUpd _ id).copyFree

/-- A Form in RECESS_TEST that is not to be asked stays there when a place is filled. -/
theorem refill (h : Beside f u w) {tests : List Nat} (ht : f < 4 → w.place f = plTest ∧ f ∉ tests) : Beside f u (w.refill tests) := by
  unfold Work.refill
  refine h.ite ?_
  split
  case h_1 g rest idle =>
    refine h.beginResync fun hf e => ?_
    have idleG : g ∈ w.formsIn plIdle := idle ▸ .head _
    rw [e, Work.formsIn, List.mem_filter, (ht hf).1] at idleG
    exact absurd idleG.2 (by decide)
  case h_2 g rest _ asked =>
    refine h.beginResync fun hf e => (ht hf).2 ?_
    have askedG : g ∈ tests.filter (w.formsIn plTest).contains := asked ▸ .head _
    exact e ▸ List.mem_of_mem_filter askedG
  · exact h

/-! Splits -/

/-- A split moves the voting Forms and those that join, none else. -/
theorem splitNow (h : Beside f u w) (ht : f < 4 → w.place f = plTest) : Beside f u w.splitNow := by
  unfold Work.splitNow
  extract_lets vs counted told shown rotated halted idle tested freed gone
  have countedB : Beside f w counted := ((refl f w).put (besideRegs (by decide) (by decide)) _ _).wr (besideRegs (by decide) (by decide)) _
  have toldB : Beside f w told := countedB.emit _ _ _ _
  have shownB : Beside f w shown := ((toldB.setFlag _ _ (besideRegs (by decide) (by decide)) _ _).irq _ _).openEpisode _
  have rotatedB : Beside f w rotated := by
    unfold rotated
    split
    · exact shownB.ite (shownB.rotAbandon _)
    · exact shownB
  have haltedB : Beside f w halted := rotatedB.procUpd _ fun _ => rfl
  have idleB : Beside f w idle := by
    refine each _ (fun v g hg k => k.setPlace (fun hf e => ?_) (by decide)) haltedB
    rw [e, Work.formsIn, List.mem_filter, haltedB.place hf, ht hf] at hg
    exact absurd hg.2 (by decide)
  have testedB : Beside f w tested := by
    refine each _ (fun v g hg k => (k.setPlace (fun hf e => ?_) (by decide)).revoke _) idleB
    rw [e] at hg
    have votes : f ∈ w.formsIn plVoting := hg
    rw [Work.formsIn, List.mem_filter, ht hf] at votes
    exact absurd votes.2 (by decide)
  have freedB : Beside f w freed := testedB.copyFree.upd _ rfl rfl rfl id
  have sentB : Beside f w (freed.send .relinquish) := freedB.upd _ rfl rfl rfl id
  exact h.trans (.ite ((sentB.pairUpd _).setState _ _ (besideRegs (by decide) (by decide)) _ _) freedB)

theorem splitIfFew (h : Beside f u w) (ht : f < 4 → w.place f = plTest) : Beside f u w.splitIfFew := by
  unfold Work.splitIfFew
  exact (h.splitNow ht).ite h

/-- A closed checkpoint is judged for a split alone. -/
theorem judgeMain (h : Beside f u w) (ht : f < 4 → w.place f = plTest) (hs : w.x.proc.isOpen = false) : Beside f u w.judgeMain := by
  have released : w.tryRelease = w := by unfold Work.tryRelease; rw [if_pos (.inl hs)]
  have closed : w.tryClose false = w := by unfold Work.tryClose; exact if_pos (.inl hs)
  unfold Work.judgeMain
  rw [released, closed]
  exact h.splitIfFew ht

/-! The Standby -/

theorem setReady (h : Beside f u w) (b : Bool) : Beside f u (w.setReady b) := by
  unfold Work.setReady
  exact h.ite ((h.setFlag _ _ (besideRegs (by decide) (by decide)) _ _).irq _ _)

theorem settleShow (h : Beside f u w) : Beside f u w.settleShow := by
  unfold Work.settleShow
  refine .ite ((h.pairUpd _).put (besideRegs (by decide) (by decide)) _ _) ?_
  exact .ite (h.pairUpd _) ((h.pairUpd _).put (besideRegs (by decide) (by decide)) _ _)

theorem stbyEval (h : Beside f u w) : Beside f u w.stbyEval := by
  unfold Work.stbyEval
  extract_lets unready all rdy ready shown want now stated
  have unreadyB : Beside f u unready := h.setReady _
  have shownB : Beside f u shown := (h.setReady _).put (besideRegs (by decide) (by decide)) _ _
  have statedB : Beside f u stated :=
    shownB.ite ((shownB.setState _ _ (besideRegs (by decide) (by decide)) _ _).pairUpd _)
  exact .ite (.ite (unreadyB.put (besideRegs (by decide) (by decide)) _ _) unreadyB) (h.ite statedB.settleShow)

/-- Beside no Form: the Standby's rotation moves any. -/
theorem standbyRotate (h : Beside 4 u w) : Beside 4 u w.standbyRotate := by
  have moved {v : Work} (k : Beside 4 u v) (g : Nat) {p : Nat} (hp : p ≠ plExcluded) : Beside 4 u (v.setPlace g p) :=
    k.setPlace (fun hf => absurd hf (by decide)) hp
  unfold Work.standbyRotate
  refine h.ite ?_
  split
  · exact h
  · extract_lets t stopped holding votes
    have votesB : Beside 4 u votes := moved (moved (h.procUpd _ id) _ (by decide)) _ (by decide)
    clear_value holding
    split
    · exact votesB.ite (moved votesB _ (by decide))
    · exact votesB

end Beside
end Sys2Proof.Proofs
end
section
/-! PROOF. An uncorrectable error of a Form's memory (R83, R408): its vote-out. -/

namespace Sys2Proof.Proofs

open Sys2Proof.Machine Sys2Proof.Laws

/-- What is beside Form `f` is beside no Form. -/
theorem Beside.none {f : Nat} {u w : Work} (h : Beside f u w) : Beside 4 u w :=
  ⟨h.regs.mono fun _ ha => ⟨ha.1, fun hf => absurd hf (by decide)⟩, h.bist, h.health, h.task, h.shut⟩

/-- A Form that takes another place reads it; the other fields of its FSTAT stay. -/
theorem get_fstat_setPlace (w : Work) {f p : Nat} (hf : f < 4) (hp : p < 16) (hx : p ≠ plExcluded) :
    (w.setPlace f p).place f = p ∧ (w.setPlace f p).get (FORM.FSTAT f) FORM.FSTAT_LASTWHY = w.get (FORM.FSTAT f) FORM.FSTAT_LASTWHY := by
  have rec' : NotRec (FORM.FSTAT f) := not_rec (by unfold FORM.FSTAT; omega)
  have irqstat : HDR.IRQSTAT (formPage f) ≠ FORM.FSTAT f := by unfold HDR.IRQSTAT pg formPage FORM.FSTAT; omega
  have marks : BIST.FORMSTAT ≠ FORM.FSTAT f := by unfold BIST.FORMSTAT FORM.FSTAT; omega
  unfold Work.setPlace
  extract_lets was placed marked told
  have shown (g : Fld) : told.procShow.get (FORM.FSTAT f) g = placed.get (FORM.FSTAT f) g := by
    have toldM : told = marked := by simp [told, Work.when, hx]
    have stays : told.procShow.rd (FORM.FSTAT f) = told.rd (FORM.FSTAT f) := (procShow_spec told).2 _ (by
      refine ⟨rec', ?_, ?_, ?_⟩ <;> unfold FORM.FSTAT <;>
        simp only [PROCTOR.STAT, SYS.STATE, PROCTOR.RECNEXT] <;> omega)
    have markedG : marked.get (FORM.FSTAT f) g = placed.get (FORM.FSTAT f) g := by
      unfold marked
      split
      · exact get_putB_ne _ _ _ _ _ _ marks
      · rfl
    rw [Work.get, stays, toldM]
    exact markedG
  split
  · exact ⟨‹_›, rfl⟩
  · rw [Work.place, shown, shown]
    refine ⟨?_, ?_⟩ <;> rw [get_irq_ne _ _ _ _ _ irqstat]
    · exact get_setState _ _ _ _ _ _ rec' (by decide) hp
    · exact get_setState_other _ _ _ _ _ _ _ rec' (by decide) (by decide)

/-- A vote-out counts, shows its class and puts the Form into RECESS_TEST; all it does afterwards happens beside the Form. -/
theorem voteOut_placed (w : Work) {f cls : Nat} (hf : f < 4) (hc : cls < 16) : ∃ v : Work, Beside f v (w.voteOut f cls)
    ∧ v.place f = plTest ∧ v.get (FORM.FSTAT f) FORM.FSTAT_LASTWHY = cls
    ∧ v.get PROCTOR.CNT1 PROCTOR.CNT1_VOTEOUT = min (w.get PROCTOR.CNT1 PROCTOR.CNT1_VOTEOUT + 1) 65535
    ∧ v.x.task = w.x.task ∧ (w.x.proc.isOpen = false → v.x.proc.isOpen = false) := by
  unfold Work.voteOut
  extract_lets opened counted shown told cleared revoked done rotated
  have openedB : Beside f w opened := (Beside.refl f w).ite (((Beside.refl f w).openEpisode 4).procUpd _ id)
  have clearedB : Beside f (counted.put (FORM.FSTAT f) FORM.FSTAT_LASTWHY cls) cleared := by
    have shownB : Beside f (counted.put (FORM.FSTAT f) FORM.FSTAT_LASTWHY cls) shown :=
      (Beside.refl f _).wr (besideRegs (by decide) (by decide)) _
    exact ((shownB.emit _ _ _ _).irq _ _).procUpd _ id
  have placedB : Beside 4 (opened.incSat PROCTOR.CNT1 PROCTOR.CNT1_VOTEOUT) (cleared.setPlace f plTest) := by
    have countedB : Beside 4 (opened.incSat PROCTOR.CNT1 PROCTOR.CNT1_VOTEOUT) counted :=
      (Beside.refl 4 _).put (besideRegs (by unfold FORM.FCNT; omega) (by unfold FORM.FCNT; omega)) _ _
    exact ((countedB.put (besideRegs_fstat (by omega)) _ _).trans clearedB.none).setPlace (by omega) (by decide)
  obtain ⟨place, why⟩ := get_fstat_setPlace cleared (p := plTest) hf (by decide) (by decide)
  refine ⟨cleared.setPlace f plTest, ?_, place, ?_, ?_, placedB.task.trans openedB.task, fun hs => placedB.shut (openedB.shut hs)⟩
  · have revokedB : Beside f (cleared.setPlace f plTest) revoked := ((Beside.refl f _).revoke f).resyncLose f
    have rotatedB : Beside f (cleared.setPlace f plTest) rotated := by
      unfold rotated
      split
      · exact revokedB.ite (revokedB.rotAbandon _)
      · exact revokedB
    exact rotatedB.refill fun _ => ⟨(rotatedB.place hf).trans place, by simp⟩
  · rw [why, clearedB.regs.get (fun k => k.2 hf rfl), get_put_same _ _ _ _ (by decide)]
    exact Nat.mod_eq_of_lt hc
  · rw [placedB.regs.get (fun k => k.1 rfl), get_incSat_same _ _ _ (by decide), openedB.regs.get (fun k => k.1 rfl)]
    rfl

/-- R83, R408, R409: UNCORR_ERROR of a voting Form, its checkpoint closed. -/
theorem runs_uncorrError {s : State} (hq : Quiet s) {f : Nat} (hl : Live s) (hf : f < 4) (hp : (begin s).place f = plVoting)
    (ho : s.x.proc.isOpen = false) : Runs (.uncorrError f) s fun t =>
    t.get (FORM.FSTAT f) FORM.FSTAT_PLACE = plTest ∧ t.get (FORM.FSTAT f) FORM.FSTAT_LASTWHY = 4
    ∧ t.get PROCTOR.CNT1 PROCTOR.CNT1_VOTEOUT = min (s.get PROCTOR.CNT1 PROCTOR.CNT1_VOTEOUT + 1) 65535 := by
  obtain ⟨v, beside, place, why, count, task, shut⟩ := voteOut_placed (begin s) (cls := 4) hf (by decide)
  have run : uncorrError f (begin s) = ((begin s).voteOut f 4).judgeMain := by
    unfold uncorrError
    rw [if_neg]
    simp [hp, plVoting, Nat.not_le.2 hf, Work.alive, hl.1, hl.2]
  have judged : Beside f v (uncorrError f (begin s)) := by
    rw [run]
    exact beside.judgeMain (fun _ => (beside.place hf).trans place) (beside.shut (shut ho))
  have quiet : (uncorrError f (begin s)).x.task.hdr = [] := by rw [judged.task, task]; exact hq
  have fstat : ¬ Follows (FORM.FSTAT f) := not_follows (by unfold FORM.FSTAT; omega)
  refine runs_settled rfl quiet fun t ht => ⟨?_, ?_, ?_⟩
  · rw [ht.get fstat, ← Work.place, judged.place hf, place]
  · rw [ht.get fstat, judged.regs.get (fun k => k.2 hf rfl), why]
  · rw [ht.get (by decide), judged.regs.get (fun k => k.1 rfl), count]
    rfl

end Sys2Proof.Proofs
end
section
/-! PROOF. The tests and repairs of a Form outside Self-test, the Forms' corrected errors, and the health that CLEAR_HEALTH clears. -/

namespace Sys2Proof.Proofs

open Sys2Proof.Machine Sys2Proof.Laws

/-- A command's next state shows the health lists and the episodes that its effect left. -/
theorem runs_hushed {i : Instr} {s : State} {f : Work → Work} {P : State → Prop} (he : exec i s = runCmd s f)
    (hq : (f (begin s)).x.task.hdr = [])
    (h : ∀ t, Settled (f (begin s)) t → t.x.health = (f (begin s)).x.health → t.x.evt.episodes = (f (begin s)).x.evt.episodes → P t) :
    Runs i s P :=
  runs_cmd he (h _ (settled_finish hq) (Hush.settle s hq).health (Hush.settle s hq).episodes)

theorem Settled.bist {w : Work} {t : State} (h : Settled w t) : t.x.bist = w.x.bist := by
  obtain ⟨_, _, _, _, _, e⟩ := h.noise
  rw [e]

/-- What OPSTAT reads while an operation runs (R56). -/
theorem rd_opstat_opBegin (w : Work) (p : Party) (page op arg : Nat) (l : List (Nat × Word)) :
    (w.opBegin p page op arg l).rd (HDR.OPSTAT page) = BitVec.ofNat 32 (op * 256 + 1) := by
  unfold Work.opBegin
  rw [rd_upd, rd_put_ne _ _ _ _ _ (opstat_ne_pgstat page), rd_wr, if_pos rfl]

/-- Beside the registers an operation's end changes the list of those that run alone. -/
theorem opEnd_rest (w : Work) (page state reason : Nat) :
    (w.opEnd page state reason).x = { w.x with pages := (w.opEnd page state reason).x.pages } := by
  rw [x_opEnd]; split <;> rfl

theorem opNow_rest (w : Work) (p : Party) (page op arg state reason : Nat) :
    (w.opNow p page op arg state reason).x = { w.x with pages := (w.opNow p page op arg state reason).x.pages } :=
  opEnd_rest (w.opBegin p page op arg []) page state reason

/-! RETEST -/

/-- R97: RETEST of an excluded Form. -/
theorem runs_retest {s : State} (hq : Quiet s) {p : Party} {f : Nat} (hm : MayStart s p bistPage 2 [.held, .ready, .run, .hold])
    (hf : f < 4) (hp : (begin s).place f = plExcluded) : Runs (.retest p f) s fun t =>
    t.get (HDR.OPSTAT bistPage) HDR.OPSTAT_STATE = 1 ∧ t.get (HDR.OPSTAT bistPage) HDR.OPSTAT_OP = 1 ∧ t.x.bist.retestForm = some f
    ∧ 2 ∈ t.x.evt.episodes := by
  let begun := ((begin s).opBegin p bistPage 1 f []).bistUpd fun b => { b with retestForm := some f }
  have run : retest p f (begin s) = begun.openEpisode 2 := by
    unfold retest
    rw [startOp_begin _ hm (by simp [hp]), if_neg (by omega)]
  obtain ⟨recorded, running⟩ := Recorded.openEpisode begun 2
  have quiet : (retest p f (begin s)).x.task.hdr = [] := by rw [run, recorded.rest]; exact hq
  refine runs_hushed rfl quiet fun t ht _ episodes => ?_
  rw [run] at ht episodes
  have opstat : t.rd (HDR.OPSTAT bistPage) = 257 := by
    rw [ht.rd _ (by decide), recorded.regs _ (by decide)]
    exact rd_opstat_opBegin (begin s) p bistPage 1 f []
  refine ⟨by rw [State.get, opstat]; decide, by rw [State.get, opstat]; decide, ?_, episodes ▸ running⟩
  rw [ht.bist, recorded.rest]
  rfl

/-! The end of RETEST -/

/-- From `u` to `w` a Form's memory has been mended or its health told: FORMSTAT, the operation of the BIST page and the list of Forms that
passed stay. -/
structure Mended (u w : Work) : Prop where
  regs : Keeps (fun a => a ≠ BIST.FORMSTAT ∧ a ≠ HDR.OPSTAT bistPage) u w
  passed : w.x.bist.passedRetest = u.x.bist.passedRetest
  form : w.x.bist.retestForm = u.x.bist.retestForm
  task : w.x.task = u.x.task

namespace Mended
variable {u v w : Work}

theorem refl (w : Work) : Mended w w := ⟨Keeps.refl _ _, rfl, rfl, rfl⟩
theorem trans (h : Mended u v) (k : Mended v w) : Mended u w :=
  ⟨h.regs.trans k.regs, k.passed.trans h.passed, k.form.trans h.form, k.task.trans h.task⟩
theorem ite (h : Mended u v) (k : Mended u w) {c : Prop} {_ : Decidable c} : Mended u (if c then v else w) := by
  split <;> assumption
theorem put (h : Mended u w) {a : Nat} (ha : a ≠ BIST.FORMSTAT ∧ a ≠ HDR.OPSTAT bistPage) (f : Fld) (n : Nat) : Mended u (w.put a f n) :=
  h.trans ⟨keeps_put _ _ _ _ ha, rfl, rfl, rfl⟩
theorem bistUpd (h : Mended u w) (g : BistSt → BistSt) (hp : (g w.x.bist).passedRetest = w.x.bist.passedRetest)
    (hr : (g w.x.bist).retestForm = w.x.bist.retestForm) : Mended u (w.bistUpd g) := h.trans ⟨(Keeps.refl _ w).upd _, hp, hr, rfl⟩
theorem noise (h : Mended u v) (k : Noise v.x w.x) (hr : Keeps (fun a => a ≠ BIST.FORMSTAT ∧ a ≠ HDR.OPSTAT bistPage) v w) : Mended u w :=
  h.trans ⟨hr, by rw [k.eq, noisy_bist], by rw [k.eq, noisy_bist], by rw [k.eq, noisy_task]⟩

theorem cause (h : Mended u w) (code page sub : Nat) (on : Bool) : Mended u (w.cause code page sub on) :=
  h.noise (cause_spec ..).1 fun a ha => (cause_spec ..).2 a <| by
    simp only [not_and_or, not_not] at ha
    rcases ha with rfl | rfl <;> decide

theorem blockFault (h : Mended u w) (page pcode mcode : Nat) (on : Bool) : Mended u (w.blockFault page pcode mcode on) :=
  h.noise (blockFault_spec ..).1 fun a ha => (blockFault_spec ..).2 a <| by
    simp only [not_and_or, not_not] at ha
    rcases ha with rfl | rfl
    · exact ⟨by decide, by unfold HDR.PGHEALTH BIST.FORMSTAT pg; omega, by unfold HDR.IRQSTAT BIST.FORMSTAT pg; omega⟩
    · exact ⟨by decide, by unfold HDR.PGHEALTH HDR.OPSTAT pg bistPage; omega, by unfold HDR.IRQSTAT HDR.OPSTAT pg bistPage; omega⟩

theorem goneNow (h : Mended u w) : Mended u w.goneNow := h.trans ⟨(Keeps.refl _ w).upd _, rfl, rfl, rfl⟩

theorem repairRecord (h : Mended u w) (kind array addr spare found : Nat) : Mended u (w.repairRecord kind array addr spare found) := by
  unfold Work.repairRecord
  exact (h.bistUpd _ rfl rfl).ite h

/-- A repair that is put in force. -/
theorem repairOne (h : Mended u w) {array addr found : Nat} {isRow : Bool} {v : Work} (hv : w.repairOne array isRow addr found = some v) :
    Mended u v := by
  unfold Work.repairOne at hv
  obtain ⟨spare, -, rfl⟩ := Option.map_eq_some_iff.1 hv
  exact (h.bistUpd _ rfl rfl).repairRecord _ _ _ _ _

theorem repairWeak (h : Mended u w) (f : Nat) : Mended u (w.repairWeak f) := by
  unfold Work.repairWeak
  refine List.foldlRecOn _ _ h fun v k p _ => ?_
  split
  case h_1 repaired => exact (k.repairOne repaired).bistUpd _ rfl rfl
  case h_2 => exact k

theorem spareShow (h : Mended u w) : Mended u w.spareShow := by
  unfold Work.spareShow
  extract_lets top spares n counts
  have countsM : Mended u counts :=
    (((h.put (by decide) _ _).put (by decide) _ _).put (by decide) _ _).put (by decide) _ _
  exact List.foldlRecOn _ _ countsM fun v k a _ => (k.cause _ _ _ _).cause _ _ _ _

theorem testedNow (h : Mended u w) {f : Nat} : Mended u (w.testedNow f) := by
  have lies : ∀ a, a = FORM.LASTTEST f ∨ a = FORM.LASTTESTH f → a ≠ BIST.FORMSTAT ∧ a ≠ HDR.OPSTAT bistPage := by
    rintro a (rfl | rfl) <;>
      simp only [FORM.LASTTEST, FORM.LASTTESTH, BIST.FORMSTAT, HDR.OPSTAT, pg, bistPage] <;> omega
  exact h.trans ⟨((Keeps.refl _ w).wr (lies _ (.inl rfl)) _).wr (lies _ (.inr rfl)) _, rfl, rfl, rfl⟩

theorem opBusy (h : Mended u w) : w.opBusy bistPage = u.opBusy bistPage := by
  unfold Work.opBusy
  rw [h.regs.get (fun k => k.2 rfl)]

end Mended

/-- The test of a Form without memory faults: its LBIST decides, and shows in LPASS. -/
theorem formTest_nil (w : Work) {f : Nat} (l : Bool) (hf : f < 4) : (w.formTest f l []).2 = l
    ∧ (w.formTest f l []).1.get BIST.FORMSTAT ⟨4 * f, 1⟩ = (if l then 1 else 0)
    ∧ (w.formTest f l []).1.opBusy bistPage = w.opBusy bistPage
    ∧ (w.formTest f l []).1.x.bist.passedRetest = w.x.bist.passedRetest ∧ (w.formTest f l []).1.x.task = w.x.task := by
  have first : (w.formStat f 0 l).get BIST.FORMSTAT ⟨4 * f, 1⟩ = if l then 1 else 0 :=
    get_putB_same _ _ _ _ (show 4 * f + 1 ≤ 32 by omega) Nat.one_ne_zero
  have stays (v : Work) (k : Nat) (b : Bool) : (v.formStat f k b).opBusy bistPage = v.opBusy bistPage := by
    unfold Work.opBusy
    rw [show (v.formStat f k b).get (HDR.OPSTAT bistPage) HDR.OPSTAT_STATE = v.get (HDR.OPSTAT bistPage) HDR.OPSTAT_STATE from
      get_putB_ne _ _ _ _ _ _ (by decide)]
  cases l with
  | false => exact ⟨rfl, first, stays _ _ _, rfl, rfl⟩
  | true =>
    let repaired := ((w.formStat f 0 true).repairWeak f).spareShow
    have run : w.formTest f true [] = ((repaired.formStat f 1 true).testedNow f, true) := rfl
    have repairedM : Mended (w.formStat f 0 true) repaired := ((Mended.refl _).repairWeak f).spareShow
    have testedM : Mended (repaired.formStat f 1 true) ((repaired.formStat f 1 true).testedNow f) := (Mended.refl _).testedNow
    rw [run]
    refine ⟨rfl, ?_, ?_, testedM.passed.trans repairedM.passed, testedM.task.trans repairedM.task⟩
    · rw [testedM.regs.get (fun k => k.1 rfl)]
      refine (get_putB_other _ _ _ _ _ ?_ ?_).trans ((repairedM.regs.get (fun k => k.1 rfl) _).trans first)
      · show 4 * f + 1 ≤ 32; omega
      · exact .inl (by show 4 * f + 1 ≤ 4 * f + 1; omega)
    · rw [testedM.opBusy, stays, repairedM.opBusy, stays]

/-- What the end of RETEST notes: the test is over, and whether the Form has passed (log entry 184). -/
def retestNoted (w : Work) (f : Nat) (l : Bool) : Work :=
  w.bistUpd fun b =>
    { b with retestForm := none, passedRetest := b.passedRetest.filter (fun g => decide (g ≠ f)) ++ (if l then [f] else []) }

/-- And what it tells the module's health. -/
def retestTold (w : Work) (f : Nat) (l : Bool) : Work :=
  if l then (w.blockFault (formPage f) 1 1 false).goneNow else w.blockFault (formPage f) 1 1 true

/-- The parts of RETEST_DONE, no memory fault found. -/
theorem retestDone_eq {s : State} {f : Nat} {l : Bool} (hl : Live s) (hb : (begin s).opBusy bistPage = true)
    (hr : s.x.bist.retestForm = some f) (hf : f < 4) : ∃ told : Work,
    told = retestTold (retestNoted ((begin s).formTest f l []).1 f l) f l
      ∧ retestDone l [] (begin s) = (told.opEnd bistPage opDone 0).closeEpisode 2 told.anyExcluded := by
  refine ⟨_, rfl, ?_⟩
  obtain ⟨passes, -⟩ := formTest_nil (begin s) l hf
  unfold retestDone
  rw [show (begin s).x.bist.retestForm = some f from hr]
  dsimp only
  rw [if_neg (by simp [hb, Work.alive, hl.1, hl.2]), passes]
  rfl

theorem mended_retestTold (w : Work) (f : Nat) (l : Bool) : Mended w (retestTold w f l) :=
  .ite ((Mended.refl w).blockFault _ _ _ _).goneNow ((Mended.refl w).blockFault _ _ _ _)

/-- R82, R97: the end of RETEST, no memory fault found. -/
theorem runs_retestDone {s : State} (hq : Quiet s) {f : Nat} {l : Bool} (hl : Live s) (hb : (begin s).opBusy bistPage = true)
    (hr : s.x.bist.retestForm = some f) (hf : f < 4) : Runs (.retestDone l []) s fun t =>
    t.x.bist.retestForm = none ∧ t.get BIST.FORMSTAT ⟨4 * f, 1⟩ = (if l then 1 else 0)
    ∧ t.x.bist.passedRetest = s.x.bist.passedRetest.filter (fun g => decide (g ≠ f)) ++ (if l then [f] else [])
    ∧ t.get (HDR.OPSTAT bistPage) HDR.OPSTAT_STATE = 2 := by
  obtain ⟨-, lpass, busy, passed, task⟩ := formTest_nil (begin s) l hf
  obtain ⟨told, htold, run⟩ := retestDone_eq hl hb hr hf
  have toldM : Mended (retestNoted ((begin s).formTest f l []).1 f l) told := htold ▸ mended_retestTold _ f l
  have toldBusy : told.opBusy bistPage = true := toldM.opBusy.trans (busy.trans hb)
  have closed : Recorded (told.opEnd bistPage opDone 0) (retestDone l [] (begin s)) := run ▸ Recorded.closeEpisode _ 2 told.anyExcluded
  have bist : (retestDone l [] (begin s)).x.bist = told.x.bist := by rw [closed.rest, opEnd_rest]
  have quiet : (retestDone l [] (begin s)).x.task.hdr = [] := by
    rw [closed.rest, opEnd_rest, toldM.task]
    exact (congrArg TaskSt.hdr task).trans hq
  refine runs_settled rfl quiet fun t ht => ⟨?_, ?_, ?_, ?_⟩
  · rw [ht.bist, bist, toldM.form]
    rfl
  · rw [ht.get (by decide), closed.regs.get (by decide), (keeps_opEnd told bistPage opDone 0).get (by decide),
      toldM.regs.get (fun k => k.1 rfl)]
    exact lpass
  · rw [ht.bist, bist, toldM.passed]
    exact congrArg (fun ps => ps.filter (fun g => decide (g ≠ f)) ++ if l then [f] else []) passed
  · rw [ht.get (by decide), closed.regs.get (by decide)]
    exact (get_opEnd told bistPage opDone 0 toldBusy (by decide)).1

/-! CLEAR_HEALTH -/

/-- A reason that goes is no longer among the module's reasons; the others stay. -/
theorem reasons_showReason (w : Work) (c : Nat) :
    (w.showReason c false).x.health.reasons = w.x.health.reasons.filter fun d => decide (d ≠ c) := by
  unfold Work.showReason
  split
  case isTrue gone =>
    have absent : c ∉ w.x.health.reasons := by simpa using gone
    exact (List.filter_eq_self.2 fun d hd => by simpa using fun e : d = c => absent (e ▸ hd)).symm
  case isFalse =>
    simp only [Work.when, Bool.false_and, Bool.false_eq_true, if_false, Work.evHealth]
    rw [x_emit]
    rfl

/-- A page's reason leaves the module's reasons alone. -/
theorem reasons_pageReason (w : Work) (page code cls : Nat) (on : Bool) :
    (w.pageReason page code cls on).x.health.reasons = w.x.health.reasons := by
  unfold Work.pageReason
  extract_lets e old listed shown
  have shownX : shown.x = listed.x := by
    show (listed.showPageHealth page).x = listed.x
    unfold Work.showPageHealth Work.when
    dsimp only
    split <;> rfl
  split
  · rfl
  · rw [Work.evHealth, x_emit]
    show shown.x.health.reasons = w.x.health.reasons
    rw [shownX]
    rfl

/-- What the loops of CLEAR_HEALTH over reasons keep. -/
structure Cleared (u w : Work) : Prop where
  noise : Noise u.x w.x
  reasons : ∀ c ∈ w.x.health.reasons, c ∈ u.x.health.reasons

theorem cleared_showReasons (l : List Nat) (w : Work) :
    Cleared w (w.each l fun w c => w.showReason c false) ∧ ∀ c ∈ l, c ∉ (w.each l fun w c => w.showReason c false).x.health.reasons := by
  induction l generalizing w with
  | nil => exact ⟨⟨.refl _, fun _ => id⟩, by simp⟩
  | cons c t ih =>
    obtain ⟨⟨noise, fewer⟩, gone⟩ := ih (w.showReason c false)
    have first (d : Nat) (hd : d ∈ (w.showReason c false).x.health.reasons) : d ∈ w.x.health.reasons ∧ d ≠ c := by
      rw [reasons_showReason] at hd
      simpa using hd
    refine ⟨⟨(showReason_spec w c false).1.trans noise, fun d hd => (first d (fewer d hd)).1⟩, fun d hd k => ?_⟩
    rcases List.mem_cons.1 hd with rfl | hd
    · exact (first d (fewer d k)).2 rfl
    · exact gone d hd k

theorem cleared_pageReasons (l : List (Nat × Nat × Nat)) (w : Work) :
    Cleared w (w.each l fun w e => w.pageReason e.1 e.2.1 e.2.2 false) := by
  refine List.foldlRecOn (motive := Cleared w) l _ ⟨.refl _, fun _ => id⟩ fun v k e _ =>
    ⟨k.noise.trans (pageReason_spec ..).1, fun c hc => k.reasons c ?_⟩
  rwa [reasons_pageReason] at hc

/-- The Forms that passed RETEST go on recess. -/
def passedToRecess (w : Work) : Work :=
  (w.each w.x.bist.passedRetest fun w f => if w.place f = plExcluded then w.setPlace f plIdle else w).bistUpd fun b =>
    { b with passedRetest := [] }

/-- The reasons whose cause has gone are cleared: the module's, then the pages'. -/
def goneCleared (w : Work) : Work :=
  let told := w.each w.x.health.gone fun w c => w.showReason c false
  told.each (told.x.health.pageGone.filter fun e => !told.pageCause e.1 e.2.1) fun w e => w.pageReason e.1 e.2.1 e.2.2 false

/-- The service and the Standby follow the places. -/
def serviceFollows (w : Work) : Work := ((w.procShow.refill []).standbyRotate).stbyEval

/-- R97: the parts of CLEAR_HEALTH. -/
theorem clearHealth_eq {s : State} {p : Party} (hm : MayStart s p bistPage 2 anyButSelfTest) : clearHealth p 0 (begin s)
    = (serviceFollows (goneCleared (passedToRecess (begin s)))).opNow p bistPage 2 0 opDone 0 := by
  unfold clearHealth
  rw [startOp_begin _ hm rfl, if_neg (by decide)]
  rfl

theorem passedToRecess_spec (w : Work) : (passedToRecess w).x.bist.passedRetest = [] ∧ (passedToRecess w).x.health = w.x.health
    ∧ (passedToRecess w).x.task = w.x.task := by
  have placed : Beside 4 w (w.each w.x.bist.passedRetest fun w f => if w.place f = plExcluded then w.setPlace f plIdle else w) :=
    .each _ (fun v f _ k => (k.setPlace (fun h => absurd h (by decide)) (by decide)).ite k) (.refl _ _)
  exact ⟨rfl, placed.health, placed.task⟩

theorem goneCleared_spec (w : Work) : Noise w.x (goneCleared w).x ∧ ∀ c ∈ w.x.health.gone, c ∉ (goneCleared w).x.health.reasons := by
  obtain ⟨toldC, gone⟩ := cleared_showReasons w.x.health.gone w
  have shownC : Cleared _ (goneCleared w) := cleared_pageReasons _ _
  exact ⟨toldC.noise.trans shownC.noise, fun c hc k => gone c hc (shownC.reasons c k)⟩

theorem beside_serviceFollows (w : Work) : Beside 4 w (serviceFollows w) :=
  (((Beside.refl 4 w).procShow.refill fun h => absurd h (by decide)).standbyRotate).stbyEval

/-- R97, R108: CLEAR_HEALTH. -/
theorem runs_clearHealth {s : State} (hq : Quiet s) {p : Party} (hm : MayStart s p bistPage 2 anyButSelfTest) :
    Runs (.clearHealth p 0) s fun t => t.x.bist.passedRetest = [] ∧ (∀ c ∈ s.x.health.gone, c ∉ t.x.health.reasons)
    ∧ t.get (HDR.OPSTAT bistPage) HDR.OPSTAT_STATE = 2 := by
  obtain ⟨passed, health, task⟩ := passedToRecess_spec (begin s)
  obtain ⟨noise, gone⟩ := goneCleared_spec (passedToRecess (begin s))
  have served := beside_serviceFollows (goneCleared (passedToRecess (begin s)))
  have rest : (clearHealth p 0 (begin s)).x = { (serviceFollows (goneCleared (passedToRecess (begin s)))).x with
      pages := (clearHealth p 0 (begin s)).x.pages } := by
    rw [clearHealth_eq hm]
    exact opNow_rest ..
  have quiet : (clearHealth p 0 (begin s)).x.task.hdr = [] := by
    rw [rest, served.task, noise.eq, noisy_task, task]
    exact hq
  refine runs_hushed rfl quiet fun t ht kept _ => ⟨?_, fun c hc => ?_, ?_⟩
  · rw [ht.bist, rest, served.bist, noise.eq, noisy_bist, passed]
  · rw [kept, rest, served.health]
    exact gone c (health ▸ hc)
  · rw [ht.get (by decide), clearHealth_eq hm]
    exact (get_opEnd _ bistPage opDone 0 (opBusy_opBegin ..) (by decide)).1

/-! Corrected errors -/

/-- Showing a Form's corrected errors is an announcement. -/
theorem noise_eccShow (w : Work) (f : Nat) : Noise w.x (w.eccShow f).x := by
  unfold Work.eccShow
  extract_lets n on
  split
  · exact .refl _
  · exact Noise.trans (pageReason_spec (w.put (FORM.FCNT f) FORM.FCNT_CECC (min n 0xFFFF)) _ _ _ _).1 (cause_spec ..).1

/-- The operating time stays meanwhile. -/
theorem now_eccShow (w : Work) (f : Nat) : (w.eccShow f).now = w.now := by
  have stays {a : Nat} (ha : a = CUPOLA.OPTIME ∨ a = CUPOLA.OPTIMEH) : (w.eccShow f).rd a = w.rd a := by
    have far : NotCause a ∧ FORM.FCNT f ≠ a ∧ a ≠ HDR.PGHEALTH (formPage f) ∧ a ≠ HDR.IRQSTAT (formPage f) := by
      rcases ha with rfl | rfl <;>
        exact ⟨by decide, by simp only [FORM.FCNT, CUPOLA.OPTIME, CUPOLA.OPTIMEH]; omega,
          by simp only [HDR.PGHEALTH, pg, formPage, CUPOLA.OPTIME, CUPOLA.OPTIMEH]; omega,
          by simp only [HDR.IRQSTAT, pg, formPage, CUPOLA.OPTIME, CUPOLA.OPTIMEH]; omega⟩
    obtain ⟨cause, count, health, irqstat⟩ := far
    unfold Work.eccShow
    extract_lets n on
    split
    · rfl
    · rw [rd_cause _ _ _ _ _ _ cause, rd_pageReason _ _ _ _ _ _ ⟨cause.1, health, irqstat⟩, rd_put_ne _ _ _ _ _ count]
  unfold Work.now Work.rd64
  rw [stays (.inl rfl), stays (.inr rfl)]

/-- FCNT.CECC shows the corrected errors of a Form in the last 24 h. -/
theorem cecc_eccShow (w : Work) {f : Nat} (hf : f < 4) : (w.eccShow f).get (FORM.FCNT f) FORM.FCNT_CECC
    = min (w.x.bist.ecc.filter fun e => decide (e.1 = f) && decide (w.now < e.2.2 + day24)).length 0xFFFF := by
  have record : NotRec (FORM.FCNT f) := not_rec (by unfold FORM.FCNT; omega)
  unfold Work.eccShow
  extract_lets n on
  split
  case isTrue shows => exact shows
  case isFalse =>
    rw [get_cause _ _ _ _ _ _ _ ⟨record, by simp only [FORM.FCNT, SLATE.SSTAT]; omega⟩, get_pageReason _ _ _ _ _ _ _ ⟨record, ?_, ?_⟩,
      get_put_same _ _ _ _ (by decide)]
    · exact Nat.mod_eq_of_lt (lt_of_le_of_lt (Nat.min_le_right _ _) (by decide))
    · simp only [FORM.FCNT, HDR.PGHEALTH, pg, formPage]; omega
    · simp only [FORM.FCNT, HDR.IRQSTAT, pg, formPage]; omega

/-- The errors of the last 24 h. -/
def recentErrors (w : Work) : List (Nat × Nat × Nat) := w.x.bist.ecc.filter fun e => decide (w.now < e.2.2 + day24)

theorem eccShows_spec (l : List Nat) (w : Work) :
    Noise w.x (w.each l fun w f => w.eccShow f).x ∧ (w.each l fun w f => w.eccShow f).now = w.now := by
  refine List.foldlRecOn (motive := fun v : Work => Noise w.x v.x ∧ v.now = w.now) l _ ⟨.refl _, rfl⟩ ?_
  rintro v ⟨noise, now⟩ f -
  exact ⟨noise.trans (noise_eccShow v f), (now_eccShow v f).trans now⟩

/-- Ageing leaves the errors of the last 24 h, and announces. -/
theorem eccAge_spec (w : Work) : Noise { w.x with bist := { w.x.bist with ecc := recentErrors w } } w.eccAge.x ∧ w.eccAge.now = w.now :=
  eccShows_spec (List.range 4) (w.bistUpd fun b => { b with ecc := b.ecc.filter fun e => decide (w.now < e.2.2 + day24) })

/-- R83, R96, R425: what a corrected error leaves. -/
theorem runs_eccCorrected {s : State} (hq : Quiet s) {f a : Nat} (hl : Live s) (hf : f < 4) {P : State → Prop}
    (h : ∀ t : State, t.x.bist.ecc = recentErrors (begin s) ++ [(f, a, (begin s).now)] →
      t.x.bist.weak = (if (recentErrors (begin s)).any (fun e => decide (e.1 = f) && decide (e.2.1 = a)) && !s.x.bist.weak.contains (f, a)
        then s.x.bist.weak ++ [(f, a)] else s.x.bist.weak) →
      t.get (FORM.FCNT f) FORM.FCNT_CECC = min ((recentErrors (begin s) ++ [(f, a, (begin s).now)]).filter fun e =>
        decide (e.1 = f) && decide ((begin s).now < e.2.2 + day24)).length 0xFFFF → P t) :
    Runs (.eccCorrected f a) s P := by
  obtain ⟨agedN, agedNow⟩ := eccAge_spec (begin s)
  have run : ∃ added : Work, eccCorrected f a (begin s) = (added.eccShow f).evOccur (formPage f) noSub (FORM.FCNT f) 0
        ((added.eccShow f).get (FORM.FCNT f) FORM.FCNT_CECC) ∧ added.now = (begin s).now ∧ added.x.task = s.x.task
      ∧ added.x.bist.ecc = recentErrors (begin s) ++ [(f, a, (begin s).now)]
      ∧ added.x.bist.weak = if (recentErrors (begin s)).any (fun e => decide (e.1 = f) && decide (e.2.1 = a)) && !s.x.bist.weak.contains (f, a)
          then s.x.bist.weak ++ [(f, a)] else s.x.bist.weak := by
    unfold eccCorrected
    rw [if_neg (by simp [Work.alive, hl.1, hl.2, hf])]
    extract_lets aged twice added shown
    have agedBist : aged.x.bist = { s.x.bist with ecc := recentErrors (begin s) } := by rw [agedN.eq, noisy_bist]; rfl
    refine ⟨added, rfl, agedNow, ?_, ?_, ?_⟩
    · show aged.x.task = _
      rw [agedN.eq, noisy_task]; rfl
    · show aged.x.bist.ecc ++ [(f, a, aged.now)] = _
      rw [agedBist, agedNow]
    · show (if twice && !aged.x.bist.weak.contains (f, a) then aged.x.bist.weak ++ [(f, a)] else aged.x.bist.weak) = _
      unfold twice
      rw [agedBist]
  obtain ⟨added, run, now, task, ecc, weak⟩ := run
  have noise : Noise added.x (eccCorrected f a (begin s)).x := run ▸ (noise_eccShow added f).trans (noise_emit ..)
  have quiet : (eccCorrected f a (begin s)).x.task.hdr = [] := by rw [noise.eq, noisy_task, task]; exact hq
  have record : NotRec (FORM.FCNT f) := not_rec (by unfold FORM.FCNT; omega)
  refine runs_settled rfl quiet fun t ht => h t ?_ ?_ ?_
  · rw [ht.bist, noise.eq, noisy_bist, ecc]
  · rw [ht.bist, noise.eq, noisy_bist, weak]
  · rw [ht.get (not_follows (by unfold FORM.FCNT; omega)), run, get_evOccur _ _ _ _ _ _ _ _ record, cecc_eccShow _ hf, ecc, now]

/-- R83: a first error at a word in 24 h counts. -/
theorem runs_eccCorrected_first {s : State} (hq : Quiet s) {f a : Nat} (hl : Live s) (hf : f < 4) (he : s.x.bist.ecc = [])
    (hw : s.x.bist.weak = []) : Runs (.eccCorrected f a) s fun t =>
    t.x.bist.ecc = [(f, a, (begin s).now)] ∧ t.get (FORM.FCNT f) FORM.FCNT_CECC = 1 ∧ t.x.bist.weak = [] := by
  have none : recentErrors (begin s) = [] := by simp [recentErrors, he]
  refine runs_eccCorrected hq hl hf fun t ecc weak cecc => ?_
  rw [none] at ecc weak cecc
  refine ⟨ecc, ?_, by simpa [hw] using weak⟩
  have now : (begin s).now < (begin s).now + day24 := by unfold day24; omega
  simpa [now] using cecc

/-- R83: a second error at the word within 24 h marks it weak. -/
theorem runs_eccCorrected_again {s : State} (hq : Quiet s) {f a : Nat} (hl : Live s) (hf : f < 4)
    (he : s.x.bist.ecc = [(f, a, (begin s).now)]) (hw : s.x.bist.weak = []) :
    Runs (.eccCorrected f a) s fun t => t.x.bist.weak = [(f, a)] := by
  have one : recentErrors (begin s) = [(f, a, (begin s).now)] := by simp [recentErrors, he, day24]
  refine runs_eccCorrected hq hl hf fun t _ weak _ => ?_
  rw [one] at weak
  simpa [hw] using weak

end Sys2Proof.Proofs
end

section
/-! PROOF. The BIST operations and the errors of a Form's memory. -/

namespace Sys2Proof.Proofs

open Sys2Proof.Machine Sys2Proof.Laws

/-- Settles O12: each command's effect is followed to its next state. CLEAR_HEALTH holds in every state that may start it, and the vote-out
with or without a rotation: the statement's further premises are not used. That a failing RETEST ends DONE and takes its Form from those that
passed is the model's choice (log entries 114, 184). -/
theorem selfTestAndMemoryErrors : Obligations.SelfTestAndMemoryErrors := by
  intro s p hq
  exact ⟨fun f hm hf hp => runs_retest hq hm hf hp,
    fun f l hl hb hr hf => runs_retestDone hq hl hb hr hf,
    fun hm _ => runs_clearHealth hq hm,
    fun f a hl hf he hw => runs_eccCorrected_first hq hl hf he hw,
    fun f a hl hf he hw => runs_eccCorrected_again hq hl hf he hw,
    fun f hl hf hp ho _ => runs_uncorrError hq hl hf hp ho⟩

end Sys2Proof.Proofs
end

section
/-! PROOF. START of a module whose Belfry has a keep area (R380). Entering Ready writes the keep area's words back at the addresses it gives;
after them Belfry, the safety section, Lantern and Proctor show what they show, none of it on SYS. -/

namespace Sys2Proof.Proofs

open Sys2Proof.Machine Sys2Proof.Laws

/-! What entering Ready does before and after Belfry's restart -/

/-- Entering Ready from Held, up to Belfry's restart. -/
def readyBefore (w : Work) : Work :=
  let w := w.upd fun x => { x with mode := .ready }
  let w := (w.setState 0x000 noSub SYS.STATE SYS.STATE_STATE (modeCode .ready)).put SYS.STATE SYS.STATE_HELDWHY 0
  let w := (w.lockAll.slateRequest 1).upd fun x => { x with task := { x.task with holdReady := false } }
  (w.closeEpisode 1 w.anyExcluded).discardTasks.readyTrunk.safeReady

/-- And after it. -/
def readyAfter (w : Work) : Work :=
  ((((w.safeModule.keepalive).belMode.trimModeEnd).commandIslands).commandOutputs).lanternShow

theorem toMode_ready {w : Work} (h : w.x.mode = .held) (why : Nat) : w.toMode .ready why = readyAfter (readyBefore w).belReady := by
  unfold Work.toMode readyAfter readyBefore
  simp only [h, Work.when, ne_eq, reduceCtorEq, not_false_eq_true, decide_true, decide_false, Bool.or_true, Bool.or_false,
    Bool.and_true, Bool.false_eq_true, or_false, if_true, if_false]
  rfl

/-- Belfry's restart from a keep area of the active image, up to the first-outs: the words kept are written. -/
def belRestored (w : Work) (k : BelKeep) : Work :=
  let t := w.now
  let w := w.belUpd fun s => { s with aux := k.aux, fo := k.fo, cstate := k.cstate, wstate := k.wstate, escFrom := k.escFrom,
                                      watchFrom := k.watchFrom, last := t, restored := true, cmds := [] }
  w.each k.words fun w e => w.wr e.1 e.2

theorem belReady_kept {w : Work} {k : BelKeep} (he : w.enabled belPage = true) (hk : w.x.bel.keep = some k)
    (hi : k.imgid = w.rd SYS.ACTID) :
    w.belReady = (((belRestored w k).audible false).each (List.range 64) fun w g => w.foShow g).callOut := by
  unfold Work.belReady
  rw [if_neg (by simp [he]), hk]
  dsimp only
  rw [if_pos hi]
  rfl

/-! Work aside from SYS's operation, the gates and the places -/

/-- All registers but SYS.OPSTAT, the gates and the Forms' places. -/
abbrev AsideRegs (a : Nat) : Prop := a ≠ 0x24 ∧ a % 0x1000 ≠ 0x0c ∧ (a % 0x1000 = 0x40 → a < 0x8000 ∨ 0xc000 ≤ a)

/-- From `u` to `w` no such register has changed, and neither the operations, nor the tasks, nor the safety safetys state. -/
structure Aside (u w : Work) : Prop where
  regs : Keeps AsideRegs u w
  pages : w.x.pages = u.x.pages
  task : w.x.task = u.x.task
  safety : w.x.safe.ss = u.x.safe.ss
  supply : w.x.safe.vs = u.x.safe.vs

namespace Aside
variable {u v w : Work}

theorem refl (w : Work) : Aside w w := ⟨Keeps.refl _ _, rfl, rfl, rfl, rfl⟩
theorem trans (h : Aside u v) (k : Aside v w) : Aside u w :=
  ⟨h.regs.trans k.regs, k.pages.trans h.pages, k.task.trans h.task, k.safety.trans h.safety, k.supply.trans h.supply⟩
theorem ite (h : Aside u v) (k : Aside u w) {c : Prop} {_ : Decidable c} : Aside u (if c then v else w) := by
  split <;> assumption
theorem wr (h : Aside u w) {a : Nat} (ha : AsideRegs a) (n : Word) : Aside u (w.wr a n) :=
  h.trans ⟨keeps_wr _ _ _ ha, rfl, rfl, rfl, rfl⟩
theorem put (h : Aside u w) {a : Nat} (ha : AsideRegs a) (f : Fld) (n : Nat) : Aside u (w.put a f n) := h.wr ha _
theorem each {α : Type} (l : List α) {g : Work → α → Work} (hg : ∀ v, ∀ e ∈ l, Aside u v → Aside u (g v e)) (h : Aside u w) :
    Aside u (w.each l g) := List.foldlRecOn l g h fun v k e he => hg v e he k

theorem enabled (h : Aside u w) (page : Nat) : w.enabled page = u.enabled page := by
  unfold Work.enabled Work.flag
  rw [h.regs.get fun k => k.2.1 (by unfold HDR.PGCTL pg; omega)]

/-! Belfry -/

theorem foShow (h : Aside u w) {g : Nat} (hg : g < 64) : Aside u (w.foShow g) := by
  unfold Work.foShow
  extract_lets fo pts shown
  have shownA : Aside u shown := h.put (by unfold AsideRegs BELFRY.GSTAT; omega) _ _
  exact each _ (fun v pt _ k => k.put (by unfold AsideRegs PT.PSTAT; omega) _ _) shownA

theorem callOut (h : Aside u w) : Aside u w.callOut := by
  unfold Work.callOut
  exact (((((h.put (by decide) _ _).put (by decide) _ _).put (by decide) _ _).put (by decide) _ _).put (by decide) _ _).put (by decide) _ _

/-! The safety section -/

theorem safeView (h : Aside u w) {v : Nat} (hv : v < 2) : Aside u (w.safeView v) := by
  unfold Work.safeView
  extract_lets fns outs
  have fnsA : Aside u fns := each _ (fun k f hf l => l.wr (by have := List.mem_range.1 hf; unfold AsideRegs SAFE.FSTAT; omega) _) h
  have outsA : Aside u outs := each _ (fun k f hf l => l.wr (by have := List.mem_range.1 hf; unfold AsideRegs SAFE.OSTAT; omega) _) fnsA
  have own : AsideRegs (SAFE.PSTAT v) := by unfold AsideRegs SAFE.PSTAT; omega
  exact ((outsA.put own _ _).put own _ _).ite h

theorem safeShow (h : Aside u w) : Aside u w.safeShow := by
  unfold Work.safeShow
  exact ((((((h.put (by decide) _ _).put (by decide) _ _).put (by decide) _ _).safeView (by decide)).safeView (by decide))).ite h

/-- A safety section that is neither Idle nor Active does not follow the module's state. -/
theorem safeModule (h : Aside u w) (hi : w.x.safe.ss ≠ ssIdle) (ha : w.x.safe.ss ≠ ssActive) : Aside u w.safeModule := by
  unfold Work.safeModule
  rw [if_neg (fun k => hi k.1), if_neg (fun k => ha k.1)]
  exact h.safeShow

/-- Without its supply it does not start. -/
theorem keepalive (h : Aside u w) (hv : w.x.safe.vs ≤ 19500) : Aside u w.keepalive := by
  have kept : Aside u (w.safeUpd fun s => { s with ka := true, kaLost := false }) := h.trans ⟨(Keeps.refl _ w).upd _, rfl, rfl, rfl, rfl⟩
  unfold Work.keepalive Work.safeBegin
  extract_lets s begun
  rw [if_neg (by rintro ⟨-, -, -, supplied, -⟩; exact absurd supplied (Nat.not_lt.2 hv))]
  exact kept.safeShow

/-! Islands, outputs, Lantern, Proctor -/

theorem trimModeEnd (h : Aside u w) (ho : w.x.pages.ops.all fun o => decide (o.page < 0x40)) : Aside u w.trimModeEnd := by
  have none : w.trimRunning = none := by
    unfold Work.trimRunning
    rw [List.find?_eq_none.2]
    intro o mem
    have := List.all_eq_true.1 ho o mem
    simp at this ⊢
    omega
  unfold Work.trimModeEnd
  rw [none]
  exact h

theorem commandIslands (h : Aside u w) (hd : (List.range 48).all fun n => !u.enabled (loopPage n)) : Aside u w.commandIslands := by
  have none : w.loopsOn = [] := by
    unfold Work.loopsOn
    refine List.filter_eq_nil_iff.2 fun n mem => ?_
    have := List.all_eq_true.1 hd n mem
    rw [h.enabled]
    simpa using this
  unfold Work.commandIslands
  rw [none]
  exact h

theorem commandOutputs (h : Aside u w) (hd : (List.range 8).all fun g => !u.enabled (dioPage g)) : Aside u w.commandOutputs := by
  unfold Work.commandOutputs
  refine each _ (fun v g mem k => ?_) h
  have := List.all_eq_true.1 hd g mem
  unfold Work.dioRefresh
  rw [k.enabled, if_neg (by simpa using this)]
  exact k

theorem lanternShow (h : Aside u w) : Aside u w.lanternShow := by
  unfold Work.lanternShow
  extract_lets m own pub codes moded
  have modedA : Aside u moded := h.put (by decide) _ _
  exact each _ (fun v i mem k => k.ite (k.wr (by have := List.mem_range.1 mem; unfold AsideRegs LANTERN.SHOWN; omega) _)) modedA

theorem procShow (h : Aside u w) : Aside u w.procShow := by
  obtain ⟨noise, regs⟩ := procShow_spec w
  refine h.trans ⟨fun a ha => regs a ?_, ?_, ?_, ?_, ?_⟩
  · refine ⟨⟨?_, ?_⟩, ?_, ?_, ?_⟩ <;> · rintro rfl; exact ha (by decide)
  all_goals rw [noise.eq]; rfl

/-- No place is filled while a Form's place is undecided. -/
theorem refill (h : Aside u w) (hp : u.place 0 = plUndecided) (tests : List Nat) : Aside u (w.refill tests) := by
  have undecided : w.formsIn plUndecided ≠ [] := by
    refine List.ne_nil_of_mem (a := 0) (List.mem_filter.2 ⟨by decide, ?_⟩)
    have same : w.place 0 = u.place 0 := h.regs.get (fun k => absurd (k.2.2 (by decide)) (by decide)) _
    simp [same, hp]
  unfold Work.refill
  rw [if_pos (.inr undecided)]
  exact h

end Aside

end Sys2Proof.Proofs
end

section
/-! PROOF. The counterexample to the clause of START. -/

namespace Sys2Proof.Proofs

open Sys2Proof.Machine Sys2Proof.Laws

/-- A keep area of the active image that holds one word: 0, for SYS.OPSTAT. -/
def keepOverStart : BelKeep := ⟨0, [(HDR.OPSTAT sysPage, 0)], [], [], 0, 0, 0, 0⟩

/-- A module in Held with Belfry's page enabled and that keep area; host 7, an Engineer, has a session on the service port. -/
def heldOverKeep : State :=
  { regs := regsSet State.reset.regs (HDR.PGCTL belPage) (HDR.PGCTL_EN.set (regsGet State.reset.regs (HDR.PGCTL belPage)) 1),
    x := { State.reset.x with
      mode := .held, img := { activeOk := true }, net := { sessions := [⟨7, true, 2, 2, [], [], none, 0, 0, 0, 0, []⟩] },
      bel := { keep := some keepOverStart } },
    pending := [] }

/-- It may START. -/
theorem heldOverKeep_mayStart : MayStart heldOverKeep (.host 7) sysPage 2 [.held] ∧ heldOverKeep.x.img.activeOk = true
    ∧ (begin heldOverKeep).paired = false := by decide +kernel

/-- The module once the START is accepted. -/
def startBegun : Work :=
  ((begin heldOverKeep).opBegin (.host 7) sysPage 3 0 []).setFlag sysPage noSub SYS.STATE SYS.STATE_PERMIT true

/-- As it sets out for Ready, no task to restart. -/
def startEntering : Work := startBegun.upd fun x => { x with img := { x.img with restart := 0 } }

/-- And as it enters Ready, up to Belfry's first-outs. -/
def startRestored : Work := belRestored (readyBefore startEntering) keepOverStart

theorem startBegun_facts : startBegun.paired = false ∧ startBegun.x.role = .solo ∧ startBegun.flag SYS.STATE SYS.STATE_PERMIT = true
    ∧ startEntering.x.mode = .held := by decide +kernel

theorem startEntering_facts : (readyBefore startEntering).enabled belPage = true
    ∧ (readyBefore startEntering).x.bel.keep = some keepOverStart
    ∧ keepOverStart.imgid = (readyBefore startEntering).rd SYS.ACTID := by decide +kernel

theorem startRestored_facts : startRestored.rd (HDR.OPSTAT sysPage) = 0 ∧ startRestored.x.task.hdr = [] ∧ startRestored.x.safe.ss = 0
    ∧ startRestored.x.safe.vs = 0 ∧ startRestored.place 0 = plUndecided
    ∧ (startRestored.x.pages.ops.all fun o => decide (o.page < 0x40)) = true
    ∧ ((List.range 48).all fun n => !startRestored.enabled (loopPage n)) = true
    ∧ ((List.range 8).all fun g => !startRestored.enabled (dioPage g)) = true := by decide +kernel

/-- The START's effect, up to its end: the place where the keep area's words stand is followed by work aside from SYS.OPSTAT. -/
theorem start_aside : ∃ w : Work, start (.host 7) 0 (begin heldOverKeep) = w.opEnd sysPage opDone 0 ∧ Aside startRestored w := by
  obtain ⟨may, active, -⟩ := heldOverKeep_mayStart
  obtain ⟨unpaired, solo, permitted, held⟩ := startBegun_facts
  obtain ⟨enabled, keep, image⟩ := startEntering_facts
  obtain ⟨-, -, ss, vs, place, ops, loops, dios⟩ := startRestored_facts
  have entered : startBegun.enterHeldOrReady 0 = readyAfter
      (((startRestored.audible false).each (List.range 64) fun w g => w.foShow g).callOut) := by
    unfold Work.enterHeldOrReady
    rw [if_pos permitted]
    show startEntering.toMode .ready 0 = _
    rw [toMode_ready held, belReady_kept enabled keep image]
    rfl
  refine ⟨((startBegun.enterHeldOrReady 0).procShow).refill [], ?_, ?_⟩
  · unfold start
    rw [startOp_begin (cond := (begin heldOverKeep).x.img.activeOk) _ may active, if_neg (by decide)]
    show ((if startBegun.paired then _ else _) : Work).opEnd sysPage opDone 0 = _
    rw [if_neg (by simp [unpaired])]
    show ((((if startBegun.x.role = .solo then startBegun else _) : Work).enterHeldOrReady 0).procShow.refill []).opEnd sysPage opDone 0 = _
    rw [if_pos solo]
  · have audibleA : Aside startRestored (startRestored.audible false) := (Aside.refl _).put (by decide) _ _
    have belfryA := (Aside.each _ (fun v g mem k => k.foShow (List.mem_range.1 mem)) audibleA).callOut
    have moduleA := belfryA.safeModule (by rw [belfryA.safety, ss]; decide) (by rw [belfryA.safety, ss]; decide)
    have keepaliveA := (moduleA.keepalive (by rw [moduleA.supply, vs]; decide)).callOut
    have trimA := keepaliveA.trimModeEnd (by rw [keepaliveA.pages]; exact ops)
    rw [entered]
    exact ((((trimA.commandIslands loops).commandOutputs dios).lanternShow).procShow).refill place []

/-- Refutes O11: its clause of START does not bound the keep area's addresses. In a state that no run reaches (Belfry keeps words of its points
alone) the keep area holds the word 0 for SYS.OPSTAT; entering Ready writes it back, the START is no longer BUSY, and its end shows
nothing: OPSTAT reads 0 where the statement has 2. -/
theorem not_sysOperations : ¬ Obligations.SysOperations := by
  intro h
  obtain ⟨-, -, -, -, -, starts, -, -⟩ := h heldOverKeep (.host 7) rfl
  obtain ⟨may, active, unpaired⟩ := heldOverKeep_mayStart
  obtain ⟨word, hdr, -⟩ := startRestored_facts
  obtain ⟨w, run, aside⟩ := start_aside
  have opstat : w.rd (HDR.OPSTAT sysPage) = 0 := (aside.regs _ (by decide)).trans word
  have idle : w.opBusy sysPage = false := by unfold Work.opBusy Work.get; rw [opstat]; decide
  have ended : start (.host 7) 0 (begin heldOverKeep) = w := by
    rw [run]
    unfold Work.opEnd
    rw [if_neg (by simp [idle])]
  have quiet : w.x.task.hdr = [] := by rw [aside.task, hdr]
  obtain ⟨t, ht, -, -, -, done⟩ := starts may active unpaired
  have left : t = finish heldOverKeep w := (Host.Outcome.next.inj ht).symm.trans (congrArg _ ended)
  rw [left, fin_get quiet (by decide), Work.get, opstat] at done
  exact absurd done (by decide)

end Sys2Proof.Proofs
end

section
/-! PROOF. A loop island at work: which registers and which part of the state the operations of an island touch, and what they leave of the
island itself (chapter 04). -/

namespace Sys2Proof.Proofs

open Sys2Proof.Machine Sys2Proof.Laws

/-! The registers of a loop channel's page -/

/-- The word at an offset of a loop channel's page. -/
def loopReg (n off : Nat) : Nat := 0x40000 + 0x1000 * n + off

/-- The registers that the commands of an island read and write, by their offsets (R145 to R152, R175). -/
theorem loop_regs (n : Nat) : LOOP.CFG n = loopReg n 0x40 ∧ LOOP.VALUE n = loopReg n 0x50 ∧ LOOP.RBVALUE n = loopReg n 0x54
    ∧ LOOP.STAT n = loopReg n 0x58 ∧ LOOP.STICKY n = loopReg n 0x5c ∧ LOOP.TRIMZ n = loopReg n 0x60 ∧ LOOP.TRIMS n = loopReg n 0x64
    ∧ LOOP.VDROP n = loopReg n 0x68 ∧ LOOP.COUNTS n = loopReg n 0x6c ∧ LOOP.HSTAT n = loopReg n 0x78
    ∧ HDR.PGCTL (loopPage n) = loopReg n 0x0c ∧ HDR.PGSTAT (loopPage n) = loopReg n 0x10 ∧ HDR.IRQSTAT (loopPage n) = loopReg n 0x14
    ∧ HDR.OPSTAT (loopPage n) = loopReg n 0x24 ∧ HDR.PGKEY (loopPage n) = loopReg n 0x28 ∧ HDR.PGHEALTH (loopPage n) = loopReg n 0x2c := by
  refine ⟨?_, ?_, ?_, ?_, ?_, ?_, ?_, ?_, ?_, ?_, ?_, ?_, ?_, ?_, ?_, ?_⟩ <;>
    simp only [LOOP.CFG, LOOP.VALUE, LOOP.RBVALUE, LOOP.STAT, LOOP.STICKY, LOOP.TRIMZ, LOOP.TRIMS, LOOP.VDROP, LOOP.COUNTS, LOOP.HSTAT,
      HDR.PGCTL, HDR.PGSTAT, HDR.IRQSTAT, HDR.OPSTAT, HDR.PGKEY, HDR.PGHEALTH, loopPage, pg, loopReg] <;> omega

@[simp] theorem loopReg_inj (n a b : Nat) : loopReg n a = loopReg n b ↔ a = b := by simp [loopReg]

theorem loopReg_page {n off : Nat} (h : off < 0x1000) : loopReg n off / 4096 = loopPage n := by unfold loopReg loopPage; omega

/-- They lie in the channel's page. -/
theorem loop_pages (n : Nat) : LOOP.CFG n / 4096 = loopPage n ∧ LOOP.VALUE n / 4096 = loopPage n ∧ LOOP.RBVALUE n / 4096 = loopPage n
    ∧ LOOP.STAT n / 4096 = loopPage n ∧ LOOP.STICKY n / 4096 = loopPage n ∧ LOOP.TRIMZ n / 4096 = loopPage n
    ∧ LOOP.TRIMS n / 4096 = loopPage n ∧ LOOP.VDROP n / 4096 = loopPage n ∧ HDR.PGSTAT (loopPage n) / 4096 = loopPage n
    ∧ HDR.IRQSTAT (loopPage n) / 4096 = loopPage n ∧ HDR.OPSTAT (loopPage n) / 4096 = loopPage n ∧ HDR.PGKEY (loopPage n) / 4096 = loopPage n := by
  simp only [loop_regs]
  and_intros <;> exact loopReg_page (by decide)

theorem notCause_loopReg {n off : Nat} (hn : n < 48) (ho : off < 0x1000) : NotCause (loopReg n off) := by
  unfold NotCause NotRec loopReg EVT.LOST SLATE.SSTAT; omega

/-- A register of a loop channel's page follows none. -/
theorem loop_not_follows {n a : Nat} (ha : a / 4096 = loopPage n) : ¬ Follows a := not_follows (by unfold loopPage at ha; omega)

/-! The island -/

section
variable (w : Work) (n a : Nat) (f : Fld)
@[simp] theorem isl_put (m k : Nat) : (w.put a f k).isl m = w.isl m := rfl
@[simp] theorem isl_putI (m : Nat) (k : Int) : (w.putI a f k).isl m = w.isl m := rfl
@[simp] theorem isl_putB (m : Nat) (b : Bool) : (w.putB a f b).isl m = w.isl m := rfl
@[simp] theorem isl_irq (m p b : Nat) : (w.irq p b).isl m = w.isl m := rfl
@[simp] theorem isl_incSat (m : Nat) : (w.incSat a f).isl m = w.isl m := rfl
@[simp] theorem get_islSet (g : Isl → Isl) : (w.islSet n g).get a f = w.get a f := rfl
@[simp] theorem flag_islSet (g : Isl → Isl) : (w.islSet n g).flag a f = w.flag a f := rfl
theorem isl_when (c : Bool) (g : Work → Work) : (w.when c g).isl n = if c then (g w).isl n else w.isl n := by
  unfold Work.when; split <;> rfl
end

/-- An announcement leaves the islands alone. -/
theorem isl_of_noise {u w : Work} (h : Noise u.x w.x) (n : Nat) : w.isl n = u.isl n := by
  unfold Work.isl
  rw [h.eq, noisy_loops]

/-- An island but for what follows of itself when its page shows it (its tier and target) and but for the modem's notes. -/
def core (i : Isl) : Isl :=
  { i with tier := 0, target := 0, targetAt := 0, regSince := none, hartFree := false, passWait := false, dropReply := false }

/-- What a core keeps, islands with one core have in common. -/
theorem of_core {α : Type} (f : Isl → α) {i j : Isl} (h : core i = core j) (hf : ∀ a, f (core a) = f a := by exact fun _ => rfl) : f i = f j := by
  rw [← hf, h, hf]

/-! What a page that shows its island touches -/

/-- The registers in which a page shows its island: STAT, STICKY, COUNTS, HSTAT and the interrupt word. -/
def ShownRegs (n a : Nat) : Prop := a ∈ [0x14, 0x58, 0x5c, 0x6c, 0x78].map (loopReg n)

theorem shownRegs_iff {n off : Nat} : ShownRegs n (loopReg n off) ↔ off ∈ [0x14, 0x58, 0x5c, 0x6c, 0x78] := by
  simp [ShownRegs]

theorem shown_stat (n : Nat) : ShownRegs n (LOOP.STAT n) := by simp [loop_regs, shownRegs_iff]
theorem shown_sticky (n : Nat) : ShownRegs n (LOOP.STICKY n) := by simp [loop_regs, shownRegs_iff]
theorem shown_counts (n : Nat) : ShownRegs n (LOOP.COUNTS n) := by simp [loop_regs, shownRegs_iff]
theorem shown_hstat (n : Nat) : ShownRegs n (LOOP.HSTAT n) := by simp [loop_regs, shownRegs_iff]
theorem shown_irqstat (n : Nat) : ShownRegs n (HDR.IRQSTAT (loopPage n)) := by simp [loop_regs, shownRegs_iff]

/-- From `u` to `w` a page has shown its island: no other register has changed, and nothing of the island but what the showing decides. -/
structure Shown (n : Nat) (u w : Work) : Prop where
  regs : Keeps (ShownRegs n) u w
  rest : ∃ isl, w.x = { u.x with loops := { u.x.loops with isl := isl } }
  isl : core (w.isl n) = core (u.isl n)

namespace Shown
variable {n : Nat} {u v w : Work}

theorem refl (w : Work) : Shown n w w := ⟨Keeps.refl _ _, ⟨_, rfl⟩, rfl⟩
theorem trans (h : Shown n u v) (k : Shown n v w) : Shown n u w := by
  obtain ⟨_, hx⟩ := h.rest
  obtain ⟨_, kx⟩ := k.rest
  exact ⟨h.regs.trans k.regs, ⟨_, by rw [kx, hx]⟩, k.isl.trans h.isl⟩
theorem ite (h : Shown n u v) (k : Shown n u w) {c : Prop} {_ : Decidable c} : Shown n u (if c then v else w) := by
  split <;> assumption
theorem when (h : Shown n u w) (c : Bool) {f : Work → Work} (hf : Shown n u (f w)) : Shown n u (w.when c f) := by
  unfold Work.when
  exact hf.ite h
theorem put (h : Shown n u w) {a : Nat} (ha : ShownRegs n a) (f : Fld) (k : Nat) : Shown n u (w.put a f k) :=
  h.trans ⟨keeps_put w a f k ha, ⟨_, rfl⟩, rfl⟩
theorem irq (h : Shown n u w) (b : Nat) : Shown n u (w.irq (loopPage n) b) :=
  h.trans ⟨keeps_irq w _ b (shown_irqstat n), ⟨_, rfl⟩, rfl⟩
theorem islSet (h : Shown n u w) {f : Isl → Isl} (hf : ∀ i, core (f i) = core i) : Shown n u (w.islSet n f) :=
  h.trans ⟨fun _ _ => rfl, ⟨_, rfl⟩, by rw [isl_islSet, if_pos rfl, hf]⟩

theorem loopCond (h : Shown n u w) (f : Fld) (on : Bool) : Shown n u (w.loopCond n f on) := by
  unfold Work.loopCond
  exact (h.put (shown_stat n) _ _).when _ (((h.put (shown_stat n) _ _).put (shown_sticky n) _ _).irq _)

theorem islTierTo (h : Shown n u w) (k : Nat) : Shown n u (w.islTierTo n k) := by
  unfold Work.islTierTo
  have tierS : Shown n u (w.islSet n fun i => { i with tier := k }) := h.islSet fun _ => rfl
  exact h.ite (tierS.when _ (tierS.put (shown_counts n) _ _))

theorem islAim (h : Shown n u w) : Shown n u (w.islAim n) := by
  unfold Work.islAim
  extract_lets t now tier stepped
  have steppedS : Shown n u stepped := (h.islTierTo _).ite ((h.islTierTo _).ite h)
  have aimedS : Shown n u (stepped.islSet n fun i => { i with target := t, targetAt := now }) := steppedS.islSet fun _ => rfl
  exact h.ite aimedS

theorem hartShow (h : Shown n u w) : Shown n u (w.hartShow n) := by
  unfold Work.hartShow
  have put2 (x y : Nat) : Shown n u ((w.put (LOOP.HSTAT n) LOOP.HSTAT_TXOK x).put (LOOP.HSTAT n) LOOP.HSTAT_TXWHY y) :=
    (h.put (shown_hstat n) _ _).put (shown_hstat n) _ _
  split
  · exact (put2 _ _).when _ ((put2 _ _).islSet fun _ => rfl)
  · exact put2 _ _

theorem rd (h : Shown n u w) {off : Nat} (ho : off ∉ [0x14, 0x58, 0x5c, 0x6c, 0x78]) : w.rd (loopReg n off) = u.rd (loopReg n off) :=
  h.regs _ fun k => ho (shownRegs_iff.1 k)
theorem get (h : Shown n u w) {off : Nat} (ho : off ∉ [0x14, 0x58, 0x5c, 0x6c, 0x78]) (f : Fld) :
    w.get (loopReg n off) f = u.get (loopReg n off) f := h.regs.get (fun k => ho (shownRegs_iff.1 k)) f

theorem alive (h : Shown n u w) : w.alive = u.alive := by
  obtain ⟨_, hx⟩ := h.rest
  unfold Work.alive
  rw [hx]

theorem enabled (h : Shown n u w) : w.enabled (loopPage n) = u.enabled (loopPage n) := by
  unfold Work.enabled Work.flag
  simp only [loop_regs, h.get (show 0x0c ∉ _ by decide)]

theorem loopMode (h : Shown n u w) : w.loopMode n = u.loopMode n := by
  unfold Work.loopMode
  simp only [loop_regs, h.get (show 0x40 ∉ _ by decide)]

end Shown

/-! Signed fields -/

theorem get_putI_same (w : Work) (a : Nat) (f : Fld) (i : Int) (h : f.lo + f.w ≤ 32) : (w.putI a f i).get a f = unsignedOf f.w i := by
  rw [Work.putI, get_put_same _ _ _ _ h, Nat.mod_eq_of_lt]
  unfold unsignedOf
  have := Int.emod_lt_of_pos i (show (0 : Int) < 2 ^ f.w by positivity)
  have := Int.emod_nonneg i (show (2 : Int) ^ f.w ≠ 0 by positivity)
  zify
  omega

/-! One condition of STAT -/

section
variable (w : Work) (n : Nat) (f g : Fld) (on : Bool)

theorem stat_ne_irqstat : HDR.IRQSTAT (loopPage n) ≠ LOOP.STAT n := by simp [loop_regs]
theorem sticky_ne_stat : LOOP.STICKY n ≠ LOOP.STAT n := by simp [loop_regs]

/-- Beside STAT a condition that rises shows in STICKY and the interrupt word. -/
theorem stat_loopCond : (w.loopCond n f on).get (LOOP.STAT n) g = (w.putB (LOOP.STAT n) f on).get (LOOP.STAT n) g := by
  unfold Work.loopCond
  rw [get_when, get_irq_ne _ _ _ _ _ (stat_ne_irqstat n), get_putB_ne _ _ _ _ _ _ (sticky_ne_stat n), ite_self]

theorem stat_loopCond_same (hf : f.lo + f.w ≤ 32) (hw : f.w ≠ 0) : (w.loopCond n f on).get (LOOP.STAT n) f = if on then 1 else 0 := by
  rw [stat_loopCond, get_putB_same _ _ _ _ hf hw]

theorem stat_loopCond_other (hg : g.lo + g.w ≤ 32) (d : g.lo + g.w ≤ f.lo ∨ f.lo + f.w ≤ g.lo) :
    (w.loopCond n f on).get (LOOP.STAT n) g = w.get (LOOP.STAT n) g := by
  rw [stat_loopCond, get_putB_other _ _ _ _ _ hg d]

theorem sticky_loopCond_other (hg : g.lo + g.w ≤ 32) (d : g.lo + g.w ≤ f.lo ∨ f.lo + f.w ≤ g.lo) :
    (w.loopCond n f on).get (LOOP.STICKY n) g = w.get (LOOP.STICKY n) g := by
  unfold Work.loopCond
  rw [get_when, get_irq_ne _ _ _ _ _ (by simp [loop_regs]), get_putB_other _ _ _ _ _ hg d, get_putB_ne _ _ _ _ _ _ (sticky_ne_stat n).symm,
    ite_self]

/-- The rise of a condition is kept in STICKY. -/
theorem sticky_loopCond_rise (hf : f.lo + f.w ≤ 32) (hw : f.w ≠ 0) (low : w.get (LOOP.STAT n) f = 0) :
    (w.loopCond n f true).get (LOOP.STICKY n) f = 1 := by
  have rises : (true && !w.flag (LOOP.STAT n) f) = true := by simp [Work.flag, low]
  unfold Work.loopCond Work.when
  rw [if_pos rises, get_irq_ne _ _ _ _ _ (by simp [loop_regs]), get_putB_same _ _ _ _ hf hw]
  rfl

end

@[simp] theorem isl_loopCond (w : Work) (n : Nat) (f : Fld) (on : Bool) : (w.loopCond n f on).isl n = w.isl n := by
  unfold Work.loopCond
  rw [isl_when]
  split <;> rfl

/-! The whole of it -/

theorem keeps_islTierTo (w : Work) (n k : Nat) : Keeps (· = LOOP.COUNTS n) w (w.islTierTo n k) := by
  unfold Work.islTierTo
  split
  · exact Keeps.refl _ _
  · exact keeps_when (w.islSet n fun i => { i with tier := k }) _ _ fun _ => keeps_put _ _ _ _ rfl

theorem keeps_islAim (w : Work) (n : Nat) : Keeps (· = LOOP.COUNTS n) w (w.islAim n) := by
  unfold Work.islAim
  extract_lets t now tier stepped
  have steppedK : Keeps (· = LOOP.COUNTS n) w stepped := by
    unfold stepped
    split_ifs
    · exact keeps_islTierTo _ _ _
    · exact keeps_islTierTo _ _ _
    · exact Keeps.refl _ _
  split
  · exact Keeps.refl _ _
  · exact steppedK

theorem keeps_hartShow (w : Work) (n : Nat) : Keeps (· = LOOP.HSTAT n) w (w.hartShow n) := by
  have put2 (x y : Nat) : Keeps (· = LOOP.HSTAT n) w ((w.put (LOOP.HSTAT n) LOOP.HSTAT_TXOK x).put (LOOP.HSTAT n) LOOP.HSTAT_TXWHY y) :=
    (keeps_put (P := (· = LOOP.HSTAT n)) _ _ _ _ rfl).trans (keeps_put _ _ _ _ rfl)
  unfold Work.hartShow
  split
  · exact (put2 _ _).when _ fun v => Keeps.refl _ v
  · exact put2 _ _

/-- What `v` shows of the island of `w` in STAT and STICKY: the flags that are the island's own; RBDEV and TRIMMING as they stood; OVERCUR of an
input that is not dark, and COMPLIANCE of an output that regulates, as they stood. -/
structure StatShows (n : Nat) (w v : Work) : Prop where
  dark : v.get (LOOP.STAT n) LOOP.STAT_DARK = if decide ((w.isl n).st = isDark) || !(w.isl n).link then 1 else 0
  lowcur : v.get (LOOP.STAT n) LOOP.STAT_LOWCUR = if decide (w.loopMode n = 1) && decide ((w.isl n).zone = 2) then 1 else 0
  highcur : v.get (LOOP.STAT n) LOOP.STAT_HIGHCUR = if decide (w.loopMode n = 1) && decide ((w.isl n).zone = 4) then 1 else 0
  lsfault : v.get (LOOP.STAT n) LOOP.STAT_LSFAULT = if (w.isl n).lsFault then 1 else 0
  trimming : v.get (LOOP.STAT n) LOOP.STAT_TRIMMING = w.get (LOOP.STAT n) LOOP.STAT_TRIMMING
  rbdev : v.get (LOOP.STAT n) LOOP.STAT_RBDEV = w.get (LOOP.STAT n) LOOP.STAT_RBDEV
  overcur : w.loopMode n = 1 → (w.isl n).st ≠ isDark → v.get (LOOP.STAT n) LOOP.STAT_OVERCUR = w.get (LOOP.STAT n) LOOP.STAT_OVERCUR
  compliance : regulating (w.isl n).st = true → v.get (LOOP.STAT n) LOOP.STAT_COMPLIANCE = w.get (LOOP.STAT n) LOOP.STAT_COMPLIANCE
    ∧ v.get (LOOP.STICKY n) LOOP.STAT_COMPLIANCE = w.get (LOOP.STICKY n) LOOP.STAT_COMPLIANCE

/-- A page shows its island while the module is up and the page enabled (R36, R150). -/
abbrev Showing (w : Work) (n : Nat) : Prop := (w.alive && w.enabled (loopPage n)) = true

theorem Shown.showing {n : Nat} {u w : Work} (h : Shown n u w) : Showing w n ↔ Showing u n := by
  unfold Showing
  rw [h.alive, h.enabled]

/-- A page that shows its island sets the flags, then the quality by them, then the modem's status; another page does nothing, and the island
aims at its target all the same. -/
theorem loopShow_eq (w : Work) (n : Nat) : ∃ v, Shown n w v ∧ StatShows n w v
    ∧ w.loopShow n = if Showing w n then (v.put (LOOP.STAT n) LOOP.STAT_QUAL (v.loopQual n)).hartShow n else w.islAim n := by
  have aimedS : Shown n w (w.islAim n) := (Shown.refl w).islAim
  have aimed_stat (f : Fld) : (w.islAim n).get (LOOP.STAT n) f = w.get (LOOP.STAT n) f := (keeps_islAim w n).get (by simp [loop_regs]) f
  have aimed_sticky (f : Fld) : (w.islAim n).get (LOOP.STICKY n) f = w.get (LOOP.STICKY n) f := (keeps_islAim w n).get (by simp [loop_regs]) f
  unfold Work.loopShow
  extract_lets aimed i input put2 supply dark current limit link clamping clamp compliance
  refine ⟨compliance, ?_, ?_, by simp only [← aimedS.showing]; rfl⟩
  · have put2S : Shown n w put2 := (aimedS.put (shown_stat n) _ _).put (shown_stat n) _ _
    have currentS : Shown n w current := (((((put2S.loopCond _ _).loopCond _ _).loopCond _ _)).loopCond _ _).loopCond _ _
    have limitS : Shown n w limit := (currentS.when _ (currentS.loopCond _ _)).loopCond _ _
    have clampS : Shown n w clamp := (limitS.loopCond _ _).loopCond _ _
    exact clampS.ite (clampS.loopCond _ _)
  · have st : (w.isl n).st = i.st := (of_core Isl.st aimedS.isl).symm
    have islandLink : (w.isl n).link = i.link := (of_core Isl.link aimedS.isl).symm
    have zone : (w.isl n).zone = i.zone := (of_core Isl.zone aimedS.isl).symm
    have fault : (w.isl n).lsFault = i.lsFault := (of_core Isl.lsFault aimedS.isl).symm
    have mode : w.loopMode n = aimed.loopMode n := aimedS.loopMode.symm
    have last (f : Fld) (hf : f.lo + f.w ≤ 32) (d : f.lo + f.w ≤ 18 ∨ 19 ≤ f.lo) :
        compliance.get (LOOP.STAT n) f = clamp.get (LOOP.STAT n) f := by
      unfold compliance
      split
      · rfl
      · exact stat_loopCond_other _ _ _ _ _ hf d
    have limit_of (f : Fld) (hf : f.lo + f.w ≤ 32) (d : f.lo + f.w ≤ 23 ∨ 24 ≤ f.lo) :
        (current.when (!input || decide (i.st = isDark)) fun w => w.loopCond n LOOP.STAT_OVERCUR false).get (LOOP.STAT n) f
          = current.get (LOOP.STAT n) f := by
      rw [get_when, stat_loopCond_other _ _ _ _ _ hf d, ite_self]
    have over_of (inputAwake : (!input || decide (i.st = isDark)) = false) (f : Fld) :
        (current.when (!input || decide (i.st = isDark)) fun w => w.loopCond n LOOP.STAT_OVERCUR false).get (LOOP.STAT n) f
          = current.get (LOOP.STAT n) f := by
      rw [get_when, inputAwake]
      rfl
    have untouched (f : Fld) (hf : f ∈ [LOOP.STAT_TRIMMING, LOOP.STAT_RBDEV]) :
        compliance.get (LOOP.STAT n) f = w.get (LOOP.STAT n) f := by
      rw [← aimed_stat]
      fin_cases hf <;>
      · rw [last _ (by decide) (by decide)]
        simp (disch := decide) only [clamp, link, limit, stat_loopCond_other, limit_of, current, dark, supply, put2, get_put_other]
        rfl
    constructor
    case dark =>
      rw [st, islandLink, last _ (by decide) (by decide)]
      simp (disch := decide) only [clamp, link, limit, stat_loopCond_other, limit_of, current, dark, stat_loopCond_same]
    case lowcur =>
      rw [mode, zone, last _ (by decide) (by decide)]
      simp (disch := decide) only [clamp, link, limit, stat_loopCond_other, limit_of, current, stat_loopCond_same, input]
    case highcur =>
      rw [mode, zone, last _ (by decide) (by decide)]
      simp (disch := decide) only [clamp, link, limit, stat_loopCond_other, limit_of, current, stat_loopCond_same, input]
    case lsfault =>
      rw [fault, last _ (by decide) (by decide)]
      simp (disch := decide) only [clamp, link, limit, stat_loopCond_other, stat_loopCond_same]
    case trimming => exact untouched _ (by decide)
    case rbdev => exact untouched _ (by decide)
    case overcur =>
      intro isInput awake
      have inputAwake : (!input || decide (i.st = isDark)) = false := by
        rw [mode] at isInput
        rw [st] at awake
        simp [input, isInput, awake]
      rw [last _ (by decide) (by decide), ← aimed_stat]
      simp (disch := decide) only [clamp, link, limit, stat_loopCond_other, over_of inputAwake, current, dark, supply, put2, get_put_other]
      rfl
    case compliance =>
      intro regulates
      have kept : compliance = clamp := by
        rw [st] at regulates
        exact if_pos (of_decide_eq_true regulates)
      have limit_sticky : (current.when (!input || decide (i.st = isDark)) fun w => w.loopCond n LOOP.STAT_OVERCUR false).get (LOOP.STICKY n)
          LOOP.STAT_COMPLIANCE = current.get (LOOP.STICKY n) LOOP.STAT_COMPLIANCE := by
        rw [get_when, sticky_loopCond_other _ _ _ _ _ (by decide) (by decide), ite_self]
      rw [kept, ← aimed_stat, ← aimed_sticky]
      constructor
      · simp (disch := decide) only [clamp, link, limit, stat_loopCond_other, limit_of, current, dark, supply, put2, get_put_other]
        rfl
      · simp (disch := decide) only [clamp, link, limit, sticky_loopCond_other, limit_sticky, current, dark, supply, put2]
        rw [get_put_ne _ _ _ _ _ _ (sticky_ne_stat n).symm, get_put_ne _ _ _ _ _ _ (sticky_ne_stat n).symm]

theorem Shown.loopShow {n : Nat} {u w : Work} (h : Shown n u w) : Shown n u (w.loopShow n) := by
  obtain ⟨v, shown, -, eq⟩ := loopShow_eq w n
  rw [eq]
  exact h.trans ((((shown.put (shown_stat n) _ _).hartShow).ite (Shown.refl w).islAim))

/-! What an operation of one island touches -/

/-- The registers of an island's operations: its page's, and those that follow whatever the command. -/
abbrev LoopRegs (n a : Nat) : Prop := a / 4096 = loopPage n ∨ Follows a

theorem loopRegs_reg {n off : Nat} (h : off < 0x1000) : LoopRegs n (loopReg n off) := .inl (loopReg_page h)

/-- `y` is `x` but for the islands, the operations that run, and what announcing a change may touch. -/
def BesideLoops (x y : Inner) : Prop := ∃ isl pages, Noise { x with loops := { x.loops with isl := isl }, pages := pages } y

theorem BesideLoops.of_eq {x y : Inner} {isl : List (Nat × Isl)} {pages : PageSt}
    (h : y = { x with loops := { x.loops with isl := isl }, pages := pages }) : BesideLoops x y := ⟨isl, pages, by rw [h]; exact .refl _⟩
theorem BesideLoops.of_noise {x y : Inner} (h : Noise x y) : BesideLoops x y := ⟨x.loops.isl, x.pages, h⟩
theorem BesideLoops.trans {x y z : Inner} (h : BesideLoops x y) (k : BesideLoops y z) : BesideLoops x z := by
  obtain ⟨_, _, _, _, _, _, _, rfl⟩ := h
  obtain ⟨isl, pages, _, _, _, _, _, rfl⟩ := k
  exact ⟨isl, pages, _, _, _, _, _, rfl⟩
theorem BesideLoops.task {x y : Inner} (h : BesideLoops x y) : y.task = x.task := by
  obtain ⟨_, _, _, _, _, _, _, rfl⟩ := h
  rfl

theorem BesideLoops.mode {x y : Inner} (h : BesideLoops x y) : y.mode = x.mode := by
  obtain ⟨_, _, _, _, _, _, _, rfl⟩ := h
  rfl

/-- From `u` to `w` one island has been at work and has become `i`: no register but its page's and those that follow has changed, and nothing
beside the registers but the islands and the operations that run. -/
structure LoopStep (n : Nat) (u w : Work) (i : Isl) : Prop where
  regs : Keeps (LoopRegs n) u w
  rest : BesideLoops u.x w.x
  isl : core (w.isl n) = core i

namespace LoopStep
variable {n : Nat} {u v w : Work} {i : Isl}

theorem refl (w : Work) : LoopStep n w w (w.isl n) := ⟨Keeps.refl _ _, .of_noise (.refl _), rfl⟩

/-- More work that leaves the island as it is. -/
theorem more (h : LoopStep n u v i) (regs : Keeps (LoopRegs n) v w) (rest : BesideLoops v.x w.x)
    (isl : core (w.isl n) = core (v.isl n)) : LoopStep n u w i := ⟨h.regs.trans regs, h.rest.trans rest, isl.trans h.isl⟩

theorem noise (h : LoopStep n u v i) (regs : Keeps (LoopRegs n) v w) (k : Noise v.x w.x) : LoopStep n u w i :=
  h.more regs (.of_noise k) (by rw [isl_of_noise k])

theorem ite (h : LoopStep n u v i) (k : LoopStep n u w i) {c : Prop} {_ : Decidable c} : LoopStep n u (if c then v else w) i := by
  split <;> assumption
theorem when (h : LoopStep n u w i) (c : Bool) {f : Work → Work} (hf : LoopStep n u (f w) i) : LoopStep n u (w.when c f) i := by
  unfold Work.when
  exact hf.ite h

theorem wr (h : LoopStep n u w i) {a : Nat} (ha : a / 4096 = loopPage n) (v : Word) : LoopStep n u (w.wr a v) i :=
  h.noise (keeps_wr w a v (.inl ha)) (.refl _)
theorem put (h : LoopStep n u w i) {a : Nat} (ha : a / 4096 = loopPage n) (f : Fld) (k : Nat) : LoopStep n u (w.put a f k) i := h.wr ha _
theorem irq (h : LoopStep n u w i) (b : Nat) : LoopStep n u (w.irq (loopPage n) b) i :=
  h.noise (keeps_irq w _ b (.inl (by simp only [loop_regs]; exact loopReg_page (by decide)))) (.refl _)
theorem emit (h : LoopStep n u w i) (page num sub : Nat) (data : List Nat) : LoopStep n u (w.emit page num sub data) i :=
  h.noise ((keeps_emit w page num sub data).mono fun _ k => .inr (follows_of_evtRegs k)) (noise_emit ..)
theorem slateRequest (h : LoopStep n u w i) (r : Nat) : LoopStep n u (w.slateRequest r) i :=
  h.noise (fun a ha => rd_slateRequest w r a fun e => ha (.inr (by rw [e]; decide))) (noise_slateRequest w r)
theorem blockFault (h : LoopStep n u w i) (p m : Nat) (on : Bool) : LoopStep n u (w.blockFault (loopPage n) p m on) i := by
  obtain ⟨noisy, kept⟩ := blockFault_spec w (loopPage n) p m on
  refine h.noise (fun a ha => kept a ?_) noisy
  obtain ⟨page, follow⟩ := not_or.1 ha
  obtain ⟨event, -, -, -, slate, -⟩ := follows_not follow
  simp only [loop_regs]
  exact ⟨⟨event, slate⟩, fun e => page (e ▸ loopReg_page (by decide)), fun e => page (e ▸ loopReg_page (by decide))⟩
theorem opEnd (h : LoopStep n u w i) (state reason : Nat) : LoopStep n u (w.opEnd (loopPage n) state reason) i := by
  refine h.more ((keeps_opEnd w _ state reason).mono fun a ha => ?_) (.of_eq (opEnd_rest w (loopPage n) state reason)) ?_
  · simp only [loop_regs] at ha
    rcases ha with rfl | rfl | rfl <;> exact loopRegs_reg (by decide)
  · unfold Work.isl
    rw [opEnd_rest]

/-- Two islands that differ in what the showing decides alone are one to the step. -/
theorem as (h : LoopStep n u w i) {j : Isl} (e : core i = core j) : LoopStep n u w j := ⟨h.regs, h.rest, h.isl.trans e⟩

/-- A change of the island that does not depend on what the showing decides. -/
theorem islSet (h : LoopStep n u w i) (f : Isl → Isl) (hf : ∀ a, core (f a) = core (f (core a))) : LoopStep n u (w.islSet n f) (f i) := by
  refine ⟨h.regs, h.rest.trans (.of_eq rfl), ?_⟩
  rw [isl_islSet, if_pos rfl, hf, h.isl, ← hf]

/-- The island as its page shows it. -/
theorem shown (h : LoopStep n u v i) (k : Shown n v w) : LoopStep n u w i := by
  obtain ⟨_, kx⟩ := k.rest
  refine h.more (k.regs.mono fun a ha => ?_) (.of_eq kx) k.isl
  obtain ⟨off, mem, rfl⟩ := List.mem_map.1 ha
  exact loopRegs_reg (by simp at mem; omega)

theorem loopShow (h : LoopStep n u w i) : LoopStep n u (w.loopShow n) i := h.shown (Shown.refl w).loopShow
theorem loopCond (h : LoopStep n u w i) (f : Fld) (on : Bool) : LoopStep n u (w.loopCond n f on) i := h.shown ((Shown.refl w).loopCond f on)

end LoopStep

end Sys2Proof.Proofs
end

section
/-! PROOF. The states and tiers of a loop island (R114, R123, R133 to R138): each command by what its effect leaves of the island. -/

namespace Sys2Proof.Proofs

open Sys2Proof.Machine Sys2Proof.Laws

/-! From what a command of an island leaves to what its next state shows -/

/-- The next state `t` shows what a command of island `n`, run from `s`, left in `w`. -/
structure IslandShows (n : Nat) (s : State) (w : Work) (t : State) : Prop where
  same : Same (fun a => a / 4096 = loopPage n ∨ Follows a) s t
  isl : island t n = w.isl n
  settled : Settled w t

/-- A command of one island shows what its effect left. -/
theorem runs_island {c : Instr} {s : State} {n : Nat} {f : Work → Work} {i : Isl} {P : State → Prop} (he : exec c s = runCmd s f)
    (hq : Quiet s) (step : LoopStep n (begin s) (f (begin s)) i) (h : ∀ t, IslandShows n s (f (begin s)) t → P t) : Runs c s P :=
  runs_settled he (by rw [step.rest.task]; exact hq) fun t ht =>
    h t ⟨fun a ha => ht.same step.regs a fun o => ha (o.elim id .inr), by unfold island Work.isl; rw [ht.loops], ht⟩

/-- A command of an island that the module has is its effect. -/
theorem exec_present {c : Instr} {s : State} {n : Nat} {f : Work → Work} (hn : n < 48) (he : exec c s = runIf (decide (n < 48)) s f) :
    exec c s = runCmd s f := by
  rw [he]
  exact congrArg (runCmd s) (funext fun w => if_pos (decide_eq_true hn))

section
variable {n : Nat} {s t : State} {w : Work} (h : IslandShows n s w t)
include h

/-- A register of the island's page reads as the effect left it. -/
theorem IslandShows.get (hn : n < 48) {a : Nat} (f : Fld) (ha : a / 4096 = loopPage n := by simp only [loop_pages]) : t.get a f = w.get a f :=
  h.settled.get (not_follows (by unfold loopPage at ha; omega)) f

theorem IslandShows.core {u : Work} {i : Isl} (k : LoopStep n u w i) : core (island t n) = core i := by rw [h.isl, k.isl]

end

@[simp] theorem isl_begin (s : State) (n : Nat) : (begin s).isl n = island s n := rfl

/-! An island takes a state -/

/-- An island that acts on a command takes a state, or stays as it is (R134). -/
theorem islObey_cases (w : Work) (n : Nat) (c : IslCmd) : w.islObey n c = w ∨ ∃ k, w.islObey n c = w.islState n k := by
  have take {p : Prop} [Decidable p] (k : Nat) : (if p then w.islState n k else w) = w ∨ ∃ k', (if p then w.islState n k else w) = w.islState n k' := by
    split
    · exact .inr ⟨k, rfl⟩
    · exact .inl rfl
  unfold Work.islObey
  extract_lets i
  split
  · exact .inl rfl
  · cases c with
    | none => exact .inl rfl
    | failLow => exact take isFailLow
    | regulate => exact take isRegulate
    | bypass => exact take isBypass

namespace LoopStep
variable {n : Nat} {u w : Work} {i : Isl}

/-- What the step says of the island's fields. -/
theorem fields (h : LoopStep n u w i) : (w.isl n).st = i.st ∧ (w.isl n).link = i.link ∧ (w.isl n).paired = i.paired :=
  ⟨of_core Isl.st h.isl, of_core Isl.link h.isl, of_core Isl.paired h.isl⟩

theorem islState (h : LoopStep n u w i) (k : Nat) : LoopStep n u (w.islState n k) { i with st := k } := by
  unfold Work.islState
  extract_lets from6 now
  have taken := h.islSet (fun j => { j with st := k, regSince := if from6 then some now else if k = isRegulate then j.regSince else none })
    fun _ => rfl
  exact taken.loopShow.as rfl

theorem islObey (h : LoopStep n u w i) (c : IslCmd) : ∃ k, LoopStep n u (w.islObey n c) { i with st := k } := by
  rcases islObey_cases w n c with eq | ⟨k, eq⟩
  · exact ⟨i.st, by rw [eq]; exact h⟩
  · exact ⟨k, by rw [eq]; exact h.islState k⟩

/-- The transaction in hand is lost; its operation, if one runs, ends. -/
theorem hartLost (h : LoopStep n u w i) : LoopStep n u (w.hartLost n) { i with txn := none } := by
  unfold Work.hartLost
  cases hand : (w.isl n).txn with
  | none =>
    have none : i.txn = none := (of_core Isl.txn h.isl).symm.trans hand
    exact h.as (by rw [← none])
  | some t =>
    have lost := (h.islSet (fun j => { j with
      txn := .none, passWait := j.passWait && decide (t.kind ≠ .pass), dropReply := j.dropReply || t.sent }) fun _ => rfl).as
        (j := { i with txn := .none }) rfl
    exact (lost.opEnd _ _).ite lost

theorem islTier (h : LoopStep n u w i) (k : Nat) : LoopStep n u (w.islTier n k) i := by
  unfold Work.islTier
  exact h.ite (h.shown ((Shown.refl w).islTierTo k).loopShow)

end LoopStep

/-- An island acts on no command. -/
theorem islObey_none (w : Work) (n : Nat) : w.islObey n .none = w := by
  unfold Work.islObey
  exact ite_self w
/-- An island without a link acts on no command (R134). -/
theorem islObey_unlinked {w : Work} {n : Nat} (h : (w.isl n).link = false) (c : IslCmd) : w.islObey n c = w := if_pos h
/-- An island that neither regulates nor stands by acts on no command (R134). -/
theorem islObey_idle {w : Work} {n : Nat} (h : (w.isl n).st = isMeasure ∨ (w.isl n).st = isOff) (c : IslCmd) : w.islObey n c = w := by
  unfold Work.islObey
  rcases h with h | h <;> cases c <;> simp [h, isMeasure, isOff, isFailLow, isPhold, isBypass, isNoreg, isRegulate]

/-! Tiers -/

theorem tier_islTierTo (w : Work) (n k : Nat) : ((w.islTierTo n k).isl n).tier = k := by
  unfold Work.islTierTo
  split
  · assumption
  · rw [isl_when]
    split <;> simp

/-- The tier that an island's target leaves it (R114). -/
theorem tier_islAim (w : Work) (n : Nat) : ((w.islAim n).isl n).tier =
    if w.islTarget n = (w.isl n).target then (w.isl n).tier
    else if w.islTarget n < 57000 then min (w.isl n).tier 1 else if w.islTarget n < 95000 then min (w.isl n).tier 2 else (w.isl n).tier := by
  unfold Work.islAim
  extract_lets t now tier stepped
  by_cases aimed : t = (w.isl n).target
  · rw [if_pos aimed, if_pos aimed]
  · rw [if_neg aimed, if_neg aimed, isl_islSet, if_pos rfl]
    show (Work.isl (if t < 57000 then w.islTierTo n (min tier 1) else if t < 95000 then w.islTierTo n (min tier 2) else w) n).tier = _
    split_ifs
    · exact tier_islTierTo _ _ _
    · exact tier_islTierTo _ _ _
    · rfl

theorem tier_loopShow (w : Work) (n : Nat) : ((w.loopShow n).isl n).tier = ((w.islAim n).isl n).tier := by
  have hart (u : Work) : ((u.hartShow n).isl n).tier = (u.isl n).tier := by
    unfold Work.hartShow
    split
    · rw [isl_when]
      split <;> simp
    · rfl
  unfold Work.loopShow
  dsimp only
  split
  · rw [hart]
    simp only [isl_put]
    split <;> simp only [isl_loopCond, isl_put, isl_when, ite_self]
  · rfl

/-- An island in tier 1, or in the dark, keeps its tier. -/
theorem tier_loopShow_low {w : Work} {n : Nat} (h : (w.isl n).tier ≤ 1) : ((w.loopShow n).isl n).tier = (w.isl n).tier := by
  rw [tier_loopShow, tier_islAim]
  split_ifs <;> omega


theorem tier_islState_low {w : Work} {n : Nat} (k : Nat) (h : (w.isl n).tier ≤ 1) : ((w.islState n k).isl n).tier = (w.isl n).tier := by
  unfold Work.islState
  rw [tier_loopShow_low] <;> simp [h]

theorem tier_islTier_low (w : Work) (n : Nat) {k : Nat} (h : k ≤ 1) : ((w.islTier n k).isl n).tier = k := by
  unfold Work.islTier
  split
  · assumption
  · rw [tier_loopShow_low] <;> rw [tier_islTierTo]
    exact h

/-- An island that regulates nothing keeps its last target (R134). -/
theorem islTarget_idle {w : Work} {n : Nat} (h : regulating (w.isl n).st = false) : w.islTarget n = (w.isl n).target := by
  simp only [regulating, decide_eq_false_iff_not, not_or] at h
  obtain ⟨regulate, failLow, -, noreg⟩ := h
  unfold Work.islTarget
  rw [if_neg (by simp [failLow, noreg]), if_neg (by simp [regulate])]

theorem tier_islTier_idle {w : Work} {n : Nat} (k : Nat) (h : regulating (w.isl n).st = false) : ((w.islTier n k).isl n).tier = k := by
  unfold Work.islTier
  split
  · assumption
  · have st : ((w.islTierTo n k).isl n).st = (w.isl n).st := of_core Isl.st ((Shown.refl w).islTierTo k).isl
    rw [tier_loopShow, tier_islAim, if_pos (islTarget_idle (by rw [st, h])), tier_islTierTo]

/-! WAKE_DONE -/

/-- An island by what it reads of its retained memory: a failed check leaves PAIRED 0, the default hold, and all of it to be rewritten
(R154). -/
def retained (r : Bool) (i : Isl) : Isl := if r then i else { i with retBad := [0, 1, 2], paired := false, phold := 20 }

/-- R134, R154: at the end of WAKE the island takes the state of its stored mode, and then acts on its command. -/
theorem wakeDone_spec {w : Work} {n : Nat} (r l : Bool) (st : (w.isl n).st = isWake) :
    ∃ v, LoopStep n w v { retained r (w.isl n) with st := (retained r (w.isl n)).wokenState }
      ∧ wakeDone n r l w = (v.islObey n (v.islCommand n)).loopShow n := by
  unfold wakeDone
  rw [if_neg (not_not.2 st)]
  extract_lets _ read told tested woken
  have readS : LoopStep n w read (retained r (w.isl n)) := by
    unfold read retained
    cases r with
    | true => exact .refl w
    | false => exact (LoopStep.refl w).islSet (fun i => { i with retBad := [0, 1, 2], paired := false, phold := 20 }) fun _ => rfl
  have testedS : LoopStep n w tested (retained r (w.isl n)) := (readS.when _ (readS.blockFault _ _ _)).blockFault _ _ _
  refine ⟨woken, ?_, rfl⟩
  rw [← of_core Isl.wokenState testedS.isl]
  exact testedS.islState _

/-! AHOLD_EXIT -/

/-- What the module commands an island does not depend on its state (R124). -/
theorem islCommand_islState (w : Work) (n k : Nat) : (w.islState n k).islCommand n = w.islCommand n := by
  unfold Work.islState
  extract_lets from6 now
  let taken := w.islSet n fun i => { i with st := k, regSince := if from6 then some now else if k = isRegulate then i.regSince else none }
  have shown : Shown n taken (taken.loopShow n) := (Shown.refl taken).loopShow
  have cfg (f : Fld) : (taken.loopShow n).get (LOOP.CFG n) f = w.get (LOOP.CFG n) f := by
    simp only [loop_regs, shown.get (show 0x40 ∉ _ by decide)]
    rfl
  have sel : ((taken.loopShow n).isl n).trimSel = (w.isl n).trimSel := by
    rw [of_core Isl.trimSel shown.isl, isl_islSet, if_pos rfl]
  obtain ⟨_, rest⟩ := shown.rest
  show (taken.loopShow n).islCommand n = _
  unfold Work.islCommand Work.loopMode Work.flag
  rw [cfg, cfg, sel, rest]
  rfl

/-! The states -/

section
variable {s : State} {n : Nat} (hq : Quiet s) (hn : n < 48)
include hq hn

/-- R138: an output island in REGULATE loses its link. -/
theorem runs_islandLinkLost (mode : (island s n).mode = 2) (st : (island s n).st = isRegulate) (link : (island s n).link = true) :
    Runs (.islandLinkLost n) s fun t => (island t n).st = (if (island s n).paired then isPhold else isFailLow) ∧ (island t n).link = false
      ∧ (island t n).linkLost = true ∧ Same (fun a => a / 4096 = loopPage n ∨ Follows a) s t := by
  have effect : islandLinkLost n (begin s)
      = (((begin s).islSet n fun i => { i with link := false, linkLost := true }).hartLost n).islState n ((island s n).fallback isRegulate) := by
    unfold islandLinkLost
    extract_lets i cut lost
    have alive : ¬ (i.st = isDark ∨ i.st = isWake ∨ i.link = false) := by
      show ¬ ((island s n).st = _ ∨ (island s n).st = _ ∨ (island s n).link = false)
      rw [st, link]; decide
    have output : ¬ i.mode ≠ 2 := not_not.2 mode
    have regulates : i.st = isRegulate := st
    rw [if_neg alive, if_neg output, if_neg (by rw [regulates]; decide), regulates]
    rfl
  have step := ((LoopStep.refl (n := n) (begin s)).islSet (fun i => { i with link := false, linkLost := true }) fun _ => rfl).hartLost.islState
    ((island s n).fallback isRegulate)
  rw [← effect] at step
  refine runs_island (exec_present hn rfl) hq step fun t ht => ?_
  have left := ht.core step
  refine ⟨?_, of_core Isl.link left, of_core Isl.linkLost left, ht.same⟩
  rw [of_core Isl.st left]
  unfold Isl.fallback
  rfl


/-- R133, R134: an island goes dark. -/
theorem runs_islandDark (st : (island s n).st ≠ isDark) :
    Runs (.islandDark n) s fun t => (island t n).st = isDark ∧ (island t n).tier = 0 ∧ (island t n).txn = none
      ∧ (island t n).paired = (island s n).paired ∧ (island t n).switch = (island s n).switch
      ∧ Same (fun a => a / 4096 = loopPage n ∨ Follows a) s t := by
  let lost := ((begin s).hartLost n).islSet n fun i => { i with tier := 0, zone := 2, rbZone := 2, cur := 0, link := false }
  have effect : islandDark n (begin s) = lost.islState n isDark := by
    unfold islandDark
    exact if_neg st
  have step := ((LoopStep.refl (n := n) (begin s)).hartLost.islSet
    (fun i => { i with tier := 0, zone := 2, rbZone := 2, cur := 0, link := false }) fun _ => rfl).islState isDark
  rw [← effect] at step
  have tier0 : (lost.isl n).tier = 0 := by rw [isl_islSet, if_pos rfl]
  have tier : ((islandDark n (begin s)).isl n).tier = 0 := by rw [effect, tier_islState_low _ (by omega), tier0]
  refine runs_island (exec_present hn rfl) hq step fun t ht => ?_
  have left := ht.core step
  exact ⟨of_core Isl.st left, by rw [ht.isl, tier], of_core Isl.txn left, (of_core Isl.paired left :), (of_core Isl.switch left :), ht.same⟩

/-- R133, R134: an island wakes. -/
theorem runs_islandWake (cur : Nat) (st : (island s n).st = isDark) (enough : 15000 ≤ cur) :
    Runs (.islandWake n cur) s fun t => (island t n).st = isWake ∧ (island t n).tier = 1 ∧ (island t n).linkLost = false
      ∧ Same (fun a => a / 4096 = loopPage n ∨ Follows a) s t := by
  let woken := (begin s).islSet n fun i => { i with tier := 1, linkLost := false, cur := cur, link := true }
  let counted := woken.when (woken.alive && woken.enabled (loopPage n)) fun w => w.incSat (LOOP.COUNTS n) LOOP.COUNTS_WAKECNT
  have effect : islandWake n cur (begin s) = counted.islState n isWake := by
    unfold islandWake
    exact if_neg (not_or.2 ⟨not_not.2 st, by omega⟩)
  have countedS : Shown n woken counted := (Shown.refl woken).when _ ((Shown.refl woken).put (shown_counts n) _ _)
  have step := (((LoopStep.refl (n := n) (begin s)).islSet
    (fun i => { i with tier := 1, linkLost := false, cur := cur, link := true }) fun _ => rfl).shown countedS).islState isWake
  rw [← effect] at step
  have tier1 : (counted.isl n).tier = 1 := by
    show ((woken.when _ _).isl n).tier = 1
    rw [isl_when, isl_incSat, ite_self, isl_islSet, if_pos rfl]
  have tier : ((islandWake n cur (begin s)).isl n).tier = 1 := by rw [effect, tier_islState_low _ (by omega), tier1]
  refine runs_island (exec_present hn rfl) hq step fun t ht => ?_
  have left := ht.core step
  exact ⟨of_core Isl.st left, by rw [ht.isl, tier], of_core Isl.linkLost left, ht.same⟩


/-- R134: an island that is no output has read its retained memory. -/
theorem runs_wakeDone_noOutput (r l : Bool) (st : (island s n).st = isWake) (mode : (island s n).mode ≠ 2) :
    Runs (.wakeDone n r l) s fun t => (island t n).st = (if (island s n).mode = 1 then isMeasure else isOff)
      ∧ (r = false → (island t n).paired = false ∧ (island t n).phold = 20 ∧ (island t n).retBad = [0, 1, 2])
      ∧ Same (fun a => a / 4096 = loopPage n ∨ Follows a) s t := by
  have woken : (retained r (island s n)).wokenState = if (island s n).mode = 1 then isMeasure else isOff := by
    have kept : (retained r (island s n)).mode = (island s n).mode := by cases r <;> rfl
    unfold Isl.wokenState
    rw [kept, if_neg mode]
  obtain ⟨v, step, effect⟩ := wakeDone_spec (w := begin s) r l st
  rw [isl_begin, woken] at step
  have idle : (v.isl n).st = isMeasure ∨ (v.isl n).st = isOff := by
    rw [step.fields.1]
    exact (ite_eq_or_eq _ isMeasure isOff)
  rw [islObey_idle idle] at effect
  have shown := step.loopShow
  rw [← effect] at shown
  refine runs_island (exec_present hn rfl) hq shown fun t ht => ?_
  have left := ht.core shown
  refine ⟨of_core Isl.st left, ?_, ht.same⟩
  rintro rfl
  exact ⟨of_core Isl.paired left, of_core Isl.phold left, of_core Isl.retBad left⟩

/-- R134: an output island that finds no link stands by, or falls back to its low current. -/
theorem runs_wakeDone_unlinked (l : Bool) (st : (island s n).st = isWake) (link : (island s n).link = false) (mode : (island s n).mode = 2) :
    Runs (.wakeDone n true l) s fun t => (island t n).st = if (island s n).paired then isBypass else isFailLow := by
  have woken : (retained true (island s n)).wokenState = if (island s n).paired then isBypass else isFailLow := by
    show (island s n).wokenState = _
    unfold Isl.wokenState
    rw [if_neg (by omega), if_pos mode]
  obtain ⟨v, step, effect⟩ := wakeDone_spec (w := begin s) true l st
  rw [isl_begin, woken] at step
  rw [islObey_unlinked (step.fields.2.1.trans link)] at effect
  have shown := step.loopShow
  rw [← effect] at shown
  exact runs_island (exec_present hn rfl) hq shown fun t ht => of_core Isl.st (ht.core shown)

/-- R114: below 5.7 mA an island that is no output runs in tier 1 at most. -/
theorem runs_tierDown (cur : Nat) (st : (island s n).st ≠ isDark) (mode : (island s n).mode ≠ 2) (low : cur < 57000) :
    Runs (.tierDown n cur) s fun t => (island t n).tier = min (island s n).tier 1 ∧ (island t n).st = (island s n).st := by
  have current : (begin s).tierCurrent n cur = cur := if_neg fun k => mode k.1
  have effect : tierDown n cur (begin s) = (begin s).islTier n (min (island s n).tier 1) := by
    unfold tierDown
    dsimp only
    rw [current, isl_begin, if_neg st, if_pos (by omega)]
  have step := (LoopStep.refl (n := n) (begin s)).islTier (min (island s n).tier 1)
  rw [← effect] at step
  refine runs_island (exec_present hn rfl) hq step fun t ht => ⟨?_, (of_core Isl.st (ht.core step) :)⟩
  rw [ht.isl, effect, tier_islTier_low _ _ (by omega)]

/-- R113: at 10.0 mA an island that does not regulate runs in tier 3. -/
theorem runs_tierUp (cur : Nat) (st : (island s n).st ≠ isDark) (ahold : (island s n).st ≠ isAhold) (idle : regulating (island s n).st = false)
    (high : 100000 ≤ cur) :
    Runs (.tierUp n cur) s fun t => (island t n).tier = max (island s n).tier 3 ∧ (island t n).st = (island s n).st := by
  have current : (begin s).tierCurrent n cur = cur := if_neg fun k => absurd (k.2.symm.trans idle) (by decide)
  have effect : tierUp n cur (begin s) = (begin s).islTier n (max (island s n).tier 3) := by
    unfold tierUp
    dsimp only
    rw [current, isl_begin, if_neg (not_or.2 ⟨st, ahold⟩), if_pos (by omega)]
  have step := (LoopStep.refl (n := n) (begin s)).islTier (max (island s n).tier 3)
  rw [← effect] at step
  refine runs_island (exec_present hn rfl) hq step fun t ht => ⟨?_, (of_core Isl.st (ht.core step) :)⟩
  rw [ht.isl, effect, tier_islTier_idle (w := begin s) _ idle]

/-- R123: an output island that regulates enters AHOLD. -/
theorem runs_aholdEnter (mode : (island s n).mode = 2) (regulates : regulating (island s n).st = true) :
    Runs (.aholdEnter n) s fun t => (island t n).st = isAhold ∧ (island t n).prev = (island s n).st ∧ (island t n).tier = 1
      ∧ Same (fun a => a / 4096 = loopPage n ∨ Follows a) s t := by
  let noted := (begin s).islSet n fun j => { j with prev := (island s n).st }
  have effect : aholdEnter n (begin s) = (noted.islTier n 1).islState n isAhold := by
    unfold aholdEnter
    exact if_pos ⟨mode, regulates⟩
  have step := (((LoopStep.refl (n := n) (begin s)).islSet (fun j => { j with prev := (island s n).st }) fun _ => rfl).islTier 1).islState isAhold
  rw [← effect] at step
  have tier : ((aholdEnter n (begin s)).isl n).tier = 1 := by
    rw [effect, tier_islState_low] <;> rw [tier_islTier_low _ _ (by omega)]
  refine runs_island (exec_present hn rfl) hq step fun t ht => ?_
  have left := ht.core step
  exact ⟨of_core Isl.st left, (of_core Isl.prev left :), by rw [ht.isl, tier], ht.same⟩

/-- R123: an island that has no command leaves AHOLD for the state it left. -/
theorem runs_aholdExit (st : (island s n).st = isAhold) (free : (begin s).islCommand n = .none) :
    Runs (.aholdExit n) s fun t => (island t n).st = (island s n).prev ∧ Same (fun a => a / 4096 = loopPage n ∨ Follows a) s t := by
  have effect : aholdExit n (begin s) = ((begin s).islState n (island s n).prev).loopShow n := by
    unfold aholdExit
    rw [isl_begin, if_pos st]
    dsimp only
    rw [islCommand_islState, free, islObey_none]
  have step := ((LoopStep.refl (n := n) (begin s)).islState (island s n).prev).loopShow
  rw [← effect] at step
  exact runs_island (exec_present hn rfl) hq step fun t ht => ⟨of_core Isl.st (ht.core step), ht.same⟩

/-- R134: the longest hold has passed. -/
theorem runs_pholdExpired (st : (island s n).st = isPhold) : Runs (.pholdExpired n) s fun t => (island t n).st = isBypass := by
  have effect : pholdExpired n (begin s) = (begin s).islState n isBypass := if_pos st
  have step := (LoopStep.refl (n := n) (begin s)).islState isBypass
  rw [← effect] at step
  exact runs_island (exec_present hn rfl) hq step fun t ht => of_core Isl.st (ht.core step)

/-- R136: no regulator drives the loop of an output island that stands by. -/
theorem runs_noregEnter (st : (island s n).st = isBypass) (mode : (island s n).mode = 2) :
    Runs (.noregEnter n) s fun t => (island t n).st = isNoreg := by
  have effect : noregEnter n (begin s) = (begin s).islState n isNoreg := if_pos ⟨st, mode⟩
  have step := (LoopStep.refl (n := n) (begin s)).islState isNoreg
  rw [← effect] at step
  exact runs_island (exec_present hn rfl) hq step fun t ht => of_core Isl.st (ht.core step)

end

/-- Settles O13, command by command. The states after a loss of the link, at the wake and at the end of AHOLD follow the words that the
island retains (log entry 195). -/
theorem islandStates : Obligations.IslandStates := by
  intro s n hq hn
  exact ⟨runs_islandLinkLost hq hn, runs_islandDark hq hn, runs_islandWake hq hn, runs_wakeDone_noOutput hq hn, runs_wakeDone_unlinked hq hn,
    runs_tierDown hq hn, runs_tierUp hq hn, runs_aholdEnter hq hn, runs_aholdExit hq hn, runs_pholdExpired hq hn, runs_noregEnter hq hn⟩

end Sys2Proof.Proofs
end

section
/-! PROOF. Samples, read-back, comparators and the loop supply of an island (R116 to R119, R122, R125, R128): each command by what its effect
leaves of the channel's page and of the island. -/

namespace Sys2Proof.Proofs

open Sys2Proof.Machine Sys2Proof.Laws

/-! What a page shows -/

section
variable {w : Work} {n : Nat} (shows : Showing w n)
include shows

/-- Beside the quality a page shows STAT as its flags were set. -/
theorem stat_loopShow : StatShows n w (w.loopShow n) := by
  obtain ⟨v, -, stat, eq⟩ := loopShow_eq w n
  have read (f : Fld) (hf : f.lo + f.w ≤ 32) (d : f.lo + f.w ≤ 8 ∨ 11 ≤ f.lo) :
      (w.loopShow n).get (LOOP.STAT n) f = v.get (LOOP.STAT n) f := by
    rw [eq, if_pos shows, (keeps_hartShow _ n).get (by simp [loop_regs]), get_put_other _ _ _ _ _ hf d]
  have sticky (f : Fld) : (w.loopShow n).get (LOOP.STICKY n) f = v.get (LOOP.STICKY n) f := by
    rw [eq, if_pos shows, (keeps_hartShow _ n).get (by simp [loop_regs]), get_put_ne _ _ _ _ _ _ (sticky_ne_stat n).symm]
  exact {
    dark := by rw [read _ (by decide) (by decide), stat.dark]
    lowcur := by rw [read _ (by decide) (by decide), stat.lowcur]
    highcur := by rw [read _ (by decide) (by decide), stat.highcur]
    lsfault := by rw [read _ (by decide) (by decide), stat.lsfault]
    trimming := by rw [read _ (by decide) (by decide), stat.trimming]
    rbdev := by rw [read _ (by decide) (by decide), stat.rbdev]
    overcur := by rw [read _ (by decide) (by decide)]; exact stat.overcur
    compliance := by rw [read _ (by decide) (by decide), sticky]; exact stat.compliance }

/-- R117: the quality of an input that is awake, answers, is not in trim and agrees with its read-back is that of its zone. -/
theorem qual_loopShow_input (input : w.loopMode n = 1) (trimming : w.get (LOOP.STAT n) LOOP.STAT_TRIMMING = 0)
    (rbdev : w.get (LOOP.STAT n) LOOP.STAT_RBDEV = 0) (st : (w.isl n).st = isMeasure) (link : (w.isl n).link = true) :
    (w.loopShow n).get (LOOP.STAT n) LOOP.STAT_QUAL = zoneQual (w.isl n).zone := by
  obtain ⟨v, shown, stat, eq⟩ := loopShow_eq w n
  have qual : v.loopQual n = zoneQual (w.isl n).zone := by
    have mode : v.loopMode n = 1 := shown.loopMode.trans input
    have dark : v.get (LOOP.STAT n) LOOP.STAT_DARK = 0 := by rw [stat.dark, st, link]; rfl
    unfold Work.loopQual Work.flag
    rw [if_pos mode, stat.trimming, trimming, stat.rbdev, rbdev, dark, of_core Isl.st shown.isl, st, of_core Isl.zone shown.isl]
    simp [isMeasure, isDark, isWake]
  have small : zoneQual (w.isl n).zone < 8 := by unfold zoneQual qGood qUncertain qBad; split_ifs <;> decide
  rw [eq, if_pos shows, (keeps_hartShow _ n).get (by simp [loop_regs]), get_put_same _ _ _ _ (by decide), qual]
  exact Nat.mod_eq_of_lt small

end

/-- What it takes for a channel to publish (R110). -/
theorem publishes_iff (w : Work) (n : Nat) : w.publishes n = true ↔
    Showing w n ∧ (w.isl n).st ≠ isDark ∧ (w.isl n).st ≠ isWake ∧ w.loopMode n ≠ 0 := by
  simp [Work.publishes, Showing, and_assoc]

theorem showing_of_live {s : State} {n : Nat} (live : Live s) (on : PageOn s (loopPage n)) : Showing (begin s) n := by
  have alive : (begin s).alive = true := by simp [Work.alive, live.1, live.2]
  have enabled : (begin s).enabled (loopPage n) = true := decide_eq_true on
  simp [Showing, alive, enabled]

theorem showing_of_noise {u w : Work} {n : Nat} (h : Noise u.x w.x) (pgctl : w.rd (HDR.PGCTL (loopPage n)) = u.rd (HDR.PGCTL (loopPage n)))
    (shows : Showing u n) : Showing w n := by
  have alive : w.alive = u.alive := by unfold Work.alive; rw [h.eq, noisy_mode]
  have enabled : w.enabled (loopPage n) = u.enabled (loopPage n) := by unfold Work.enabled Work.flag Work.get; rw [pgctl]
  unfold Showing
  rw [alive, enabled, shows]

theorem showing_blockFault {w : Work} {n : Nat} (hn : n < 48) (p m : Nat) (on : Bool) (h : Showing w n) :
    Showing (w.blockFault (loopPage n) p m on) n := by
  refine showing_of_noise (blockFault_spec ..).1 (rd_blockFault _ _ _ _ _ _ ⟨?_, ?_, ?_⟩) h
  · simp only [loop_regs]; exact notCause_loopReg hn (by decide)
  · simp [loop_regs]
  · simp [loop_regs]

/-! A published sample shows that the island answers -/

theorem keeps_islState (w : Work) (n k : Nat) : Keeps (ShownRegs n) w (w.islState n k) := by
  unfold Work.islState
  extract_lets from6 now
  exact (Shown.refl _).loopShow.regs

theorem keeps_islObey (w : Work) (n : Nat) (c : IslCmd) : Keeps (ShownRegs n) w (w.islObey n c) := by
  rcases islObey_cases w n c with eq | ⟨k, eq⟩
  · rw [eq]; exact Keeps.refl _ _
  · rw [eq]; exact keeps_islState w n k

theorem keeps_islHeard (w : Work) (n : Nat) : Keeps (ShownRegs n) w (w.islHeard n) := by
  unfold Work.islHeard
  extract_lets heard
  split
  · exact Keeps.refl _ _
  · split
    · exact keeps_islObey heard n _
    · exact Keeps.refl _ _

theorem LoopStep.islHeard {n : Nat} {u w : Work} {i : Isl} (h : LoopStep n u w i) :
    ∃ k, LoopStep n u (w.islHeard n) { i with link := true, st := k } := by
  unfold Work.islHeard
  extract_lets heard
  have heardS : LoopStep n u heard { i with link := true } := h.islSet (fun i => { i with link := true }) fun _ => rfl
  split
  · rename_i link
    have linked : i.link = true := h.fields.2.1.symm.trans link
    exact ⟨i.st, h.as (by rw [← linked])⟩
  · split
    · exact heardS.islObey _
    · exact ⟨i.st, heardS⟩

/-- An island that does not hold its output for want of a link is found alive, and nothing else. -/
theorem islHeard_awake {w : Work} {n : Nat} (h : (w.isl n).st ≠ isPhold) :
    (∀ a f, (w.islHeard n).get a f = w.get a f) ∧ (w.islHeard n).isl n = { w.isl n with link := true } := by
  unfold Work.islHeard
  extract_lets heard
  have heardI : heard.isl n = { w.isl n with link := true } := by rw [isl_islSet, if_pos rfl]
  split
  · rename_i link
    exact ⟨fun _ _ => rfl, by rw [← link]⟩
  · rw [if_neg (by rw [heardI]; exact h)]
    exact ⟨fun _ _ => rfl, heardI⟩

/-! LOOP_SAMPLE -/

/-- The value that a sample publishes: the trimmed one of an input, of an output as measured (R140, R149). -/
def sampleValue (w : Work) (n : Nat) (raw : Int) : Int := if w.loopMode n = 1 then trimmed raw (w.trimZ n) (w.trimS n) else raw

/-- `z` holds a sample of island `n` that answers in `u`: its registers, the zone of an input, and of STAT what a sample does not concern. -/
structure Sampled (n : Nat) (raw : Int) (d : Nat) (u z : Work) : Prop where
  value : z.get (LOOP.VALUE n) LOOP.VALUE_I = unsignedOf 32 (sampleValue u n raw)
  drop : z.get (LOOP.VDROP n) LOOP.VDROP_DROP = d % 65536
  headroom : z.get (LOOP.VDROP n) LOOP.VDROP_HEADROOM = unsignedOf 16 (if u.loopMode n = 1 then 0 else (d : Int) - vOmin raw)
  stat : ∀ f ∈ [LOOP.STAT_TRIMMING, LOOP.STAT_RBDEV], z.get (LOOP.STAT n) f = u.get (LOOP.STAT n) f
  zone : u.loopMode n = 1 → z.isl n = { u.isl n with zone := zoneOf (u.isl n).zone (sampleValue u n raw), cur := sampleValue u n raw }
  page : Keeps (fun a => ShownRegs n a ∨ a = LOOP.VALUE n ∨ a = LOOP.VDROP n) u z

theorem loopSample_eq {w : Work} {n : Nat} (raw : Int) (d : Nat) (pub : w.publishes n = true) :
    ∃ z i, LoopStep n w z i ∧ Sampled n raw d (w.islHeard n) z ∧ loopSample n raw d w = z.loopShow n := by
  obtain ⟨k, heardS⟩ := (LoopStep.refl (n := n) w).islHeard
  unfold loopSample
  rw [if_neg (by simp [pub])]
  extract_lets heard input v valued dropped zoned cleared
  have value : v = sampleValue heard n raw := by
    show (if decide (heard.loopMode n = 1) = true then _ else _) = _
    simp only [decide_eq_true_eq]
    rfl
  have droppedS : LoopStep n w dropped _ :=
    ((heardS.put (by simp only [loop_pages]) _ _).put (by simp only [loop_pages]) _ _).put (by simp only [loop_pages]) _ _
  have zonedS : ∃ i, LoopStep n w zoned i := by
    unfold zoned Work.classify
    split
    · exact ⟨_, droppedS.islSet (fun s => { s with zone := zoneOf s.zone v, cur := v }) fun _ => rfl⟩
    · exact ⟨_, droppedS.islSet (fun s => { s with cur := raw }) fun _ => rfl⟩
  have zoned_get (a : Nat) (f : Fld) : zoned.get a f = dropped.get a f := by
    unfold zoned
    split <;> rfl
  have clearedS : Shown n zoned cleared := ((Shown.refl zoned).loopCond _ _).ite (Shown.refl zoned)
  have cleared_isl : cleared.isl n = zoned.isl n := by
    unfold cleared
    split
    · exact isl_loopCond _ _ _ _
    · rfl
  obtain ⟨i, step⟩ := zonedS
  refine ⟨cleared, i, step.shown clearedS, ?_, rfl⟩
  have read50 (f : Fld) : cleared.get (LOOP.VALUE n) f = zoned.get (LOOP.VALUE n) f := by
    simp only [loop_regs, clearedS.get (show 0x50 ∉ _ by decide)]
  have read68 (f : Fld) : cleared.get (LOOP.VDROP n) f = zoned.get (LOOP.VDROP n) f := by
    simp only [loop_regs, clearedS.get (show 0x68 ∉ _ by decide)]
  constructor
  case value =>
    rw [read50, zoned_get]
    simp (disch := simp [loop_regs]) only [dropped, Work.putI, get_put_ne]
    exact (get_putI_same _ _ _ _ (by decide)).trans (by rw [value]; rfl)
  case drop =>
    rw [read68, zoned_get]
    simp only [dropped, Work.putI]
    rw [get_put_other _ _ _ _ _ (by decide) (by decide), get_put_same _ _ _ _ (by decide)]
    rfl
  case headroom =>
    rw [read68, zoned_get]
    refine (get_putI_same _ _ _ _ (by decide)).trans ?_
    show unsignedOf 16 (if decide (heard.loopMode n = 1) = true then _ else _) = _
    simp only [decide_eq_true_eq]
    rfl
  case stat =>
    intro f hf
    have cleared_stat : cleared.get (LOOP.STAT n) f = zoned.get (LOOP.STAT n) f := by
      unfold cleared
      split
      · fin_cases hf <;> exact stat_loopCond_other _ _ _ _ _ (by decide) (by decide)
      · rfl
    rw [cleared_stat, zoned_get]
    simp (disch := simp [loop_regs]) only [dropped, valued, Work.putI, get_put_ne]
    rfl
  case zone =>
    intro isInput
    have classified : zoned = dropped.classify n v := if_pos (decide_eq_true isInput)
    rw [cleared_isl, classified, Work.classify, isl_islSet, if_pos rfl, value]
    rfl
  case page =>
    have droppedK : Keeps (fun a => ShownRegs n a ∨ a = LOOP.VALUE n ∨ a = LOOP.VDROP n) heard dropped :=
      (((Keeps.refl _ heard).put (.inr (.inl rfl)) _ _).put (.inr (.inr rfl)) _ _).put (.inr (.inr rfl)) _ _
    have zoned_rd (a : Nat) : zoned.rd a = dropped.rd a := by
      unfold zoned
      split <;> rfl
    have zonedK : Keeps (fun a => ShownRegs n a ∨ a = LOOP.VALUE n ∨ a = LOOP.VDROP n) heard zoned :=
      fun a ha => (zoned_rd a).trans (droppedK a ha)
    exact zonedK.trans (clearedS.regs.mono fun _ h => .inl h)

/-- The registers of a sample as the page shows them. -/
theorem Sampled.shown {n d : Nat} {raw : Int} {u z : Work} (h : Sampled n raw d u z) :
    (z.loopShow n).get (LOOP.VALUE n) LOOP.VALUE_I = unsignedOf 32 (sampleValue u n raw)
      ∧ (z.loopShow n).get (LOOP.VDROP n) LOOP.VDROP_DROP = d % 65536
      ∧ (z.loopShow n).get (LOOP.VDROP n) LOOP.VDROP_HEADROOM = unsignedOf 16 (if u.loopMode n = 1 then 0 else (d : Int) - vOmin raw) := by
  have shown : Shown n z (z.loopShow n) := (Shown.refl z).loopShow
  have read50 (f : Fld) : (z.loopShow n).get (LOOP.VALUE n) f = z.get (LOOP.VALUE n) f := by
    simp only [loop_regs, shown.get (show 0x50 ∉ _ by decide)]
  have read68 (f : Fld) : (z.loopShow n).get (LOOP.VDROP n) f = z.get (LOOP.VDROP n) f := by
    simp only [loop_regs, shown.get (show 0x68 ∉ _ by decide)]
  exact ⟨by rw [read50, h.value], by rw [read68, h.drop], by rw [read68, h.headroom]⟩

theorem loopMode_islHeard (w : Work) (n : Nat) : (w.islHeard n).loopMode n = w.loopMode n :=
  (keeps_islHeard w n).get (by simp [loop_regs, shownRegs_iff]) _

section
variable {s : State} {n : Nat} (hq : Quiet s) (hn : n < 48)
include hq hn

/-- R116, R117, R140: a sample of an input. -/
theorem runs_loopSample_input (raw : Int) (d : Nat) (pub : (begin s).publishes n = true) (mode : loopModeOf s n = 1)
    (trimming : s.get (LOOP.STAT n) LOOP.STAT_TRIMMING = 0) (rbdev : s.get (LOOP.STAT n) LOOP.STAT_RBDEV = 0)
    (st : (island s n).st = isMeasure) : Runs (.loopSample n raw d) s fun t =>
      t.get (LOOP.VALUE n) LOOP.VALUE_I = unsignedOf 32 (trimmed raw ((begin s).trimZ n) ((begin s).trimS n))
      ∧ t.get (LOOP.VDROP n) LOOP.VDROP_DROP = d % 65536 ∧ t.get (LOOP.VDROP n) LOOP.VDROP_HEADROOM = 0
      ∧ t.get (LOOP.STAT n) LOOP.STAT_QUAL = zoneQual (zoneOf (island s n).zone (trimmed raw ((begin s).trimZ n) ((begin s).trimS n)))
      ∧ Same (fun a => a / 4096 = loopPage n ∨ Follows a) s t := by
  obtain ⟨shows, -, -, -⟩ := (publishes_iff _ _).1 pub
  obtain ⟨heard_get, heard_isl⟩ := islHeard_awake (w := begin s) (n := n) (by rw [isl_begin, st]; decide)
  obtain ⟨z, i, step, sampled, effect⟩ := loopSample_eq raw d pub
  have input : ((begin s).islHeard n).loopMode n = 1 := (loopMode_islHeard _ _).trans mode
  have value : sampleValue ((begin s).islHeard n) n raw = trimmed raw ((begin s).trimZ n) ((begin s).trimS n) := by
    unfold sampleValue Work.trimZ Work.trimS Work.getI
    rw [if_pos input, heard_isl, heard_get, heard_get]
  have zone := sampled.zone input
  rw [heard_isl, value] at zone
  have showing : Showing z n := by
    have enabled : z.enabled (loopPage n) = (begin s).enabled (loopPage n) := by
      unfold Work.enabled Work.flag
      rw [sampled.page.get (by simp [loop_regs, shownRegs_iff]), heard_get]
    have alive : z.alive = (begin s).alive := by unfold Work.alive; rw [step.rest.mode]
    unfold Showing
    rw [alive, enabled, shows]
  have qual := qual_loopShow_input showing
    ((sampled.page.get (by simp [loop_regs, shownRegs_iff]) _).trans input)
    ((sampled.stat _ (by decide)).trans ((heard_get _ _).trans trimming)) ((sampled.stat _ (by decide)).trans ((heard_get _ _).trans rbdev))
    (by rw [zone]; exact st) (by rw [zone])
  obtain ⟨valueR, dropR, headroomR⟩ := sampled.shown
  rw [if_pos input] at headroomR
  have shown := step.loopShow
  rw [← effect] at shown valueR dropR headroomR qual
  refine runs_island (exec_present hn rfl) hq shown fun t ht => ?_
  exact ⟨by rw [ht.get hn, valueR, value], by rw [ht.get hn, dropR], by rw [ht.get hn, headroomR]; rfl, by rw [ht.get hn, qual, zone]; rfl,
    ht.same⟩

/-- R112, R116: a sample of an output. -/
theorem runs_loopSample_output (raw : Int) (d : Nat) (pub : (begin s).publishes n = true) (mode : loopModeOf s n = 2) :
    Runs (.loopSample n raw d) s fun t => t.get (LOOP.VALUE n) LOOP.VALUE_I = unsignedOf 32 raw
      ∧ t.get (LOOP.VDROP n) LOOP.VDROP_HEADROOM = unsignedOf 16 ((d : Int) - vOmin raw)
      ∧ Same (fun a => a / 4096 = loopPage n ∨ Follows a) s t := by
  obtain ⟨z, i, step, sampled, effect⟩ := loopSample_eq raw d pub
  have output : ¬ ((begin s).islHeard n).loopMode n = 1 := by
    rw [loopMode_islHeard]
    exact fun k => absurd (mode.symm.trans k) (by decide)
  obtain ⟨valueR, -, headroomR⟩ := sampled.shown
  rw [if_neg output] at headroomR
  rw [sampleValue, if_neg output] at valueR
  have shown := step.loopShow
  rw [← effect] at shown valueR headroomR
  exact runs_island (exec_present hn rfl) hq shown fun t ht => ⟨by rw [ht.get hn, valueR], by rw [ht.get hn, headroomR], ht.same⟩

/-! Read-back -/

/-- R125: the read-back is published. -/
theorem runs_rbSample (rb : Int) (pub : (begin s).publishes n = true) : Runs (.rbSample n rb) s fun t =>
    t.get (LOOP.RBVALUE n) LOOP.RBVALUE_I = unsignedOf 32 rb ∧ Same (fun a => a / 4096 = loopPage n ∨ Follows a) s t := by
  let heard := (begin s).islHeard n
  let read := heard.putI (LOOP.RBVALUE n) LOOP.RBVALUE_I rb
  let zoned := read.islSet n fun i => { i with rbZone := zoneOf i.rbZone rb, cur := if i.st = isBypass then rb else i.cur }
  have effect : rbSample n rb (begin s) = zoned.loopShow n := by
    unfold rbSample
    exact if_neg (by simp [pub])
  obtain ⟨k, heardS⟩ := (LoopStep.refl (n := n) (begin s)).islHeard
  have step := ((heardS.put (a := LOOP.RBVALUE n) (by simp only [loop_pages]) LOOP.RBVALUE_I (unsignedOf 32 rb)).islSet
    (fun i => { i with rbZone := zoneOf i.rbZone rb, cur := if i.st = isBypass then rb else i.cur }) fun _ => rfl).loopShow
  have value : (zoned.loopShow n).get (LOOP.RBVALUE n) LOOP.RBVALUE_I = unsignedOf 32 rb := by
    have shown : (zoned.loopShow n).get (LOOP.RBVALUE n) LOOP.RBVALUE_I = read.get (LOOP.RBVALUE n) LOOP.RBVALUE_I := by
      simp only [loop_regs, (Shown.refl zoned).loopShow.get (show 0x54 ∉ _ by decide)]
      rfl
    exact shown.trans (get_putI_same _ _ _ _ (by decide))
  rw [← effect] at value
  refine runs_island (exec_present hn rfl) hq (by rw [effect]; exact step) fun t ht => ⟨by rw [ht.get hn, value], ht.same⟩

/-- R125, R126: the difference from the read-back has persisted. -/
theorem runs_rbdevPersist (b : Bool) (pub : (begin s).publishes n = true) (evaluated : (begin s).rbEvaluated n = true)
    (beyond : (begin s).rbBeyond n = b) :
    Runs (.rbdevPersist n b) s fun t => t.get (LOOP.STAT n) LOOP.STAT_RBDEV = if b then 1 else 0 := by
  let told := ((begin s).loopCond n LOOP.STAT_RBDEV b).blockFault (loopPage n) 0x01 0x09 b
  have effect : rbdevPersist n b (begin s) = told.loopShow n := by
    unfold rbdevPersist
    exact if_neg (by simp [pub, evaluated, beyond])
  have step := (((LoopStep.refl (n := n) (begin s)).loopCond LOOP.STAT_RBDEV b).blockFault 0x01 0x09 b).loopShow
  have flag : told.get (LOOP.STAT n) LOOP.STAT_RBDEV = if b then 1 else 0 := by
    show (Work.blockFault _ _ _ _ _).get _ _ = _
    rw [get_blockFault _ _ _ _ _ _ _ ⟨?_, ?_, ?_⟩, stat_loopCond_same _ _ _ _ (by decide) (by decide)]
    · simp only [loop_regs]; exact notCause_loopReg hn (by decide)
    · simp [loop_regs]
    · simp [loop_regs]
  have showing : Showing told n := by
    have asked : Shown n (begin s) ((begin s).loopCond n LOOP.STAT_RBDEV b) := (Shown.refl (begin s)).loopCond _ _
    exact showing_blockFault hn _ _ _ (asked.showing.2 ((publishes_iff _ _).1 pub).1)
  refine runs_island (exec_present hn rfl) hq (by rw [effect]; exact step) fun t ht => ?_
  rw [ht.get hn, effect, (stat_loopShow showing).rbdev, flag]

/-! Comparators -/

/-- R117 to R119: the comparator of an input. -/
theorem runs_loopComparator (cur : Int) (lim : Bool) (pub : (begin s).publishes n = true) (mode : loopModeOf s n = 1) :
    Runs (.loopComparator n cur lim) s fun t => t.get (LOOP.STAT n) LOOP.STAT_OVERCUR = (if lim then 1 else 0)
      ∧ (island t n).zone = zoneOf (island s n).zone cur ∧ (island t n).cur = cur
      ∧ t.get (LOOP.STAT n) LOOP.STAT_LOWCUR = (if zoneOf (island s n).zone cur = 2 then 1 else 0)
      ∧ t.get (LOOP.STAT n) LOOP.STAT_HIGHCUR = (if zoneOf (island s n).zone cur = 4 then 1 else 0) := by
  let zoned := (begin s).classify n cur
  let told := zoned.loopCond n LOOP.STAT_OVERCUR lim
  have input : (begin s).loopMode n = 1 := mode
  obtain ⟨shows, dark, -, -⟩ := (publishes_iff _ _).1 pub
  have effect : loopComparator n cur lim (begin s) = told.loopShow n := by
    unfold loopComparator
    exact if_neg (by simp [pub, input])
  have step := (((LoopStep.refl (n := n) (begin s)).islSet (fun i => { i with zone := zoneOf i.zone cur, cur := cur }) fun _ => rfl).loopCond
    LOOP.STAT_OVERCUR lim).loopShow
  have toldS : Shown n zoned told := (Shown.refl zoned).loopCond _ _
  have toldI : told.isl n = { island s n with zone := zoneOf (island s n).zone cur, cur := cur } := by
    exact (isl_loopCond _ _ _ _).trans ((isl_islSet _ _ _ _).trans (if_pos rfl))
  have zonedShows : Showing zoned n := shows
  have stat := stat_loopShow (toldS.showing.2 zonedShows)
  have toldM : told.loopMode n = 1 := toldS.loopMode.trans input
  have limited : told.get (LOOP.STAT n) LOOP.STAT_OVERCUR = if lim then 1 else 0 := stat_loopCond_same _ _ _ _ (by decide) (by decide)
  have low := stat.lowcur
  have high := stat.highcur
  rw [toldM, toldI] at low high
  refine runs_island (exec_present hn rfl) hq (by rw [effect]; exact step) fun t ht => ?_
  have left := ht.core (by rw [effect]; exact step)
  exact ⟨by rw [ht.get hn, effect, stat.overcur toldM (by rw [toldI]; exact dark), limited], (of_core Isl.zone left :), (of_core Isl.cur left :),
    by rw [ht.get hn, effect, low]; simp, by rw [ht.get hn, effect, high]; simp⟩

/-- R122: an output that regulates runs out of voltage. -/
theorem runs_complianceSet (pub : (begin s).publishes n = true) (mode : loopModeOf s n = 2) (settled : (begin s).handover n = false)
    (st : (island s n).st = isRegulate) : Runs (.complianceSet n) s fun t => t.get (LOOP.STAT n) LOOP.STAT_COMPLIANCE = 1
      ∧ (s.get (LOOP.STAT n) LOOP.STAT_COMPLIANCE = 0 → t.get (LOOP.STICKY n) LOOP.STAT_COMPLIANCE = 1) := by
  let told := (begin s).loopCond n LOOP.STAT_COMPLIANCE true
  have regulates : regulating (island s n).st = true := by rw [st]; decide
  have effect : complianceSet n (begin s) = told.loopShow n := by
    unfold complianceSet
    dsimp only
    rw [isl_begin, regulates]
    exact if_neg (by simp [pub, settled, show (begin s).loopMode n = 2 from mode])
  have toldS : Shown n (begin s) told := (Shown.refl (begin s)).loopCond _ _
  have toldI : told.isl n = island s n := isl_loopCond _ _ _ _
  obtain ⟨kept, sticky⟩ := (stat_loopShow (toldS.showing.2 ((publishes_iff _ _).1 pub).1)).compliance (by rw [toldI, regulates])
  have step := ((LoopStep.refl (n := n) (begin s)).loopCond LOOP.STAT_COMPLIANCE true).loopShow
  refine runs_island (exec_present hn rfl) hq (by rw [effect]; exact step) fun t ht => ⟨?_, fun low => ?_⟩
  · rw [ht.get hn, effect, kept]
    exact stat_loopCond_same _ _ _ _ (by decide) (by decide)
  · rw [ht.get hn, effect, sticky]
    exact sticky_loopCond_rise _ _ _ (by decide) (by decide) low

/-! The loop supply -/

/-- R128: the switch opens on its limit. -/
theorem runs_lsTrip (closed : (island s n).switch = true) :
    Runs (.lsTrip n) s fun t => (island t n).switch = false ∧ (island t n).lsOpens = (island s n).lsOpens + 1 ∧ (island t n).lsFault = true
      ∧ (Live s → PageOn s (loopPage n) → t.get (LOOP.STAT n) LOOP.STAT_LSFAULT = 1) ∧ Same (fun a => a / 4096 = loopPage n ∨ Follows a) s t := by
  let opened := (begin s).islSet n fun i => { i with switch := false, lsFault := true, lsOpens := i.lsOpens + 1 }
  let risen := opened.when (!(island s n).lsFault) fun w => w.evFlag (loopPage n) noSub (LOOP.STAT n) 22 true
  let told := (risen.loopShow n).evOccur (loopPage n) noSub (LOOP.STAT n) 22 (risen.isl n).lsOpens
  have effect : lsTrip n (begin s) = if opened.alive = false then opened else told := by
    unfold lsTrip
    rw [isl_begin, closed]
    rfl
  have openedS := (LoopStep.refl (n := n) (begin s)).islSet (fun i => { i with switch := false, lsFault := true, lsOpens := i.lsOpens + 1 })
    fun _ => rfl
  have risenS : LoopStep n (begin s) risen _ := openedS.when _ (openedS.emit _ _ _ _)
  have toldS : LoopStep n (begin s) told _ := risenS.loopShow.emit _ _ _ _
  have step : LoopStep n (begin s) (if opened.alive = false then opened else told) _ := openedS.ite toldS
  have fault (shows : Showing (begin s) n) : told.get (LOOP.STAT n) LOOP.STAT_LSFAULT = 1 := by
    have risenN : Noise opened.x risen.x := noise_when _ _ _ (.refl _) fun u => noise_emit _ _ _ _ _
    have pgctl : risen.rd (HDR.PGCTL (loopPage n)) = opened.rd (HDR.PGCTL (loopPage n)) := by
      rw [rd_when, rd_evFlag _ _ _ _ _ _ _ (by simp only [loop_regs]; exact (notCause_loopReg hn (by decide)).1), ite_self]
    have risenI : (risen.isl n).lsFault = true := by
      rw [isl_of_noise risenN, isl_islSet, if_pos rfl]
    show (Work.evOccur _ _ _ _ _ _).get _ _ = 1
    rw [get_evOccur _ _ _ _ _ _ _ _ (by simp only [loop_regs]; exact (notCause_loopReg hn (by decide)).1),
      (stat_loopShow (showing_of_noise risenN pgctl shows)).lsfault, risenI]
    rfl
  refine runs_island (exec_present hn rfl) hq (by rw [effect]; exact step) fun t ht => ?_
  have left := ht.core (by rw [effect]; exact step)
  refine ⟨of_core Isl.switch left, (of_core Isl.lsOpens left :), of_core Isl.lsFault left, fun live on => ?_, ht.same⟩
  have shows := showing_of_live live on
  have up : opened.alive = true := by simp [opened, Work.alive, Work.islSet, live.1, live.2]
  rw [ht.get hn, effect, if_neg (by simp [up]), fault shows]

/-- R128: an open switch closes again, and keeps its fault where it meets its limit again. -/
theorem runs_lsRetry (lim : Bool) (opened : (island s n).switch = false) (supplied : (island s n).lsup = true)
    (present : s.x.loops.vlDown.contains (vlOf n) = false) : Runs (.lsRetry n lim) s fun t =>
      (island t n).switch = true ∧ (island t n).lsFault = ((island s n).lsFault && lim)
      ∧ (Live s → PageOn s (loopPage n) → t.get (LOOP.STAT n) LOOP.STAT_LSFAULT = if (island s n).lsFault && lim then 1 else 0) := by
  let closed := (begin s).islSet n fun i => { i with switch := true, lsFault := i.lsFault && lim }
  have effect : lsRetry n lim (begin s) = closed.loopShow n := by
    unfold lsRetry
    exact if_neg (by simpa [opened, supplied] using present)
  have step := ((LoopStep.refl (n := n) (begin s)).islSet (fun i => { i with switch := true, lsFault := i.lsFault && lim }) fun _ => rfl).loopShow
  refine runs_island (exec_present hn rfl) hq (by rw [effect]; exact step) fun t ht => ?_
  have left := ht.core (by rw [effect]; exact step)
  refine ⟨of_core Isl.switch left, of_core Isl.lsFault left, fun live on => ?_⟩
  have shows : Showing closed n := showing_of_live live on
  rw [ht.get hn, effect, (stat_loopShow shows).lsfault, isl_islSet, if_pos rfl]
  rfl

end

/-- Settles O14. An input's value is trimmed with the rounding that the model chooses (log entry 11, Config.roundsUp). -/
theorem loopMeasurements : Obligations.LoopMeasurements := by
  intro s n hq hn
  exact ⟨runs_loopSample_input hq hn, runs_loopSample_output hq hn, runs_rbSample hq hn, runs_rbdevPersist hq hn, runs_loopComparator hq hn,
    runs_complianceSet hq hn, runs_lsTrip hq hn, runs_lsRetry hq hn⟩

end Sys2Proof.Proofs
end

section
/-! PROOF. Trim (R140, R141, R153): writes of the trim words, the start of TRIM, its keys and its end. -/

namespace Sys2Proof.Proofs

open Sys2Proof.Machine Sys2Proof.Laws

theorem trimz_reg (n : Nat) : LOOP.TRIMZ n = loopReg n 0x60 := by simp only [loop_regs]
theorem trims_reg (n : Nat) : LOOP.TRIMS n = loopReg n 0x64 := by simp only [loop_regs]

/-! A word of a block written by a party -/

/-- An accepted write of a block's word that concerns neither a point record nor a service is its store. -/
theorem write1_block {w : Work} {p : Party} {a : Nat} {v : Word} (present : w.present p = true) (bus : w.busError a = false)
    (free : w.wordRefusal p a v = none) (block : isHdr a = false) (noPoint : kindOf (a / 4096) ≠ .pt)
    (noService : a ≠ PROCTOR.CFG ∧ a ≠ PAIR.CFG) : w.write1 p a v = w.store p a v := by
  have stored : w.wordStore p a v = w.store p a v := by
    unfold Work.wordStore Work.serviceWritten
    rw [if_neg (by simp [block])]
    dsimp only
    rw [if_neg noService.1, if_neg noService.2, ite_self]
  have words : Work.accessWords p [(a, v)] 0 w = (none, w.store p a v) := by simp only [Work.accessWords, free, stored]
  have points : pointsOf [(a, v)] = [] := by simp [pointsOf, noPoint]
  unfold Work.write1 Work.access
  rw [if_neg (by simp [present, bus]), words]
  simp only [points, List.find?_nil]

section
variable {n : Nat} (hn : n < 48)
include hn

theorem kindOf_loopPage : kindOf (loopPage n) = .loop := by
  interval_cases n <;> rfl

/-- The zero trim is the one field of its word, under the page's lock (R151). -/
theorem fieldsOn_trimz : fieldsOn (LOOP.TRIMZ n) = [⟨0, 16, .rwl, .kept, 0, 2⟩] := by
  have off : LOOP.TRIMZ n % 4096 = 0x60 := by unfold LOOP.TRIMZ; omega
  have page : LOOP.TRIMZ n / 4096 = loopPage n := by simp only [loop_pages]
  have fields : fieldsAt (LOOP.TRIMZ n) = [⟨0, 16, .rwl, .kept, 0, 2⟩] := by
    unfold fieldsAt tabOff
    rw [page, kindOf_loopPage hn]
    dsimp only
    rw [off]
    rfl
  unfold fieldsOn
  rw [fields, List.map_singleton, if_neg (by unfold LOOP.TRIMZ TRK.CFG; omega)]

end

/-! Registers that the operations of an island leave -/

theorem get_opEnd_progress (w : Work) (page reason : Nat) (h : w.opBusy page = true) :
    (w.opEnd page opDone reason).get (HDR.OPSTAT page) HDR.OPSTAT_PROGRESS = 100 := by
  unfold Work.opEnd
  rw [if_pos h]
  dsimp only
  rw [get_irq_ne _ _ _ _ _ (irqstat_ne_opstat page), get_upd, get_put_ne _ _ _ _ _ _ (opstat_ne_pgstat page), get_when, if_pos (by decide),
    get_put_same _ _ _ _ (by decide)]
  rfl

/-- STAT.TRIMMING is not the island's to show. -/
theorem trimming_loopShow (w : Work) (n : Nat) :
    (w.loopShow n).get (LOOP.STAT n) LOOP.STAT_TRIMMING = w.get (LOOP.STAT n) LOOP.STAT_TRIMMING := by
  by_cases shows : Showing w n
  · exact (stat_loopShow shows).trimming
  · obtain ⟨v, -, -, eq⟩ := loopShow_eq w n
    rw [eq, if_neg shows]
    exact (keeps_islAim w n).get (by simp [loop_regs]) _

theorem trimming_islObey (w : Work) (n : Nat) (c : IslCmd) :
    (w.islObey n c).get (LOOP.STAT n) LOOP.STAT_TRIMMING = w.get (LOOP.STAT n) LOOP.STAT_TRIMMING := by
  rcases islObey_cases w n c with eq | ⟨k, eq⟩
  · rw [eq]
  · rw [eq, Work.islState, trimming_loopShow]
    rfl

/-! Writes of a trim word -/

namespace LoopStep
variable {n : Nat} {u w : Work} {i : Isl}

/-- The retained memory is rewritten (R154). -/
theorem trimRewritten (h : LoopStep n u w i) (span : Bool) :
    LoopStep n u (w.trimRewritten n span) { i with retBad := i.retBad.filter fun k => decide (k ≠ if span then 2 else 1) } := by
  have rewritten := h.islSet (fun i => { i with retBad := i.retBad.filter fun k => decide (k ≠ if span then 2 else 1) }) fun _ => rfl
  unfold Work.trimRewritten Work.retainShow
  exact rewritten.when _ (rewritten.blockFault _ _ _)

/-- An unlock counts anew (R63). -/
theorem renew (h : LoopStep n u w i) : LoopStep n u (w.renew (loopPage n)) i := by
  unfold Work.renew
  extract_lets t
  have counted : LoopStep n u (w.upd fun x => { x with pages := { x.pages with
      unlocks := x.pages.unlocks.map fun u => if u.page = loopPage n then { u with since := t } else u } }) i :=
    h.more (Keeps.refl _ _) (.of_eq rfl) rfl
  exact (counted.put (by simp only [loop_pages]) _ _).ite h

end LoopStep

theorem rd_renew (w : Work) (page : Nat) {a : Nat} (h : HDR.PGKEY page ≠ a) : (w.renew page).rd a = w.rd a := by
  unfold Work.renew
  dsimp only
  split
  · rw [rd_put_ne _ _ _ _ _ h, rd_upd]
  · rfl

section
variable (w : Work) {n : Nat} (hn : n < 48) {off : Nat} (ho : off < 0x1000) (shown : off ∉ [0x14, 0x58, 0x5c, 0x6c, 0x78])
include hn ho shown

theorem rd_trimRewritten (span : Bool) (health : off ≠ 0x2c) : (w.trimRewritten n span).rd (loopReg n off) = w.rd (loopReg n off) := by
  unfold Work.trimRewritten Work.retainShow
  rw [rd_when, rd_blockFault, rd_islSet, ite_self]
  simp only [loop_regs, ne_eq, loopReg_inj]
  exact ⟨notCause_loopReg hn ho, health, fun e => shown (by simp [e])⟩

/-- A trim word that has changed is recorded (R140, R150). -/
theorem rd_trimRecorded (a : Nat) (old new : Word) (user : Nat) :
    (((w.put (LOOP.STICKY n) LOOP.STICKY_TRIMCHG 1).irq (loopPage n) 27).evWrite (loopPage n) noSub a old new user).rd (loopReg n off)
      = w.rd (loopReg n off) := by
  rw [rd_evWrite _ _ _ _ _ _ _ _ (notCause_loopReg hn ho).1, rd_irq_ne, rd_put_ne]
  · simp only [loop_regs, ne_eq, loopReg_inj]
    exact fun e => shown (by simp [← e])
  · simp only [loop_regs, ne_eq, loopReg_inj]
    exact fun e => shown (by simp [← e])

end

section
variable {n : Nat} (hn : n < 48)
include hn

/-- What follows a write of the zero trim (R140, R154). -/
theorem loopWritten_trimz {u w : Work} {i : Isl} (h : LoopStep n u w i) (user : Nat) (old : Word) :
    (∃ j, LoopStep n u (w.loopWritten user n (LOOP.TRIMZ n) old) j)
      ∧ (w.loopWritten user n (LOOP.TRIMZ n) old).rd (LOOP.TRIMZ n) = w.rd (LOOP.TRIMZ n) := by
  unfold Work.loopWritten
  rw [if_neg (by simp [loop_regs]), if_pos (.inl rfl)]
  extract_lets rewritten recorded
  have rewrittenS := h.trimRewritten (decide (LOOP.TRIMZ n = LOOP.TRIMS n))
  have recordedS : LoopStep n u recorded _ := rewrittenS.when _ (((rewrittenS.put (by simp only [loop_pages]) _ _).irq _).emit _ _ _ _)
  refine ⟨⟨_, recordedS.loopShow⟩, ?_⟩
  have keep : 0x60 ∉ [0x14, 0x58, 0x5c, 0x6c, 0x78] := by decide
  have shown := (Shown.refl (n := n) recorded).loopShow.rd keep
  have rewrote := rd_trimRewritten w hn (by decide) keep (decide (LOOP.TRIMZ n = LOOP.TRIMS n)) (by decide)
  have noted : recorded.rd (loopReg n 0x60) = rewritten.rd (loopReg n 0x60) := by
    rw [rd_when, rd_trimRecorded _ hn (by decide) keep, ite_self]
  rw [trimz_reg, shown, noted, rewrote]

/-- What a loop channel's page does on a write of the zero trim. -/
theorem blockWritten_trimz (w : Work) (p : Party) (old v : Word) :
    w.blockWritten p (LOOP.TRIMZ n) old v = w.loopWritten (w.userOf p) n (LOOP.TRIMZ n) old := by
  have page : LOOP.TRIMZ n / 4096 = loopPage n := by simp only [loop_pages]
  have channel : loopOf (loopPage n) = n := by unfold loopOf loopPage; omega
  unfold Work.blockWritten
  dsimp only
  rw [page, kindOf_loopPage hn]
  dsimp only
  rw [channel, if_neg (by unfold LOOP.TRIMZ LOOP.HCFG LOOP.RBCFG; omega), if_neg (by simp [loop_regs])]

/-- A write of the zero trim touches its field where it changes it (R624). -/
theorem touched_trimz (old v : Word) : touched (LOOP.TRIMZ n) old v
    = if LOOP.TRIMZ_Z.get v = LOOP.TRIMZ_Z.get old then [] else [⟨0, 16, .rwl, .kept, 0, 2⟩] := by
  have touches_iff : touches (LOOP.TRIMZ n) old v ⟨0, 16, .rwl, .kept, 0, 2⟩ = decide (LOOP.TRIMZ_Z.get v ≠ LOOP.TRIMZ_Z.get old) := rfl
  unfold touched
  rw [fieldsOn_trimz hn]
  split
  · exact List.filter_cons_of_neg (by simpa [touches_iff])
  · exact List.filter_cons_of_pos (by simpa [touches_iff])

/-- An accepted write of the zero trim stores it. -/
theorem store_trimz (w : Work) (p : Party) (v : Word) : (∃ j, LoopStep n w (w.store p (LOOP.TRIMZ n) v) j)
    ∧ (w.store p (LOOP.TRIMZ n) v).get (LOOP.TRIMZ n) LOOP.TRIMZ_Z = LOOP.TRIMZ_Z.get v := by
  have page : LOOP.TRIMZ n / 4096 = loopPage n := by simp only [loop_pages]
  have kind := kindOf_loopPage hn
  have whole : effective (LOOP.TRIMZ n) (w.rd (LOOP.TRIMZ n)) v = v := by
    unfold effective frozenMask
    rw [page, kind, if_neg (by simp)]
    show v &&& ~~~0#32 ||| w.rd (LOOP.TRIMZ n) &&& 0#32 = v
    rw [BitVec.not_zero, BitVec.and_allOnes, BitVec.and_zero, BitVec.or_zero]
  have sets : written (LOOP.TRIMZ n) (w.rd (LOOP.TRIMZ n)) v = LOOP.TRIMZ_Z.set (w.rd (LOOP.TRIMZ n)) (LOOP.TRIMZ_Z.get v) := by
    unfold written
    rw [fieldsOn_trimz hn]
    rfl
  have ctl : ctlPage (loopPage n) = loopPage n := by unfold ctlPage; rw [kind]
  unfold Work.store
  dsimp only
  rw [whole, touched_trimz hn, sets, blockWritten_trimz hn, page, ctl]
  by_cases same : LOOP.TRIMZ_Z.get v = LOOP.TRIMZ_Z.get (w.rd (LOOP.TRIMZ n))
  · rw [if_pos (by rw [if_pos same])]
    exact ⟨⟨_, .refl w⟩, same.symm⟩
  · have locked : (([⟨0, 16, .rwl, .kept, 0, 2⟩] : List FDesc).any fun f => decide (f.acc = .rwl)) = true := by decide
    rw [if_neg (by simp [same]), if_neg same, if_pos locked]
    generalize hset : LOOP.TRIMZ_Z.set (w.rd (LOOP.TRIMZ n)) (LOOP.TRIMZ_Z.get v) = new
    have stored : ∃ u : Work, LoopStep n w u (w.isl n) ∧ u.rd (LOOP.TRIMZ n) = new
        ∧ (if new = w.rd (LOOP.TRIMZ n) ∨ isMbData (LOOP.TRIMZ n) = true then w else w.wr (LOOP.TRIMZ n) new) = u := by
      refine ⟨_, ?_, ?_, rfl⟩
      · exact (LoopStep.refl w).ite ((LoopStep.refl w).wr page new)
      · split
        · rename_i old
          exact (old.resolve_right (by simp [isMbData, page, kind])).symm
        · simp
    obtain ⟨u, step, value, eq⟩ := stored
    rw [eq]
    obtain ⟨⟨j, writtenS⟩, kept⟩ := loopWritten_trimz hn step (u.userOf p) (w.rd (LOOP.TRIMZ n))
    refine ⟨⟨j, writtenS.renew⟩, ?_⟩
    show LOOP.TRIMZ_Z.get (Work.rd _ _) = _
    rw [rd_renew _ _ (by simp [loop_regs]), kept, value, ← hset, get_set _ _ _ (by decide)]
    exact Nat.mod_eq_of_lt (get_lt LOOP.TRIMZ_Z v (by decide))

end

end Sys2Proof.Proofs
end

section
/-! PROOF. The commands of TRIM, each by what its effect leaves (R140, R141, R153). -/

namespace Sys2Proof.Proofs

open Sys2Proof.Machine Sys2Proof.Laws

/-! The operation -/

/-- Which channel runs TRIM is said by the operations that run. -/
theorem trimRunning_congr {u w : Work} (h : w.x.pages.ops = u.x.pages.ops) : w.trimRunning = u.trimRunning := by
  unfold Work.trimRunning
  rw [h]

/-- Where no channel runs TRIM, the one on which it begins does. -/
theorem trimRunning_begun {w : Work} {p : Party} {n arg : Nat} {l : List (Nat × Word)} (hn : n < 48) (free : w.trimRunning = none) :
    (w.opBegin p (loopPage n) 1 arg l).trimRunning = some n := by
  let isTrim (o : OpRun) : Bool := decide (0x040 ≤ o.page) && decide (o.page ≤ 0x06F) && decide (o.op = 1)
  have idle : w.x.pages.ops.find? isTrim = none := by
    unfold Work.trimRunning at free
    split at free
    · exact absurd free (by simp)
    · assumption
  have others : (w.x.pages.ops.filter fun o => decide (o.page ≠ loopPage n)).find? isTrim = none :=
    List.find?_eq_none.2 fun o mem => List.find?_eq_none.1 idle o (List.mem_of_mem_filter mem)
  have own : isTrim ⟨loopPage n, 1, arg, p, false, l⟩ = true := by
    simp only [isTrim, loopPage, decide_true, Bool.and_true, Bool.and_eq_true, decide_eq_true_eq]
    omega
  have found : (w.opBegin p (loopPage n) 1 arg l).x.pages.ops.find? isTrim = some ⟨loopPage n, 1, arg, p, false, l⟩ := by
    rw [x_opBegin, List.find?_append, others, Option.none_or, List.find?_cons_of_pos own]
  unfold Work.trimRunning
  rw [found]
  simp only [loopOf, loopPage, Option.some.injEq]
  omega

theorem LoopStep.opBegin {n : Nat} {u w : Work} {i : Isl} (h : LoopStep n u w i) (p : Party) (op arg : Nat) (l : List (Nat × Word)) :
    LoopStep n u (w.opBegin p (loopPage n) op arg l) i := by
  refine h.more ((keeps_opBegin w p (loopPage n) op arg l).mono fun a ha => ?_) (.of_eq (x_opBegin w p (loopPage n) op arg l)) rfl
  rcases ha with rfl | rfl <;> exact .inl (by simp only [loop_pages])

/-- What a page shows of its island leaves the operations that run. -/
theorem ops_loopShow (w : Work) (n : Nat) : (w.loopShow n).x.pages = w.x.pages := by
  obtain ⟨_, rest⟩ := (Shown.refl (n := n) w).loopShow.rest
  rw [rest]

theorem ops_slateRequest (w : Work) (r : Nat) : (w.slateRequest r).x.pages = w.x.pages := by rw [xn_slateRequest, noisy_pages]

/-! Registers beside Slate's -/

theorem get_told {n : Nat} (hn : n < 48) (w : Work) (r : Nat) {a : Nat} (f : Fld) (ha : a / 4096 = loopPage n := by simp only [loop_pages]) :
    (w.slateRequest r).get a f = w.get a f :=
  get_slateRequest _ _ _ _ fun e => by
    rw [e] at ha
    have slate : SLATE.SSTAT / 4096 = 0x29 := by decide
    unfold loopPage at ha
    omega

section
variable {s : State} {n : Nat} (hq : Quiet s) (hn : n < 48)
include hq hn

/-- R140: a write of the zero trim that nothing refuses. -/
theorem runs_trimWrite (p : Party) (v : Word) (present : (begin s).present p = true) (bus : (begin s).busError (LOOP.TRIMZ n) = false)
    (free : (begin s).wordRefusal p (LOOP.TRIMZ n) v = none) :
    Runs (.trimWrite p n false v) s fun t => t.get (LOOP.TRIMZ n) LOOP.TRIMZ_Z = LOOP.TRIMZ_Z.get v
      ∧ Same (fun a => a / 4096 = loopPage n ∨ Follows a) s t := by
  have page : LOOP.TRIMZ n / 4096 = loopPage n := by simp only [loop_pages]
  have off : ¬ LOOP.TRIMZ n % 4096 < 0x40 := by unfold LOOP.TRIMZ; omega
  have effect : trimWrite p n false v (begin s) = (begin s).store p (LOOP.TRIMZ n) v := by
    unfold trimWrite
    rw [if_neg (by omega), if_neg (by decide)]
    refine write1_block present bus free ?_ ?_ ?_
    · simp [isHdr, off]
    · rw [page, kindOf_loopPage hn]
      decide
    · unfold LOOP.TRIMZ PROCTOR.CFG PAIR.CFG
      omega
  obtain ⟨⟨j, step⟩, value⟩ := store_trimz hn (begin s) p v
  rw [← effect] at step value
  exact runs_island (exec_present hn rfl) hq step fun t ht => ⟨by rw [ht.get hn, value], ht.same⟩

/-- R141: TRIM starts. -/
theorem runs_trim (p : Party) (may : MayStart s p (loopPage n) 2 ((begin s).trimModes n)) (free : (begin s).trimRunning = none)
    (awake : (island s n).st ≠ isDark) :
    Runs (.trim p n 0) s fun t => t.get (HDR.OPSTAT (loopPage n)) HDR.OPSTAT_STATE = 1 ∧ t.get (HDR.OPSTAT (loopPage n)) HDR.OPSTAT_OP = 1
      ∧ t.get (LOOP.STAT n) LOOP.STAT_TRIMMING = 1 ∧ (begin t).trimRunning = some n := by
  let begun := (begin s).opBegin p (loopPage n) 1 0
    [(LOOP.TRIMZ n, (begin s).rd (LOOP.TRIMZ n)), (LOOP.TRIMS n, (begin s).rd (LOOP.TRIMS n))]
  let trimming := (begun.put (LOOP.STAT n) LOOP.STAT_TRIMMING 1).islSet n fun i => { i with trimSel := 0, trimDown := false, trimOut := false }
  have effect : trim p n 0 (begin s) = (trimming.loopShow n).slateRequest 4 := by
    unfold trim
    dsimp only
    rw [if_neg (by omega), if_neg (by simp [free]), startOp_begin _ may rfl, if_neg (by decide), isl_begin, if_neg awake]
  have step := ((((LoopStep.refl (n := n) (begin s)).opBegin p 1 0
    [(LOOP.TRIMZ n, (begin s).rd (LOOP.TRIMZ n)), (LOOP.TRIMS n, (begin s).rd (LOOP.TRIMS n))]).put (a := LOOP.STAT n)
      (by simp only [loop_pages]) LOOP.STAT_TRIMMING 1).islSet (fun i => { i with trimSel := 0, trimDown := false, trimOut := false })
        fun _ => rfl).loopShow.slateRequest 4
  have opstat (f : Fld) : ((trimming.loopShow n).slateRequest 4).get (HDR.OPSTAT (loopPage n)) f = f.get 257 := by
    have shown : (trimming.loopShow n).get (HDR.OPSTAT (loopPage n)) f = begun.get (HDR.OPSTAT (loopPage n)) f := by
      have kept : (trimming.loopShow n).get (HDR.OPSTAT (loopPage n)) f = trimming.get (HDR.OPSTAT (loopPage n)) f := by
        simp only [loop_regs, (Shown.refl trimming).loopShow.get (show 0x24 ∉ _ by decide)]
      exact kept.trans (get_put_ne begun _ _ _ _ _ (by simp [loop_regs]))
    rw [get_told hn, shown]
    unfold Work.get
    rw [rd_opstat_opBegin]
    rfl
  have flag : ((trimming.loopShow n).slateRequest 4).get (LOOP.STAT n) LOOP.STAT_TRIMMING = 1 := by
    rw [get_told hn, trimming_loopShow]
    exact get_put_same _ _ _ _ (by decide)
  have running : ((trimming.loopShow n).slateRequest 4).trimRunning = some n :=
    (trimRunning_congr (u := begun) (by rw [ops_slateRequest, ops_loopShow]; rfl)).trans (trimRunning_begun hn free)
  refine runs_island (exec_present hn rfl) hq (by rw [effect]; exact step) fun t ht => ⟨?_, ?_, ?_, ?_⟩
  · rw [ht.get hn, effect, opstat]
    decide
  · rw [ht.get hn, effect, opstat]
    decide
  · rw [ht.get hn, effect, flag]
  · rw [← running, ← effect]
    exact trimRunning_congr (by rw [x_begin, ht.settled.pages])

end

/-! The buttons -/

/-- A button event of a TRIM that no abort stops acts on its channel (R141). -/
theorem trimButton_acts {w : Work} {n : Nat} {o : OpRun} (running : w.trimRunning = some n) (op : w.op? (loopPage n) = some o)
    (standing : o.abort = false) (f : Nat → Work → Work) : w.trimButton f = (f n w).slateRequest 4 := by
  unfold Work.trimButton
  simp only [running, op, standing]
  rfl

/-- What is left where TRIM leaves the page and the trims stand: neither they nor the operation have changed, and TRIMMING is 0 (R141). -/
theorem trimLeave_stands {n : Nat} (hn : n < 48) (w : Work) : (∃ j, LoopStep n w (w.trimLeave n false) j)
    ∧ (∀ off ∈ [0x24, 0x60, 0x64], (w.trimLeave n false).rd (loopReg n off) = w.rd (loopReg n off))
    ∧ (w.trimLeave n false).get (LOOP.STAT n) LOOP.STAT_TRIMMING = 0 := by
  have leave : w.trimLeave n false = (((w.trimOver n).islObey n ((w.trimOver n).islCommand n)).loopShow n).slateRequest 4 := by
    unfold Work.trimLeave
    extract_lets o ended restored
    have same : restored = ended := by
      show (match o with | some _ => _ | none => _) = _
      cases o <;> rfl
    rw [same]
  have endedS : LoopStep n w (w.trimOver n) _ := ((LoopStep.refl w).put (a := LOOP.STAT n) (by simp only [loop_pages]) LOOP.STAT_TRIMMING 0).islSet
    (fun i => { i with trimSel := 0, trimDown := false, trimOut := false }) fun _ => rfl
  obtain ⟨k, obeyed⟩ := endedS.islObey ((w.trimOver n).islCommand n)
  rw [leave]
  refine ⟨⟨_, obeyed.loopShow.slateRequest 4⟩, fun off mem => ?_, ?_⟩
  · have hidden : ¬ ShownRegs n (loopReg n off) := by
      rw [shownRegs_iff]
      fin_cases mem <;> decide
    have small : off < 0x1000 := by fin_cases mem <;> decide
    rw [rd_slateRequest _ _ _ fun e => (notCause_loopReg hn small).2 e, (Shown.refl (n := n) _).loopShow.regs _ hidden,
      keeps_islObey _ _ _ _ hidden]
    exact keeps_put (P := ShownRegs n) w _ _ _ (shown_stat n) _ hidden
  · rw [get_told hn, trimming_loopShow, trimming_islObey]
    exact get_put_same _ _ _ _ (by decide)

theorem unsignedOf_signedOf {k : Nat} (h : k < 2 ^ 16) : unsignedOf 16 (signedOf 16 k) = k := by
  unfold unsignedOf signedOf
  split <;> omega

/-- ZERO pressed at an input: the trim that makes its value 4 mA is set where R140 allows it (R141). -/
theorem trimKey_zero_input {w : Work} {n : Nat} (input : w.loopMode n = 1)
    (within : ((w.getI (LOOP.TRIMZ n) LOOP.TRIMZ_Z + (40000 - w.getI (LOOP.VALUE n) LOOP.VALUE_I)).natAbs : Int) ≤ 2000) :
    w.trimKey false n = (w.islSet n fun i => { i with trimOut := false }).setTrim n false
      (w.getI (LOOP.TRIMZ n) LOOP.TRIMZ_Z + (40000 - w.getI (LOOP.VALUE n) LOOP.VALUE_I)) 0 := by
  have inRange : decide (trimLimit false < ((w.getI (LOOP.TRIMZ n) LOOP.TRIMZ_Z + (40000 - w.getI (LOOP.VALUE n) LOOP.VALUE_I)).natAbs : Int))
      = false := decide_eq_false (not_lt.2 within)
  unfold Work.trimKey
  simp only [input, Bool.false_eq_true, if_true, if_false, inRange]
  rfl

/-- A trim value that is set reads so, whether it changed or not (R140). -/
theorem setTrim_zero {n : Nat} (hn : n < 48) {u w : Work} {i : Isl} (h : LoopStep n u w i) (v : Int) (user : Nat) :
    (∃ j, LoopStep n u (w.setTrim n false v user) j)
      ∧ (w.setTrim n false v user).get (LOOP.TRIMZ n) LOOP.TRIMZ_Z = unsignedOf 16 v := by
  unfold Work.setTrim
  extract_lets a f old changed noted
  split
  case isTrue same =>
    refine ⟨⟨i, h⟩, ?_⟩
    rw [← same]
    exact (unsignedOf_signedOf (get_lt LOOP.TRIMZ_Z _ (by decide))).symm
  case isFalse =>
    have changedS : LoopStep n u changed i := h.put (by show LOOP.TRIMZ n / 4096 = _; simp only [loop_pages]) _ _
    have notedS : LoopStep n u noted i := (changedS.put (by simp only [loop_pages]) _ _).irq _
    refine ⟨⟨_, ((notedS.trimRewritten false).emit _ _ _ _).loopShow⟩, ?_⟩
    have keep : 0x60 ∉ [0x14, 0x58, 0x5c, 0x6c, 0x78] := by decide
    have kept : ((noted.trimRewritten n false).evWrite (loopPage n) noSub a old (noted.rd a) user |>.loopShow n).rd (loopReg n 0x60)
        = changed.rd (loopReg n 0x60) := by
      rw [(Shown.refl (n := n) _).loopShow.rd keep, rd_evWrite _ _ _ _ _ _ _ _ (notCause_loopReg hn (by decide)).1,
        rd_trimRewritten noted hn (by decide) keep false (by decide)]
      exact ((Shown.refl (n := n) changed).put (shown_sticky n) _ _).irq _ |>.rd keep
    rw [trimz_reg]
    unfold Work.get
    rw [kept, ← trimz_reg]
    exact get_putI_same w _ _ _ (by decide)

section
variable {s : State} {n : Nat} {o : OpRun} (hq : Quiet s) (running : (begin s).trimRunning = some n)
  (op : (begin s).op? (loopPage n) = some o) (standing : o.abort = false)
include hq running op standing

/-- R140, R141: ZERO captures the point of an input. -/
theorem runs_trimZeroKey (hn : n < 48) (mode : loopModeOf s n = 1)
    (within : (((begin s).getI (LOOP.TRIMZ n) LOOP.TRIMZ_Z + (40000 - (begin s).getI (LOOP.VALUE n) LOOP.VALUE_I)).natAbs : Int) ≤ 2000) :
    Runs .trimZeroKey s fun t => t.get (LOOP.TRIMZ n) LOOP.TRIMZ_Z
      = unsignedOf 16 ((begin s).getI (LOOP.TRIMZ n) LOOP.TRIMZ_Z + (40000 - (begin s).getI (LOOP.VALUE n) LOOP.VALUE_I)) := by
  let captured := (begin s).getI (LOOP.TRIMZ n) LOOP.TRIMZ_Z + (40000 - (begin s).getI (LOOP.VALUE n) LOOP.VALUE_I)
  have effect : trimZeroKey (begin s) = (((begin s).islSet n fun i => { i with trimOut := false }).setTrim n false captured 0).slateRequest 4 := by
    unfold trimZeroKey
    rw [trimButton_acts running op standing, trimKey_zero_input (w := begin s) mode within]
  obtain ⟨⟨j, step⟩, value⟩ := setTrim_zero hn
    ((LoopStep.refl (n := n) (begin s)).islSet (fun i => { i with trimOut := false }) fun _ => rfl) captured 0
  have told := step.slateRequest 4
  rw [← effect] at told
  refine runs_island rfl hq told fun t ht => ?_
  rw [ht.get hn, effect, get_told hn, value]

/-- R141: SPAN drives an output to the span point. -/
theorem runs_trimSpanKey (mode : loopModeOf s n = 2) (sel : (island s n).trimSel ≠ 2) :
    Runs .trimSpanKey s fun t => (island t n).trimSel = 2 ∧ Same (fun a => a / 4096 = loopPage n ∨ Follows a) s t := by
  let chosen := (begin s).islSet n fun i => { i with trimSel := 2, trimOut := false }
  have effect : trimSpanKey (begin s) = ((chosen.islObey n (chosen.islCommand n)).loopShow n).slateRequest 4 := by
    have output : ¬ (begin s).loopMode n = 1 := fun k => absurd (mode.symm.trans k) (by decide)
    unfold trimSpanKey
    rw [trimButton_acts running op standing]
    unfold Work.trimKey
    dsimp only
    rw [if_neg output, if_pos rfl, isl_begin, if_neg sel]
  obtain ⟨k, obeyed⟩ := ((LoopStep.refl (n := n) (begin s)).islSet (fun i => { i with trimSel := 2, trimOut := false })
    fun _ => rfl).islObey (chosen.islCommand n)
  have step := obeyed.loopShow.slateRequest 4
  refine runs_island rfl hq (by rw [effect]; exact step) fun t ht => ⟨?_, ht.same⟩
  exact (of_core Isl.trimSel (ht.core (by rw [effect]; exact step)) :)

/-- R141: the direction is reversed. -/
theorem runs_trimReverse : Runs .trimReverse s fun t => (island t n).trimDown = (!(island s n).trimDown) ∧ Same Follows s t := by
  let turned := (begin s).islSet n fun i => { i with trimDown := !i.trimDown }
  have effect : trimReverse (begin s) = turned.slateRequest 4 := trimButton_acts running op standing _
  have step := ((LoopStep.refl (n := n) (begin s)).islSet (fun i => { i with trimDown := !i.trimDown }) fun _ => rfl).slateRequest 4
  have kept : Keeps (· = SLATE.SSTAT) (begin s) (trimReverse (begin s)) := by
    rw [effect]
    exact fun a ha => rd_slateRequest turned 4 a ha
  refine runs_island rfl hq (by rw [effect]; exact step) fun t ht =>
    ⟨(of_core Isl.trimDown (ht.core (by rw [effect]; exact step)) :), ht.settled.same_follows kept ?_⟩
  rintro a rfl
  decide

end

/-- R141: an acceptance ends TRIM; the trims stand. -/
theorem runs_trimAccept {s : State} {n : Nat} (hq : Quiet s) (hn : n < 48) (running : (begin s).trimRunning = some n)
    (busy : (begin s).opBusy (loopPage n) = true) : Runs .trimAccept s fun t =>
    t.get (HDR.OPSTAT (loopPage n)) HDR.OPSTAT_STATE = 2 ∧ t.get (HDR.OPSTAT (loopPage n)) HDR.OPSTAT_PROGRESS = 100
      ∧ t.get (LOOP.STAT n) LOOP.STAT_TRIMMING = 0 ∧ t.rd (LOOP.TRIMZ n) = s.rd (LOOP.TRIMZ n) ∧ t.rd (LOOP.TRIMS n) = s.rd (LOOP.TRIMS n) := by
  have effect : trimAccept (begin s) = ((begin s).trimLeave n false).opEnd (loopPage n) opDone 0 := by
    unfold trimAccept
    rw [running]
  obtain ⟨⟨j, left⟩, stood, flag⟩ := trimLeave_stands hn (begin s)
  have still : ((begin s).trimLeave n false).opBusy (loopPage n) = true := by
    have opstat : ((begin s).trimLeave n false).rd (HDR.OPSTAT (loopPage n)) = (begin s).rd (HDR.OPSTAT (loopPage n)) := by
      simp only [loop_regs, stood 0x24 (by decide)]
    unfold Work.opBusy Work.get at busy ⊢
    rw [opstat, busy]
  have step := left.opEnd opDone 0
  have stand (t : State) (ht : IslandShows n s (trimAccept (begin s)) t) (off : Nat) (mem : off ∈ [0x60, 0x64]) :
      t.rd (loopReg n off) = s.rd (loopReg n off) := by
    have small : off < 0x1000 := by fin_cases mem <;> decide
    rw [ht.settled.rd _ (loop_not_follows (loopReg_page small)), effect,
      keeps_opEnd _ _ _ _ _ (by fin_cases mem <;> simp [loop_regs]), stood off (List.mem_cons_of_mem _ mem)]
    rfl
  rw [← effect] at step
  refine runs_island rfl hq step fun t ht => ⟨?_, ?_, ?_, ?_, ?_⟩
  · rw [ht.get hn, effect, (get_opEnd _ _ _ _ still (by decide)).1]
    rfl
  · rw [ht.get hn, effect, get_opEnd_progress _ _ _ still]
  · rw [ht.get hn, effect, (keeps_opEnd _ _ _ _).get (by simp [loop_regs]), flag]
  · rw [trimz_reg, stand t ht 0x60 (by decide)]
  · rw [trims_reg, stand t ht 0x64 (by decide)]

/-- Settles O15, command by command. -/
theorem trimCommands : Obligations.TrimCommands := by
  intro s p n hq hn
  exact ⟨runs_trimWrite hq hn p, runs_trim hq hn p, fun o running op standing => ⟨runs_trimZeroKey hq running op standing hn,
    runs_trimSpanKey hq running op standing, runs_trimReverse hq running op standing, runs_trimAccept hq hn running⟩⟩

end Sys2Proof.Proofs
end

section
/-! PROOF. FSK on a loop channel: the registers of its modem, and what the modem's shared operations leave of them and of the island
(chapter 05). -/

namespace Sys2Proof.Proofs

open Sys2Proof.Machine Sys2Proof.Laws

/-! The registers of a channel's modem -/

/-- They lie in the channel's page, at these offsets (R173 to R176); HSTAT's stands among `loop_regs`. -/
theorem hart_regs (n : Nat) : LOOP.HCFG n = loopReg n 0x70 ∧ LOOP.HPV n = loopReg n 0x7c ∧ LOOP.HSV n = loopReg n 0x80
    ∧ LOOP.HTV n = loopReg n 0x84 ∧ LOOP.HQV n = loopReg n 0x88 ∧ LOOP.HADDR0 n = loopReg n 0x8c ∧ LOOP.HADDR1 n = loopReg n 0x90
    ∧ LOOP.HCNT n = loopReg n 0x94 ∧ LOOP.HBCNT n = loopReg n 0x98 := by
  simp only [LOOP.HCFG, LOOP.HPV, LOOP.HSV, LOOP.HTV, LOOP.HQV, LOOP.HADDR0, LOOP.HADDR1, LOOP.HCNT, LOOP.HBCNT, loopReg]
  omega

theorem hart_pages (n : Nat) : LOOP.HSTAT n / 4096 = loopPage n ∧ LOOP.HPV n / 4096 = loopPage n ∧ LOOP.HSV n / 4096 = loopPage n
    ∧ LOOP.HTV n / 4096 = loopPage n ∧ LOOP.HQV n / 4096 = loopPage n ∧ LOOP.HADDR0 n / 4096 = loopPage n
    ∧ LOOP.HADDR1 n / 4096 = loopPage n ∧ LOOP.HCNT n / 4096 = loopPage n ∧ LOOP.HBCNT n / 4096 = loopPage n := by
  simp only [loop_regs, hart_regs]
  and_intros <;> exact loopReg_page (by decide)

/-! What HSTAT shows of the transmitter -/

/-- Of the island the showing changes the note for the pass-through that waits, and nothing else (R177). -/
theorem isl_hartShow (w : Work) (n : Nat) : ∃ b, (w.hartShow n).isl n = { w.isl n with hartFree := b } := by
  unfold Work.hartShow
  split
  · rw [isl_when]
    split
    · exact ⟨true, by rw [isl_islSet, if_pos rfl]; rfl⟩
    · exact ⟨_, rfl⟩
  · exact ⟨_, rfl⟩

/-- Where a condition of R160 fails, TXOK is 0. -/
theorem txok_hartShow_blocked {w : Work} {n : Nat} (blocked : ∃ k, w.hartBlock n = some k) :
    (w.hartShow n).get (LOOP.HSTAT n) LOOP.HSTAT_TXOK = 0 := by
  obtain ⟨k, eq⟩ := blocked
  unfold Work.hartShow
  rw [eq]
  exact (get_put_other _ _ _ _ _ (by decide) (by decide)).trans (get_put_same _ _ _ _ (by decide))

/-- HERR is not the showing's. -/
theorem herr_hartShow (w : Work) (n : Nat) :
    (w.hartShow n).get (LOOP.HSTAT n) LOOP.HSTAT_HERR = w.get (LOOP.HSTAT n) LOOP.HSTAT_HERR := by
  have put2 (x y : Nat) : ((w.put (LOOP.HSTAT n) LOOP.HSTAT_TXOK x).put (LOOP.HSTAT n) LOOP.HSTAT_TXWHY y).get (LOOP.HSTAT n) LOOP.HSTAT_HERR
      = w.get (LOOP.HSTAT n) LOOP.HSTAT_HERR := by
    rw [get_put_other _ _ _ _ _ (by decide) (by decide), get_put_other _ _ _ _ _ (by decide) (by decide)]
  unfold Work.hartShow
  split
  · rw [get_when, get_islSet, put2, ite_self]
  · exact put2 _ _

/-! What a valid reply publishes (R166) -/

section
variable (w : Work) (n cmd rcode devst : Nat) (vars : List Word)

theorem x_hartPublish : (w.hartPublish n cmd rcode devst vars).x = w.x := by
  unfold Work.hartPublish
  split <;> rfl

@[simp] theorem isl_hartPublish (m : Nat) : (w.hartPublish n cmd rcode devst vars).isl m = w.isl m := by
  unfold Work.isl
  rw [x_hartPublish]

/-- HSTAT takes the status, the response code and age 0, whatever the command. -/
theorem hstat_hartPublish (f : Fld) : (w.hartPublish n cmd rcode devst vars).get (LOOP.HSTAT n) f
    = (((w.put (LOOP.HSTAT n) LOOP.HSTAT_RCODE rcode).put (LOOP.HSTAT n) LOOP.HSTAT_DEVST devst).put (LOOP.HSTAT n)
        LOOP.HSTAT_HAGE 0).get (LOOP.HSTAT n) f := by
  unfold Work.hartPublish
  split
  · simp [loop_regs, hart_regs]
  · rfl

theorem rcode_hartPublish : (w.hartPublish n cmd rcode devst vars).get (LOOP.HSTAT n) LOOP.HSTAT_RCODE = rcode % 256 := by
  rw [hstat_hartPublish, get_put_other _ _ _ _ _ (by decide) (by decide), get_put_other _ _ _ _ _ (by decide) (by decide)]
  exact get_put_same _ _ _ _ (by decide)

theorem devst_hartPublish : (w.hartPublish n cmd rcode devst vars).get (LOOP.HSTAT n) LOOP.HSTAT_DEVST = devst % 256 := by
  rw [hstat_hartPublish, get_put_other _ _ _ _ _ (by decide) (by decide)]
  exact get_put_same _ _ _ _ (by decide)

theorem hage_hartPublish : (w.hartPublish n cmd rcode devst vars).get (LOOP.HSTAT n) LOOP.HSTAT_HAGE = 0 := by
  rw [hstat_hartPublish, get_put_same _ _ _ _ (by decide), Nat.zero_mod]

/-- The bits of HSTAT below the age stand. -/
theorem low_hartPublish {f : Fld} (hf : f.lo + f.w ≤ 8) :
    (w.hartPublish n cmd rcode devst vars).get (LOOP.HSTAT n) f = w.get (LOOP.HSTAT n) f := by
  have word : f.lo + f.w ≤ 32 := by omega
  rw [hstat_hartPublish, get_put_other _ _ _ _ _ word (.inl hf), get_put_other _ _ _ _ _ word (.inl (hf.trans (by decide))),
    get_put_other _ _ _ _ _ word (.inl (hf.trans (by decide)))]

/-- A reply to command 3 brings the first variable. -/
theorem hpv_hartPublish : (w.hartPublish n 3 rcode devst vars).rd (LOOP.HPV n) = vars.getD 0 0x7FC00000 := by
  unfold Work.hartPublish
  simp [hart_regs]

/-- The registers of what is published: HSTAT and the variables. -/
def PublishedRegs (n a : Nat) : Prop := a = LOOP.HSTAT n ∨ a = LOOP.HPV n ∨ a = LOOP.HSV n ∨ a = LOOP.HTV n ∨ a = LOOP.HQV n

theorem keeps_hartPublish : Keeps (PublishedRegs n) w (w.hartPublish n cmd rcode devst vars) := by
  have status := (((Keeps.refl (PublishedRegs n) w).put (.inl rfl) LOOP.HSTAT_RCODE rcode).put (.inl rfl) LOOP.HSTAT_DEVST devst).put
    (.inl rfl) LOOP.HSTAT_HAGE 0
  unfold Work.hartPublish
  split
  · exact (((status.wr (.inr (.inl rfl)) _).wr (.inr (.inr (.inl rfl))) _).wr (.inr (.inr (.inr (.inl rfl)))) _).wr
      (.inr (.inr (.inr (.inr rfl)))) _
  · exact status

end

/-! The modem's operations as work of one island -/

namespace LoopStep
variable {n : Nat} {u w : Work} {i : Isl}

theorem hartShow (h : LoopStep n u w i) : LoopStep n u (w.hartShow n) i := h.shown (Shown.refl w).hartShow

theorem incSat (h : LoopStep n u w i) {a : Nat} (ha : a / 4096 = loopPage n) (f : Fld) : LoopStep n u (w.incSat a f) i := h.put ha _ _

theorem hartFrameEnd (h : LoopStep n u w i) : LoopStep n u (w.hartFrameEnd n) { i with lastEnd := some w.now } :=
  h.islSet (fun i => { i with lastEnd := some w.now }) fun _ => rfl

theorem hartPublish (h : LoopStep n u w i) (cmd rcode devst : Nat) (vars : List Word) :
    LoopStep n u (w.hartPublish n cmd rcode devst vars) i := by
  obtain ⟨hstat, hpv, hsv, htv, hqv, -⟩ := hart_pages n
  refine h.more ((keeps_hartPublish w n cmd rcode devst vars).mono ?_) (.of_noise ?_) (by rw [isl_hartPublish])
  · rintro a (rfl | rfl | rfl | rfl | rfl)
    exacts [.inl hstat, .inl hpv, .inl hsv, .inl htv, .inl hqv]
  · rw [x_hartPublish]
    exact .refl _

end LoopStep

@[simp] theorem isl_hartFrameEnd (w : Work) (n : Nat) : (w.hartFrameEnd n).isl n = { w.isl n with lastEnd := some w.now } := by
  unfold Work.hartFrameEnd
  rw [isl_islSet, if_pos rfl]
@[simp] theorem get_hartFrameEnd (w : Work) (n a : Nat) (f : Fld) : (w.hartFrameEnd n).get a f = w.get a f := rfl

/-! An attempt that fails (R165) -/

/-- The count of failed attempts leaves HCFG. -/
theorem retry_counted (w : Work) (n : Nat) :
    (w.incSat (LOOP.HCNT n) LOOP.HCNT_ERRCNT).get (LOOP.HCFG n) LOOP.HCFG_RETRY = w.get (LOOP.HCFG n) LOOP.HCFG_RETRY :=
  get_incSat_ne _ _ _ _ _ (by simp [hart_regs])

section
variable {w : Work} {n : Nat} {x : HartTxn} (hand : (w.isl n).txn = some x) (sent : x.sent = true)
include hand sent

/-- Within the retries the transaction waits for its next attempt. -/
theorem hartAttemptFails_retries (garbled : Bool) (left : x.tries ≤ w.get (LOOP.HCFG n) LOOP.HCFG_RETRY) :
    w.hartAttemptFails n garbled = (w.incSat (LOOP.HCNT n) LOOP.HCNT_ERRCNT).islSet n fun i =>
      { i with txn := some { x with sent := false, garbled := if garbled then x.garbled + 1 else x.garbled } } := by
  unfold Work.hartAttemptFails
  simp only [hand, sent, retry_counted, left, Bool.true_eq_false, if_true, if_false]

/-- After them a scan item sets HERR. -/
theorem hartAttemptFails_scan {k : Nat} (kind : x.kind = .scan k) (garbled : Bool) (spent : w.get (LOOP.HCFG n) LOOP.HCFG_RETRY < x.tries) :
    w.hartAttemptFails n garbled = ((w.incSat (LOOP.HCNT n) LOOP.HCNT_ERRCNT).islSet n fun i => { i with txn := none }).put (LOOP.HSTAT n)
      LOOP.HSTAT_HERR 1 := by
  unfold Work.hartAttemptFails
  simp only [hand, sent, kind, retry_counted, not_le.2 spent, Bool.true_eq_false, reduceCtorEq, if_false]

end

end Sys2Proof.Proofs
end

section
/-! PROOF. The commands of FSK (R160 to R167, R170, R172, R177), each by what its effect leaves. -/

namespace Sys2Proof.Proofs

open Sys2Proof.Machine Sys2Proof.Laws

/-- The next state's islands are those that the effect left. -/
theorem Settled.island {w : Work} {t : State} (h : Settled w t) (n : Nat) : island t n = w.isl n := by
  unfold Sys2Proof.island Work.isl
  rw [h.loops]

/-! Requests -/

/-- A request to identify the device: sent, and noted as the transaction in hand. -/
def identifySent (n : Nat) (w : Work) : Work :=
  (w.send (.hartRequest n (w.hartFrame n .identify))).islSet n fun i =>
    { i with txn := some ⟨.identify, 1, 0, true⟩, lastTx := some w.now, dropReply := false }

/-- R160, R163: where an island may transmit, the loop is free and the device is not known, identification goes first. -/
theorem hartTxStart_identifies {w : Work} {n : Nat} (on : w.hartOn n = true) (free : w.hartBlock n = none)
    (may : w.hartMayStart n = true) (idle : (w.isl n).txn = none) (unknown : w.get (LOOP.HSTAT n) LOOP.HSTAT_DEV = 0) :
    hartTxStart n w = identifySent n w := by
  have next : w.hartNext n = some .identify := by
    unfold Work.hartNext
    exact if_pos (decide_eq_false (not_not.2 unknown))
  unfold hartTxStart
  rw [if_neg (by simp [on]), if_neg (by simp [free, may])]
  simp only [idle, next, Option.map_some, reduceCtorEq, decide_false, Bool.false_and, Bool.false_eq_true, if_false]
  rfl

/-! Identification -/

/-- The island's transaction is over, and the device's unique identifier stands in HADDR (R163). -/
def identified (n : Nat) (data : List Byte) (w : Work) : Work :=
  (((w.islSet n fun i => { i with txn := none }).wr (LOOP.HADDR0 n) ((wordsOfBytes 2 data).getD 0 0)).put (LOOP.HADDR1 n) LOOP.HADDR1_UIDH
    ((wordsOfBytes 2 data).getD 1 0).toNat).put (LOOP.HSTAT n) LOOP.HSTAT_DEV 1

theorem LoopStep.identified {n : Nat} {u w : Work} {i : Isl} (h : LoopStep n u w i) (data : List Byte) :
    LoopStep n u (identified n data w) { i with txn := none } := by
  obtain ⟨hstat, -, -, -, -, haddr0, haddr1, -⟩ := hart_pages n
  exact (((h.islSet (fun i => { i with txn := none }) fun _ => rfl).wr haddr0 _).put haddr1 _ _).put hstat _ _

section
variable (n : Nat) (data : List Byte) (w : Work)

theorem dev_identified : (identified n data w).get (LOOP.HSTAT n) LOOP.HSTAT_DEV = 1 := get_put_same _ _ _ _ (by decide)

/-- The fields of HSTAT above DEV stand. -/
theorem hstat_identified {f : Fld} (hf : f.lo + f.w ≤ 32) (above : 2 ≤ f.lo) :
    (identified n data w).get (LOOP.HSTAT n) f = w.get (LOOP.HSTAT n) f := by
  unfold identified
  rw [get_put_other _ _ _ _ _ hf (by exact .inr above), get_put_ne _ _ _ _ _ _ (by simp [loop_regs, hart_regs]),
    get_wr_ne _ _ _ _ _ (by simp [loop_regs, hart_regs]), get_islSet]

theorem hcnt_identified (f : Fld) : (identified n data w).get (LOOP.HCNT n) f = w.get (LOOP.HCNT n) f := by
  unfold identified
  rw [get_put_ne _ _ _ _ _ _ (by simp [loop_regs, hart_regs]), get_put_ne _ _ _ _ _ _ (by simp [hart_regs]),
    get_wr_ne _ _ _ _ _ (by simp [hart_regs]), get_islSet]

end

/-- R163, R166: the reply to a standing identification is published and counted, and identifies the device. -/
theorem hartReply_identifies {w : Work} {n : Nat} (rc ds : Nat) (vs : List Word) (data : List Byte) (on : w.hartOn n = true)
    (heeded : (w.isl n).dropReply = false) (hand : (w.isl n).txn = some ⟨.identify, 1, 0, true⟩) :
    hartReply n 0 rc ds vs data w
      = identified n data (((w.hartFrameEnd n).hartPublish n 0 rc ds vs).incSat (LOOP.HCNT n) LOOP.HCNT_OKCNT) := by
  have inHand : ((((w.hartFrameEnd n).hartPublish n 0 rc ds vs).incSat (LOOP.HCNT n) LOOP.HCNT_OKCNT).isl n).txn
      = some ⟨.identify, 1, 0, true⟩ := by
    rw [isl_incSat, isl_hartPublish, isl_hartFrameEnd, ← hand]
  have answers (v : Work) : v.hartCmdOf n .identify = 0 := rfl
  unfold hartReply
  rw [if_neg (by simp [on]), if_neg (by simp [heeded])]
  simp only [inHand, answers, Bool.true_eq_false, ne_eq, not_true_eq_false, or_self, reduceCtorEq, if_false]
  rfl

/-- R161, R167: outside tier 1 every burst frame is accepted. -/
theorem hartBurst_accepts {w : Work} {n : Nat} (c rc ds : Nat) (vs : List Word) (on : w.hartOn n = true) (tier : (w.isl n).tier ≠ 1) :
    hartBurst n c rc ds vs w = (((((w.hartFrameEnd n).put (LOOP.HSTAT n) LOOP.HSTAT_BURST 1).islSet n fun i =>
      { i with lastBurst := some w.now }).incSat (LOOP.HBCNT n) LOOP.HBCNT_RCVD).hartPublish n c rc ds vs) := by
  unfold hartBurst
  rw [if_neg (by simp [on])]
  dsimp only
  rw [isl_put, isl_hartFrameEnd, decide_eq_false tier, Bool.false_and, if_neg Bool.false_ne_true]

section
variable {s : State} {n : Nat} (hq : Quiet s) (hn : n < 48)
include hq hn

/-! HARTCMD -/

/-- R170: a pass-through to an identified device starts, and waits for its turn. -/
theorem runs_hartcmd_starts (p : Party) (c : Nat) (may : MayStart s p (loopPage n) 2 [.held, .ready, .run, .hold])
    (hen : s.get (LOOP.HCFG n) LOOP.HCFG_HEN = 1) (dev : s.get (LOOP.HSTAT n) LOOP.HSTAT_DEV = 1) :
    Runs (.hartcmd p n c) s fun t => t.get (HDR.OPSTAT (loopPage n)) HDR.OPSTAT_STATE = 1
      ∧ t.get (HDR.OPSTAT (loopPage n)) HDR.OPSTAT_OP = 2 ∧ (island t n).passWait = true := by
  let begun := (begin s).opBegin p (loopPage n) 2 c []
  let waiting := begun.islSet n fun i => { i with passWait := true, hartFree := false }
  have effect : hartcmd p n c (begin s) = waiting.hartShow n := by
    unfold hartcmd
    dsimp only
    rw [if_neg (by omega), startOp_begin _ may (by simp [Work.flag, hen]), if_neg (by simp [Work.flag, dev])]
  have step := (((LoopStep.refl (n := n) (begin s)).opBegin p 2 c []).islSet (fun i => { i with passWait := true, hartFree := false })
    fun _ => rfl).hartShow
  have opstat (f : Fld) : (waiting.hartShow n).get (HDR.OPSTAT (loopPage n)) f = f.get 513 := by
    rw [(keeps_hartShow waiting n).get (by simp [loop_regs]), get_islSet, Work.get, rd_opstat_opBegin]
    rfl
  have waits : ((waiting.hartShow n).isl n).passWait = true := by
    obtain ⟨b, shown⟩ := isl_hartShow waiting n
    rw [shown, isl_islSet, if_pos rfl]
  refine runs_island (exec_present hn rfl) hq (by rw [effect]; exact step) fun t ht => ⟨?_, ?_, ?_⟩
  · rw [ht.get hn, effect, opstat]
    decide
  · rw [ht.get hn, effect, opstat]
    decide
  · rw [ht.isl, effect, waits]

/-- R177: without an identified device it ends FAILED, NO_DEVICE. -/
theorem runs_hartcmd_noDevice (p : Party) (c : Nat) (may : MayStart s p (loopPage n) 2 [.held, .ready, .run, .hold])
    (hen : s.get (LOOP.HCFG n) LOOP.HCFG_HEN = 1) (dev : s.get (LOOP.HSTAT n) LOOP.HSTAT_DEV = 0) :
    Runs (.hartcmd p n c) s fun t => t.get (HDR.OPSTAT (loopPage n)) HDR.OPSTAT_STATE = 4
      ∧ t.get (HDR.OPSTAT (loopPage n)) HDR.OPSTAT_REASON = 0x82 := by
  have effect : hartcmd p n c (begin s) = (begin s).opNow p (loopPage n) 2 c opFailed 0x82 := by
    unfold hartcmd
    dsimp only
    rw [if_neg (by omega), startOp_begin _ may (by simp [Work.flag, hen]), if_pos (by simp [Work.flag, dev])]
  have step := ((LoopStep.refl (n := n) (begin s)).opBegin p 2 c []).opEnd opFailed 0x82
  obtain ⟨state, reason, -⟩ := get_opEnd ((begin s).opBegin p (loopPage n) 2 c []) (loopPage n) opFailed 0x82 (opBusy_opBegin ..) (by decide)
  refine runs_island (exec_present hn rfl) hq (by rw [effect]; exact step) fun t ht => ⟨?_, ?_⟩
  · rw [ht.get hn, effect]
    exact state
  · rw [ht.get hn, effect]
    exact reason

/-! HART_SCAN_DUE and HART_TX_START -/

/-- R165: the items of the scan list are queued. -/
theorem runs_hartScanDue (on : (begin s).hartOn n = true) (period : s.get (LOOP.HCFG n) LOOP.HCFG_SCANPER ≠ 0)
    (idle : (island s n).txn = none) (served : (island s n).scanDue = []) :
    Runs (.hartScanDue n) s fun t => Same Follows s t
      ∧ (island t n).scanDue = (List.range 4).filter fun k => decide (s.get (LOOP.HSCAN n) ⟨8 * k, 8⟩ ≠ 0xFF) := by
  have queued : ∃ f, hartScanDue n (begin s) = (begin s).islSet n f
      ∧ (f (island s n)).scanDue = (List.range 4).filter fun k => decide (s.get (LOOP.HSCAN n) ⟨8 * k, 8⟩ ≠ 0xFF) := by
    unfold hartScanDue
    rw [if_neg (by simp [on, period])]
    refine ⟨_, rfl, ?_⟩
    simp only [idle, served]
    exact List.filter_eq_self.2 fun _ _ => rfl
  obtain ⟨f, effect, items⟩ := queued
  refine runs_settled (exec_present hn rfl) (by rw [effect]; exact hq) fun t ht => ⟨ht.same_follows (P := Follows) ?_ fun _ => id, ?_⟩
  · rw [effect]
    exact Keeps.refl _ _
  · rw [ht.island, effect, isl_islSet, if_pos rfl, isl_begin, items]

/-- R160, R163: the identification request leaves the module. -/
theorem runs_hartTxStart_identifies (on : (begin s).hartOn n = true) (free : (begin s).hartBlock n = none)
    (may : (begin s).hartMayStart n = true) (idle : (island s n).txn = none) (unknown : s.get (LOOP.HSTAT n) LOOP.HSTAT_DEV = 0) :
    Runs (.hartTxStart n) s fun t => (island t n).txn = some ⟨.identify, 1, 0, true⟩ ∧ (island t n).lastTx = some (begin s).now
      ∧ .hartRequest n ((begin s).hartFrame n .identify) ∈ t.x.out ∧ Same Follows s t := by
  have effect := hartTxStart_identifies (w := begin s) on free may idle unknown
  have isl : (identifySent n (begin s)).isl n
      = { island s n with txn := some ⟨.identify, 1, 0, true⟩, lastTx := some (begin s).now, dropReply := false } :=
    (isl_islSet _ _ _ _).trans (if_pos rfl)
  have out : (identifySent n (begin s)).x.out = [.hartRequest n ((begin s).hartFrame n .identify)] := rfl
  refine runs_settled (exec_present hn rfl) (by rw [effect]; exact hq) fun t ht => ?_
  rw [effect] at ht
  exact ⟨by rw [ht.island, isl], by rw [ht.island, isl], by rw [ht.out, out]; exact List.mem_singleton_self _,
    ht.same_follows (P := Follows) (Keeps.refl _ _) fun _ => id⟩

/-- R160: an island that may not transmit starts nothing, and says so. -/
theorem runs_hartTxStart_blocked (on : (begin s).hartOn n = true) (blocked : ∃ k, (begin s).hartBlock n = some k) :
    Runs (.hartTxStart n) s fun t => (island t n).txn = (island s n).txn ∧ t.get (LOOP.HSTAT n) LOOP.HSTAT_TXOK = 0 := by
  have effect : hartTxStart n (begin s) = (begin s).hartShow n := by
    obtain ⟨k, eq⟩ := blocked
    unfold hartTxStart
    rw [if_neg (by simp [on]), if_pos (.inl (by simp [eq]))]
  have step := (LoopStep.refl (n := n) (begin s)).hartShow
  refine runs_island (exec_present hn rfl) hq (by rw [effect]; exact step) fun t ht => ⟨?_, ?_⟩
  · exact of_core Isl.txn (ht.core (by rw [effect]; exact step))
  · rw [ht.get hn _ (by simp only [hart_pages]), effect, txok_hartShow_blocked blocked]

/-! HART_REPLY and HART_BURST -/

/-- R163, R166: the reply to the identification. -/
theorem runs_hartReply_identifies (rc ds : Nat) (vs : List Word) (data : List Byte) (on : (begin s).hartOn n = true)
    (heeded : (island s n).dropReply = false) (hand : (island s n).txn = some ⟨.identify, 1, 0, true⟩) :
    Runs (.hartReply n 0 rc ds vs data) s fun t => t.get (LOOP.HSTAT n) LOOP.HSTAT_DEV = 1
      ∧ t.get (LOOP.HSTAT n) LOOP.HSTAT_RCODE = rc % 256 ∧ t.get (LOOP.HSTAT n) LOOP.HSTAT_DEVST = ds % 256
      ∧ t.get (LOOP.HSTAT n) LOOP.HSTAT_HAGE = 0 ∧ (island t n).txn = none
      ∧ t.get (LOOP.HCNT n) LOOP.HCNT_OKCNT = min (s.get (LOOP.HCNT n) LOOP.HCNT_OKCNT + 1) 65535 := by
  obtain ⟨hstat, -, -, -, -, -, -, hcnt, -⟩ := hart_pages n
  let published := ((begin s).hartFrameEnd n).hartPublish n 0 rc ds vs
  let counted := published.incSat (LOOP.HCNT n) LOOP.HCNT_OKCNT
  have effect : hartReply n 0 rc ds vs data (begin s) = identified n data counted :=
    hartReply_identifies (w := begin s) rc ds vs data on heeded hand
  have step := ((LoopStep.refl (n := n) (begin s)).hartFrameEnd.hartPublish 0 rc ds vs).incSat hcnt LOOP.HCNT_OKCNT |>.identified data
  have status (f : Fld) (hf : f.lo + f.w ≤ 32) (above : 2 ≤ f.lo) :
      (identified n data counted).get (LOOP.HSTAT n) f = published.get (LOOP.HSTAT n) f :=
    (hstat_identified n data counted hf above).trans (get_incSat_ne _ _ _ _ _ (by simp [loop_regs, hart_regs]))
  have count : counted.get (LOOP.HCNT n) LOOP.HCNT_OKCNT = min (s.get (LOOP.HCNT n) LOOP.HCNT_OKCNT + 1) 65535 := by
    rw [get_incSat_same _ _ _ (by decide), (keeps_hartPublish _ n 0 rc ds vs).get (by simp [PublishedRegs, loop_regs, hart_regs])]
    rfl
  refine runs_island (exec_present hn rfl) hq (by rw [effect]; exact step) fun t ht => ⟨?_, ?_, ?_, ?_, ?_, ?_⟩
  · rw [ht.get hn _ hstat, effect, dev_identified]
  · rw [ht.get hn _ hstat, effect, status _ (by decide) (by decide), rcode_hartPublish]
  · rw [ht.get hn _ hstat, effect, status _ (by decide) (by decide), devst_hartPublish]
  · rw [ht.get hn _ hstat, effect, status _ (by decide) (by decide), hage_hartPublish]
  · exact of_core Isl.txn (ht.core (by rw [effect]; exact step))
  · rw [ht.get hn _ hcnt, effect, hcnt_identified, count]

/-- R161, R166, R167: a burst frame that is accepted. -/
theorem runs_hartBurst (c rc ds : Nat) (vs : List Word) (on : (begin s).hartOn n = true) (tier : (island s n).tier ≠ 1) :
    Runs (.hartBurst n c rc ds vs) s fun t => t.get (LOOP.HSTAT n) LOOP.HSTAT_BURST = 1
      ∧ t.get (LOOP.HSTAT n) LOOP.HSTAT_RCODE = rc % 256
      ∧ t.get (LOOP.HBCNT n) LOOP.HBCNT_RCVD = min (s.get (LOOP.HBCNT n) LOOP.HBCNT_RCVD + 1) 65535
      ∧ (c = 3 → t.rd (LOOP.HPV n) = vs.getD 0 0x7FC00000) := by
  obtain ⟨hstat, hpv, -, -, -, -, -, -, hbcnt⟩ := hart_pages n
  let flagged := ((begin s).hartFrameEnd n).put (LOOP.HSTAT n) LOOP.HSTAT_BURST 1
  let counted := (flagged.islSet n fun i => { i with lastBurst := some (begin s).now }).incSat (LOOP.HBCNT n) LOOP.HBCNT_RCVD
  have effect : hartBurst n c rc ds vs (begin s) = counted.hartPublish n c rc ds vs := hartBurst_accepts c rc ds vs on tier
  have step := ((((LoopStep.refl (n := n) (begin s)).hartFrameEnd.put hstat LOOP.HSTAT_BURST 1).islSet
    (fun i => { i with lastBurst := some (begin s).now }) fun _ => rfl).incSat hbcnt LOOP.HBCNT_RCVD).hartPublish c rc ds vs
  have burst : counted.get (LOOP.HSTAT n) LOOP.HSTAT_BURST = 1 := by
    rw [get_incSat_ne _ _ _ _ _ (by simp [loop_regs, hart_regs]), get_islSet]
    exact get_put_same _ _ _ _ (by decide)
  have count : counted.get (LOOP.HBCNT n) LOOP.HBCNT_RCVD = min (s.get (LOOP.HBCNT n) LOOP.HBCNT_RCVD + 1) 65535 := by
    rw [get_incSat_same _ _ _ (by decide), get_islSet, get_put_ne _ _ _ _ _ _ (by simp [loop_regs, hart_regs])]
    rfl
  refine runs_island (exec_present hn rfl) hq (by rw [effect]; exact step) fun t ht => ⟨?_, ?_, ?_, ?_⟩
  · rw [ht.get hn _ hstat, effect, low_hartPublish _ _ _ _ _ _ (by decide), burst]
  · rw [ht.get hn _ hstat, effect, rcode_hartPublish]
  · rw [ht.get hn _ hbcnt, effect, (keeps_hartPublish counted n c rc ds vs).get (by simp [PublishedRegs, loop_regs, hart_regs]), count]
  · rintro rfl
    rw [ht.settled.rd _ (loop_not_follows hpv), effect, hpv_hartPublish]

/-! HART_RSP_TIMEOUT and HART_TX_ABORT -/

/-- R165, R172: an attempt without a valid reply, with retries left. -/
theorem runs_hartRspTimeout (x : HartTxn) (g : Bool) (hand : (island s n).txn = some x) (sent : x.sent = true)
    (left : x.tries ≤ s.get (LOOP.HCFG n) LOOP.HCFG_RETRY) :
    Runs (.hartRspTimeout n g) s fun t =>
      t.get (LOOP.HCNT n) LOOP.HCNT_ERRCNT = min (s.get (LOOP.HCNT n) LOOP.HCNT_ERRCNT + 1) 65535
      ∧ (island t n).txn = some { x with sent := false, garbled := if g then x.garbled + 1 else x.garbled } := by
  obtain ⟨-, -, -, -, -, -, -, hcnt, -⟩ := hart_pages n
  let ended := (begin s).when g fun w => w.hartFrameEnd n
  let heeding := ended.islSet n fun i => { i with dropReply := false }
  have unread (a : Nat) (f : Fld) : heeding.get a f = s.get a f := by
    show ended.get a f = _
    rw [get_when, get_hartFrameEnd, ite_self, get_begin]
  have still : (heeding.isl n).txn = some x := by
    rw [isl_islSet, if_pos rfl, isl_when]
    split
    · rw [isl_hartFrameEnd]
      exact hand
    · exact hand
  have effect : hartRspTimeout n g (begin s) = (heeding.incSat (LOOP.HCNT n) LOOP.HCNT_ERRCNT).islSet n fun i =>
      { i with txn := some { x with sent := false, garbled := if g then x.garbled + 1 else x.garbled } } :=
    hartAttemptFails_retries still sent g (by rw [unread]; exact left)
  have endedS : ∃ i, LoopStep n (begin s) ended i := by
    unfold ended Work.when
    split
    · exact ⟨_, (LoopStep.refl _).hartFrameEnd⟩
    · exact ⟨_, .refl _⟩
  obtain ⟨i, endedS⟩ := endedS
  have step := ((endedS.islSet (fun i => { i with dropReply := false }) fun _ => rfl).incSat hcnt LOOP.HCNT_ERRCNT).islSet
    (fun i => { i with txn := some { x with sent := false, garbled := if g then x.garbled + 1 else x.garbled } }) fun _ => rfl
  refine runs_island (exec_present hn rfl) hq (by rw [effect]; exact step) fun t ht => ⟨?_, ?_⟩
  · rw [ht.get hn _ hcnt, effect, get_islSet, get_incSat_same _ _ _ (by decide), unread]
    rfl
  · rw [ht.isl, effect, isl_islSet, if_pos rfl]

/-- R162, R165: the transmission of a scan item stops, and no retry is left. -/
theorem runs_hartTxAbort (x : HartTxn) (k : Nat) (hand : (island s n).txn = some x) (sent : x.sent = true) (kind : x.kind = .scan k)
    (spent : s.get (LOOP.HCFG n) LOOP.HCFG_RETRY < x.tries) :
    Runs (.hartTxAbort n) s fun t => (island t n).txn = none ∧ t.get (LOOP.HSTAT n) LOOP.HSTAT_HERR = 1
      ∧ t.get (LOOP.HCNT n) LOOP.HCNT_ERRCNT = min (s.get (LOOP.HCNT n) LOOP.HCNT_ERRCNT + 1) 65535 := by
  obtain ⟨hstat, -, -, -, -, -, -, hcnt, -⟩ := hart_pages n
  let ended := (begin s).hartFrameEnd n
  let failed := ((ended.incSat (LOOP.HCNT n) LOOP.HCNT_ERRCNT).islSet n fun i => { i with txn := none }).put (LOOP.HSTAT n) LOOP.HSTAT_HERR 1
  have effect : hartTxAbort n (begin s) = failed.hartShow n := by
    have still : (ended.isl n).txn = some x := by
      rw [isl_hartFrameEnd]
      exact hand
    unfold hartTxAbort
    rw [hartAttemptFails_scan still sent kind false spent]
  have step := (((LoopStep.refl (n := n) (begin s)).hartFrameEnd.incSat hcnt LOOP.HCNT_ERRCNT).islSet (fun i => { i with txn := none })
    fun _ => rfl).put hstat LOOP.HSTAT_HERR 1 |>.hartShow
  have herr : failed.get (LOOP.HSTAT n) LOOP.HSTAT_HERR = 1 := get_put_same _ _ _ _ (by decide)
  have count : failed.get (LOOP.HCNT n) LOOP.HCNT_ERRCNT = min (s.get (LOOP.HCNT n) LOOP.HCNT_ERRCNT + 1) 65535 := by
    rw [get_put_ne _ _ _ _ _ _ (by simp [loop_regs, hart_regs]), get_islSet, get_incSat_same _ _ _ (by decide)]
    rfl
  refine runs_island (exec_present hn rfl) hq (by rw [effect]; exact step) fun t ht => ⟨?_, ?_, ?_⟩
  · exact of_core Isl.txn (ht.core (by rw [effect]; exact step))
  · rw [ht.get hn _ hstat, effect, herr_hartShow, herr]
  · rw [ht.get hn _ hcnt, effect, (keeps_hartShow failed n).get (by simp [loop_regs, hart_regs]), count]

end

/-- Settles O16, command by command. A burst of any command publishes its status (log entry 188), and the request's bytes are those that
the model takes from the HART data-link layer (log entry 186). -/
theorem fskCommands : Obligations.FskCommands := by
  intro s p n hq hn
  exact ⟨runs_hartcmd_starts hq hn p, runs_hartcmd_noDevice hq hn p, runs_hartScanDue hq hn, runs_hartTxStart_identifies hq hn,
    runs_hartTxStart_blocked hq hn, runs_hartReply_identifies hq hn, runs_hartBurst hq hn, runs_hartRspTimeout hq hn, runs_hartTxAbort hq hn⟩

end Sys2Proof.Proofs
end

section
/-! PROOF. A route to a loop channel that the module does not have (R33, R201): the counterexample to the frame of RAIL_OFF. -/

namespace Sys2Proof.Proofs

open Sys2Proof.Machine Sys2Proof.Laws

/-- A module in Held with sensor group 0 enabled and its rail on. Its channel 0, a BRIDGE, has a route to loop channel 48, which the module
does not have; of that channel's page the words beyond LOOP[47] read as an enabled output's. -/
def routedBeyond : State :=
  { regs := ([(HDR.PGCTL (sensPage 0), HDR.PGCTL_EN, 1), (SENS.GCFG 0, SENS.GCFG_VEXC, 1), (SCH.CFG 0, SCH.CFG_TYPE, 3),
        (SCH.ROUTE 0, SCH.ROUTE_ROUTEEN, 1), (SCH.ROUTE 0, SCH.ROUTE_LOOPCH, 48), (SCH.ROUTEHI 0, SCH.ROUTEHI_V, 0x3F800000),
        (HDR.PGCTL (loopPage 48), HDR.PGCTL_EN, 1), (LOOP.CFG 48, LOOP.CFG_MODE, 2)]).foldl
      (fun r e => regsSet r e.1 (e.2.1.set (regsGet r e.1) e.2.2)) State.reset.regs,
    x := { State.reset.x with mode := .held },
    pending := [] }

/-- Its rail can go off. -/
theorem routedBeyond_rail : (begin routedBeyond).sensLive 0 = true ∧ routedBeyond.get (SENS.GCFG 0) SENS.GCFG_VEXC ≠ 0 := by
  decide +kernel

/-- With the rail off the channel is BAD, and its route has channel 48 show what it sends on. -/
theorem routedBeyond_shows : (begin routedBeyond).routeActive 0 = true ∧ (railOff 0 (begin routedBeyond)).x.task.hdr = []
    ∧ (railOff 0 (begin routedBeyond)).rd (LOOP.STAT 48) ≠ routedBeyond.rd (LOOP.STAT 48) := by
  decide +kernel

/-- Refutes O18: its frames allow the pages of LOOP[00] to LOOP[47] and do not bound ROUTE.LOOPCH, whose six bits reach 63. In a state that
no run reaches (a LOOPCH above 47 is refused, R213, and page 0x070 does not answer, R33) RAIL_OFF sends on a BAD result to loop channel 48,
and its STAT, outside the frame, changes. -/
theorem not_sensorCommands : ¬ Obligations.SensorCommands := by
  intro h
  obtain ⟨-, -, -, -, -, railGoesOff, -⟩ := h routedBeyond .program 0 0 rfl
  obtain ⟨live, rail⟩ := routedBeyond_rail
  obtain ⟨-, quiet, changed⟩ := routedBeyond_shows
  obtain ⟨t, ht, -, -, same⟩ := railGoesOff (by decide) live rail
  have left : t = finish routedBeyond (railOff 0 (begin routedBeyond)) := (Host.Outcome.next.inj ht).symm
  have shown : t.rd (LOOP.STAT 48) = (railOff 0 (begin routedBeyond)).rd (LOOP.STAT 48) := by rw [left, fin_rd quiet (by decide)]
  exact changed (shown.symm.trans (same _ (by decide)))

end Sys2Proof.Proofs
end

section
/-! PROOF. A digital group at work: which registers and which part of the state the operations of its channels and of its supply touch
(chapter 07). -/

namespace Sys2Proof.Proofs

open Sys2Proof.Machine Sys2Proof.Laws

/-! The registers of a group's page -/

/-- The words of a channel lie in its group's page (R215, R243). -/
theorem dch_pages (ch : Nat) : DCH.CFG ch / 4096 = dioPage (ch / 8) ∧ DCH.STAT ch / 4096 = dioPage (ch / 8)
    ∧ DCH.STICKY ch / 4096 = dioPage (ch / 8) ∧ DCH.COUNT ch / 4096 = dioPage (ch / 8) ∧ DCH.CUR ch / 4096 = dioPage (ch / 8) := by
  unfold DCH.CFG DCH.STAT DCH.STICKY DCH.COUNT DCH.CUR dioPage
  omega

/-- So do the words of the group and of the page's header (R34, R235). -/
theorem dio_pages (g : Nat) : DIO.GSTAT g / 4096 = dioPage g ∧ DIO.GIN g / 4096 = dioPage g ∧ DIO.GOUT g / 4096 = dioPage g
    ∧ HDR.IRQSTAT (dioPage g) / 4096 = dioPage g ∧ HDR.PGHEALTH (dioPage g) / 4096 = dioPage g := by
  unfold DIO.GSTAT DIO.GIN DIO.GOUT HDR.IRQSTAT HDR.PGHEALTH pg dioPage
  omega

/-- A register of a group's page follows none. -/
theorem dio_not_follows {g a : Nat} (ha : a / 4096 = dioPage g) : ¬ Follows a := not_follows (by unfold dioPage at ha; omega)

theorem dio_notCause {g a : Nat} (ha : a / 4096 = dioPage g) : NotCause a := by
  refine ⟨not_rec (by unfold dioPage at ha; omega), ?_⟩
  rintro rfl
  unfold dioPage SLATE.SSTAT at ha
  omega

/-- No word of a group, of its page's header or of a channel is a channel's STAT, but STAT itself. -/
theorem stat_apart (g ch c : Nat) : DIO.GIN g ≠ DCH.STAT c ∧ DIO.GOUT g ≠ DCH.STAT c ∧ DIO.GSTAT g ≠ DCH.STAT c
    ∧ DCH.CFG ch ≠ DCH.STAT c ∧ DCH.STICKY ch ≠ DCH.STAT c ∧ DCH.COUNT ch ≠ DCH.STAT c ∧ DCH.CUR ch ≠ DCH.STAT c
    ∧ HDR.IRQSTAT (dioPage g) ≠ DCH.STAT c ∧ HDR.PGHEALTH (dioPage g) ≠ DCH.STAT c := by
  unfold DIO.GIN DIO.GOUT DIO.GSTAT DCH.CFG DCH.STICKY DCH.COUNT DCH.CUR HDR.IRQSTAT HDR.PGHEALTH DCH.STAT pg
  omega

/-! The group and the channel beside their registers -/

section
variable (w : Work) (g : Nat)
@[simp] theorem get_dgrpSet (f : DioGrp → DioGrp) (a : Nat) (k : Fld) : (w.dgrpSet g f).get a k = w.get a k := rfl
@[simp] theorem get_dioHeard (a : Nat) (k : Fld) : (w.dioHeard g).get a k = w.get a k := rfl
@[simp] theorem dgrp_dgrpSet (f : DioGrp → DioGrp) (m : Nat) : (w.dgrpSet g f).dgrp m = if g = m then f (w.dgrp g) else w.dgrp m := tabGet_tabSet ..
end

/-- A group that has been heard before is found as it was (R228). -/
theorem dgrp_dioHeard {w : Work} {g : Nat} (link : (w.dgrp g).link = true) (m : Nat) : (w.dioHeard g).dgrp m = w.dgrp m := by
  unfold Work.dioHeard
  rw [dgrp_dgrpSet]
  split
  · rename_i same
    rw [← same, ← link]
  · rfl

/-! What the operations of a group touch -/

/-- From `u` to `w` group `g` has been at work: no register but its page's and those that follow has changed, and nothing beside the registers
but the digital groups and channels and what announcing a change may touch. -/
structure DioStep (g : Nat) (u w : Work) : Prop where
  regs : Keeps (fun a => a / 4096 = dioPage g ∨ Follows a) u w
  rest : ∃ dio, Noise { u.x with dio := dio } w.x

namespace DioStep
variable {g : Nat} {u v w : Work}

theorem of_noise (regs : Keeps (fun a => a / 4096 = dioPage g ∨ Follows a) u w) (h : Noise u.x w.x) : DioStep g u w := ⟨regs, u.x.dio, h⟩

theorem refl (w : Work) : DioStep g w w := of_noise (Keeps.refl _ _) (.refl _)

theorem trans (h : DioStep g u v) (k : DioStep g v w) : DioStep g u w := by
  refine ⟨h.regs.trans k.regs, ?_⟩
  obtain ⟨_, _, _, _, _, _, hx⟩ := h.rest
  obtain ⟨dio, _, _, _, _, _, kx⟩ := k.rest
  rw [hx] at kx
  exact ⟨dio, _, _, _, _, _, kx⟩

theorem task (h : DioStep g u w) : w.x.task = u.x.task := by
  obtain ⟨_, _, _, _, _, _, hx⟩ := h.rest
  rw [hx]

theorem ite (h : DioStep g u v) (k : DioStep g u w) {c : Prop} {_ : Decidable c} : DioStep g u (if c then v else w) := by
  split <;> assumption
theorem when (h : DioStep g u w) (c : Bool) {f : Work → Work} (hf : DioStep g u (f w)) : DioStep g u (w.when c f) := by
  unfold Work.when
  exact hf.ite h

theorem wr (h : DioStep g u w) {a : Nat} (ha : a / 4096 = dioPage g) (v : Word) : DioStep g u (w.wr a v) :=
  h.trans (of_noise (keeps_wr w a v (.inl ha)) (.refl _))
theorem put (h : DioStep g u w) {a : Nat} (ha : a / 4096 = dioPage g) (f : Fld) (k : Nat) : DioStep g u (w.put a f k) := h.wr ha _
theorem irq (h : DioStep g u w) (b : Nat) : DioStep g u (w.irq (dioPage g) b) := by
  obtain ⟨-, -, -, irqstat, -⟩ := dio_pages g
  exact h.trans (of_noise (keeps_irq w _ b (.inl irqstat)) (.refl _))
theorem emit (h : DioStep g u w) (page num sub : Nat) (data : List Nat) : DioStep g u (w.emit page num sub data) :=
  h.trans (of_noise ((keeps_emit w page num sub data).mono fun _ k => .inr (follows_of_evtRegs k)) (noise_emit ..))
theorem blockFault (h : DioStep g u w) (p m : Nat) (on : Bool) : DioStep g u (w.blockFault (dioPage g) p m on) := by
  obtain ⟨-, -, -, irqstat, health⟩ := dio_pages g
  obtain ⟨noisy, kept⟩ := blockFault_spec w (dioPage g) p m on
  refine h.trans (of_noise (fun a ha => kept a ?_) noisy)
  obtain ⟨page, follow⟩ := not_or.1 ha
  obtain ⟨event, -, -, -, slate, -⟩ := follows_not follow
  exact ⟨⟨event, slate⟩, fun e => page (e ▸ health), fun e => page (e ▸ irqstat)⟩

theorem dchSet (h : DioStep g u w) (ch : Nat) (f : DioCh → DioCh) : DioStep g u (w.dchSet ch f) :=
  h.trans ⟨fun _ _ => rfl, _, .refl _⟩
theorem dgrpSet (h : DioStep g u w) (m : Nat) (f : DioGrp → DioGrp) : DioStep g u (w.dgrpSet m f) :=
  h.trans ⟨fun _ _ => rfl, _, .refl _⟩
theorem dioHeard (h : DioStep g u w) (m : Nat) : DioStep g u (w.dioHeard m) := h.dgrpSet m _

theorem each {α : Type} (h : DioStep g u w) (l : List α) {f : Work → α → Work} (hf : ∀ v, ∀ e ∈ l, DioStep g v (f v e)) :
    DioStep g u (w.each l f) := by
  induction l generalizing w with
  | nil => exact h
  | cons e t ih => exact ih (h.trans (hf w e (by simp))) fun v c mem => hf v c (by simp [mem])

end DioStep

/-- The channels of a group lie in it (R215). -/
theorem group_of_mem {g ch : Nat} (h : ch ∈ groupChs g) : ch / 8 = g := by
  unfold groupChs at h
  obtain ⟨k, mem, rfl⟩ := List.mem_map.1 h
  have := List.mem_range.1 mem
  omega

namespace DioStep
variable {g : Nat} {u w : Work}

theorem dioCond (h : DioStep g u w) {ch : Nat} (hc : ch / 8 = g) (f : Fld) (on : Bool) : DioStep g u (w.dioCond ch f on) := by
  subst hc
  obtain ⟨-, stat, sticky, -, -⟩ := dch_pages ch
  unfold Work.dioCond
  extract_lets rise was0
  have shown : DioStep (ch / 8) u (w.putB (DCH.STAT ch) f on) := h.put stat _ _
  have latched : DioStep (ch / 8) u ((w.putB (DCH.STAT ch) f on).putB (DCH.STICKY ch) f true) := shown.put sticky _ _
  exact shown.when _ (latched.when _ (latched.irq _))

theorem dioCondRec (h : DioStep g u w) {ch : Nat} (hc : ch / 8 = g) (f : Fld) (on : Bool) : DioStep g u (w.dioCondRec ch f on) := by
  unfold Work.dioCondRec
  exact h.ite ((h.dioCond hc f on).emit _ _ _ _)

theorem dioShowCh (h : DioStep g u w) {ch : Nat} (hc : ch / 8 = g) : DioStep g u (w.dioShowCh ch) := by
  subst hc
  obtain ⟨-, stat, -, -, -⟩ := dch_pages ch
  obtain ⟨-, gin, gout, -, -⟩ := dio_pages (ch / 8)
  unfold Work.dioShowCh
  have qual : DioStep (ch / 8) u (w.put (DCH.STAT ch) DCH.STAT_QUAL (w.dioQual ch)) := h.put stat _ _
  have input := qual.when (decide ((w.put (DCH.STAT ch) DCH.STAT_QUAL (w.dioQual ch)).dioMode ch = 1) && decide (w.dioQual ch ≠ qBad))
    (f := fun w => w.putB (DCH.STAT ch) DCH.STAT_IN (w.dch ch).filt) (qual.put stat _ _)
  exact ((((input.put gout _ _).put stat _ _).put gin _ _).put gin _ _).put gin _ _

theorem dioShow (h : DioStep g u w) : DioStep g u (w.dioShow g) := by
  obtain ⟨gstat, -⟩ := dio_pages g
  unfold Work.dioShow
  have shown : DioStep g u (w.each (groupChs g) fun w ch => w.dioShowCh ch) :=
    h.each _ fun v ch mem => (DioStep.refl v).dioShowCh (group_of_mem mem)
  unfold Work.flagIrq
  exact (shown.put gstat _ _).when _ ((shown.put gstat _ _).irq _)

/-- A supply state's entry (R229). -/
theorem vsEnter (h : DioStep g u w) (st : Nat) : DioStep g u (w.vsEnter g st) := by
  obtain ⟨gstat, -⟩ := dio_pages g
  unfold Work.vsEnter
  extract_lets entered cut await told turn up
  have enteredS : DioStep g u entered := (h.put gstat _ _).emit _ _ _ _
  have cutS : DioStep g u cut := enteredS.when _ (enteredS.irq _)
  have awaitS : DioStep g u await := cutS.when _ (cutS.irq _)
  have toldS : DioStep g u told := awaitS.each _ fun v ch mem =>
    ((DioStep.refl v).dioCond (group_of_mem mem) _ _).dioCond (group_of_mem mem) _ _
  have turnS : DioStep g u turn := toldS.dgrpSet _ _
  exact (turnS.when _ (turnS.put gstat _ _)).dioShow

theorem dioFault (h : DioStep g u w) (reason : Nat) : DioStep g u (w.dioFault g reason) := by
  obtain ⟨gstat, -⟩ := dio_pages g
  unfold Work.dioFault
  exact (((h.dgrpSet g _).put gstat _ _).vsEnter _).blockFault _ _ _

theorem dioFilt (h : DioStep g u w) {ch : Nat} (hc : ch / 8 = g) (level : Bool) : DioStep g u (w.dioFilt ch level) := by
  subst hc
  obtain ⟨-, -, -, count, -⟩ := dch_pages ch
  unfold Work.dioFilt
  extract_lets taken counted
  have takenS : DioStep (ch / 8) u taken := h.dchSet _ _
  have countedS : DioStep (ch / 8) u counted := takenS.when _ (takenS.put count _ _)
  exact h.ite (countedS.when _ (countedS.emit _ _ _ _))

end DioStep

end Sys2Proof.Proofs
end

section
/-! PROOF. What a digital group and its channels show (R220, R226, R238, R245): the conditions, the quality, the published state. -/

namespace Sys2Proof.Proofs

open Sys2Proof.Machine Sys2Proof.Laws

/-! Fields -/

/-- A field set to what it reads leaves its word. -/
theorem set_get_self (f : Fld) (v : Word) (h : f.lo + f.w ≤ 32) : f.set v (f.get v) = v := by
  apply BitVec.eq_of_getLsbD_eq
  intro i hi
  simp only [Fld.set, BitVec.getLsbD_or, BitVec.getLsbD_and, BitVec.getLsbD_not, mask_bit _ _ hi, BitVec.getLsbD_ofNat, hi, decide_true,
    Bool.true_and, Nat.testBit_shiftLeft, testBit_get _ _ _ h]
  by_cases inside : f.lo ≤ i ∧ i < f.lo + f.w
  · obtain ⟨low, high⟩ := inside
    simp [low, high, Nat.add_sub_cancel' low, show i - f.lo < f.w by omega]
  · have outside : (decide (f.lo ≤ i) && decide (i < f.lo + f.w)) = false := by simpa using inside
    simp [outside]

/-- A field that shares no bit with the one put reads as before, whichever the registers. -/
theorem get_put_apart (w : Work) (a b : Nat) (f g : Fld) (n : Nat) (hg : g.lo + g.w ≤ 32) (d : g.lo + g.w ≤ f.lo ∨ f.lo + f.w ≤ g.lo) :
    (w.put a f n).get b g = w.get b g := by
  by_cases same : a = b
  · subst same
    exact get_put_other w a f g n hg d
  · exact get_put_ne w a b f g n same

theorem get_putB_apart (w : Work) (a b : Nat) (f g : Fld) (l : Bool) (hg : g.lo + g.w ≤ 32) (d : g.lo + g.w ≤ f.lo ∨ f.lo + f.w ≤ g.lo) :
    (w.putB a f l).get b g = w.get b g := get_put_apart w a b f g _ hg d

/-- A one-bit field reads as its flag. -/
theorem get_of_flag (w : Work) (a : Nat) {f : Fld} (hf : f.lo + f.w ≤ 32) (hw : f.w = 1) : w.get a f = if w.flag a f then 1 else 0 := by
  have small : w.get a f < 2 ^ 1 := hw ▸ get_lt f (w.rd a) hf
  unfold Work.flag
  by_cases low : w.get a f = 0
  · simp [low]
  · rw [if_pos (decide_eq_true low)]
    omega

theorem get_each {α : Type} {f : Work → α → Work} {a : Nat} {g : Fld} (h : ∀ v e, (f v e).get a g = v.get a g) (l : List α) :
    ∀ w : Work, (w.each l f).get a g = w.get a g := by
  induction l with
  | nil => exact fun _ => rfl
  | cons e t ih => exact fun w => (ih (f w e)).trans (h w e)

/-! A condition of a channel's STAT (R235, R245) -/

section
variable (w : Work) (ch : Nat) (f : Fld) (on : Bool)

/-- It shows in STAT, latches in STICKY and raises the page's interrupt. -/
theorem keeps_dioCond : Keeps (fun a => a = DCH.STAT ch ∨ a = DCH.STICKY ch ∨ a = HDR.IRQSTAT (dioPage (ch / 8))) w (w.dioCond ch f on) := by
  unfold Work.dioCond
  exact (keeps_putB w _ f on (.inl rfl)).when _ fun v => (keeps_putB v _ f true (.inr (.inl rfl))).when _ fun u => keeps_irq u _ _ (.inr (.inr rfl))

theorem stat_dioCond_same (hf : f.lo + f.w ≤ 32) (hw : f.w ≠ 0) : (w.dioCond ch f on).get (DCH.STAT ch) f = if on then 1 else 0 := by
  obtain ⟨-, -, -, -, sticky, -, -, irqstat, -⟩ := stat_apart (ch / 8) ch ch
  unfold Work.dioCond
  rw [get_when, get_when, get_irq_ne _ _ _ _ _ irqstat, get_putB_ne _ _ _ _ _ _ sticky, ite_self, ite_self, get_putB_same _ _ _ _ hf hw]

/-- Every other field of the page's words beside the interrupt word reads as before. -/
theorem get_dioCond_apart {a : Nat} {g : Fld} (ha : HDR.IRQSTAT (dioPage (ch / 8)) ≠ a) (hg : g.lo + g.w ≤ 32)
    (d : g.lo + g.w ≤ f.lo ∨ f.lo + f.w ≤ g.lo) : (w.dioCond ch f on).get a g = w.get a g := by
  unfold Work.dioCond
  rw [get_when, get_when, get_irq_ne _ _ _ _ _ ha, get_putB_apart _ _ _ _ _ _ hg d, ite_self, ite_self, get_putB_apart _ _ _ _ _ _ hg d]

/-! A condition that is recorded (R226) -/

theorem stat_dioCondRec_same (hf : f.lo + f.w ≤ 32) (hw : f.w = 1) : (w.dioCondRec ch f on).get (DCH.STAT ch) f = if on then 1 else 0 := by
  obtain ⟨-, stat, -⟩ := dch_pages ch
  unfold Work.dioCondRec
  split
  · rename_i stands
    rw [get_of_flag w _ hf hw, stands]
  · rw [get_evFlag _ _ _ _ _ _ _ _ (dio_notCause stat).1, stat_dioCond_same _ _ _ _ hf (by omega)]

/-- Beside STAT, STICKY and the interrupt word the page stands. -/
theorem get_dioCondRec_ne {a : Nat} (g : Fld) (page : a / 4096 = dioPage (ch / 8))
    (ha : a ≠ DCH.STAT ch ∧ a ≠ DCH.STICKY ch ∧ a ≠ HDR.IRQSTAT (dioPage (ch / 8))) : (w.dioCondRec ch f on).get a g = w.get a g := by
  unfold Work.dioCondRec
  split
  · rfl
  · rw [get_evFlag _ _ _ _ _ _ _ _ (dio_notCause page).1, (keeps_dioCond _ _ _ _).get (by simpa using ha)]

end

/-! A channel publishes (R220, R226) -/

/-- The quality is one of STAT's codes. -/
theorem dioQual_lt (w : Work) (ch : Nat) : w.dioQual ch < 8 := by
  unfold Work.dioQual qGood qUncertain qBad
  dsimp only
  split_ifs <;> decide

/-- The quality is decided by the flags of STAT from WIREBRK on, the mode, the supply state and the input's refilling. -/
theorem dioQual_congr {u w : Work} {ch : Nat}
    (flags : ∀ f : Fld, 16 ≤ f.lo → f.lo + f.w ≤ 32 → w.get (DCH.STAT ch) f = u.get (DCH.STAT ch) f)
    (mode : w.dioMode ch = u.dioMode ch) (supply : w.vstate (ch / 8) = u.vstate (ch / 8)) (channel : w.dch ch = u.dch ch) :
    w.dioQual ch = u.dioQual ch := by
  have flag (f : Fld) (h : f ∈ [DCH.STAT_WIREBRK, DCH.STAT_VFCUT, DCH.STAT_DARK, DCH.STAT_VFWARN, DCH.STAT_OVERLOAD, DCH.STAT_SHED,
      DCH.STAT_STUCKON, DCH.STAT_RBFAIL, DCH.STAT_BACKFED, DCH.STAT_OPENLOAD]) : w.flag (DCH.STAT ch) f = u.flag (DCH.STAT ch) f := by
    unfold Work.flag
    rw [flags f] <;> fin_cases h <;> decide
  unfold Work.dioQual
  simp only [mode, supply, channel, flag, List.mem_cons, true_or, or_true]

section
variable (w : Work) (ch : Nat)

@[simp] theorem x_dioShowCh : (w.dioShowCh ch).x = w.x := by
  unfold Work.dioShowCh
  simp only [x_putB, x_when, x_put, ite_self]

/-- A channel that publishes touches its STAT and its bits of GIN and GOUT. -/
theorem keeps_dioShowCh : Keeps (fun a => a = DCH.STAT ch ∨ a = DIO.GOUT (ch / 8) ∨ a = DIO.GIN (ch / 8)) w (w.dioShowCh ch) := by
  unfold Work.dioShowCh
  exact (((((((Keeps.refl _ w).put (.inl rfl) _ _).when _ fun v => keeps_putB v _ _ _ (.inl rfl)).putB (.inr (.inl rfl)) _ _).putB
    (.inl rfl) _ _).putB (.inr (.inr rfl)) _ _).putB (.inr (.inr rfl)) _ _).putB (.inr (.inr rfl)) _ _

end

/-- `v` shows in STAT what channel `ch` of `w` publishes: the quality, an input's state where the quality allows it, an input's raw state at
PIN; the conditions of every channel stand. -/
structure Published (ch : Nat) (w v : Work) : Prop where
  qual : v.get (DCH.STAT ch) DCH.STAT_QUAL = w.dioQual ch
  input : w.dioMode ch = 1 → w.dioQual ch ≠ qBad → v.get (DCH.STAT ch) DCH.STAT_IN = if (w.dch ch).filt then 1 else 0
  pin : w.dioMode ch = 1 → v.get (DCH.STAT ch) DCH.STAT_PIN = if (w.dch ch).raw then 1 else 0
  flags : ∀ c f, 16 ≤ f.lo → f.lo + f.w ≤ 32 → v.get (DCH.STAT c) f = w.get (DCH.STAT c) f

theorem dioShowCh_publishes (w : Work) (ch : Nat) : Published ch w (w.dioShowCh ch) := by
  unfold Work.dioShowCh
  extract_lets g k q qual input effective pinned
  obtain ⟨-, -, -, cfg, -⟩ := stat_apart g ch ch
  have qualM : qual.dioMode ch = w.dioMode ch := get_put_ne w _ _ _ _ _ cfg.symm
  have effectiveX : effective.x = w.x := by rw [x_putB, x_when, x_putB, ite_self]; rfl
  have beside (c : Nat) (f : Fld) : effective.get (DCH.STAT c) f = input.get (DCH.STAT c) f := by
    obtain ⟨-, gout, -⟩ := stat_apart g ch c
    exact get_putB_ne _ _ _ _ _ _ gout
  have shown (c : Nat) (f : Fld) (u : Work) (b b' b'' : Bool) (i j l : Nat) :
      (((u.putB (DIO.GIN g) ⟨i, 1⟩ b).putB (DIO.GIN g) ⟨j, 1⟩ b').putB (DIO.GIN g) ⟨l, 1⟩ b'').get (DCH.STAT c) f = u.get (DCH.STAT c) f := by
    obtain ⟨gin, -⟩ := stat_apart g ch c
    rw [get_putB_ne _ _ _ _ _ _ gin, get_putB_ne _ _ _ _ _ _ gin, get_putB_ne _ _ _ _ _ _ gin]
  constructor
  case qual =>
    rw [shown, get_putB_other _ _ _ _ _ (by decide) (by decide), beside, get_when, get_putB_other _ _ _ _ _ (by decide) (by decide), ite_self,
      get_put_same _ _ _ _ (by decide)]
    exact Nat.mod_eq_of_lt (dioQual_lt w ch)
  case input =>
    intro isInput good
    rw [shown, get_putB_other _ _ _ _ _ (by decide) (by decide), beside, get_when, qualM, isInput,
      get_putB_same _ _ _ _ (by decide) (by decide)]
    exact if_pos (by simpa [q] using good)
  case pin =>
    intro isInput
    have effectiveM : effective.dioMode ch = 1 := by
      have gout : DIO.GOUT g ≠ DCH.CFG ch := by unfold g DIO.GOUT DCH.CFG; omega
      unfold Work.dioMode
      rw [get_putB_ne _ _ _ _ _ _ gout, get_when, get_putB_ne _ _ _ _ _ _ cfg.symm, ite_self]
      exact qualM.trans isInput
    rw [shown, get_putB_same _ _ _ _ (by decide) (by decide)]
    unfold Work.dioPin Work.dch
    rw [if_pos effectiveM, effectiveX]
  case flags =>
    intro c f high word
    have above {k : Nat} (hk : k ≤ 16) : k ≤ f.lo := hk.trans high
    rw [shown, get_putB_apart _ _ _ _ _ _ word (.inr (above (by decide))), beside, get_when,
      get_putB_apart _ _ _ _ _ _ word (.inr (above (by decide))), ite_self, get_put_apart _ _ _ _ _ _ word (.inr (above (by decide)))]

section
variable (w : Work) (ch : Nat)

@[simp] theorem dch_dioShowCh (c : Nat) : (w.dioShowCh ch).dch c = w.dch c := by
  unfold Work.dch
  rw [x_dioShowCh]

/-- A channel's own words beside STAT, and the group's state, stand. -/
theorem get_dioShowCh {a : Nat} (ha : a ≠ DCH.STAT ch ∧ a ≠ DIO.GOUT (ch / 8) ∧ a ≠ DIO.GIN (ch / 8)) (f : Fld) :
    (w.dioShowCh ch).get a f = w.get a f := (keeps_dioShowCh w ch).get (by simpa using ha) f

end

end Sys2Proof.Proofs
end

section
/-! PROOF. A digital group publishes and enters a supply state (R225, R228, R229): what that leaves of GSTAT and of the conditions. -/

namespace Sys2Proof.Proofs

open Sys2Proof.Machine Sys2Proof.Laws

/-- The group's state is no other word of the group's publishing. -/
theorem gstat_apart (g h c : Nat) : DIO.GSTAT g ≠ DCH.STAT c ∧ DIO.GSTAT g ≠ DIO.GOUT h ∧ DIO.GSTAT g ≠ DIO.GIN h
    ∧ HDR.IRQSTAT (dioPage h) ≠ DIO.GSTAT g ∧ HDR.PGHEALTH (dioPage h) ≠ DIO.GSTAT g := by
  unfold DIO.GSTAT DCH.STAT DIO.GOUT DIO.GIN HDR.IRQSTAT HDR.PGHEALTH dioPage pg
  omega

theorem irqstat_ne_gstat (g h : Nat) : HDR.IRQSTAT (dioPage h) ≠ DIO.GSTAT g := by
  obtain ⟨-, -, -, irqstat, -⟩ := gstat_apart g h 0
  exact irqstat

theorem irqstat_ne_stat (c h : Nat) : HDR.IRQSTAT (dioPage h) ≠ DCH.STAT c := by
  obtain ⟨-, -, -, -, -, -, -, irqstat, -⟩ := stat_apart h c c
  exact irqstat

/-- Of GSTAT a group that publishes changes SHEDACT alone. -/
theorem gstat_dioShow (w : Work) (g : Nat) {f : Fld} (hf : f.lo + f.w ≤ 11) :
    (w.dioShow g).get (DIO.GSTAT g) f = w.get (DIO.GSTAT g) f := by
  unfold Work.dioShow
  rw [get_flagIrq_other _ _ _ _ _ _ _ (irqstat_ne_gstat g g) (by omega) (.inl hf)]
  refine get_each (fun v ch => get_dioShowCh v ch ?_ f) _ w
  obtain ⟨stat, gout, gin, -⟩ := gstat_apart g (ch / 8) ch
  exact ⟨stat, gout, gin⟩

/-- The conditions of its channels stand. -/
theorem flags_dioShow (w : Work) (g c : Nat) {f : Fld} (high : 16 ≤ f.lo) (word : f.lo + f.w ≤ 32) :
    (w.dioShow g).get (DCH.STAT c) f = w.get (DCH.STAT c) f := by
  obtain ⟨-, -, gstat, -⟩ := stat_apart g c c
  unfold Work.dioShow
  rw [get_flagIrq_ne _ _ _ _ _ _ _ _ ⟨gstat.symm, (irqstat_ne_stat c g).symm⟩]
  exact get_each (fun v ch => (dioShowCh_publishes v ch).flags c f high word) _ w

/-- A field that the group's publishing leaves, and that is none of VFCUT, VFHOLD and NEVERUP, reads after the entry into a supply state as
after VSTATE alone was put. -/
theorem get_vsEnter (w : Work) (g st : Nat) {a : Nat} {f : Fld} (event : NotRec a) (irqstat : ∀ h, HDR.IRQSTAT (dioPage h) ≠ a)
    (word : f.lo + f.w ≤ 24) (neverup : f.lo + f.w ≤ 8 ∨ 9 ≤ f.lo) (shows : ∀ v : Work, (v.dioShow g).get a f = v.get a f) :
    (w.vsEnter g st).get a f = (w.put (DIO.GSTAT g) DIO.GSTAT_VSTATE st).get a f := by
  unfold Work.vsEnter
  extract_lets entered cut await told turn up
  have raised (v : Work) (c : Bool) (b : Nat) : (v.when c fun w => w.irq (dioPage g) b).get a f = v.get a f := by
    rw [get_when, get_irq_ne _ _ _ _ _ (irqstat g), ite_self]
  have toldG : told.get a f = await.get a f := by
    refine get_each (fun v ch => ?_) _ _
    rw [get_dioCond_apart _ _ _ _ (irqstat _) (by omega) (.inl (word.trans (by decide))),
      get_dioCond_apart _ _ _ _ (irqstat _) (by omega) (.inl word)]
  rw [shows, get_when, get_putB_apart _ _ _ _ _ _ (by omega) neverup, ite_self]
  show told.get a f = _
  rw [toldG, raised, raised, get_evState _ _ _ _ _ _ _ _ _ event]

/-- R228, R229: a group that has entered FAULT shows it and its open switch; the conditions of its channels stand. -/
theorem dioFault_shows (w : Work) (g reason : Nat) : (w.dioFault g reason).get (DIO.GSTAT g) DIO.GSTAT_VSTATE = vsFault
    ∧ (w.dioFault g reason).get (DIO.GSTAT g) DIO.GSTAT_GSWOPEN = 1
    ∧ ∀ c f, 16 ≤ f.lo → f.lo + f.w ≤ 24 → (w.dioFault g reason).get (DCH.STAT c) f = w.get (DCH.STAT c) f := by
  obtain ⟨gstatPage, -⟩ := dio_pages g
  obtain ⟨-, -, -, -, gstatHealth⟩ := gstat_apart g g 0
  have told (u : Work) {a : Nat} (f : Fld) (cause : NotCause a) (irqstat : HDR.IRQSTAT (dioPage g) ≠ a) (health : HDR.PGHEALTH (dioPage g) ≠ a) :
      (u.blockFault (dioPage g) reason 0x09 true).get a f = u.get a f := get_blockFault _ _ _ _ _ _ _ ⟨cause, health.symm, irqstat.symm⟩
  have entered (u : Work) (f : Fld) (low : f.lo + f.w ≤ 11) (neverup : f.lo + f.w ≤ 8 ∨ 9 ≤ f.lo) :
      (u.vsEnter g vsFault).get (DIO.GSTAT g) f = (u.put (DIO.GSTAT g) DIO.GSTAT_VSTATE vsFault).get (DIO.GSTAT g) f :=
    get_vsEnter u g vsFault (dio_notCause gstatPage).1 (irqstat_ne_gstat g) (by omega) neverup fun v => gstat_dioShow v g low
  unfold Work.dioFault
  refine ⟨?_, ?_, fun c f high word => ?_⟩
  · rw [told _ _ (dio_notCause gstatPage) (irqstat_ne_gstat g g) gstatHealth, entered _ _ (by decide) (by decide),
      get_put_same _ _ _ _ (by decide)]
    rfl
  · rw [told _ _ (dio_notCause gstatPage) (irqstat_ne_gstat g g) gstatHealth, entered _ _ (by decide) (by decide),
      get_put_other _ _ _ _ _ (by decide) (by decide), get_putB_same _ _ _ _ (by decide) (by decide)]
    rfl
  · obtain ⟨-, statPage, -⟩ := dch_pages c
    obtain ⟨-, -, gstat, -, -, -, -, -, statHealth⟩ := stat_apart g c c
    rw [told _ _ (dio_notCause statPage) (irqstat_ne_stat c g) statHealth, get_vsEnter _ g vsFault (dio_notCause statPage).1 (irqstat_ne_stat c)
        word (.inr ((by decide : 9 ≤ 16).trans high)) fun v => flags_dioShow v g c high (word.trans (by decide)),
      get_put_ne _ _ _ _ _ _ gstat, get_putB_ne _ _ _ _ _ _ gstat, get_dgrpSet]

end Sys2Proof.Proofs
end

section
/-! PROOF. The commands of digital inputs and of the diagnostics of digital outputs (R219 to R226, R228, R232), each by what its effect
leaves. -/

namespace Sys2Proof.Proofs

open Sys2Proof.Machine Sys2Proof.Laws

/-! From what a command of a group leaves to what its next state shows -/

/-- The next state `t` shows what a command of group `g`, run from `s`, left in `w`. -/
structure GroupShows (g : Nat) (s : State) (w : Work) (t : State) : Prop where
  same : Same (fun a => a / 4096 = dioPage g ∨ Follows a) s t
  dio : t.x.dio = w.x.dio
  settled : Settled w t

/-- A command of one group shows what its effect left. -/
theorem runs_group {c : Instr} {s : State} {g : Nat} {f : Work → Work} {P : State → Prop} (he : exec c s = runCmd s f) (hq : Quiet s)
    (step : DioStep g (begin s) (f (begin s))) (h : ∀ t, GroupShows g s (f (begin s)) t → P t) : Runs c s P := by
  refine runs_settled he (by rw [step.task]; exact hq) fun t ht => h t ⟨fun a ha => ht.same step.regs a fun o => ha (o.elim id .inr), ?_, ht⟩
  obtain ⟨_, _, _, _, _, hx⟩ := ht.noise
  rw [hx]

section
variable {g ch : Nat} {s t : State} {w : Work}

/-- A register of the group's page reads as the effect left it. -/
theorem GroupShows.get (h : GroupShows g s w t) {a : Nat} (ha : a / 4096 = dioPage g) (f : Fld) : t.get a f = w.get a f :=
  h.settled.get (dio_not_follows ha) f

theorem GroupShows.dch (h : GroupShows g s w t) : (begin t).dch ch = w.dch ch := by
  show tabGet {} t.x.dio.ch ch = _
  rw [h.dio]
  rfl

/-- A channel that has published reads the quality of its state (R220, R226). -/
theorem GroupShows.qual (h : GroupShows (ch / 8) s (w.dioShowCh ch) t) :
    t.get (DCH.STAT ch) DCH.STAT_QUAL = (begin t).dioQual ch ∧ (begin t).dioQual ch = w.dioQual ch := by
  obtain ⟨cfg, stat, -⟩ := dch_pages ch
  obtain ⟨gstat, -⟩ := dio_pages (ch / 8)
  obtain ⟨apartStat, apartGout, apartGin, -⟩ := gstat_apart (ch / 8) (ch / 8) ch
  obtain ⟨-, -, -, cfgStat, -⟩ := stat_apart 0 ch ch
  have published := dioShowCh_publishes w ch
  have quality : (begin t).dioQual ch = w.dioQual ch := by
    refine dioQual_congr (fun f high word => (h.get stat f).trans (published.flags ch f high word)) ((h.get cfg _).trans ?_)
      ((h.get gstat _).trans ?_) (h.dch.trans (dch_dioShowCh w ch ch))
    · exact get_dioShowCh w ch ⟨cfgStat, by unfold DCH.CFG DIO.GOUT; omega, by unfold DCH.CFG DIO.GIN; omega⟩ _
    · exact get_dioShowCh w ch ⟨apartStat, apartGout, apartGin⟩ _
  exact ⟨by rw [h.get stat, published.qual, quality], quality⟩

end

/-- A command after which a channel publishes shows the conditions as they stood before the publishing. -/
theorem runs_condition {c : Instr} {s : State} {f : Work → Work} (he : exec c s = runCmd s f) (hq : Quiet s) {ch : Nat} {u : Work}
    (effect : f (begin s) = u.dioShowCh ch) (step : DioStep (ch / 8) (begin s) u) {k : Fld} {n : Nat} (high : 16 ≤ k.lo)
    (word : k.lo + k.w ≤ 32) (stands : u.get (DCH.STAT ch) k = n) : Runs c s fun t => t.get (DCH.STAT ch) k = n := by
  obtain ⟨-, stat, -⟩ := dch_pages ch
  refine runs_group he hq (by rw [effect]; exact step.dioShowCh rfl) fun t ht => ?_
  rw [ht.get stat, effect, (dioShowCh_publishes u ch).flags ch k high word, stands]

/-! The filtered state of an input (R219, R222) -/

theorem dch_evFlag (w : Work) (p sub a b : Nat) (l : Bool) (c : Nat) : (w.evFlag p sub a b l).dch c = w.dch c := by
  unfold Work.dch
  rw [xn_evFlag, noisy_dio]

/-- A filter that takes the other level: the channel holds it, and a rising edge is counted. -/
theorem dioFilt_takes {w : Work} {ch : Nat} {l : Bool} (other : (w.dch ch).filt = !l) :
    (w.dioFilt ch l).dch ch = { w.dch ch with filt := l }
    ∧ (w.dioFilt ch l).rd (DCH.COUNT ch)
      = DCH.COUNT_EDGES.set (w.rd (DCH.COUNT ch)) (w.get (DCH.COUNT ch) DCH.COUNT_EDGES + if l then 1 else 0)
    ∧ (w.dioFilt ch l).dioMode ch = w.dioMode ch := by
  obtain ⟨cfg, -, -, count, -⟩ := dch_pages ch
  have changes : ¬ (w.dch ch).filt = l := by rw [other]; cases l <;> decide
  unfold Work.dioFilt
  rw [if_neg changes]
  extract_lets taken counted
  have takenD : taken.dch ch = { w.dch ch with filt := l } := (dch_dchSet w ch ch _).trans (if_pos rfl)
  have countedD : counted.dch ch = taken.dch ch := by unfold counted Work.when; split <;> rfl
  have countedR : counted.rd (DCH.COUNT ch)
      = DCH.COUNT_EDGES.set (w.rd (DCH.COUNT ch)) (w.get (DCH.COUNT ch) DCH.COUNT_EDGES + if l then 1 else 0) := by
    cases l with
    | true => exact if_pos rfl
    | false => exact (set_get_self DCH.COUNT_EDGES _ (by decide)).symm
  have countedM : counted.dioMode ch = w.dioMode ch := by
    unfold Work.dioMode
    rw [get_when, get_incWrap_ne _ _ _ _ _ (by unfold DCH.COUNT DCH.CFG; omega), ite_self]
    rfl
  refine ⟨?_, ?_, ?_⟩
  · rw [← takenD, ← countedD]
    unfold Work.when
    split
    · rw [dch_evFlag]
    · rfl
  · rw [rd_when, rd_evFlag _ _ _ _ _ _ _ (dio_notCause count).1, ite_self, countedR]
  · unfold Work.dioMode
    rw [get_when, get_evFlag _ _ _ _ _ _ _ _ (dio_notCause cfg).1, ite_self]
    exact countedM

/-- An output's effective command does not depend on whether its group has been heard anew (R223, R228). -/
theorem dioEff_dioHeard {w : Work} {g : Nat} (link : (w.dgrp g).link = true) (ch : Nat) : (w.dioHeard g).dioEff ch = w.dioEff ch := by
  unfold Work.dioEff
  dsimp only
  rw [dgrp_dioHeard link]
  rfl

/-- An output that is on has a live link (R228). -/
theorem link_of_dioEff {w : Work} {ch : Nat} (on : w.dioEff ch = true) : (w.dgrp (ch / 8)).link = true := by
  simp only [Work.dioEff, Bool.and_eq_true] at on
  obtain ⟨⟨⟨⟨⟨-, link⟩, -⟩, -⟩, -⟩, -⟩ := on
  exact link

/-- An output that answers in a group that is UP is diagnosed (R226). -/
theorem diagnosed {w : Work} {ch : Nat} (live : w.dioLive (ch / 8) = true) (mode : w.dioMode ch = 2) (up : w.vstate (ch / 8) = vsUp)
    (dark : (w.dgrp (ch / 8)).dark = false) : ¬ (w.dioLive (ch / 8) = false ∨ w.dioMode ch ≠ 2 ∨ w.vstate (ch / 8) ≠ vsUp
      ∨ (w.dgrp (ch / 8)).dark = true) := by
  simp [live, mode, up, dark]

section
variable {s : State} {ch : Nat} (hq : Quiet s) (live : (begin s).dioLive (ch / 8) = true)
include hq live

/-! Inputs -/

/-- R219, R220, R222: an input's filter takes a level. -/
theorem runs_diFilterChange (l : Bool) (mode : (begin s).dioMode ch = 1) (dark : ((begin s).dgrp (ch / 8)).dark = false)
    (other : ((begin s).dch ch).filt = !l) : Runs (.diFilterChange ch l) s fun t =>
    ((begin t).dch ch).filt = l ∧ t.get (DCH.STAT ch) DCH.STAT_PIN = (if l then 1 else 0)
    ∧ t.rd (DCH.COUNT ch) = DCH.COUNT_EDGES.set (s.rd (DCH.COUNT ch)) (s.get (DCH.COUNT ch) DCH.COUNT_EDGES + if l then 1 else 0)
    ∧ t.get (DCH.STAT ch) DCH.STAT_QUAL = (begin t).dioQual ch
    ∧ ((begin t).dioQual ch ≠ qBad → t.get (DCH.STAT ch) DCH.STAT_IN = if l then 1 else 0)
    ∧ Same (fun a => a / 4096 = dioPage (ch / 8) ∨ Follows a) s t := by
  obtain ⟨-, stat, -, count, -⟩ := dch_pages ch
  let sampled := ((begin s).dioHeard (ch / 8)).dchSet ch fun c => { c with raw := l }
  have effect : diFilterChange ch l (begin s) = (sampled.dioFilt ch l).dioShowCh ch := by
    unfold diFilterChange
    exact if_neg (by simp [live, mode, dark, other])
  have step := ((((DioStep.refl (g := ch / 8) (begin s)).dioHeard (ch / 8)).dchSet ch fun c => { c with raw := l }).dioFilt rfl l).dioShowCh rfl
  have sampledD : sampled.dch ch = { (begin s).dch ch with raw := l } := (dch_dchSet _ _ _ _).trans (if_pos rfl)
  obtain ⟨taken, counted, input⟩ := dioFilt_takes (w := sampled) (ch := ch) (l := l) (by rw [sampledD]; exact other)
  have isInput : (sampled.dioFilt ch l).dioMode ch = 1 := input.trans mode
  have published := dioShowCh_publishes (sampled.dioFilt ch l) ch
  refine runs_group rfl hq (by rw [effect]; exact step) fun t ht => ?_
  rw [effect] at ht
  obtain ⟨qual, quality⟩ := ht.qual
  refine ⟨?_, ?_, ?_, qual, fun good => ?_, ht.same⟩
  · rw [ht.dch, dch_dioShowCh, taken]
  · rw [ht.get stat, published.pin isInput, taken, sampledD]
  · rw [ht.settled.rd _ (dio_not_follows count),
      keeps_dioShowCh _ _ _ (by unfold DCH.COUNT DCH.STAT DIO.GOUT DIO.GIN; omega), counted]
    rfl
  · rw [ht.get stat, published.input isInput (by rw [← quality]; exact good), taken]

/-- R221: the current of an input with wire-break detection. -/
theorem runs_diWirebrk (cur : Nat) (mode : (begin s).dioMode ch = 1) (dark : ((begin s).dgrp (ch / 8)).dark = false)
    (detects : s.get (DCH.CFG ch) DCH.CFG_WBEN = 1) : Runs (.diWirebrk ch cur) s fun t => t.get (DCH.CUR ch) DCH.CUR_I = min cur 65535
      ∧ t.get (DCH.STAT ch) DCH.STAT_WIREBRK = (if cur ≤ 25 then 1 else if 35 ≤ cur then 0 else s.get (DCH.STAT ch) DCH.STAT_WIREBRK)
      ∧ Same (fun a => a / 4096 = dioPage (ch / 8) ∨ Follows a) s t := by
  obtain ⟨-, stat, -, -, curPage⟩ := dch_pages ch
  let measured := ((begin s).dioHeard (ch / 8)).put (DCH.CUR ch) DCH.CUR_I (min cur 65535)
  let judged (broken : Bool) := (measured.dioCond ch DCH.STAT_WIREBRK broken).dioShowCh ch
  have effect : diWirebrk ch cur (begin s) = if cur ≤ 25 then judged true else if 35 ≤ cur then judged false else measured := by
    unfold diWirebrk
    exact if_neg (by simp [live, mode, dark, Work.flag, detects])
  have measuredS : DioStep (ch / 8) (begin s) measured := ((DioStep.refl _).dioHeard _).put curPage _ _
  have judgedS (broken : Bool) : DioStep (ch / 8) (begin s) (judged broken) := (measuredS.dioCond rfl _ _).dioShowCh rfl
  have measuredC : measured.get (DCH.CUR ch) DCH.CUR_I = min cur 65535 := by
    rw [get_put_same _ _ _ _ (by decide)]
    exact Nat.mod_eq_of_lt (by show _ < 65536; omega)
  have judgedC (broken : Bool) : (judged broken).get (DCH.CUR ch) DCH.CUR_I = min cur 65535 := by
    rw [get_dioShowCh _ _ (by unfold DCH.CUR DCH.STAT DIO.GOUT DIO.GIN; omega), (keeps_dioCond _ _ _ _).get ?_, measuredC]
    unfold DCH.CUR DCH.STAT DCH.STICKY HDR.IRQSTAT dioPage pg
    omega
  have judgedW (broken : Bool) : (judged broken).get (DCH.STAT ch) DCH.STAT_WIREBRK = if broken then 1 else 0 := by
    rw [(dioShowCh_publishes _ ch).flags ch _ (by decide) (by decide), stat_dioCond_same _ _ _ _ (by decide) (by decide)]
  refine runs_group rfl hq (by rw [effect]; exact (judgedS true).ite ((judgedS false).ite measuredS)) fun t ht => ⟨?_, ?_, ht.same⟩
  · rw [ht.get curPage, effect]
    split_ifs
    exacts [judgedC true, judgedC false, measuredC]
  · obtain ⟨-, -, -, -, -, -, curStat, -⟩ := stat_apart 0 ch ch
    rw [ht.get stat, effect]
    split_ifs
    exacts [judgedW true, judgedW false, get_put_ne _ _ _ _ _ _ curStat]

/-- R232: the filter of an input has refilled. -/
theorem runs_diRefillEnd (refills : ((begin s).dch ch).refill = true) : Runs (.diRefillEnd ch) s fun t => ((begin t).dch ch).refill = false
    ∧ t.get (DCH.STAT ch) DCH.STAT_QUAL = (begin t).dioQual ch := by
  let refilled := (begin s).dchSet ch fun c => { c with refill := false }
  have effect : diRefillEnd ch (begin s) = refilled.dioShowCh ch := by
    unfold diRefillEnd
    exact if_neg (by simp [live, refills])
  have step := ((DioStep.refl (g := ch / 8) (begin s)).dchSet ch fun c => { c with refill := false }).dioShowCh (ch := ch) rfl
  refine runs_group rfl hq (by rw [effect]; exact step) fun t ht => ?_
  rw [effect] at ht
  obtain ⟨qual, -⟩ := ht.qual
  refine ⟨?_, qual⟩
  rw [ht.dch, dch_dioShowCh, dch_dchSet, if_pos rfl]

/-! Outputs -/

/-- R224: an output that is on meets its limit. -/
theorem runs_outputOverload (on : (begin s).dioEff ch = true) : Runs (.outputOverload ch) s fun t =>
    t.get (DCH.STAT ch) DCH.STAT_OVERLOAD = 1
    ∧ t.get (DCH.COUNT ch) DCH.COUNT_TRIPCNT = min (s.get (DCH.COUNT ch) DCH.COUNT_TRIPCNT + 1) (2 ^ DCH.COUNT_TRIPCNT.w - 1)
    ∧ Same (fun a => a / 4096 = dioPage (ch / 8) ∨ Follows a) s t := by
  obtain ⟨-, stat, -, count, -⟩ := dch_pages ch
  let counted := ((begin s).dioHeard (ch / 8)).incSat (DCH.COUNT ch) DCH.COUNT_TRIPCNT
  let off := counted.dioCondRec ch DCH.STAT_OVERLOAD true
  let told := off.evOccur (dioPage (ch / 8)) (ch % 8) (DCH.STAT ch) 17 (off.get (DCH.COUNT ch) DCH.COUNT_TRIPCNT)
  have effect : outputOverload ch (begin s) = told.dioShowCh ch := by
    unfold outputOverload
    exact if_neg (by simp [live, on])
  have countedS : DioStep (ch / 8) (begin s) counted := ((DioStep.refl _).dioHeard _).put count _ _
  have step : DioStep (ch / 8) (begin s) (told.dioShowCh ch) := ((countedS.dioCondRec rfl _ _).emit _ _ _ _).dioShowCh rfl
  refine runs_group rfl hq (by rw [effect]; exact step) fun t ht => ⟨?_, ?_, ht.same⟩
  · rw [ht.get stat, effect, (dioShowCh_publishes told ch).flags ch _ (by decide) (by decide),
      get_evOccur _ _ _ _ _ _ _ _ (dio_notCause stat).1, stat_dioCondRec_same _ _ _ _ (by decide) rfl]
    rfl
  · have apart : DCH.COUNT ch ≠ DCH.STAT ch ∧ DCH.COUNT ch ≠ DCH.STICKY ch ∧ DCH.COUNT ch ≠ HDR.IRQSTAT (dioPage (ch / 8)) := by
      unfold DCH.COUNT DCH.STAT DCH.STICKY HDR.IRQSTAT dioPage pg
      omega
    rw [ht.get count, effect, get_dioShowCh _ _ (by unfold DCH.COUNT DCH.STAT DIO.GOUT DIO.GIN; omega),
      get_evOccur _ _ _ _ _ _ _ _ (dio_notCause count).1, get_dioCondRec_ne _ _ _ _ _ count apart, get_incSat_same _ _ _ (by decide)]
    rfl

/-- R224: a retry stays below the limit. -/
theorem runs_overloadRetry (on : (begin s).dioEff ch = true) (overload : s.get (DCH.STAT ch) DCH.STAT_OVERLOAD = 1) :
    Runs (.overloadRetry ch false) s fun t => t.get (DCH.STAT ch) DCH.STAT_OVERLOAD = 0 := by
  have effect : overloadRetry ch false (begin s) = ((begin s).dioCondRec ch DCH.STAT_OVERLOAD false).dioShowCh ch := by
    unfold overloadRetry
    exact if_neg (by simp [live, on, Work.flag, overload])
  exact runs_condition rfl hq effect ((DioStep.refl _).dioCondRec rfl _ _) (by decide) (by decide)
    (stat_dioCondRec_same _ _ _ _ (by decide) rfl)

/-! Diagnostics of a group that is UP (R226) -/

section
variable (mode : (begin s).dioMode ch = 2) (up : (begin s).vstate (ch / 8) = vsUp) (dark : ((begin s).dgrp (ch / 8)).dark = false)
include mode up dark

/-- R226, R228: an output that is off stays on: its group enters FAULT. -/
theorem runs_doDiagPersist_stuckOn (link : ((begin s).dgrp (ch / 8)).link = true) (off : (begin s).dioEff ch = false) :
    Runs (.doDiagPersist ch .stuckOn true) s fun t => t.get (DCH.STAT ch) DCH.STAT_STUCKON = 1
      ∧ t.get (DIO.GSTAT (ch / 8)) DIO.GSTAT_VSTATE = vsFault ∧ t.get (DIO.GSTAT (ch / 8)) DIO.GSTAT_GSWOPEN = 1 := by
  obtain ⟨-, stat, -⟩ := dch_pages ch
  obtain ⟨gstat, -⟩ := dio_pages (ch / 8)
  let stuck := ((begin s).dioHeard (ch / 8)).dioCondRec ch DCH.STAT_STUCKON true
  have effect : doDiagPersist ch .stuckOn true (begin s) = stuck.dioFault (ch / 8) 0x01 := by
    unfold doDiagPersist
    dsimp only
    rw [if_neg (diagnosed live mode up dark), dioEff_dioHeard link, off]
    rfl
  have step : DioStep (ch / 8) (begin s) (stuck.dioFault (ch / 8) 0x01) := (((DioStep.refl _).dioHeard _).dioCondRec rfl _ _).dioFault _
  obtain ⟨fault, opened, flags⟩ := dioFault_shows stuck (ch / 8) 0x01
  refine runs_group rfl hq (by rw [effect]; exact step) fun t ht => ⟨?_, ?_, ?_⟩
  · rw [ht.get stat, effect, flags ch _ (by decide) (by decide), stat_dioCondRec_same _ _ _ _ (by decide) rfl]
    rfl
  · rw [ht.get gstat, effect, fault]
  · rw [ht.get gstat, effect, opened]

/-- R226: an output that is off, and that no partner drives, is driven from outside. -/
theorem runs_doDiagPersist_backFed (link : ((begin s).dgrp (ch / 8)).link = true) (off : (begin s).dioEff ch = false)
    (alone : s.get (DCH.CFG ch) DCH.CFG_PAIRED = 0) :
    Runs (.doDiagPersist ch .backFed true) s fun t => t.get (DCH.STAT ch) DCH.STAT_BACKFED = 1 := by
  let heard := (begin s).dioHeard (ch / 8)
  have effect : doDiagPersist ch .backFed true (begin s) = (heard.dioCondRec ch DCH.STAT_BACKFED true).dioShowCh ch := by
    unfold doDiagPersist
    dsimp only
    rw [if_neg (diagnosed live mode up dark), dioEff_dioHeard link, off]
    exact if_neg (by simp [Work.flag, alone])
  exact runs_condition rfl hq effect (((DioStep.refl _).dioHeard _).dioCondRec rfl _ _) (by decide) (by decide)
    (stat_dioCondRec_same _ _ _ _ (by decide) rfl)

/-- R226: an output that is on, with the check enabled, carries no load. -/
theorem runs_doDiagPersist_openLoad (on : (begin s).dioEff ch = true) (checks : s.get (DCH.CFG ch) DCH.CFG_OLEN = 1) :
    Runs (.doDiagPersist ch .openLoad true) s fun t => t.get (DCH.STAT ch) DCH.STAT_OPENLOAD = 1 := by
  let heard := (begin s).dioHeard (ch / 8)
  have effect : doDiagPersist ch .openLoad true (begin s) = (heard.dioCondRec ch DCH.STAT_OPENLOAD true).dioShowCh ch := by
    unfold doDiagPersist
    dsimp only
    rw [if_neg (diagnosed live mode up dark), dioEff_dioHeard (link_of_dioEff on), on]
    exact if_neg (by simp [Work.flag, checks])
  exact runs_condition rfl hq effect (((DioStep.refl _).dioHeard _).dioCondRec rfl _ _) (by decide) (by decide)
    (stat_dioCondRec_same _ _ _ _ (by decide) rfl)

/-- R226: an output that is on and not in overload reads back as off. -/
theorem runs_doDiagPersist_rbFail (on : (begin s).dioEff ch = true) (clear : s.get (DCH.STAT ch) DCH.STAT_OVERLOAD = 0) :
    Runs (.doDiagPersist ch .rbFail true) s fun t => t.get (DCH.STAT ch) DCH.STAT_RBFAIL = 1 := by
  obtain ⟨-, stat, -⟩ := dch_pages ch
  obtain ⟨-, -, -, -, -, -, -, irqstat, health⟩ := stat_apart (ch / 8) ch ch
  let failed := ((begin s).dioHeard (ch / 8)).dioCondRec ch DCH.STAT_RBFAIL true
  let told := failed.blockFault (dioPage (ch / 8)) 0x02 0x09 ((groupChs (ch / 8)).any fun c => failed.flag (DCH.STAT c) DCH.STAT_RBFAIL)
  have effect : doDiagPersist ch .rbFail true (begin s) = told.dioShowCh ch := by
    unfold doDiagPersist
    dsimp only
    rw [if_neg (diagnosed live mode up dark), dioEff_dioHeard (link_of_dioEff on), on]
    exact if_neg (by simp [Work.flag, clear])
  have shown : told.get (DCH.STAT ch) DCH.STAT_RBFAIL = 1 := by
    rw [get_blockFault _ _ _ _ _ _ _ ⟨dio_notCause stat, health.symm, irqstat.symm⟩, stat_dioCondRec_same _ _ _ _ (by decide) rfl]
    rfl
  exact runs_condition rfl hq effect ((((DioStep.refl _).dioHeard _).dioCondRec rfl _ _).blockFault _ _ _) (by decide) (by decide) shown

end

end

/-- Settles O19, command by command. The rules behind it are those of chapter 07: R216 and R219 to R222 of inputs, R223 to R226 and R228 of
outputs, R232 of the refilling. -/
theorem digitalChannelCommands : Obligations.DigitalChannelCommands := by
  intro s ch hq _ live
  exact ⟨runs_diFilterChange hq live, runs_diWirebrk hq live, runs_diRefillEnd hq live, runs_outputOverload hq live, runs_overloadRetry hq live,
    fun mode up dark link off => ⟨runs_doDiagPersist_stuckOn hq live mode up dark link off,
      runs_doDiagPersist_backFed hq live mode up dark link off⟩,
    fun mode up dark on => ⟨runs_doDiagPersist_openLoad hq live mode up dark on, runs_doDiagPersist_rbFail hq live mode up dark on⟩⟩

end Sys2Proof.Proofs
end

section
/-! PROOF. The field supply of a digital group beside its registers (R229 to R232): what a supply state's entry, a publishing and an
acknowledgement leave. -/

namespace Sys2Proof.Proofs

open Sys2Proof.Machine Sys2Proof.Laws

theorem x_each {α : Type} {f : Work → α → Work} (h : ∀ v e, (f v e).x = v.x) (l : List α) : ∀ w : Work, (w.each l f).x = w.x := by
  induction l with
  | nil => exact fun _ => rfl
  | cons e t ih => exact fun w => (ih (f w e)).trans (h w e)

/-! What stands beside the registers -/

@[simp] theorem x_dioCond (w : Work) (ch : Nat) (f : Fld) (on : Bool) : (w.dioCond ch f on).x = w.x := by
  unfold Work.dioCond
  simp only [x_when, x_irq, x_putB, ite_self]

@[simp] theorem x_dioShow (w : Work) (g : Nat) : (w.dioShow g).x = w.x := by
  unfold Work.dioShow
  rw [x_flagIrq]
  exact x_each (fun v ch => x_dioShowCh v ch) _ w

/-- The groups beside their registers are read off the digital part of the state alone. -/
theorem dgrp_of_dio {u w : Work} (h : w.x.dio = u.x.dio) (m : Nat) : w.dgrp m = u.dgrp m := by
  unfold Work.dgrp
  rw [h]

@[simp] theorem dgrp_put (w : Work) (a : Nat) (f : Fld) (n m : Nat) : (w.put a f n).dgrp m = w.dgrp m := rfl

@[simp] theorem dioLive_dgrpSet (w : Work) (g : Nat) (f : DioGrp → DioGrp) (m : Nat) : (w.dgrpSet g f).dioLive m = w.dioLive m := rfl

@[simp] theorem dgrp_dioShow (w : Work) (g m : Nat) : (w.dioShow g).dgrp m = w.dgrp m := dgrp_of_dio (by rw [x_dioShow]) m

@[simp] theorem dgrp_blockFault (w : Work) (page p k : Nat) (on : Bool) (m : Nat) : (w.blockFault page p k on).dgrp m = w.dgrp m :=
  dgrp_of_dio (by rw [xn_blockFault, noisy_dio]) m

@[simp] theorem dgrp_each_dioCond (w : Work) (l : List Nat) (f : Fld) (on : Bool) (m : Nat) :
    (w.each l fun w ch => w.dioCond ch f on).dgrp m = w.dgrp m :=
  dgrp_of_dio (by rw [x_each fun v ch => x_dioCond v ch f on]) m

/-- What a supply state's entry leaves of the group: its restore turn starts anew, its shedding is over (R225, R230). -/
theorem dgrp_vsEnter (w : Work) (g st : Nat) : ∃ turn, (w.vsEnter g st).dgrp g = { w.dgrp g with next := turn, shedding := false } := by
  unfold Work.vsEnter
  extract_lets entered cut await told turn up
  have enteredD : entered.x.dio = w.x.dio := by rw [xn_evState, noisy_dio, x_put]
  have toldX : told.x = await.x := x_each (fun v ch => by rw [x_dioCond, x_dioCond]) _ _
  have awaitX : await.x = entered.x := by simp only [await, cut, x_when, x_irq, ite_self]
  have toldD : told.dgrp g = w.dgrp g := dgrp_of_dio (by rw [toldX, awaitX, enteredD]) g
  have upD : up.dgrp g = turn.dgrp g := dgrp_of_dio (by rw [x_when, x_putB, ite_self]) g
  refine ⟨if st = vsUp ∧ told.dioWantedFrom g 0 ≠ [] then some 0 else none, ?_⟩
  rw [dgrp_dioShow, upD, dgrp_dgrpSet, if_pos rfl, toldD]

/-! The registers of the supply -/

/-- GSTAT shows the supply state entered (R229, R238). -/
theorem vstate_vsEnter (w : Work) (g : Nat) {st : Nat} (hst : st < 8) : (w.vsEnter g st).get (DIO.GSTAT g) DIO.GSTAT_VSTATE = st := by
  obtain ⟨gstat, -⟩ := dio_pages g
  rw [get_vsEnter w g st (dio_notCause gstat).1 (irqstat_ne_gstat g) (by decide) (by decide) fun v => gstat_dioShow v g (by decide),
    get_put_same _ _ _ _ (by decide)]
  exact Nat.mod_eq_of_lt hst

theorem vfmeas_page (g : Nat) : DIO.VFMEAS g / 4096 = dioPage g := by unfold DIO.VFMEAS dioPage; omega

/-- VFMEAS is no other word of the group or of its channels. -/
theorem vfmeas_apart (g h c : Nat) : DIO.VFMEAS g ≠ DIO.GSTAT h ∧ DIO.VFMEAS g ≠ DIO.GOUT h ∧ DIO.VFMEAS g ≠ DIO.GIN h
    ∧ DIO.VFMEAS g ≠ DIO.GSTOP h ∧ DIO.VFMEAS g ≠ DCH.STAT c ∧ DIO.VFMEAS g ≠ DCH.CFG c ∧ DIO.VFMEAS g ≠ DCH.STICKY c
    ∧ DIO.VFMEAS g ≠ HDR.IRQSTAT (dioPage h) := by
  unfold DIO.VFMEAS DIO.GSTAT DIO.GOUT DIO.GIN DIO.GSTOP DCH.STAT DCH.CFG DCH.STICKY HDR.IRQSTAT dioPage pg
  omega

/-- A measured supply touches no field of the group's state (R239). -/
@[simp] theorem gstat_vfSeen (w : Work) (g mv : Nat) (f : Fld) : (w.vfSeen g mv).get (DIO.GSTAT g) f = w.get (DIO.GSTAT g) f := by
  obtain ⟨gstat, -⟩ := vfmeas_apart g g 0
  exact get_put_ne _ _ _ _ _ _ gstat

@[simp] theorem vstate_vfSeen (w : Work) (g mv : Nat) : (w.vfSeen g mv).vstate g = w.vstate g := gstat_vfSeen w g mv _

@[simp] theorem dgrp_vfSeen (w : Work) (g mv : Nat) : (w.vfSeen g mv).dgrp g = { w.dgrp g with link := true, vf := mv } := by
  unfold Work.vfSeen
  rw [dgrp_put, dgrp_dgrpSet, if_pos rfl, Work.dioHeard, dgrp_dgrpSet, if_pos rfl]

/-- A group that publishes leaves its measurements. -/
theorem vfmeas_dioShow (w : Work) (g : Nat) (f : Fld) : (w.dioShow g).get (DIO.VFMEAS g) f = w.get (DIO.VFMEAS g) f := by
  obtain ⟨gstat, -, -, -, -, -, -, irqstat⟩ := vfmeas_apart g g 0
  unfold Work.dioShow
  rw [get_flagIrq_ne _ _ _ _ _ _ _ _ ⟨gstat, irqstat⟩]
  refine get_each (fun v ch => get_dioShowCh v ch ?_ f) _ w
  obtain ⟨-, gout, gin, -, stat, -⟩ := vfmeas_apart g (ch / 8) ch
  exact ⟨stat, gout, gin⟩

/-- A group that publishes with a shed output shows it in SHEDACT (R225, R238). -/
theorem shedact_dioShow (w : Work) {g ch : Nat} (mem : ch ∈ groupChs g) (shed : w.get (DCH.STAT ch) DCH.STAT_SHED = 1) :
    (w.dioShow g).get (DIO.GSTAT g) DIO.GSTAT_SHEDACT = 1 := by
  unfold Work.dioShow
  extract_lets shown anyShed
  have stands : shown.get (DCH.STAT ch) DCH.STAT_SHED = 1 := by
    rw [← shed]
    exact get_each (fun v c => (dioShowCh_publishes v c).flags ch _ (by decide) (by decide)) _ w
  have any : anyShed = true := List.any_eq_true.2 ⟨ch, mem, by simp [Work.flag, stands]⟩
  rw [any, get_flagIrq_same _ _ _ _ _ _ (irqstat_ne_gstat g g) (by decide) (by decide)]
  rfl

/-! The outputs of a group -/

/-- An output is off in every supply state but UP (R223). -/
theorem dioEff_of_not_up {w : Work} {ch : Nat} (h : w.vstate (ch / 8) ≠ vsUp) : w.dioEff ch = false := by
  simp [Work.dioEff, h]

/-- A measured output current changes no effective command and no condition (R239). -/
theorem dioEff_put_vfmeas (w : Work) (g : Nat) (k : Fld) (n ch : Nat) : (w.put (DIO.VFMEAS g) k n).dioEff ch = w.dioEff ch := by
  obtain ⟨gstat, gout, -, gstop, stat, cfg, -⟩ := vfmeas_apart g (ch / 8) ch
  have reads {a : Nat} (ha : DIO.VFMEAS g ≠ a) (f : Fld) : (w.put (DIO.VFMEAS g) k n).flag a f = w.flag a f := by
    unfold Work.flag
    rw [get_put_ne _ _ _ _ _ _ ha]
  have wanted : (w.put (DIO.VFMEAS g) k n).dioWanted ch = w.dioWanted ch := by
    unfold Work.dioWanted Work.dioMode
    dsimp only
    rw [reads gout, reads gstop, reads gstop, reads cfg, get_put_ne _ _ _ _ _ _ cfg]
    rfl
  unfold Work.dioEff Work.vstate
  dsimp only
  rw [wanted, reads gstat, reads stat, get_put_ne _ _ _ _ _ _ gstat]
  rfl

/-- The outputs still to be switched on, as those of the blocks from `k` on. -/
theorem dioWantedFrom_eq (w : Work) (g : Nat) {k : Nat} (hk : k ≤ 8) :
    w.dioWantedFrom g k = (List.range' k (8 - k)).filter fun j => w.dioWanted (8 * g + j) := by
  interval_cases k <;> rfl

/-- An output whose turn it is and whose command is on stands first among those still to be switched on (R230). -/
theorem dioWantedFrom_cons {w : Work} {g k : Nat} (hk : k < 8) (wanted : w.dioWanted (8 * g + k) = true) :
    w.dioWantedFrom g k = k :: w.dioWantedFrom g (k + 1) := by
  rw [dioWantedFrom_eq w g hk.le, dioWantedFrom_eq w g hk, show 8 - k = 8 - (k + 1) + 1 by omega, List.range'_succ,
    List.filter_cons_of_pos (p := fun j => w.dioWanted (8 * g + j)) wanted]

/-- Where no command is on there is no output still to be switched on. -/
theorem dioWantedFrom_nil {w : Work} {g k : Nat} (allOff : ∀ j, k ≤ j → j < 8 → w.dioWanted (8 * g + j) = false) :
    w.dioWantedFrom g k = [] := by
  refine List.filter_eq_nil_iff.2 fun j mem => ?_
  by_cases from_k : k ≤ j
  · simp [allOff j from_k (List.mem_range.1 mem)]
  · simp [from_k]

/-- The restore turn once the first of the outputs `l` still to be switched on has been: over with the last of them (R230). -/
def turnAfter : List Nat → Option Nat
  | j :: _ :: _ => some (j + 1)
  | _ => none

/-! What the operations of the supply touch -/

namespace DioStep
variable {g : Nat} {u w : Work}

theorem flagIrq (h : DioStep g u w) {a : Nat} (ha : a / 4096 = dioPage g) (f : Fld) (l : Bool) (bit : Nat) :
    DioStep g u (w.flagIrq (dioPage g) a f l bit) := by
  unfold Work.flagIrq
  exact (h.put ha _ _).when _ ((h.put ha _ _).irq _)

theorem vfSeen (h : DioStep g u w) (mv : Nat) : DioStep g u (w.vfSeen g mv) :=
  ((h.dioHeard g).dgrpSet g _).put (vfmeas_page g) _ _

theorem dioRefill (h : DioStep g u w) : DioStep g u (w.dioRefill g) := by
  unfold Work.dioRefill Work.filtReset
  refine h.each _ fun v ch mem => ?_
  exact (((DioStep.refl v).dioFilt (group_of_mem mem) _).ite (.refl v)).dchSet ch _

theorem dioDark (h : DioStep g u w) (dark : Bool) (mv : Nat) : DioStep g u (w.dioDark g dark mv) := by
  unfold Work.dioDark
  have answers := h.dgrpSet g fun s => { s with dark := dark, vf := mv }
  have told := answers.each (groupChs g) (f := fun w ch => w.dioCond ch DCH.STAT_DARK dark) fun v ch mem =>
    (DioStep.refl v).dioCond (group_of_mem mem) _ _
  exact ((told.blockFault _ _ _).dioShow).ite answers

/-- The sensors' part of the state stands. -/
theorem sens (h : DioStep g u w) : w.x.sens = u.x.sens := by
  obtain ⟨_, _, _, _, _, _, hx⟩ := h.rest
  rw [hx]

end DioStep

/-! The acknowledgement (R231, R237) -/

theorem gctl_page (g : Nat) : DIO.GCTL g / 4096 = dioPage g := by unfold DIO.GCTL dioPage; omega

/-- Of a word written to a block other than the points' every bit counts (R373). -/
theorem effective_noPoint {a : Nat} (h : kindOf (a / 4096) ≠ .pt) (old v : Word) : effective a old v = v := by
  have frozen : frozenMask a = 0#32 := if_neg fun k => h k.1
  unfold effective
  rw [frozen, BitVec.not_zero, BitVec.and_allOnes, BitVec.and_zero, BitVec.or_zero]

section
variable {g : Nat} (hg : g < 8)
include hg

theorem kindOf_dioPage : kindOf (dioPage g) = .dio := by
  interval_cases g <;> rfl

/-- VFACK is the one field of its word. -/
theorem fieldsOn_gctl : fieldsOn (DIO.GCTL g) = [⟨0, 1, .w1s, .val, 0, 1⟩] := by
  have off : DIO.GCTL g % 4096 = 0x44 := by unfold DIO.GCTL; omega
  have fields : fieldsAt (DIO.GCTL g) = [⟨0, 1, .w1s, .val, 0, 1⟩] := by
    unfold fieldsAt tabOff
    rw [gctl_page, kindOf_dioPage hg]
    dsimp only
    rw [off]
    rfl
  unfold fieldsOn
  rw [fields, List.map_singleton, if_neg (by unfold DIO.GCTL TRK.CFG; omega)]

/-- A group in AWAITACK that an acknowledgement reaches enters UP. -/
theorem store_vfack {w : Work} (p : Party) {v : Word} (ack : DIO.GCTL_VFACK.get v = 1) (awaits : w.vstate g = vsAwait) :
    w.store p (DIO.GCTL g) v = w.vsEnter g vsUp := by
  have kind : kindOf (DIO.GCTL g / 4096) = .dio := by rw [gctl_page, kindOf_dioPage hg]
  have acts : touched (DIO.GCTL g) (w.rd (DIO.GCTL g)) v = [⟨0, 1, .w1s, .val, 0, 1⟩] := by
    unfold touched
    rw [fieldsOn_gctl hg]
    refine List.filter_cons_of_pos ?_
    show decide (DIO.GCTL_VFACK.get v ≠ 0) = true
    rw [ack]
    rfl
  have nothingStored : written (DIO.GCTL g) (w.rd (DIO.GCTL g)) v = w.rd (DIO.GCTL g) := by
    unfold written
    rw [fieldsOn_gctl hg]
    rfl
  have reaches : w.blockWritten p (DIO.GCTL g) (w.rd (DIO.GCTL g)) v = w.vsEnter g vsUp := by
    unfold Work.blockWritten
    dsimp only
    rw [kind, gctl_page]
    dsimp only
    rw [show dioPage g - 0x090 = g by unfold dioPage; omega, if_pos rfl, if_pos ack]
    exact if_pos awaits
  unfold Work.store
  dsimp only
  rw [effective_noPoint (by simp [kind]), acts, nothingStored, if_neg (List.cons_ne_nil _ _), if_neg (by decide), if_pos (.inl rfl), reaches]

end

end Sys2Proof.Proofs
end

section
/-! PROOF. The commands of a digital group's field supply (R225, R228 to R232), each by what its effect leaves. -/

namespace Sys2Proof.Proofs

open Sys2Proof.Machine Sys2Proof.Laws

theorem GroupShows.dgrp {g : Nat} {s t : State} {w : Work} (h : GroupShows g s w t) (m : Nat) : (begin t).dgrp m = w.dgrp m :=
  dgrp_of_dio (by rw [← h.dio, x_begin]) m

/-- A command that takes a group into a supply state shows the state entered; of the group beside its registers only the restore turn and the
shedding are new. -/
theorem runs_enters {c : Instr} {s : State} {g : Nat} {f : Work → Work} {P : State → Prop} (he : exec c s = runCmd s f) (hq : Quiet s)
    {u : Work} {st : Nat} (effect : f (begin s) = u.vsEnter g st) (step : DioStep g (begin s) u) (hst : st < 8)
    (h : ∀ t turn, t.get (DIO.GSTAT g) DIO.GSTAT_VSTATE = st → (begin t).dgrp g = { u.dgrp g with next := turn, shedding := false } →
      Same (fun a => a / 4096 = dioPage g ∨ Follows a) s t → P t) : Runs c s P := by
  obtain ⟨gstat, -⟩ := dio_pages g
  refine runs_group he hq (by rw [effect]; exact step.vsEnter st) fun t ht => ?_
  rw [effect] at ht
  obtain ⟨turn, group⟩ := dgrp_vsEnter u g st
  exact h t turn (by rw [ht.get gstat, vstate_vsEnter u g hst]) (by rw [ht.dgrp, group]) ht.same

theorem lt_of_dioLive {w : Work} {g : Nat} (live : w.dioLive g = true) : g < 8 := by
  simp only [Work.dioLive, Bool.and_eq_true, decide_eq_true_eq] at live
  obtain ⟨-, hg⟩ := live
  exact hg

section
variable {s : State} {g : Nat} (hq : Quiet s) (live : (begin s).dioLive g = true)
include hq live

/-! Supply states (R229) -/

/-- R229: the supply of a group falls below 15.5 V; every output goes off. -/
theorem runs_vfCut (mv : Nat) (supply : (begin s).vstate g = vsUp ∨ (begin s).vstate g = vsAwait) (low : mv < 15500) :
    Runs (.vfCut g mv) s fun t => t.get (DIO.GSTAT g) DIO.GSTAT_VSTATE = vsCut ∧ ((begin t).dgrp g).vf = mv
      ∧ (∀ ch ∈ groupChs g, (begin t).dioEff ch = false) ∧ Same (fun a => a / 4096 = dioPage g ∨ Follows a) s t := by
  let seen := (begin s).vfSeen g mv
  have effect : vfCut g mv (begin s) = (seen.dgrpSet g fun s => { s with testing := false }).vsEnter g vsCut := by
    unfold vfCut
    rw [if_neg (by simp [live])]
    exact if_pos (.inl ⟨by rw [vstate_vfSeen]; exact supply, low⟩)
  refine runs_enters rfl hq effect (((DioStep.refl _).vfSeen mv).dgrpSet g _) (by decide) fun t turn cut group same =>
    ⟨cut, ?_, ?_, same⟩
  · rw [group, dgrp_dgrpSet, if_pos rfl, dgrp_vfSeen]
  · intro ch mem
    refine dioEff_of_not_up ?_
    rw [group_of_mem mem]
    show t.get (DIO.GSTAT g) DIO.GSTAT_VSTATE ≠ vsUp
    rw [cut]
    decide

/-- R229: the supply of a group that is cut is back; a start-up test that is still due runs. -/
theorem runs_vfRestore (mv : Nat) (supply : (begin s).vstate g = vsCut) (high : 19500 ≤ mv) :
    Runs (.vfRestore g mv) s fun t => t.get (DIO.GSTAT g) DIO.GSTAT_VSTATE = vsQualify
      ∧ ((begin t).dgrp g).testing = ((begin s).dgrp g).needTest := by
  let seen := (begin s).vfSeen g mv
  have effect : vfRestore g mv (begin s) = (seen.dgrpSet g fun s => { s with testing := s.needTest }).vsEnter g vsQualify := by
    unfold vfRestore
    rw [if_neg (by simp [live])]
    exact if_pos ⟨by rw [vstate_vfSeen]; exact supply, high⟩
  refine runs_enters rfl hq effect (((DioStep.refl _).vfSeen mv).dgrpSet g _) (by decide) fun t turn qualifies group _ => ⟨qualifies, ?_⟩
  rw [group, dgrp_dgrpSet, if_pos rfl, dgrp_vfSeen]

/-- R228, R229: the start-up test passes. -/
theorem runs_dioStartTestEnd_pass (supply : (begin s).vstate g = vsQualify) (testing : ((begin s).dgrp g).testing = true) :
    Runs (.dioStartTestEnd g true) s fun t => ((begin t).dgrp g).testing = false ∧ ((begin t).dgrp g).needTest = false
      ∧ t.get (DIO.GSTAT g) DIO.GSTAT_VSTATE = vsQualify := by
  obtain ⟨gstat, -⟩ := dio_pages g
  obtain ⟨-, -, -, irqstat, health⟩ := gstat_apart g g 0
  let passed := (begin s).dgrpSet g fun s => { s with testing := false, needTest := false }
  have effect : dioStartTestEnd g true (begin s) = passed.blockFault (dioPage g) 0x04 0x09 false := by
    unfold dioStartTestEnd
    rw [if_neg (by simp [live, supply, testing])]
    rfl
  refine runs_group rfl hq (by rw [effect]; exact ((DioStep.refl _).dgrpSet g _).blockFault _ _ _) fun t ht => ?_
  have group : (begin t).dgrp g = { (begin s).dgrp g with testing := false, needTest := false } := by
    rw [ht.dgrp, effect, dgrp_blockFault, dgrp_dgrpSet, if_pos rfl]
  refine ⟨by rw [group], by rw [group], ?_⟩
  rw [ht.get gstat, effect, get_blockFault _ _ _ _ _ _ _ ⟨dio_notCause gstat, health.symm, irqstat.symm⟩]
  exact supply

/-- R228, R229: the start-up test finds a switch that conducts. -/
theorem runs_dioStartTestEnd_fail (supply : (begin s).vstate g = vsQualify) (testing : ((begin s).dgrp g).testing = true) :
    Runs (.dioStartTestEnd g false) s fun t => t.get (DIO.GSTAT g) DIO.GSTAT_VSTATE = vsFault
      ∧ t.get (DIO.GSTAT g) DIO.GSTAT_GSWOPEN = 1 := by
  obtain ⟨gstat, -⟩ := dio_pages g
  have effect : dioStartTestEnd g false (begin s) = (begin s).dioFault g 0x04 := by
    unfold dioStartTestEnd
    rw [if_neg (by simp [live, supply, testing])]
    rfl
  obtain ⟨fault, opened, -⟩ := dioFault_shows (begin s) g 0x04
  refine runs_group rfl hq (by rw [effect]; exact (DioStep.refl _).dioFault _) fun t ht => ⟨?_, ?_⟩
  · rw [ht.get gstat, effect, fault]
  · rw [ht.get gstat, effect, opened]

/-- R229, R230: a group whose supply has qualified enters UP where it was never UP or restores by itself, else it awaits an
acknowledgement. -/
theorem runs_vfQualified (supply : (begin s).vstate g = vsQualify) (tested : ((begin s).dgrp g).testing = false)
    (high : 19500 ≤ ((begin s).dgrp g).vf) : Runs (.vfQualified g) s fun t => t.get (DIO.GSTAT g) DIO.GSTAT_VSTATE
      = if s.get (DIO.GSTAT g) DIO.GSTAT_NEVERUP = 1 ∨ s.get (DIO.GCFG g) DIO.GCFG_AUTOREST = 1 then vsUp else vsAwait := by
  let up := (begin s).flag (DIO.GSTAT g) DIO.GSTAT_NEVERUP || (begin s).flag (DIO.GCFG g) DIO.GCFG_AUTOREST
  have effect : vfQualified g (begin s) = ((begin s).dioRefill g).vsEnter g (if up then vsUp else vsAwait) := by
    unfold vfQualified
    exact if_neg (by simp [live, supply, tested, high])
  have flagged (a : Nat) {f : Fld} (hf : f.lo + f.w ≤ 32) (hw : f.w = 1) : s.get a f = 1 ↔ (begin s).flag a f = true := by
    rw [← get_begin, get_of_flag _ _ hf hw]
    simp
  refine runs_enters rfl hq effect (DioStep.refl _).dioRefill (by split <;> decide) fun t turn entered _ _ => ?_
  simp only [entered, up, Bool.or_eq_true, flagged _ (f := DIO.GSTAT_NEVERUP) (by decide) rfl,
    flagged _ (f := DIO.GCFG_AUTOREST) (by decide) rfl]

/-- R231: an acknowledgement reaches a group that awaits it. -/
theorem runs_vfack (p : Party) (supply : (begin s).vstate g = vsAwait) (present : (begin s).present p = true)
    (bus : (begin s).busError (DIO.GCTL g) = false)
    (free : (begin s).wordRefusal p (DIO.GCTL g) (DIO.GCTL_VFACK.set (s.rd (DIO.GCTL g)) 1) = none) :
    Runs (.vfack p g) s fun t => t.get (DIO.GSTAT g) DIO.GSTAT_VSTATE = vsUp := by
  have hg := lt_of_dioLive live
  have off : ¬ DIO.GCTL g % 4096 < 0x40 := by unfold DIO.GCTL; omega
  have effect : vfack p g (begin s) = (begin s).vsEnter g vsUp := by
    unfold vfack
    rw [if_neg (by omega), rd_begin, write1_block present bus free]
    · exact store_vfack hg p (get_set _ _ _ (by decide)) supply
    · simp [isHdr, off]
    · rw [gctl_page, kindOf_dioPage hg]
      decide
    · unfold DIO.GCTL PROCTOR.CFG PAIR.CFG
      omega
  exact runs_enters rfl hq effect (.refl _) (by decide) fun t turn up _ _ => up

/-- R229: the supply warning rises below 19.2 V and clears above 19.5 V. -/
theorem runs_vfWarn (mv : Nat) (on : Bool) (level : if on then mv < 19200 else 19500 < mv) :
    Runs (.vfWarn g mv) s fun t => t.get (DIO.GSTAT g) DIO.GSTAT_VFWARN = if on then 1 else 0 := by
  obtain ⟨gstat, -⟩ := dio_pages g
  let seen := (begin s).vfSeen g mv
  let turned := seen.flagIrq (dioPage g) (DIO.GSTAT g) DIO.GSTAT_VFWARN on 17
  let told := turned.each (groupChs g) fun w ch => w.dioCond ch DCH.STAT_VFWARN on
  let warned := (told.dioShow g).evFlag (dioPage g) noSub (DIO.GSTAT g) DIO.GSTAT_VFWARN.lo on
  have effect : vfWarn g mv (begin s) = if seen.flag (DIO.GSTAT g) DIO.GSTAT_VFWARN = on then seen else warned := by
    unfold vfWarn
    rw [if_neg (by simp [live])]
    cases on with
    | true =>
      have low : mv < 19200 := level
      cases stands : seen.flag (DIO.GSTAT g) DIO.GSTAT_VFWARN <;>
        simp [seen, warned, told, turned, stands, low, show ¬ 19500 < mv by omega]
    | false =>
      have high : 19500 < mv := level
      cases stands : seen.flag (DIO.GSTAT g) DIO.GSTAT_VFWARN <;>
        simp [seen, warned, told, turned, stands, high, show ¬ mv < 19200 by omega]
  have seenS : DioStep g (begin s) seen := (DioStep.refl _).vfSeen mv
  have toldS : DioStep g (begin s) told := (seenS.flagIrq gstat _ _ _).each _ fun v ch mem => (DioStep.refl v).dioCond (group_of_mem mem) _ _
  have warnedS : DioStep g (begin s) warned := toldS.dioShow.emit _ _ _ _
  have warnedF : warned.get (DIO.GSTAT g) DIO.GSTAT_VFWARN = if on then 1 else 0 := by
    rw [get_evFlag _ _ _ _ _ _ _ _ (dio_notCause gstat).1, gstat_dioShow _ _ (by decide),
      get_each fun v ch => get_dioCond_apart v ch DCH.STAT_VFWARN on (irqstat_ne_gstat g (ch / 8)) (by decide) (by decide),
      get_flagIrq_same _ _ _ _ _ _ (irqstat_ne_gstat g g) (by decide) (by decide)]
  refine runs_group rfl hq (by rw [effect]; exact seenS.ite warnedS) fun t ht => ?_
  rw [ht.get gstat, effect]
  split
  · rename_i stands
    rw [get_of_flag seen _ (by decide) rfl, stands]
  · exact warnedF

/-! Restoring and shedding (R225, R230) -/

/-- R230: a turn of restoring goes on with the next output, or is over. -/
theorem runs_outputRestore {k : Nat} {next : Option Nat} (up : (begin s).vstate g = vsUp) (turn : ((begin s).dgrp g).next = some k)
    (goes : turnAfter ((begin s).dioWantedFrom g k) = next) :
    Runs (.outputRestore g) s fun t => ((begin t).dgrp g).next = next := by
  let turned := (begin s).dgrpSet g fun s => { s with next := next }
  have effect : outputRestore g (begin s) = turned.dioShow g := by
    unfold outputRestore
    rw [if_neg (by simp [live, up]), turn]
    subst goes
    rcases wanted : (begin s).dioWantedFrom g k with _ | ⟨j, _ | ⟨i, l⟩⟩ <;> simp only [turned, turnAfter, wanted]
  refine runs_group rfl hq (by rw [effect]; exact ((DioStep.refl _).dgrpSet g _).dioShow) fun t ht => ?_
  rw [ht.dgrp, effect, dgrp_dioShow, dgrp_dgrpSet, if_pos rfl]

/-- R225: above 4.2 A the highest output that is on is shed. -/
theorem runs_groupShed (cur ch : Nat) (up : (begin s).vstate g = vsUp) (above : 4200 < cur)
    (highest : (groupChs g).reverse.find? (fun c => (begin s).dioEff c && !(begin s).flag (DCH.STAT c) DCH.STAT_OVERLOAD) = some ch) :
    Runs (.groupShed g cur) s fun t => t.get (DCH.STAT ch) DCH.STAT_SHED = 1 ∧ t.get (DIO.GSTAT g) DIO.GSTAT_SHEDACT = 1
      ∧ t.get (DIO.VFMEAS g) DIO.VFMEAS_IGRP = min cur 65535 := by
  have mem : ch ∈ groupChs g := List.mem_reverse.1 (List.mem_of_find?_eq_some highest)
  have group := group_of_mem mem
  have on : (begin s).dioEff ch = true := by
    have found := List.find?_some highest
    exact (Bool.and_eq_true_iff.1 found).1
  have link : ((begin s).dgrp g).link = true := group ▸ link_of_dioEff on
  obtain ⟨gstat, -⟩ := dio_pages g
  obtain ⟨-, stat, -⟩ := dch_pages ch
  rw [group] at stat
  let measured := ((begin s).dioHeard g).put (DIO.VFMEAS g) DIO.VFMEAS_IGRP (min cur 65535)
  let shed := (measured.dgrpSet g fun s => { s with shedding := true }).dioCondRec ch DCH.STAT_SHED true
  have commands : (fun c => measured.dioEff c && !measured.flag (DCH.STAT c) DCH.STAT_OVERLOAD)
      = fun c => (begin s).dioEff c && !(begin s).flag (DCH.STAT c) DCH.STAT_OVERLOAD := by
    funext c
    obtain ⟨-, -, -, -, apart, -⟩ := vfmeas_apart g g c
    have clear : measured.flag (DCH.STAT c) DCH.STAT_OVERLOAD = (begin s).flag (DCH.STAT c) DCH.STAT_OVERLOAD := by
      unfold Work.flag
      rw [get_put_ne _ _ _ _ _ _ apart, get_dioHeard]
    rw [dioEff_put_vfmeas, dioEff_dioHeard link, clear]
  have effect : groupShed g cur (begin s) = shed.dioShow g := by
    unfold groupShed
    rw [if_neg (by simp [live, up])]
    dsimp only
    rw [if_pos (.inl above)]
    show (match (groupChs g).reverse.find? (fun c => measured.dioEff c && !measured.flag (DCH.STAT c) DCH.STAT_OVERLOAD) with
      | some ch => ((measured.dgrpSet g fun s => { s with shedding := true }).dioCondRec ch DCH.STAT_SHED true).dioShow g
      | none => measured) = shed.dioShow g
    rw [commands, highest]
  have measuredS : DioStep g (begin s) measured := ((DioStep.refl _).dioHeard g).put (vfmeas_page g) _ _
  have shedF : shed.get (DCH.STAT ch) DCH.STAT_SHED = 1 := stat_dioCondRec_same _ _ _ _ (by decide) rfl
  refine runs_group rfl hq (by rw [effect]; exact ((measuredS.dgrpSet g _).dioCondRec group _ _).dioShow) fun t ht => ⟨?_, ?_, ?_⟩
  · rw [ht.get stat, effect, flags_dioShow _ _ _ (by decide) (by decide), shedF]
  · rw [ht.get gstat, effect, shedact_dioShow _ mem shedF]
  · obtain ⟨-, -, -, -, apartStat, -, apartSticky, apartIrq⟩ := vfmeas_apart g (ch / 8) ch
    rw [ht.get (vfmeas_page g), effect, vfmeas_dioShow,
      get_dioCondRec_ne _ _ _ _ _ (group.symm ▸ vfmeas_page g) ⟨apartStat, apartSticky, apartIrq⟩, get_dgrpSet,
      get_put_same _ _ _ _ (by decide)]
    exact Nat.mod_eq_of_lt (by show _ < 65536; omega)

/-! The group's island (R220, R228) -/

/-- R228: the group's island has heard no keep-alive. -/
theorem runs_groupLinkLost : Runs (.groupLinkLost g) s fun t => ((begin t).dgrp g).link = false
    ∧ (∀ h, h ≠ g → (begin t).dgrp h = (begin s).dgrp h) ∧ Same (fun a => a / 4096 = dioPage g ∨ Follows a) s t := by
  let lost := (begin s).dgrpSet g fun s => { s with link := false }
  have effect : groupLinkLost g (begin s) = lost.dioShow g := by
    unfold groupLinkLost
    rw [if_neg (Nat.not_le.2 (lt_of_dioLive live))]
    exact if_pos live
  refine runs_group rfl hq (by rw [effect]; exact ((DioStep.refl _).dgrpSet g _).dioShow) fun t ht => ⟨?_, fun h other => ?_, ht.same⟩
  · rw [ht.dgrp, effect, dgrp_dioShow, dgrp_dgrpSet, if_pos rfl]
  · rw [ht.dgrp, effect, dgrp_dioShow, dgrp_dgrpSet, if_neg other.symm]

/-- R220: the group's island stops answering; the sensors stand. -/
theorem runs_groupIslandDark (mv : Nat) : Runs (.groupIslandDark true g true mv) s fun t => ((begin t).dgrp g).dark = true
    ∧ t.x.sens = s.x.sens := by
  have effect : groupIslandDark true g true mv (begin s) = (begin s).dioDark g true mv := if_pos (lt_of_dioLive live)
  have step : DioStep g (begin s) ((begin s).dioDark g true mv) := (DioStep.refl _).dioDark true mv
  have dark : ((begin s).dioDark g true mv).dgrp g = { (begin s).dgrp g with dark := true, vf := mv } := by
    unfold Work.dioDark
    dsimp only
    rw [dioLive_dgrpSet, if_pos live, dgrp_dioShow, dgrp_blockFault, dgrp_each_dioCond, dgrp_dgrpSet, if_pos rfl]
  refine runs_group rfl hq (by rw [effect]; exact step) fun t ht => ⟨by rw [ht.dgrp, effect, dark], ?_⟩
  obtain ⟨_, _, _, _, _, hx⟩ := ht.settled.noise
  rw [hx, effect]
  exact step.sens

end

/-- Settles O20, command by command: R229 of the supply states, R230 of the restoring, R231 of the acknowledgement, R225 of the shedding,
R228 of the group switch. -/
theorem digitalGroupCommands : Obligations.DigitalGroupCommands := by
  intro s p g hq live
  refine ⟨runs_vfCut hq live, runs_vfRestore hq live, runs_dioStartTestEnd_pass hq live, runs_dioStartTestEnd_fail hq live,
    runs_vfQualified hq live, fun mv low => runs_vfWarn hq live mv true low, fun mv high => runs_vfWarn hq live mv false high,
    fun k up turn allOff => runs_outputRestore hq live up turn (by rw [dioWantedFrom_nil allOff]; rfl), fun k up last turn wanted => ?_,
    runs_vfack hq live p, runs_groupShed hq live, runs_groupLinkLost hq live, runs_groupIslandDark hq live⟩
  refine runs_outputRestore hq live up turn ?_
  rw [dioWantedFrom_cons (by omega) wanted]
  cases (begin s).dioWantedFrom g (k + 1) <;> rfl

end Sys2Proof.Proofs
end

section
/-! PROOF. The safety section at work (chapter 08): which registers and which part of the state its operations touch, and what they leave of the
section. -/

namespace Sys2Proof.Proofs

open Sys2Proof.Machine Sys2Proof.Laws

/-! The registers in which the section shows itself -/

/-- SECSTAT, VSMEAS, PWSTAT, CLOGHEAD, CLOGDATA and the two processors' views (R284, R285). -/
abbrev SafeShown (a : Nat) : Prop :=
  a = SAFE.SECSTAT ∨ a = SAFE.VSMEAS ∨ a = SAFE.PWSTAT ∨ a = SAFE.CLOGHEAD ∨ (0x30100 ≤ a ∧ a < 0x30400)

/-- Those, the interrupt and the health word of the page's header, and what follows others. -/
abbrev SafeRegs (a : Nat) : Prop := SafeShown a ∨ a = HDR.IRQSTAT safePage ∨ a = HDR.PGHEALTH safePage ∨ Follows a

theorem view_shown {v k : Nat} (hv : v < 2) : (k < 8 → SafeShown (SAFE.FSTAT v k)) ∧ (k < 4 → SafeShown (SAFE.OSTAT v k))
    ∧ SafeShown (SAFE.PSTAT v) := by
  unfold SafeShown SAFE.FSTAT SAFE.OSTAT SAFE.PSTAT
  omega

theorem clogdata_shown {i : Nat} (hi : i < 16) : SafeShown (SAFE.CLOGDATA i) := by
  unfold SafeShown SAFE.CLOGDATA
  omega

theorem shown_not_irqstat {a : Nat} (h : SafeShown a) (page : Nat) : a ≠ HDR.IRQSTAT page := by
  unfold SafeShown SAFE.SECSTAT SAFE.VSMEAS SAFE.PWSTAT SAFE.CLOGHEAD at h
  unfold HDR.IRQSTAT pg
  omega

/-- No word of the page's block that the section does not show itself in is among them. -/
theorem not_safeRegs {a : Nat} (page : a / 4096 = safePage) (header : a ≠ HDR.IRQSTAT safePage) (health : a ≠ HDR.PGHEALTH safePage)
    (shown : ¬ SafeShown a) : ¬ SafeRegs a := by
  rintro (h | h | h | h)
  exacts [shown h, header h, health h, not_follows (by unfold safePage at page; omega) h]

/-- The sealed configuration is none of them (R283); a two-hand function's partner in slot 8, beyond the last, reads SCFG. -/
theorem fcfg_not_safeRegs {f : Nat} (hf : f < 9) : ¬ SafeRegs (SAFE.FCFG0 f) ∧ (f < 8 → ¬ SafeRegs (SAFE.FCFG1 f)) := by
  have block {a : Nat} (low : 0x30040 ≤ a) (high : a < 0x3008c) : ¬ SafeRegs a := by
    refine not_safeRegs ?_ ?_ ?_ ?_ <;>
    · simp only [safePage, HDR.IRQSTAT, HDR.PGHEALTH, SAFE.SECSTAT, SAFE.VSMEAS, SAFE.PWSTAT, SAFE.CLOGHEAD, SafeShown, pg]
      omega
  unfold SAFE.FCFG0 SAFE.FCFG1
  exact ⟨block (by omega) (by omega), fun _ => block (by omega) (by omega)⟩

/-! Interrupt bits that announcements keep -/

theorem irqGrows_when {u w : Work} (h : IrqGrows u w) (c : Bool) {f : Work → Work} (hf : ∀ v, IrqGrows v (f v)) :
    IrqGrows u (w.when c f) := by
  unfold Work.when
  exact h.trans (irqGrows_ite (hf w) (.refl w))

theorem irqGrows_upd (w : Work) (f : Inner → Inner) : IrqGrows w (w.upd f) := irqGrows_of_rd fun _ => rfl

theorem irqGrows_showReason (w : Work) (code : Nat) (on : Bool) : IrqGrows w (w.showReason code on) := by
  unfold Work.showReason
  extract_lets old listed recorded asked told
  have recordedG : IrqGrows w recorded := (irqGrows_upd w _).trans (irqGrows_emit _ _ _ _ _)
  have askedG : IrqGrows w asked := irqGrows_when recordedG _ fun v => (irqGrows_upd v _).trans (irqGrows_slateRequest _ _)
  have toldG : IrqGrows w told := irqGrows_when askedG _ fun v => irqGrows_upd v _
  exact irqGrows_ite (.refl w) (irqGrows_when toldG _ fun v => irqGrows_upd v _)

theorem irqGrows_cause (w : Work) (code page sub : Nat) (on : Bool) : IrqGrows w (w.cause code page sub on) := by
  unfold Work.cause
  extract_lets e noted
  have shown (b : Bool) : IrqGrows w (noted.showReason code b) := (irqGrows_upd w _).trans (irqGrows_showReason noted code b)
  exact irqGrows_ite ((shown true).trans (irqGrows_upd _ _)) (irqGrows_ite (shown false) (irqGrows_upd w _))

theorem irqGrows_pageReason (w : Work) (page code cls : Nat) (on : Bool) : IrqGrows w (w.pageReason page code cls on) := by
  unfold Work.pageReason
  extract_lets e old noted shown
  have health : ∀ q, HDR.PGHEALTH page ≠ HDR.IRQSTAT q := fun q => by unfold HDR.PGHEALTH HDR.IRQSTAT pg; omega
  have shownG : IrqGrows w shown := (irqGrows_upd w _).trans
    (irqGrows_when ((irqGrows_wr _ health _).trans (irqGrows_wr _ health _)) _ fun v => irqGrows_irq v _ _)
  exact irqGrows_ite (.refl w) (shownG.trans (irqGrows_emit _ _ _ _ _))

theorem irqGrows_blockFault (w : Work) (page p m : Nat) (on : Bool) : IrqGrows w (w.blockFault page p m on) := by
  unfold Work.blockFault
  exact (irqGrows_when (.refl w) _ fun v => irqGrows_pageReason v _ _ _ _).trans (irqGrows_cause _ _ _ _ _)

/-- A bit of an interrupt word that is set stays set. -/
theorem IrqGrows.get {u w : Work} (h : IrqGrows u w) {page b : Nat} (hb : b < 32) (set : u.get (HDR.IRQSTAT page) ⟨b, 1⟩ = 1) :
    w.get (HDR.IRQSTAT page) ⟨b, 1⟩ = 1 := by
  have bit (v : Word) : (⟨b, 1⟩ : Fld).get v = 1 ↔ v.getLsbD b = true := by
    have zero := testBit_get ⟨b, 1⟩ v 0 (by dsimp only; omega)
    have small := get_lt ⟨b, 1⟩ v (by dsimp only; omega)
    simp only [Nat.lt_one_iff, decide_true, Bool.true_and, Nat.add_zero, Nat.testBit_zero] at zero
    rw [← zero, decide_eq_true_iff]
    dsimp only at small
    omega
  have kept := congrArg (·.getLsbD b) (h page)
  simp only [BitVec.getLsbD_and, BitVec.getLsbD_not, hb, decide_true, Bool.true_and] at kept
  unfold Work.get at set ⊢
  rw [bit] at set ⊢
  rw [set] at kept
  simpa using kept

/-! Work of the section -/

/-- From `u` to `w` the section has been at work: of the registers only those in which it shows itself and those that follow others have
changed, no interrupt bit has been lost, and beside the registers nothing but the section and what announcing a change may touch. -/
structure SafeStep (u w : Work) : Prop where
  regs : Keeps SafeRegs u w
  irqs : IrqGrows u w
  rest : ∃ safe, Noise { u.x with safe := safe } w.x

/-- The section has announced something or shown itself: it stands as it stood. -/
structure Announces (u w : Work) : Prop extends SafeStep u w where
  safe : w.x.safe = u.x.safe

/-- The section but for its functions and outputs; an output but for its switches, its OVERLOAD and the functions it waits for. -/
def SafeSt.held (s : SafeSt) : SafeSt := { s with fns := [], outs := [] }
def SOut.bare (o : SOut) : SOut := { o with a := false, b := false, overload := false, pass := [], extPass := [] }

/-- What a held section keeps, sections held alike have in common. -/
theorem of_held {α : Type} (p : SafeSt → α) {s t : SafeSt} (h : SafeSt.held s = SafeSt.held t)
    (hp : ∀ r, p (SafeSt.held r) = p r := by exact fun _ => rfl) : p s = p t := by rw [← hp, h, hp]
theorem of_bare {α : Type} (p : SOut → α) {o q : SOut} (h : SOut.bare o = SOut.bare q)
    (hp : ∀ r, p (SOut.bare r) = p r := by exact fun _ => rfl) : p o = p q := by rw [← hp, h, hp]

/-- The section has evaluated: of it only the functions and the outputs have changed, and of these neither flags nor counters of tests. -/
structure Evaluates (u w : Work) : Prop extends SafeStep u w where
  held : SafeSt.held w.x.safe = SafeSt.held u.x.safe
  outs : ∀ n, SOut.bare (w.sout n) = SOut.bare (u.sout n)

namespace SafeStep
variable {u v w : Work}

theorem refl (w : Work) : SafeStep w w := ⟨Keeps.refl _ _, .refl _, w.x.safe, .refl _⟩
theorem trans (h : SafeStep u v) (k : SafeStep v w) : SafeStep u w := by
  refine ⟨h.regs.trans k.regs, h.irqs.trans k.irqs, ?_⟩
  obtain ⟨_, _, _, _, _, _, hx⟩ := h.rest
  obtain ⟨safe, _, _, _, _, _, kx⟩ := k.rest
  rw [hx] at kx
  exact ⟨safe, _, _, _, _, _, kx⟩
theorem ite (h : SafeStep u v) (k : SafeStep u w) {c : Prop} {_ : Decidable c} : SafeStep u (if c then v else w) := by
  split <;> assumption
theorem when (h : SafeStep u w) (c : Bool) {f : Work → Work} (hf : ∀ v, SafeStep v (f v)) : SafeStep u (w.when c f) := by
  unfold Work.when
  exact (h.trans (hf w)).ite h
theorem safeUpd (h : SafeStep u w) (g : SafeSt → SafeSt) : SafeStep u (w.safeUpd g) :=
  h.trans ⟨fun _ _ => rfl, irqGrows_upd _ _, _, .refl _⟩

/-- Beside the section and what announcements touch the state stands. -/
theorem parts (h : SafeStep u w) : w.x.mode = u.x.mode ∧ w.x.task = u.x.task ∧ w.x.pages = u.x.pages ∧ w.x.img = u.x.img
    ∧ w.x.net = u.x.net := by
  obtain ⟨_, _, _, _, _, _, hx⟩ := h.rest
  rw [hx]
  exact ⟨rfl, rfl, rfl, rfl, rfl⟩

theorem mode (h : SafeStep u w) : w.x.mode = u.x.mode := by obtain ⟨mode, -⟩ := h.parts; exact mode
theorem task (h : SafeStep u w) : w.x.task = u.x.task := by obtain ⟨-, task, -⟩ := h.parts; exact task
theorem serving (h : SafeStep u w) : w.serving = u.serving := by unfold Work.serving; rw [h.mode]

/-- The sealed configuration stands. -/
theorem fcfg0 (h : SafeStep u w) {f : Nat} (hf : f < 9) : w.rd (SAFE.FCFG0 f) = u.rd (SAFE.FCFG0 f) := by
  obtain ⟨not, -⟩ := fcfg_not_safeRegs hf
  exact h.regs _ not
theorem fType (h : SafeStep u w) {f : Nat} (hf : f < 9) : w.fType f = u.fType f := by
  unfold Work.fType Work.get
  rw [h.fcfg0 hf]
theorem mappers (h : SafeStep u w) (n : Nat) : w.mappers n = u.mappers n := by
  unfold Work.mappers
  refine List.filter_congr fun f mem => ?_
  have hf := List.mem_range.1 mem
  unfold Work.fMaps Work.fMask Work.get
  rw [h.fType (by omega), h.fcfg0 (by omega)]

end SafeStep

namespace Announces
variable {u v w : Work}

theorem of_noise (regs : Keeps SafeRegs u w) (irqs : IrqGrows u w) (h : Noise u.x w.x) : Announces u w :=
  ⟨⟨regs, irqs, u.x.safe, h⟩, by rw [h.eq, noisy_safe]⟩
theorem refl (w : Work) : Announces w w := ⟨.refl w, rfl⟩
theorem trans (h : Announces u v) (k : Announces v w) : Announces u w := ⟨h.toSafeStep.trans k.toSafeStep, k.safe.trans h.safe⟩
theorem ite (h : Announces u v) (k : Announces u w) {c : Prop} {_ : Decidable c} : Announces u (if c then v else w) := by
  split <;> assumption
theorem when (h : Announces u w) (c : Bool) {f : Work → Work} (hf : ∀ v, Announces v (f v)) : Announces u (w.when c f) := by
  unfold Work.when
  exact (h.trans (hf w)).ite h
theorem each {α : Type} (h : Announces u w) (l : List α) {f : Work → α → Work} (hf : ∀ v, ∀ e ∈ l, Announces v (f v e)) :
    Announces u (w.each l f) := List.foldlRecOn l f h fun v k e he => k.trans (hf v e he)

theorem wr (h : Announces u w) {a : Nat} (ha : SafeShown a) (k : Word) : Announces u (w.wr a k) :=
  h.trans (of_noise (keeps_wr _ _ _ (.inl ha)) (irqGrows_wr _ (shown_not_irqstat ha) _) (.refl _))
theorem put (h : Announces u w) {a : Nat} (ha : SafeShown a) (f : Fld) (k : Nat) : Announces u (w.put a f k) := h.wr ha _
theorem irq (h : Announces u w) (b : Nat) : Announces u (w.irq safePage b) :=
  h.trans (of_noise (keeps_irq _ _ _ (.inr (.inl rfl))) (irqGrows_irq _ _ _) (.refl _))
theorem emit (h : Announces u w) (page num sub : Nat) (data : List Nat) : Announces u (w.emit page num sub data) :=
  h.trans (of_noise ((keeps_emit w page num sub data).mono fun _ k => .inr (.inr (.inr (follows_of_evtRegs k)))) (irqGrows_emit _ _ _ _ _)
    (noise_emit ..))
theorem newInstance (h : Announces u w) (pt : Nat) : Announces u (w.newInstance pt) :=
  h.trans (of_noise (Keeps.refl _ _) (irqGrows_upd _ _) (noise_newInstance w pt))
theorem blockFault (h : Announces u w) (p m : Nat) (on : Bool) : Announces u (w.blockFault safePage p m on) := by
  obtain ⟨noisy, kept⟩ := blockFault_spec w safePage p m on
  refine h.trans (of_noise (fun a ha => kept a ?_) (irqGrows_blockFault _ _ _ _ _) noisy)
  have follow : ¬ Follows a := fun k => ha (.inr (.inr (.inr k)))
  obtain ⟨event, -, -, -, slate, -⟩ := follows_not follow
  exact ⟨⟨event, slate⟩, fun k => ha (.inr (.inr (.inl k))), fun k => ha (.inr (.inl k))⟩

theorem safeView (h : Announces u w) {v : Nat} (hv : v < 2) : Announces u (w.safeView v) := by
  obtain ⟨-, -, own⟩ := view_shown (k := 0) hv
  unfold Work.safeView
  extract_lets fns outs
  have fnsA : Announces u fns := h.each _ fun k f mem => (refl k).wr ((view_shown hv).1 (List.mem_range.1 mem)) _
  have outsA : Announces u outs := fnsA.each _ fun k n mem => (refl k).wr ((view_shown hv).2.1 (List.mem_range.1 mem)) _
  exact ((outsA.put own _ _).put own _ _).ite h

theorem safeShow (h : Announces u w) : Announces u w.safeShow := by
  have secstat : SafeShown SAFE.SECSTAT := .inl rfl
  unfold Work.safeShow
  exact (((((h.put secstat _ _).put secstat _ _).put secstat _ _).safeView (by decide)).safeView (by decide)).ite h

theorem vsShow (h : Announces u w) : Announces u w.vsShow := by
  unfold Work.vsShow
  exact h.when _ fun v => (refl v).put (.inr (.inl rfl)) _ _

theorem pwShow (h : Announces u w) : Announces u w.pwShow := by
  unfold Work.pwShow
  exact h.ite (h.wr (.inr (.inr (.inl rfl))) _)

theorem clogShow (h : Announces u w) : Announces u w.clogShow := by
  unfold Work.clogShow
  exact h.each _ fun v i mem => (refl v).wr (clogdata_shown (List.mem_range.1 mem)) _

/-- Functions and outputs stand as well. -/
theorem tables (h : Announces u w) : (∀ v f, w.sfn v f = u.sfn v f) ∧ ∀ n, w.sout n = u.sout n := by
  unfold Work.sfn Work.sout
  rw [h.safe]
  exact ⟨fun _ _ => rfl, fun _ => rfl⟩

theorem evaluates (h : Announces u w) : Evaluates u w := by
  obtain ⟨-, outs⟩ := h.tables
  exact ⟨h.toSafeStep, by rw [h.safe], fun n => by rw [outs]⟩

end Announces

namespace Evaluates
variable {u v w : Work}

/-- Of the section beside functions and outputs it reads as it read. -/
theorem reads {α : Type} (h : Evaluates u w) (p : SafeSt → α) (hp : ∀ r, p (SafeSt.held r) = p r := by exact fun _ => rfl) :
    p w.x.safe = p u.x.safe := of_held p h.held hp

theorem refl (w : Work) : Evaluates w w := (Announces.refl w).evaluates
theorem trans (h : Evaluates u v) (k : Evaluates v w) : Evaluates u w :=
  ⟨h.toSafeStep.trans k.toSafeStep, k.held.trans h.held, fun n => (k.outs n).trans (h.outs n)⟩
theorem ite (h : Evaluates u v) (k : Evaluates u w) {c : Prop} {_ : Decidable c} : Evaluates u (if c then v else w) := by
  split <;> assumption
theorem when (h : Evaluates u w) (c : Bool) {f : Work → Work} (hf : ∀ v, Evaluates v (f v)) : Evaluates u (w.when c f) := by
  unfold Work.when
  exact (h.trans (hf w)).ite h
theorem each {α : Type} (h : Evaluates u w) (l : List α) {f : Work → α → Work} (hf : ∀ v, ∀ e ∈ l, Evaluates v (f v e)) :
    Evaluates u (w.each l f) := List.foldlRecOn l f h fun v k e he => k.trans (hf v e he)
theorem eachFn (h : Evaluates u w) {g : Work → Nat → Nat → Work} (hg : ∀ k v f, Evaluates k (g k v f)) : Evaluates u (w.eachFn g) :=
  h.each _ fun k v _ => (refl k).each _ fun k f _ => hg k v f

/-! One change -/

theorem sfnSet (h : Evaluates u w) (v f : Nat) (g : SFn → SFn) : Evaluates u (w.sfnSet v f g) :=
  h.trans ⟨(SafeStep.refl w).safeUpd _, rfl, fun _ => rfl⟩
theorem soutSet (h : Evaluates u w) (n : Nat) {g : SOut → SOut} (hg : ∀ o, SOut.bare (g o) = SOut.bare o) : Evaluates u (w.soutSet n g) := by
  refine h.trans ⟨(SafeStep.refl w).safeUpd _, rfl, fun m => ?_⟩
  rw [sout_soutSet]
  split
  · rename_i same
    rw [hg, same]
  · rfl
theorem irq (h : Evaluates u w) (b : Nat) : Evaluates u (w.irq safePage b) := h.trans ((Announces.refl w).irq b).evaluates
theorem emit (h : Evaluates u w) (page num sub : Nat) (data : List Nat) : Evaluates u (w.emit page num sub data) :=
  h.trans ((Announces.refl w).emit _ _ _ _).evaluates
theorem newInstance (h : Evaluates u w) (pt : Nat) : Evaluates u (w.newInstance pt) := h.trans ((Announces.refl w).newInstance pt).evaluates
theorem safeShow (h : Evaluates u w) : Evaluates u w.safeShow := h.trans (Announces.refl w).safeShow.evaluates

/-! Functions -/

theorem degEnd (h : Evaluates u w) (v f : Nat) : Evaluates u (w.degEnd v f) := by
  unfold Work.degEnd
  exact (h.sfnSet _ _ _).when _ fun k => (refl k).emit _ _ _ _

theorem fnState (h : Evaluates u w) (v f st : Nat) : Evaluates u (w.fnState v f st) := by
  unfold Work.fnState
  extract_lets s left told ended taken asked
  have endedE : Evaluates u ended := (h.when _ fun k => (refl k).irq _).when _ fun k => (refl k).degEnd _ _
  have askedE : Evaluates u asked := (endedE.sfnSet _ _ _).when _ fun k => (refl k).each _ fun k _ _ => (refl k).sfnSet _ _ _
  refine h.ite (ite (askedE.each _ fun k n _ => ?_) askedE)
  exact (refl k).soutSet n fun _ => rfl

theorem fnDegrade (h : Evaluates u w) (v f : Nat) : Evaluates u (w.fnDegrade v f) := by
  unfold Work.fnDegrade
  refine (h.sfnSet _ _ _).when _ fun k => ?_
  extract_lets told
  have first : Evaluates k told := (((refl k).emit _ _ _ _).irq _).newInstance _
  exact (((first.emit _ _ _ _).irq _).newInstance _).ite first

theorem fnStep (h : Evaluates u w) (v f : Nat) : Evaluates u (w.fnStep v f) := by
  have enters (st : Nat) : Evaluates u (w.fnState v f st) := h.fnState v f st
  unfold Work.fnStep
  refine (enters _).ite ((enters _).ite ((enters _).ite ((enters _).ite (ite ?safe (ite ?wait (ite ?run (ite ?locked h)))))))
  case safe => exact (enters _).ite ((enters _).ite h)
  case wait => exact (enters _).ite ((enters _).ite ((enters _).ite h))
  case run => exact (enters _).ite ((h.fnDegrade v f).ite h)
  case locked => exact (enters _).ite h

theorem fnsEval (h : Evaluates u w) (v : Nat) : Evaluates u (w.fnsEval v) := by
  unfold Work.fnsEval
  exact (h.each _ fun k _ _ => (refl k).each _ fun k f _ => (refl k).fnStep v f).ite h

theorem fnReset (h : Evaluates u w) (v f : Nat) : Evaluates u (w.fnReset v f) := by
  unfold Work.fnReset
  exact (h.fnState _ _ _).ite h

theorem buttonNote (h : Evaluates u w) (v f : Nat) : Evaluates u (w.buttonNote v f) := by
  unfold Work.buttonNote
  exact (h.sfnSet _ _ _).ite h

theorem fnsSafe (h : Evaluates u w) : Evaluates u w.fnsSafe := h.eachFn fun k v f => (refl k).fnState v f _

theorem fnsLeaveActive (h : Evaluates u w) : Evaluates u w.fnsLeaveActive :=
  h.eachFn fun k v f => (refl k).ite (((refl k).fnState v f _).ite (((refl k).fnState v f _).ite (refl k)))

/-! Outputs, and the section as a whole -/

theorem outsFollow (h : Evaluates u w) : Evaluates u w.outsFollow := h.each _ fun k n _ => (refl k).soutSet n fun _ => rfl

theorem safeAct (h : Evaluates u w) : Evaluates u w.safeAct := ((h.fnsEval 0).fnsEval 1).outsFollow.safeShow

theorem sectionActs (h : Evaluates u w) (shown : Nat) : Evaluates u (w.sectionActs shown) := h.safeAct.when _ fun k => (refl k).irq _

end Evaluates

/-! The section takes a state (R272): but for functions and outputs it is the section with that state put in -/

section
variable (w : Work)

theorem ssEnter_evaluates (ss : Nat) : Evaluates (w.safeUpd fun s => { s with ss := ss }) (w.ssEnter ss) := by
  unfold Work.ssEnter
  extract_lets old put left
  exact ((Evaluates.refl put).fnsSafe.ite ((Evaluates.refl put).fnsLeaveActive.ite (.refl put))).sectionActs _

theorem safeFault_evaluates (why pcode : Nat) : Evaluates (w.safeUpd fun s =>
    { s with tripWhy := why, powered := false, testing := false, needStart := false, ss := ssFault }) (w.safeFault why pcode) := by
  have entered := ssEnter_evaluates ((w.tripWhy why).safeUpd fun s => { s with powered := false, testing := false, needStart := false }) ssFault
  exact entered.trans ((Announces.refl _).blockFault pcode 0x0C true).evaluates

/-- A start-up test that is owed begins in STARTUP, of a section that is not in FAULT (R272). -/
theorem safeBegin_starts (owed : w.x.safe.needStart = true) (ka : w.x.safe.ka = true) (lit : w.x.safe.dark = false)
    (supplied : 19500 < w.x.safe.vs) (sound : w.x.safe.ss ≠ ssFault) :
    Evaluates (w.safeUpd fun s => { s with needStart := false, testing := true, ss := ssStartup }) w.safeBegin := by
  unfold Work.safeBegin
  extract_lets s begun
  rw [if_pos ⟨owed, ka, lit, supplied, fun h => absurd h sound⟩, if_neg sound]
  exact ssEnter_evaluates begun ssStartup

theorem safeBegin_settled (settled : w.x.safe.needStart = false) : w.safeBegin = w.safeShow := by
  unfold Work.safeBegin
  exact if_neg fun h => absurd (h.1.symm.trans settled) (by decide)

/-- Whether it begins or not, the test touches but these three. -/
theorem safeBegin_evaluates : ∃ owed testing ss,
    Evaluates (w.safeUpd fun s => { s with needStart := owed, testing := testing, ss := ss }) w.safeBegin := by
  have stays : Evaluates (w.safeUpd id) w.safeShow := (Evaluates.refl w).safeShow
  unfold Work.safeBegin
  extract_lets s begun
  split
  · split
    · exact ⟨false, true, w.x.safe.ss, (Evaluates.refl begun).safeShow⟩
    · exact ⟨false, true, ssStartup, ssEnter_evaluates begun ssStartup⟩
  · exact ⟨_, _, _, stays⟩

theorem keepalive_evaluates : ∃ owed testing ss, Evaluates (w.safeUpd fun s =>
    { s with ka := true, kaLost := false, needStart := owed, testing := testing, ss := ss }) w.keepalive :=
  safeBegin_evaluates (w.safeUpd fun s => { s with ka := true, kaLost := false })

/-- An Idle section follows the module's state (R272). -/
theorem safeModule_evaluates (idle : w.x.safe.ss = ssIdle) :
    Evaluates (w.safeUpd fun s => { s with ss := if w.serving then ssActive else ssIdle }) w.safeModule := by
  have stays : Evaluates (w.safeUpd fun s => { s with ss := ssIdle }) w.safeShow := by
    have same : w.safeUpd (fun s => { s with ss := ssIdle }) = w.safeUpd id := by
      unfold Work.safeUpd Work.upd
      rw [← idle]
      rfl
    rw [same]
    exact (Evaluates.refl w).safeShow
  have follows : w.safeModule = if w.serving then w.ssEnter ssActive else w.safeShow := by
    unfold Work.safeModule
    rw [idle]
    cases w.serving <;> rfl
  rw [follows]
  cases w.serving
  · exact stays
  · exact ssEnter_evaluates w ssActive

/-! The change log (R279) -/

/-- An entry joins the newest 1,023, and the next one's number is one more. -/
theorem clogAdd_spec (kind result user : Nat) (old : Word) : ∃ e, Announces (w.safeUpd fun s =>
    { s with clog := s.clog.drop (s.clog.length - 1023) ++ [e], nextSeq := s.nextSeq + 1 }) (w.clogAdd kind result user old) := by
  unfold Work.clogAdd
  extract_lets e added
  have head : SafeShown SAFE.CLOGHEAD := .inr (.inr (.inr (.inl rfl)))
  exact ⟨e, (((Announces.refl added).wr head _).irq _).clogShow⟩

theorem clogAdd_step (kind result user : Nat) (old : Word) : SafeStep w (w.clogAdd kind result user old) := by
  obtain ⟨_, added⟩ := clogAdd_spec w kind result user old
  exact ((SafeStep.refl w).safeUpd _).trans added.toSafeStep

/-- A section that is unsealed is UNSEALED, and nothing of it changes but the state, the log, functions and outputs. -/
theorem unseal_spec : w.unseal.x.safe.ss = ssUnsealed ∧ SafeStep w w.unseal := by
  unfold Work.unseal
  split
  · rename_i already
    have shown := (Announces.refl w).safeShow
    exact ⟨by rw [shown.safe]; exact already, shown.toSafeStep⟩
  · have entered := ssEnter_evaluates w ssUnsealed
    obtain ⟨e, added⟩ := clogAdd_spec (w.ssEnter ssUnsealed) 0x05 0 0 (w.rd SAFE.SIG)
    have shown := added.safeShow
    have step := ((SafeStep.refl w).safeUpd _).trans entered.toSafeStep
    refine ⟨?_, (step.trans (clogAdd_step _ _ _ _ _)).trans (Announces.refl _).safeShow.toSafeStep⟩
    rw [shown.safe, x_safeUpd]
    exact entered.reads SafeSt.ss

end

end Sys2Proof.Proofs
end

section
/-! PROOF. No operation of the safety section leaves an output energised that may not be (R262): the rule by the section as it stands, and the
operations that keep it. -/

namespace Sys2Proof.Proofs

open Sys2Proof.Machine Sys2Proof.Laws

/-! The rule of the outputs -/

/-- Output `n` may be energised as the section stands (R262). -/
def Allowed (w : Work) (n : Nat) : Prop :=
  w.x.safe.ss = ssActive ∧ w.x.safe.dark = false ∧ w.mappers n ≠ []
    ∧ (∀ v < 2, ∀ f ∈ w.mappers n, (w.sfn v f).st = fsRun ∨ (w.sfn v f).st = fsStopping)
    ∧ (w.sout n).locked = false ∧ (w.sout n).overload = false

/-- Every energised output may be energised. -/
def OutputsAllowed (w : Work) : Prop := ∀ n < 4, (w.sout n).on = true → Allowed w n

theorem safeOutputs_iff (s : State) : SafeOutputs s ↔ OutputsAllowed (begin s) := Iff.rfl

section
variable {u w : Work}

/-- The rule passes on where the section's state, its functions' states and the outputs' obstacles stand, and no output comes on. -/
theorem OutputsAllowed.pass (h : OutputsAllowed u) (step : SafeStep u w) (ss : w.x.safe.ss = u.x.safe.ss)
    (dark : w.x.safe.dark = u.x.safe.dark) (fns : ∀ v f, (w.sfn v f).st = (u.sfn v f).st)
    (outs : ∀ n, (w.sout n).on = (u.sout n).on ∧ ((u.sout n).locked = false → (w.sout n).locked = false)
      ∧ (w.sout n).overload = (u.sout n).overload) : OutputsAllowed w := by
  intro n hn on
  obtain ⟨sameOn, locked, overload⟩ := outs n
  obtain ⟨active, lit, mapped, running, free, fit⟩ := h n hn (sameOn ▸ on)
  rw [← step.mappers] at mapped running
  exact ⟨ss.trans active, dark.trans lit, mapped, fun v hv f mem => by rw [fns]; exact running v hv f mem, locked free, overload.trans fit⟩

theorem OutputsAllowed.announce (h : OutputsAllowed u) (k : Announces u w) : OutputsAllowed w := by
  obtain ⟨fns, outs⟩ := k.tables
  exact h.pass k.toSafeStep (by rw [k.safe]) (by rw [k.safe]) (fun v f => by rw [fns]) fun n => by rw [outs]; exact ⟨rfl, id, rfl⟩

/-- A section that is not ACTIVE has no output on. -/
theorem OutputsAllowed.off_of_ss (h : OutputsAllowed w) (ss : w.x.safe.ss ≠ ssActive) : ∀ n < 4, (w.sout n).on = false := by
  intro n hn
  refine Bool.eq_false_iff.2 fun on => ?_
  obtain ⟨active, -⟩ := h n hn on
  exact ss active

/-- An output that is LOCKED is off. -/
theorem OutputsAllowed.off_of_locked (h : OutputsAllowed w) {n : Nat} (hn : n < 4) (locked : (w.sout n).locked = true) :
    (w.sout n).on = false := by
  refine Bool.eq_false_iff.2 fun on => ?_
  obtain ⟨-, -, -, -, free, -⟩ := h n hn on
  rw [locked] at free
  exact Bool.noConfusion free

end

/-- After the outputs follow their conditions each that is on may be. -/
theorem outsFollow_allowed (w : Work) : OutputsAllowed w.outsFollow := by
  obtain ⟨-, -, -, follows⟩ := outsFollow_spec w
  intro n hn on
  obtain ⟨a, b⟩ := follows n hn
  unfold SOut.on at on
  rw [a, b, Bool.and_eq_true] at on
  obtain ⟨wantedA, wantedB⟩ := on
  unfold Work.outWanted at wantedA wantedB
  simp only [Bool.and_eq_true, decide_eq_true_eq, List.all_eq_true, Bool.or_eq_true, Bool.not_eq_true'] at wantedA wantedB
  obtain ⟨⟨⟨⟨⟨⟨active, lit⟩, mapped⟩, runA⟩, -⟩, free⟩, fit⟩ := wantedA
  obtain ⟨⟨⟨⟨-, runB⟩, -⟩, -⟩, -⟩ := wantedB
  refine ⟨active, lit, mapped, fun v hv f mem => ?_, free, fit⟩
  obtain rfl | rfl : v = 0 ∨ v = 1 := by omega
  exacts [runA f mem, runB f mem]

theorem safeAct_allowed (w : Work) : OutputsAllowed w.safeAct := (outsFollow_allowed _).announce (Announces.refl _).safeShow

theorem sectionActs_allowed (w : Work) (shown : Nat) : OutputsAllowed (w.sectionActs shown) :=
  (safeAct_allowed w).announce ((Announces.refl _).when _ fun v => (Announces.refl v).irq _)

theorem ssEnter_allowed (w : Work) (ss : Nat) : OutputsAllowed (w.ssEnter ss) := sectionActs_allowed _ _

/-- In a state other than ACTIVE every output is off (R272). -/
theorem ssEnter_off (w : Work) {ss : Nat} (h : ss ≠ ssActive) : ∀ n < 4, ((w.ssEnter ss).sout n).on = false :=
  (ssEnter_allowed w ss).off_of_ss fun active => h (((ssEnter_evaluates w ss).reads SafeSt.ss).symm.trans active)

theorem safeFault_allowed (w : Work) (why pcode : Nat) : OutputsAllowed (w.safeFault why pcode) :=
  (ssEnter_allowed _ _).announce ((Announces.refl _).blockFault _ _ _)

/-- A change of a function beside its state leaves every function's state. -/
theorem st_sfnSet (w : Work) (v f : Nat) {g : SFn → SFn} (hg : ∀ s, (g s).st = s.st) (k m : Nat) :
    ((w.sfnSet v f g).sfn k m).st = (w.sfn k m).st := by
  rw [sfn_sfnSet]
  split
  · rename_i same
    rw [hg]
    unfold Work.sfn
    rw [same]
  · rfl

/-! Work that keeps the rule -/

/-- From `u` to `w` the section has been at work, and no output has been left energised that may not be. -/
structure Guards (u w : Work) : Prop extends SafeStep u w where
  allowed : OutputsAllowed u → OutputsAllowed w

namespace Guards
variable {u v w : Work}

theorem refl (w : Work) : Guards w w := ⟨.refl w, id⟩
theorem trans (h : Guards u v) (k : Guards v w) : Guards u w := ⟨h.toSafeStep.trans k.toSafeStep, k.allowed ∘ h.allowed⟩
theorem ite (h : Guards u v) (k : Guards u w) {c : Prop} {_ : Decidable c} : Guards u (if c then v else w) := by
  split <;> assumption
theorem each {α : Type} (h : Guards u w) (l : List α) {f : Work → α → Work} (hf : ∀ v e, Guards v (f v e)) : Guards u (w.each l f) :=
  List.foldlRecOn l f h fun v k e _ => k.trans (hf v e)
theorem announce (h : Guards u v) (k : Announces v w) : Guards u w := ⟨h.toSafeStep.trans k.toSafeStep, fun a => (h.allowed a).announce k⟩

/-- Whatever the work was, once the outputs have followed their conditions the rule holds. -/
theorem outsFollow (h : SafeStep u w) : Guards u w.outsFollow :=
  ⟨h.trans (Evaluates.refl w).outsFollow.toSafeStep, fun _ => outsFollow_allowed w⟩
theorem safeAct (h : SafeStep u w) : Guards u w.safeAct := ⟨h.trans (Evaluates.refl w).safeAct.toSafeStep, fun _ => safeAct_allowed w⟩
theorem sectionActs (h : SafeStep u w) (shown : Nat) : Guards u (w.sectionActs shown) :=
  ⟨h.trans ((Evaluates.refl w).sectionActs _).toSafeStep, fun _ => sectionActs_allowed w _⟩
theorem ssEnter (h : SafeStep u w) (ss : Nat) : Guards u (w.ssEnter ss) :=
  ⟨(h.safeUpd _).trans (ssEnter_evaluates w ss).toSafeStep, fun _ => ssEnter_allowed w ss⟩
theorem safeFault (h : SafeStep u w) (why pcode : Nat) : Guards u (w.safeFault why pcode) :=
  ⟨(h.safeUpd _).trans (safeFault_evaluates w why pcode).toSafeStep, fun _ => safeFault_allowed w why pcode⟩

/-! What the rule does not speak of -/

theorem safeUpd (h : Guards u w) (g : SafeSt → SafeSt)
    (hg : ∀ s, (g s).ss = s.ss ∧ (g s).dark = s.dark ∧ (g s).fns = s.fns ∧ (g s).outs = s.outs := by exact fun _ => ⟨rfl, rfl, rfl, rfl⟩) :
    Guards u (w.safeUpd g) := by
  obtain ⟨ss, dark, fns, outs⟩ := hg w.x.safe
  have step : SafeStep w (w.safeUpd g) := (SafeStep.refl w).safeUpd g
  refine ⟨h.toSafeStep.trans step, fun a => (h.allowed a).pass step ss dark (fun v f => ?_) fun n => ?_⟩
  · unfold Work.sfn
    rw [x_safeUpd, fns]
  · unfold Work.sout
    rw [x_safeUpd, outs]
    exact ⟨rfl, id, rfl⟩

theorem sfnSet (h : Guards u w) (v f : Nat) {g : SFn → SFn} (hg : ∀ s, (g s).st = s.st) : Guards u (w.sfnSet v f g) := by
  have step : SafeStep w (w.sfnSet v f g) := (SafeStep.refl w).safeUpd _
  exact ⟨h.toSafeStep.trans step, fun a => (h.allowed a).pass step rfl rfl (st_sfnSet w v f hg) fun _ => ⟨rfl, id, rfl⟩⟩

theorem soutSet (h : Guards u w) (n : Nat) {g : SOut → SOut}
    (hg : ∀ o, (g o).on = o.on ∧ (o.locked = false → (g o).locked = false) ∧ (g o).overload = o.overload) : Guards u (w.soutSet n g) := by
  have step : SafeStep w (w.soutSet n g) := (SafeStep.refl w).safeUpd _
  refine ⟨h.toSafeStep.trans step, fun a => (h.allowed a).pass step rfl rfl (fun _ _ => rfl) fun m => ?_⟩
  rw [sout_soutSet]
  split
  · rename_i same
    rw [← same]
    exact hg _
  · exact ⟨rfl, id, rfl⟩

/-! Section states -/

theorem safeShow (h : Guards u w) : Guards u w.safeShow := h.announce (Announces.refl w).safeShow
theorem vsShow (h : Guards u w) : Guards u w.vsShow := h.announce (Announces.refl w).vsShow

theorem safeBegin (h : Guards u w) : Guards u w.safeBegin := by
  unfold Work.safeBegin
  extract_lets s begun
  have begunG : Guards u begun := h.safeUpd _
  exact (begunG.safeShow.ite (ssEnter begunG.toSafeStep _)).ite h.safeShow

theorem safeModule (h : Guards u w) : Guards u w.safeModule := by
  unfold Work.safeModule
  exact (ssEnter h.toSafeStep _).ite ((ssEnter h.toSafeStep _).ite h.safeShow)

theorem clogAdd (h : Guards u w) (kind result user : Nat) (old : Word) : Guards u (w.clogAdd kind result user old) := by
  obtain ⟨e, added⟩ := clogAdd_spec w kind result user old
  exact (h.safeUpd _).announce added

theorem unsealed (h : Guards u w) : Guards u w.unseal := by
  unfold Work.unseal
  exact h.safeShow.ite ((ssEnter h.toSafeStep _).clogAdd _ _ _ _).safeShow

end Guards

end Sys2Proof.Proofs
end

section
/-! PROOF. Every command of the safety section keeps the rule of its outputs (R262, R272). -/

namespace Sys2Proof.Proofs

open Sys2Proof.Machine Sys2Proof.Laws

namespace SafeStep
variable {u w : Work}

theorem evaluate {v : Work} (h : SafeStep u v) (k : Evaluates v w) : SafeStep u w := h.trans k.toSafeStep
theorem announce {v : Work} (h : SafeStep u v) (k : Announces v w) : SafeStep u w := h.trans k.toSafeStep
theorem each {α : Type} (h : SafeStep u w) (l : List α) {f : Work → α → Work} (hf : ∀ v e, SafeStep v (f v e)) : SafeStep u (w.each l f) :=
  List.foldlRecOn l f h fun v k e _ => k.trans (hf v e)
theorem sinSet (h : SafeStep u w) (i : Nat) (g : SIn → SIn) : SafeStep u (w.sinSet i g) := h.safeUpd _
theorem sfnSet (h : SafeStep u w) (v f : Nat) (g : SFn → SFn) : SafeStep u (w.sfnSet v f g) := h.safeUpd _
theorem soutSet (h : SafeStep u w) (n : Nat) (g : SOut → SOut) : SafeStep u (w.soutSet n g) := h.safeUpd _
theorem fnState (h : SafeStep u w) (v f st : Nat) : SafeStep u (w.fnState v f st) := h.evaluate ((Evaluates.refl w).fnState _ _ _)
theorem fnsEval (h : SafeStep u w) (v : Nat) : SafeStep u (w.fnsEval v) := h.evaluate ((Evaluates.refl w).fnsEval v)
theorem keepalive (h : SafeStep u w) : SafeStep u w.keepalive := by
  obtain ⟨_, _, _, begun⟩ := keepalive_evaluates w
  exact (h.safeUpd _).evaluate begun

/-- A test fails or a flag of an output is set (R267, R282). -/
theorem outFault (h : SafeStep u w) (n bit : Nat) (g : SOut → SOut) : SafeStep u (w.outFault n bit g) := by
  unfold Work.outFault
  exact ((h.soutSet n g).announce ((Announces.refl _).emit _ _ _ _)).when _ fun v => ((Announces.refl v).irq _).toSafeStep

end SafeStep

section
variable (w : Work)

/-! Inputs and functions -/

theorem siDemand_guards (i : Nat) (closed : Bool) : Guards w (siDemand i closed w) := by
  unfold siDemand
  split
  · exact .refl w
  · rename_i known
    have side : i / 8 < 2 := by omega
    have noted := ((SafeStep.refl w).sinSet i fun s => { s with closed := closed }).evaluate ((Evaluates.refl _).buttonNote (i / 8) (i % 8))
    exact (Guards.outsFollow (noted.fnsEval _)).announce ((Announces.refl _).safeView side)

theorem tpPulse_guards (tp : Nat) (lows : List Nat) : Guards w (tpPulse tp lows w) := by
  unfold tpPulse
  exact (Guards.refl w).ite (.safeAct ((SafeStep.refl w).each _ fun v i => (SafeStep.refl v).ite ((SafeStep.refl v).sinSet _ _)))

theorem discrepancy_guards (f : Nat) : Guards w (discrepancy f w) := by
  unfold discrepancy
  exact (Guards.refl w).ite (.safeAct ((SafeStep.refl w).each _ fun v _ => (((SafeStep.refl v).fnState _ _ _).sfnSet _ _ _).ite (.refl v)))

theorem safetyResetButton_guards (f ms : Nat) : Guards w (safetyResetButton f ms w) := by
  unfold safetyResetButton
  extract_lets now opened read ok fs told
  have readS : SafeStep w read := ((SafeStep.refl w).sinSet _ _).sfnSet _ _ _
  have toldS : SafeStep w told := (readS.fnsEval 0).each _ fun v _ => ((Evaluates.refl v).fnReset _ _).toSafeStep
  exact (Guards.refl w).ite ((Guards.outsFollow ((toldS.safeUpd _).fnsEval 0)).announce ((Announces.refl _).safeView (by decide)))

theorem stopdlyExpired_guards (f : Nat) : Guards w (stopdlyExpired f w) := by
  unfold stopdlyExpired
  exact (Guards.refl w).ite (.safeAct ((SafeStep.refl w).each _ fun v _ => (SafeStep.refl v).fnState _ _ _))

theorem graceLow_guards (f : Nat) : Guards w (graceLow f w) := by
  unfold graceLow
  extract_lets due noted
  have notedG : Guards w noted := (Guards.refl w).each _ fun v k => (Guards.refl v).sfnSet k f fun _ => rfl
  exact (Guards.refl w).ite (notedG.announce ((((Announces.refl _).emit _ _ _ _).irq _).newInstance _).safeShow)

theorem graceExpired_guards (f : Nat) : Guards w (graceExpired f w) := by
  unfold graceExpired
  extract_lets due vs told left
  have toldS : SafeStep w told := ((((Announces.refl w).emit _ _ _ _).irq _).newInstance _).toSafeStep
  exact (Guards.refl w).ite (.safeAct (toldS.each _ fun v _ => ((SafeStep.refl v).fnState _ _ _).sfnSet _ _ _))

theorem degClear_guards (f : Nat) : Guards w (degClear f w) := by
  unfold degClear
  exact (Guards.refl w).ite (.safeAct ((SafeStep.refl w).each _ fun v k => ((Evaluates.refl v).degEnd k f).toSafeStep))

/-! Outputs -/

theorem darkPulseTest_guards (n : Nat) (fell demand : Bool) : Guards w (darkPulseTest n fell demand w) := by
  unfold darkPulseTest
  extract_lets o aborted low failed
  have abortedS : SafeStep w aborted := (SafeStep.refl w).soutSet _ _
  have failedS : SafeStep w failed := (SafeStep.refl w).outFault _ _ _
  have turned : Guards w (w.soutSet n fun o => { o with dpLow := !o.dpLow }) := (Guards.refl w).soutSet n fun _ => ⟨rfl, id, rfl⟩
  refine (Guards.refl w).ite (Guards.ite ?aborted ((Guards.refl w).ite (turned.ite ?failed)))
  case aborted => exact .safeAct (abortedS.announce ((Announces.refl _).emit _ _ _ _))
  case failed => exact .safeAct (failedS.announce ((Announces.refl _).blockFault _ _ _))

theorem offStateTest_guards (n : Nat) (hs ls on : Bool) : Guards w (offStateTest n hs ls on w) := by
  unfold offStateTest
  extract_lets aborted high low
  have abortedS : SafeStep w aborted := (SafeStep.refl w).soutSet _ _
  have highS : SafeStep w high := (SafeStep.refl w).ite ((SafeStep.refl w).outFault _ _ _)
  have lowS : SafeStep w low := highS.ite (highS.outFault _ _ _)
  refine (Guards.refl w).ite (Guards.ite ?aborted ((Guards.refl w).ite ?ended))
  case aborted => exact .safeAct (abortedS.announce ((Announces.refl _).emit _ _ _ _))
  case ended =>
    split
    · rename_i passed
      obtain ⟨rfl, rfl⟩ := passed
      exact .refl w
    · exact .safeAct (lowS.announce ((Announces.refl _).blockFault _ _ _))

theorem safeOutputOverload_guards (n : Nat) : Guards w (safeOutputOverload n w) := by
  unfold safeOutputOverload
  exact (Guards.refl w).ite (.safeAct ((SafeStep.refl w).outFault _ _ _))

theorem extVoltage_guards (n : Nat) (high : Bool) : Guards w (extVoltage n high w) := by
  unfold extVoltage
  refine (Guards.refl w).ite (.safeAct (((SafeStep.refl w).outFault _ _ _).each _ fun v k => ?_))
  exact ((SafeStep.refl v).fnState _ _ _).ite (.refl v)

theorem extVoltageClear_guards (n : Nat) : Guards w (extVoltageClear n w) := by
  unfold extVoltageClear
  exact (Guards.refl w).ite (.safeAct ((SafeStep.refl w).soutSet _ _))

/-! Supply, keep-alive and self-checks -/

theorem vsSeen_guards (mv : Nat) : Guards w (w.vsSeen mv) := ((Guards.refl w).safeUpd _).vsShow

theorem vsWarn_guards (mv : Nat) : Guards w (vsWarn mv w) := (vsSeen_guards w mv).safeBegin

theorem vsTrip_guards (mv : Nat) : Guards w (vsTrip mv w) := by
  unfold vsTrip
  extract_lets seen
  have seenG : Guards w seen := ((Guards.refl w).safeUpd _).vsShow
  exact (Guards.ssEnter (seenG.toSafeStep.safeUpd _) _).ite seenG.safeShow

theorem safetyDark_guards : Guards w (safetyDark w) := by
  unfold safetyDark
  extract_lets shown seen dark
  have seenS : SafeStep w seen := ((SafeStep.refl w).safeUpd _).announce (Announces.refl _).vsShow
  have darkS : SafeStep w dark := seenS.ite ((seenS.safeUpd _).evaluate (Evaluates.refl _).fnsSafe)
  exact .sectionActs darkS _

theorem vsRestore_guards (mv : Nat) : Guards w (vsRestore mv w) := by
  unfold vsRestore
  extract_lets s seen
  have seenS : SafeStep w seen := (((SafeStep.refl w).safeUpd _).safeUpd _).announce (Announces.refl _).vsShow
  refine (Guards.refl w).ite ((Guards.sectionActs seenS _).safeBegin.ite (Guards.ite ?_ (.sectionActs seenS _)))
  exact (Guards.ssEnter (seenS.safeUpd _) _).safeModule

theorem safetyKeepaliveLost_guards : Guards w (safetyKeepaliveLost w) := by
  unfold safetyKeepaliveLost
  extract_lets lost
  have lostG : Guards w lost := (Guards.refl w).safeUpd _
  exact (Guards.refl w).ite ((Guards.ssEnter (lostG.toSafeStep.safeUpd _) _).ite lostG.safeShow)

theorem tabGet_map {α : Type} (d : α) {g : α → α} (hg : g d = d) (l : List (Nat × α)) (n : Nat) :
    tabGet d (l.map fun e => (e.1, g e.2)) n = g (tabGet d l n) := by
  induction l with
  | nil => exact hg.symm
  | cons e t ih =>
    rw [List.map_cons, tabGet, tabGet, ih]
    split <;> rfl

/-- The section after a start-up test that has passed: no test is owed, the inputs' and the outputs' faults of the last are cleared (R272). -/
def startupCleared (w : Work) : Work := w.safeUpd fun s => { s with
  testing := false
  xlost := false
  ins := s.ins.map (fun e => (e.1, { e.2 with hwf := false }))
  outs := s.outs.map (fun e => (e.1, { e.2 with hsfail := false, lsfail := false })) }

/-- So are the causes of its faults and what it tripped for. -/
def startupPassed (w : Work) : Work :=
  (((((startupCleared w).blockFault safePage 0x01 0x0C false).blockFault safePage 0x02 0x0C false).blockFault safePage 0x03 0x0C
    false).blockFault safePage 0x04 0x0C false).tripWhy 0

theorem startupCleared_guards : Guards w (startupCleared w) := by
  have step : SafeStep w (startupCleared w) := (SafeStep.refl w).safeUpd _
  refine ⟨step, fun a => a.pass step rfl rfl (fun _ _ => rfl) fun n => ?_⟩
  unfold Work.sout startupCleared
  rw [x_safeUpd, tabGet_map (g := fun o : SOut => { o with hsfail := false, lsfail := false }) _ rfl]
  refine ⟨rfl, fun free => ?_, rfl⟩
  simp only [SOut.locked, Bool.or_eq_false_iff] at free ⊢
  tauto

theorem startupPassed_guards : Guards w (startupPassed w) := by
  have told := (startupCleared_guards w).announce (((((Announces.refl _).blockFault 0x01 0x0C false).blockFault 0x02 0x0C false).blockFault
    0x03 0x0C false).blockFault 0x04 0x0C false)
  unfold startupPassed Work.tripWhy
  exact told.safeUpd _

theorem safetyStartupDone_guards (pass : Bool) : Guards w (safetyStartupDone pass w) := by
  unfold safetyStartupDone
  extract_lets cleared passed sig
  have passedG : Guards w passed := startupPassed_guards w
  refine (Guards.refl w).ite ((Guards.safeFault (.refl w) _ _).ite (passedG.unsealed.ite ?_))
  exact (Guards.ssEnter passedG.toSafeStep _).safeModule

theorem crosslinkExchange_guards : Guards w (crosslinkExchange w) := by
  unfold crosslinkExchange
  extract_lets taken noted kept told
  have takenG : Guards w taken := (Guards.refl w).safeUpd _
  have notedS : SafeStep w noted := takenG.toSafeStep.evaluate ((Evaluates.refl _).eachFn fun k v f => (Evaluates.refl k).buttonNote v f)
  have keptS : SafeStep w kept := notedS.keepalive.ite notedS
  have toldS : SafeStep w told := ((keptS.fnsEval 0).fnsEval 1).each _ fun k f => ((Evaluates.refl k).fnReset 1 f).toSafeStep
  exact (Guards.refl w).ite (takenG.safeShow.ite (.safeAct (toldS.safeUpd _)))

theorem xlinkLost_guards : Guards w (xlinkLost w) := by
  unfold xlinkLost
  exact (Guards.refl w).ite (.safeFault ((SafeStep.refl w).safeUpd _) _ _)

theorem abDisagree_guards : Guards w (abDisagree w) := by
  unfold abDisagree
  exact (Guards.refl w).ite (.safeFault (.refl w) _ _)

theorem safetySelfCheck_guards (input : Option Nat) : Guards w (safetySelfCheck input w) := by
  unfold safetySelfCheck
  refine (Guards.refl w).ite ?_
  cases input with
  | none => exact .safeFault (.refl w) _ _
  | some i => exact (Guards.refl w).ite (.safeAct (((SafeStep.refl w).sinSet _ _).announce ((Announces.refl _).blockFault _ _ _)))

theorem pwLockoutEnd_guards : Guards w (pwLockoutEnd w) := by
  unfold pwLockoutEnd
  exact (Guards.refl w).ite (((Guards.refl w).safeUpd _).announce (Announces.refl _).pwShow)

end

/-! From what a command of the section leaves to what its next state shows -/

/-- The next state shows the section as the command's effect left it: its state, and every register of its page. -/
structure SafeShows (w : Work) (t : State) : Prop where
  settled : Settled w t
  safe : t.x.safe = w.x.safe

section
variable {w : Work} {t : State}

theorem SafeShows.get (h : SafeShows w t) {a : Nat} (ha : a / 4096 = safePage) (f : Fld) : t.get a f = w.get a f :=
  h.settled.get (not_follows (by unfold safePage at ha; omega)) f
theorem SafeShows.sfn (h : SafeShows w t) (v f : Nat) : (begin t).sfn v f = w.sfn v f := by
  unfold Work.sfn
  rw [x_begin, h.safe]
theorem SafeShows.sout (h : SafeShows w t) (n : Nat) : (begin t).sout n = w.sout n := by
  unfold Work.sout
  rw [x_begin, h.safe]
theorem SafeShows.sin (h : SafeShows w t) (i : Nat) : (begin t).sin i = w.sin i := by
  unfold Work.sin
  rw [x_begin, h.safe]

/-- No output is on in the next state that may not be, if the effect left none. -/
theorem SafeShows.safeOutputs (h : SafeShows w t) (allowed : OutputsAllowed w) : SafeOutputs t := by
  rw [safeOutputs_iff]
  intro n hn on
  rw [h.sout] at on
  obtain ⟨active, lit, mapped, running, free, fit⟩ := allowed n hn on
  have same : (begin t).mappers n = w.mappers n := by
    unfold Work.mappers
    refine List.filter_congr fun f mem => ?_
    have hf := List.mem_range.1 mem
    have fcfg : SAFE.FCFG0 f / 4096 = safePage := by unfold SAFE.FCFG0 safePage; omega
    unfold Work.fMaps Work.fType Work.fMask
    rw [get_begin, get_begin, h.get fcfg, h.get fcfg]
  refine ⟨by rw [x_begin, h.safe]; exact active, by rw [x_begin, h.safe]; exact lit, by rw [same]; exact mapped, fun v hv f mem => ?_,
    by rw [h.sout]; exact free, by rw [h.sout]; exact fit⟩
  rw [same] at mem
  rw [h.sfn]
  exact running v hv f mem

end

/-- A command whose effect is work of the section shows what the work left. -/
theorem runs_section {c : Instr} {s : State} {f : Work → Work} {P : State → Prop} (he : exec c s = runCmd s f) (hq : Quiet s)
    (step : SafeStep (begin s) (f (begin s))) (h : ∀ t, SafeShows (f (begin s)) t → P t) : Runs c s P := by
  refine runs_settled he (by rw [step.task]; exact hq) fun t ht => h t ⟨ht, ?_⟩
  obtain ⟨-, -, -, -, -, safe, -⟩ := ht.parts
  exact safe

theorem runs_guarded {c : Instr} {s : State} {f : Work → Work} (he : exec c s = runCmd s f) (hq : Quiet s) (rule : SafeOutputs s)
    (guards : Guards (begin s) (f (begin s))) : Runs c s SafeOutputs :=
  runs_section he hq guards.toSafeStep fun _ ht => ht.safeOutputs (guards.allowed rule)

/-- Settles O60, command by command: each either ends with the outputs following their conditions, or leaves everything that R262 speaks of. It
is a statement of the commands that `SafetyCommand` lists, and of states in which the rule holds. -/
theorem safetyCommandsKeepSafeOutputs : Obligations.SafetyCommandsKeepSafeOutputs := by
  intro c s hq rule listed
  cases c <;> try exact listed.elim
  case siDemand i closed => exact runs_guarded rfl hq rule (siDemand_guards _ i closed)
  case tpPulse tp lows => exact runs_guarded rfl hq rule (tpPulse_guards _ tp lows)
  case discrepancy f => exact runs_guarded rfl hq rule (discrepancy_guards _ f)
  case safetyResetButton f ms => exact runs_guarded rfl hq rule (safetyResetButton_guards _ f ms)
  case stopdlyExpired f => exact runs_guarded rfl hq rule (stopdlyExpired_guards _ f)
  case graceLow f => exact runs_guarded rfl hq rule (graceLow_guards _ f)
  case graceExpired f => exact runs_guarded rfl hq rule (graceExpired_guards _ f)
  case degClear f => exact runs_guarded rfl hq rule (degClear_guards _ f)
  case darkPulseTest n fell demand => exact runs_guarded rfl hq rule (darkPulseTest_guards _ n fell demand)
  case offStateTest n hs ls on => exact runs_guarded rfl hq rule (offStateTest_guards _ n hs ls on)
  case safeOutputOverload n => exact runs_guarded rfl hq rule (safeOutputOverload_guards _ n)
  case extVoltage n high => exact runs_guarded rfl hq rule (extVoltage_guards _ n high)
  case extVoltageClear n => exact runs_guarded rfl hq rule (extVoltageClear_guards _ n)
  case vsWarn mv => exact runs_guarded rfl hq rule (vsWarn_guards _ mv)
  case vsTrip mv => exact runs_guarded rfl hq rule (vsTrip_guards _ mv)
  case safetyDark => exact runs_guarded rfl hq rule (safetyDark_guards _)
  case vsRestore mv => exact runs_guarded rfl hq rule (vsRestore_guards _ mv)
  case safetyKeepaliveLost => exact runs_guarded rfl hq rule (safetyKeepaliveLost_guards _)
  case safetyStartupDone pass => exact runs_guarded rfl hq rule (safetyStartupDone_guards _ pass)
  case crosslinkExchange => exact runs_guarded rfl hq rule (crosslinkExchange_guards _)
  case xlinkLost => exact runs_guarded rfl hq rule (xlinkLost_guards _)
  case abDisagree => exact runs_guarded rfl hq rule (abDisagree_guards _)
  case safetySelfCheck input => exact runs_guarded rfl hq rule (safetySelfCheck_guards _ input)
  case pwLockoutEnd => exact runs_guarded rfl hq rule (pwLockoutEnd_guards _)

end Sys2Proof.Proofs
end

section
/-! PROOF. What starts, trips and faults the safety section (R248, R270 to R272, R287), each command by what its effect leaves. -/

namespace Sys2Proof.Proofs

open Sys2Proof.Machine Sys2Proof.Laws

section
variable (w : Work)

theorem vsSeen_safe (mv : Nat) : (w.vsSeen mv).x.safe =
    { w.x.safe with vs := mv, vsWarn := if mv < 19200 then true else if 19500 < mv then false else w.x.safe.vsWarn } :=
  (Announces.refl _).vsShow.safe

/-- A section that has entered FAULT (R272). -/
theorem safeFault_leaves (why pcode : Nat) : (w.safeFault why pcode).x.safe.ss = ssFault ∧ (w.safeFault why pcode).x.safe.tripWhy = why
    ∧ (w.safeFault why pcode).x.safe.xlost = w.x.safe.xlost := by
  have faults := safeFault_evaluates w why pcode
  exact ⟨faults.reads SafeSt.ss, faults.reads SafeSt.tripWhy, faults.reads SafeSt.xlost⟩

/-- A section that returns to IDLE goes on to ACTIVE where the module serves (R272). -/
theorem returns_leaves : ((w.ssEnter ssIdle).safeModule).x.safe.ss = (if w.serving then ssActive else ssIdle)
    ∧ ((w.ssEnter ssIdle).safeModule).x.safe.tripWhy = w.x.safe.tripWhy ∧ ((w.ssEnter ssIdle).safeModule).x.safe.vs = w.x.safe.vs := by
  have entered := ssEnter_evaluates w ssIdle
  have follows := safeModule_evaluates (w.ssEnter ssIdle) (entered.reads SafeSt.ss)
  have serving : (w.ssEnter ssIdle).serving = w.serving := entered.serving
  rw [serving] at follows
  exact ⟨follows.reads SafeSt.ss, (follows.reads SafeSt.tripWhy).trans (entered.reads SafeSt.tripWhy),
    (follows.reads SafeSt.vs).trans (entered.reads SafeSt.vs)⟩

/-- R248: each processor takes the other's inputs, and the outputs follow. -/
theorem crosslinkExchange_leaves (lit : w.x.safe.dark = false) (sound : w.x.safe.ss ≠ ssFault) : OutputsAllowed (crosslinkExchange w)
    ∧ (crosslinkExchange w).x.safe.seen = w.x.safe.ins ∧ (crosslinkExchange w).x.safe.xlost = false
    ∧ (crosslinkExchange w).x.safe.sealed = w.x.safe.sealed := by
  unfold crosslinkExchange
  extract_lets taken noted kept told
  rw [if_neg (by simp [lit]), if_neg (show taken.x.safe.ss ≠ ssFault from sound)]
  have notedE : Evaluates taken noted := (Evaluates.refl taken).eachFn fun k v f => (Evaluates.refl k).buttonNote v f
  have keptSafe : kept.x.safe.seen = noted.x.safe.seen ∧ kept.x.safe.xlost = noted.x.safe.xlost
      ∧ kept.x.safe.sealed = noted.x.safe.sealed := by
    obtain ⟨_, _, _, begun⟩ := keepalive_evaluates noted
    unfold kept
    split
    · exact ⟨begun.reads SafeSt.seen, begun.reads SafeSt.xlost, begun.reads SafeSt.sealed⟩
    · exact ⟨rfl, rfl, rfl⟩
  have toldE : Evaluates kept told := (((Evaluates.refl kept).fnsEval 0).fnsEval 1).each _ fun k f _ => (Evaluates.refl k).fnReset 1 f
  have acted := (Evaluates.refl (told.safeUpd fun s => { s with resets := [] })).safeAct
  obtain ⟨seen, xlost, isSealed⟩ := keptSafe
  have final {α : Type} (p : SafeSt → α) (hp : ∀ r, p (SafeSt.held r) = p r)
      (hr : p (told.safeUpd fun s => { s with resets := [] }).x.safe = p told.x.safe) (hk : p kept.x.safe = p noted.x.safe) :
      p (told.safeUpd fun s => { s with resets := [] }).safeAct.x.safe = p taken.x.safe :=
    (acted.reads p hp).trans (hr.trans ((toldE.reads p hp).trans (hk.trans (notedE.reads p hp))))
  exact ⟨safeAct_allowed _, final SafeSt.seen (fun _ => rfl) rfl seen, final SafeSt.xlost (fun _ => rfl) rfl xlost,
    final SafeSt.sealed (fun _ => rfl) rfl isSealed⟩

/-- R253: a self-check finds a fault of an input's hardware. -/
theorem safetySelfCheck_input {i : Nat} (hi : i < 16) (lit : w.x.safe.dark = false) (sound : w.x.safe.ss ≠ ssFault) :
    OutputsAllowed (safetySelfCheck (some i) w) ∧ ((safetySelfCheck (some i) w).sin i).hwf = true := by
  unfold safetySelfCheck
  rw [if_neg (by simp [lit, sound])]
  dsimp only
  rw [if_neg (Nat.not_le.2 hi)]
  have noted := (Announces.refl (w.sinSet i fun s => { s with hwf := true })).blockFault 0x03 0x0C true
  have acted := noted.evaluates.safeAct
  have ins : tabGet {} (tabSet w.x.safe.ins i { w.sin i with hwf := true }) i = { w.sin i with hwf := true } := by
    rw [tabGet_tabSet, if_pos rfl]
  refine ⟨safeAct_allowed _, ?_⟩
  unfold Work.sin
  rw [acted.reads SafeSt.ins]
  exact congrArg SIn.hwf ins

/-! The start-up test that has passed (R272) -/

theorem startupPassed_safe : (startupPassed w).x.safe = { (startupCleared w).x.safe with tripWhy := 0 } := by
  have told := ((((Announces.refl (startupCleared w)).blockFault 0x01 0x0C false).blockFault 0x02 0x0C false).blockFault
    0x03 0x0C false).blockFault 0x04 0x0C false
  unfold startupPassed Work.tripWhy
  rw [x_safeUpd, ← told.safe]

theorem startupPassed_rd {b : Nat} (hb : 0x30040 ≤ b) : (startupPassed w).rd b = w.rd b := by
  have far : NotCause b ∧ b ≠ HDR.PGHEALTH safePage ∧ b ≠ HDR.IRQSTAT safePage := by
    simp only [NotCause, NotRec, EVT.LOST, SLATE.SSTAT, HDR.PGHEALTH, HDR.IRQSTAT, safePage, pg]
    omega
  unfold startupPassed Work.tripWhy
  rw [rd_safeUpd, rd_blockFault _ _ _ _ _ _ far, rd_blockFault _ _ _ _ _ _ far, rd_blockFault _ _ _ _ _ _ far,
    rd_blockFault _ _ _ _ _ _ far]
  rfl

/-- What it leads to: with a seal that both processors and the image bear out, to IDLE and on; else to UNSEALED. -/
theorem safetyStartupDone_passed (testing : w.x.safe.testing = true) : safetyStartupDone true w =
    if w.x.safe.sealed = false ∨ w.rd SAFE.SIG ≠ w.x.safe.sigA ∨ w.rd SAFE.SIG ≠ w.x.safe.sigB ∨ w.rd SAFE.SIG ≠ w.rd SAFE.PENDSIG
      ∨ sealBad w.sealedCfg = true
    then (startupPassed w).unseal else ((startupPassed w).ssEnter ssIdle).safeModule := by
  have cfg : (startupPassed w).sealedCfg = w.sealedCfg := by
    funext f
    unfold Work.sealedCfg
    rw [startupPassed_rd w (by unfold SAFE.FCFG0; omega), startupPassed_rd w (by unfold SAFE.FCFG1; omega)]
  have sig := startupPassed_rd w (b := SAFE.SIG) (by decide)
  have pending := startupPassed_rd w (b := SAFE.PENDSIG) (by decide)
  have kept : (startupPassed w).x.safe.sealed = w.x.safe.sealed ∧ (startupPassed w).x.safe.sigA = w.x.safe.sigA
      ∧ (startupPassed w).x.safe.sigB = w.x.safe.sigB := by
    rw [startupPassed_safe]
    exact ⟨rfl, rfl, rfl⟩
  obtain ⟨isSealed, sigA, sigB⟩ := kept
  rw [← cfg, ← isSealed, ← sigA, ← sigB, ← pending, ← sig]
  unfold safetyStartupDone
  exact (if_neg (by simp [testing])).trans (if_neg (by decide))

end

section
variable {s : State} (hq : Quiet s)
include hq

/-! Faults (R272, R287) and the exchange (R248) -/

theorem runs_xlinkLost (lit : s.x.safe.dark = false) (sound : s.x.safe.ss ≠ ssFault) : Runs .xlinkLost s fun t =>
    t.x.safe.ss = ssFault ∧ t.x.safe.tripWhy = 5 ∧ t.x.safe.xlost = true ∧ SafeOutputs t := by
  have effect : xlinkLost (begin s) = ((begin s).safeUpd fun s => { s with xlost := true }).safeFault 5 0x01 :=
    if_neg (by simp [lit, sound])
  refine runs_section rfl hq (xlinkLost_guards _).toSafeStep fun t ht => ?_
  rw [effect] at ht
  obtain ⟨ss, why, xlost⟩ := safeFault_leaves ((begin s).safeUpd fun s => { s with xlost := true }) 5 0x01
  exact ⟨by rw [ht.safe, ss], by rw [ht.safe, why], by rw [ht.safe, xlost]; rfl, ht.safeOutputs (safeFault_allowed _ _ _)⟩

theorem runs_abDisagree (lit : s.x.safe.dark = false) (sound : s.x.safe.ss ≠ ssFault) : Runs .abDisagree s fun t =>
    t.x.safe.ss = ssFault ∧ t.x.safe.tripWhy = 4 ∧ SafeOutputs t := by
  have effect : abDisagree (begin s) = (begin s).safeFault 4 0x01 := if_neg (by simp [lit, sound])
  refine runs_section rfl hq (abDisagree_guards _).toSafeStep fun t ht => ?_
  rw [effect] at ht
  obtain ⟨ss, why, -⟩ := safeFault_leaves (begin s) 4 0x01
  exact ⟨by rw [ht.safe, ss], by rw [ht.safe, why], ht.safeOutputs (safeFault_allowed _ _ _)⟩

theorem runs_safetySelfCheck_processor (lit : s.x.safe.dark = false) (sound : s.x.safe.ss ≠ ssFault) :
    Runs (.safetySelfCheck none) s fun t => t.x.safe.ss = ssFault ∧ SafeOutputs t := by
  have effect : safetySelfCheck none (begin s) = (begin s).safeFault 5 0x01 := if_neg (by simp [lit, sound])
  refine runs_section rfl hq (safetySelfCheck_guards _ _).toSafeStep fun t ht => ?_
  rw [effect] at ht
  obtain ⟨ss, -⟩ := safeFault_leaves (begin s) 5 0x01
  exact ⟨by rw [ht.safe, ss], ht.safeOutputs (safeFault_allowed _ _ _)⟩

theorem runs_safetySelfCheck_input {i : Nat} (hi : i < 16) (lit : s.x.safe.dark = false) (sound : s.x.safe.ss ≠ ssFault) :
    Runs (.safetySelfCheck (some i)) s fun t => ((begin t).sin i).hwf = true ∧ SafeOutputs t := by
  obtain ⟨allowed, hwf⟩ := safetySelfCheck_input (begin s) hi lit sound
  exact runs_section rfl hq (safetySelfCheck_guards _ _).toSafeStep fun t ht => ⟨by rw [ht.sin, hwf], ht.safeOutputs allowed⟩

theorem runs_crosslinkExchange (lit : s.x.safe.dark = false) (sound : s.x.safe.ss ≠ ssFault) : Runs .crosslinkExchange s fun t =>
    t.x.safe.seen = s.x.safe.ins ∧ t.x.safe.xlost = false ∧ SafeOutputs t ∧ t.x.safe.sealed = s.x.safe.sealed ∧ t.x.mode = s.x.mode := by
  obtain ⟨allowed, seen, xlost, isSealed⟩ := crosslinkExchange_leaves (begin s) lit sound
  have step := (crosslinkExchange_guards (begin s)).toSafeStep
  refine runs_section rfl hq step fun t ht => ⟨?_, ?_, ht.safeOutputs allowed, ?_, ht.settled.mode.trans step.mode⟩
  · rw [ht.safe, seen]; rfl
  · rw [ht.safe, xlost]
  · rw [ht.safe, isSealed]; rfl

/-! Keep-alive and supply (R270, R271) -/

theorem runs_safetyKeepaliveLost (ka : s.x.safe.ka = true) (runs : (begin s).safeRuns = true) : Runs .safetyKeepaliveLost s fun t =>
    t.x.safe.ka = false ∧ t.x.safe.kaLost = true ∧ t.x.safe.ss = ssTripped ∧ t.x.safe.tripWhy = 3 ∧ t.x.safe.needStart = true
      ∧ ∀ n < 4, ((begin t).sout n).on = false := by
  let lost := (begin s).safeUpd fun s =>
    { s with ka := false, kaLost := true, testing := false, needStart := s.needStart || s.testing || decide (s.ss ≠ ssFault) }
  have effect : safetyKeepaliveLost (begin s) = (lost.tripWhy 3).ssEnter ssTripped := by
    unfold safetyKeepaliveLost
    rw [if_neg (by simp [ka])]
    exact if_pos runs
  have sound : s.x.safe.ss ≠ ssFault := by
    intro fault
    unfold Work.safeRuns at runs
    rw [x_begin, fault] at runs
    exact Bool.noConfusion runs
  have entered := ssEnter_evaluates (lost.tripWhy 3) ssTripped
  have owed : (lost.tripWhy 3).x.safe.needStart = true := by simp [lost, Work.tripWhy, sound]
  refine runs_section rfl hq (safetyKeepaliveLost_guards _).toSafeStep fun t ht => ?_
  rw [effect] at ht
  refine ⟨?_, ?_, ?_, ?_, ?_, fun n hn => ?_⟩
  · rw [ht.safe, entered.reads SafeSt.ka]; rfl
  · rw [ht.safe, entered.reads SafeSt.kaLost]; rfl
  · rw [ht.safe, entered.reads SafeSt.ss]; rfl
  · rw [ht.safe, entered.reads SafeSt.tripWhy]; rfl
  · rw [ht.safe, entered.reads SafeSt.needStart]; exact owed
  · rw [ht.sout]
    exact ssEnter_off _ (by decide) n hn

theorem runs_vsWarn (mv : Nat) : Runs (.vsWarn mv) s fun t => t.x.safe.vs = mv
    ∧ t.x.safe.vsWarn = (if mv < 19200 then true else if 19500 < mv then false else s.x.safe.vsWarn)
    ∧ (s.x.safe.needStart = false → t.x.safe.ss = s.x.safe.ss)
    ∧ (s.x.safe.needStart = true → s.x.safe.ka = true → s.x.safe.dark = false → s.x.safe.ss ≠ ssFault → 19500 < mv →
        t.x.safe.ss = ssStartup ∧ t.x.safe.testing = true) := by
  let seen := (begin s).vsSeen mv
  have safe : seen.x.safe = { s.x.safe with vs := mv, vsWarn := if mv < 19200 then true else if 19500 < mv then false else s.x.safe.vsWarn } :=
    vsSeen_safe (begin s) mv
  obtain ⟨_, _, _, begun⟩ := safeBegin_evaluates seen
  refine runs_section rfl hq (vsWarn_guards _ mv).toSafeStep fun t ht => ⟨?_, ?_, fun settled => ?_, fun owed ka lit sound high => ?_⟩
  · exact (congrArg SafeSt.vs ht.safe).trans ((begun.reads SafeSt.vs).trans (congrArg SafeSt.vs safe))
  · exact (congrArg SafeSt.vsWarn ht.safe).trans ((begun.reads SafeSt.vsWarn).trans (congrArg SafeSt.vsWarn safe))
  · have stands : seen.safeBegin = seen.safeShow := safeBegin_settled seen (by rw [safe]; exact settled)
    have shown : seen.safeBegin.x.safe = seen.x.safe := by rw [stands]; exact (Announces.refl seen).safeShow.safe
    rw [ht.safe]
    exact (congrArg SafeSt.ss shown).trans (by rw [safe])
  · have starts := safeBegin_starts seen (by rw [safe]; exact owed) (by rw [safe]; exact ka) (by rw [safe]; exact lit)
      (by rw [safe]; exact high) (by rw [safe]; exact sound)
    exact ⟨(congrArg SafeSt.ss ht.safe).trans (starts.reads SafeSt.ss), (congrArg SafeSt.testing ht.safe).trans (starts.reads SafeSt.testing)⟩

theorem runs_vsTrip (mv : Nat) (runs : (begin s).safeRuns = true) (bad : mv < 16000 ∨ 32000 < mv) : Runs (.vsTrip mv) s fun t =>
    t.x.safe.ss = ssTripped ∧ t.x.safe.tripWhy = (if mv < 16000 then 1 else 2) ∧ ∀ n < 4, ((begin t).sout n).on = false := by
  let seen := ((begin s).safeUpd fun s => { s with vs := mv }).vsShow
  have safe : seen.x.safe = { s.x.safe with vs := mv } := (Announces.refl _).vsShow.safe
  have effect : vsTrip mv (begin s) = (seen.tripWhy (if mv < 16000 then 1 else 2)).ssEnter ssTripped := by
    refine if_pos ⟨?_, bad⟩
    unfold Work.safeRuns at runs ⊢
    rw [safe]
    exact runs
  have entered := ssEnter_evaluates (seen.tripWhy (if mv < 16000 then 1 else 2)) ssTripped
  refine runs_section rfl hq (vsTrip_guards _ mv).toSafeStep fun t ht => ?_
  rw [effect] at ht
  refine ⟨by rw [ht.safe, entered.reads SafeSt.ss]; rfl, by rw [ht.safe, entered.reads SafeSt.tripWhy]; rfl, fun n hn => ?_⟩
  rw [ht.sout]
  exact ssEnter_off _ (by decide) n hn

theorem runs_safetyDark : Runs .safetyDark s fun t => t.x.safe.dark = true ∧ t.x.safe.shown = ssTripped
    ∧ (∀ n < 4, ((begin t).sout n).on = false) ∧ t.x.safe.ss = (if s.x.safe.ss = ssFault then ssFault else ssTripped) := by
  let seen := ((begin s).safeUpd fun s => { s with
    dark := true, vs := 0, testing := false, needStart := s.needStart || s.testing || decide (s.ss ≠ ssFault) }).vsShow
  let gone := if seen.x.safe.ss = ssFault then seen else (seen.safeUpd fun s => { s with ss := ssTripped }).fnsSafe
  have safe : seen.x.safe = { s.x.safe with
      dark := true, vs := 0, testing := false, needStart := s.x.safe.needStart || s.x.safe.testing || decide (s.x.safe.ss ≠ ssFault) } :=
    (Announces.refl _).vsShow.safe
  have left : gone.x.safe.dark = true ∧ gone.x.safe.ss = if s.x.safe.ss = ssFault then ssFault else ssTripped := by
    have fault : seen.x.safe.ss = s.x.safe.ss := by rw [safe]
    unfold gone
    rw [fault]
    split
    · rename_i faulted
      exact ⟨by rw [safe], fault.trans faulted⟩
    · have sent := (Evaluates.refl (seen.safeUpd fun s => { s with ss := ssTripped })).fnsSafe
      exact ⟨(sent.reads SafeSt.dark).trans (by rw [x_safeUpd, safe]), sent.reads SafeSt.ss⟩
  obtain ⟨goneDark, goneSs⟩ := left
  have acted := (Evaluates.refl gone).sectionActs (begin s).x.safe.shown
  have dark : (safetyDark (begin s)).x.safe.dark = true := (acted.reads SafeSt.dark).trans goneDark
  have ss : (safetyDark (begin s)).x.safe.ss = if s.x.safe.ss = ssFault then ssFault else ssTripped := (acted.reads SafeSt.ss).trans goneSs
  refine runs_section rfl hq (safetyDark_guards _).toSafeStep fun t ht =>
    ⟨by rw [ht.safe, dark], by rw [ht.safe]; exact if_pos dark, fun n hn => ?_, by rw [ht.safe, ss]⟩
  rw [ht.sout]
  exact (sectionActs_allowed _ _).off_of_ss (by change (safetyDark (begin s)).x.safe.ss ≠ _; rw [ss]; split <;> decide) n hn

/-! VS_RESTORE (R270, R272) -/

theorem runs_vsRestore_owed (mv : Nat) (high : 19500 < mv) (bound : mv ≤ 32000) (sound : s.x.safe.ss ≠ ssFault) (ka : s.x.safe.ka = true)
    (owed : s.x.safe.needStart = true) : Runs (.vsRestore mv) s fun t => t.x.safe.dark = false ∧ t.x.safe.ss = ssStartup
      ∧ t.x.safe.testing = true ∧ t.x.safe.vs = mv ∧ t.x.safe.vsWarn = false := by
  let seen := ((begin s).safeUpd fun s => { s with dark := false }).vsSeen mv
  have safe : seen.x.safe = { s.x.safe with
      dark := false, vs := mv, vsWarn := if mv < 19200 then true else if 19500 < mv then false else s.x.safe.vsWarn } := vsSeen_safe _ mv
  have acted := (Evaluates.refl seen).sectionActs (begin s).x.safe.shown
  have effect : vsRestore mv (begin s) = (seen.sectionActs (begin s).x.safe.shown).safeBegin := by
    unfold vsRestore
    rw [if_neg (by omega)]
    exact if_pos (by rw [vsSeen_safe]; exact owed)
  have starts := safeBegin_starts (seen.sectionActs (begin s).x.safe.shown)
    (by rw [acted.reads SafeSt.needStart, safe]; exact owed) (by rw [acted.reads SafeSt.ka, safe]; exact ka)
    (by rw [acted.reads SafeSt.dark, safe]) (by rw [acted.reads SafeSt.vs, safe]; exact high)
    (by rw [acted.reads SafeSt.ss, safe]; exact sound)
  have warn : seen.x.safe.vsWarn = false := by
    rw [safe]
    exact (if_neg (by omega)).trans (if_pos high)
  refine runs_section rfl hq (vsRestore_guards _ mv).toSafeStep fun t ht => ?_
  rw [effect] at ht
  rw [ht.safe]
  exact ⟨(starts.reads SafeSt.dark).trans ((acted.reads SafeSt.dark).trans (by rw [safe])), starts.reads SafeSt.ss,
    starts.reads SafeSt.testing, (starts.reads SafeSt.vs).trans ((acted.reads SafeSt.vs).trans (by rw [safe])),
    (starts.reads SafeSt.vsWarn).trans ((acted.reads SafeSt.vsWarn).trans warn)⟩

theorem runs_vsRestore_tripped (mv : Nat) (high : 19500 < mv) (bound : mv ≤ 32000) (ka : s.x.safe.ka = true)
    (settled : s.x.safe.needStart = false) (tripped : s.x.safe.ss = ssTripped) : Runs (.vsRestore mv) s fun t =>
      t.x.safe.tripWhy = 0 ∧ t.x.safe.vs = mv ∧ t.x.safe.ss = if (begin s).serving then ssActive else ssIdle := by
  let seen := ((begin s).safeUpd fun s => { s with dark := false }).vsSeen mv
  have safe : seen.x.safe = { s.x.safe with
      dark := false, vs := mv, vsWarn := if mv < 19200 then true else if 19500 < mv then false else s.x.safe.vsWarn } := vsSeen_safe _ mv
  have effect : vsRestore mv (begin s) = ((seen.tripWhy 0).ssEnter ssIdle).safeModule := by
    unfold vsRestore
    rw [if_neg (by omega)]
    refine (if_neg ?_).trans (if_pos ⟨tripped, ka⟩)
    rw [vsSeen_safe]
    exact Bool.eq_false_iff.1 settled
  obtain ⟨ss, why, vs⟩ := returns_leaves (seen.tripWhy 0)
  refine runs_section rfl hq (vsRestore_guards _ mv).toSafeStep fun t ht => ?_
  rw [effect] at ht
  rw [ht.safe]
  have serving : (seen.tripWhy 0).serving = (begin s).serving :=
    ((((SafeStep.refl (begin s)).safeUpd _).safeUpd _).announce (Announces.refl _).vsShow).serving
  rw [serving] at ss
  refine ⟨why, vs.trans ?_, ss⟩
  show seen.x.safe.vs = mv
  rw [safe]

/-! SAFETY_STARTUP_DONE (R272) -/

theorem runs_safetyStartupDone_failed (testing : s.x.safe.testing = true) :
    Runs (.safetyStartupDone false) s fun t => t.x.safe.ss = ssFault := by
  have effect : safetyStartupDone false (begin s) = (begin s).safeFault 5 0x04 := (if_neg (by simp [testing])).trans (if_pos rfl)
  refine runs_section rfl hq (safetyStartupDone_guards _ _).toSafeStep fun t ht => ?_
  rw [ht.safe, effect]
  exact (safeFault_leaves _ _ _).1

theorem runs_safetyStartupDone_unsealed (testing : s.x.safe.testing = true) (unsealed : s.x.safe.sealed = false) :
    Runs (.safetyStartupDone true) s fun t => t.x.safe.ss = ssUnsealed := by
  have effect : safetyStartupDone true (begin s) = (startupPassed (begin s)).unseal :=
    (safetyStartupDone_passed _ testing).trans (if_pos (.inl unsealed))
  refine runs_section rfl hq (safetyStartupDone_guards _ _).toSafeStep fun t ht => ?_
  rw [ht.safe, effect]
  exact (unseal_spec _).1

theorem runs_safetyStartupDone_sealed (testing : s.x.safe.testing = true) (isSealed : s.x.safe.sealed = true)
    (sigA : s.rd SAFE.SIG = s.x.safe.sigA) (sigB : s.rd SAFE.SIG = s.x.safe.sigB) (pending : s.rd SAFE.SIG = s.rd SAFE.PENDSIG)
    (good : sealBad (begin s).sealedCfg = false) :
    Runs (.safetyStartupDone true) s fun t => t.x.safe.ss = if (begin s).serving then ssActive else ssIdle := by
  have effect : safetyStartupDone true (begin s) = ((startupPassed (begin s)).ssEnter ssIdle).safeModule := by
    refine (safetyStartupDone_passed _ testing).trans (if_neg ?_)
    simp only [x_begin, rd_begin, not_or, ne_eq, Decidable.not_not]
    exact ⟨by simp [isSealed], sigA, sigB, pending, by simp [good]⟩
  refine runs_section rfl hq (safetyStartupDone_guards _ _).toSafeStep fun t ht => ?_
  rw [ht.safe, effect, ← (startupPassed_guards (begin s)).serving]
  exact (returns_leaves _).1

end

/-- Settles O21, command by command. That a lost cross-link or a failed start-up test gives TRIPWHY PROC_FAULT rests on log entry 30, the two
processors' views on log entry 200. -/
theorem safetySectionStates : Obligations.SafetySectionStates := by
  intro s hq
  refine ⟨fun lit sound => ⟨runs_xlinkLost hq lit sound, runs_abDisagree hq lit sound, runs_safetySelfCheck_processor hq lit sound,
      fun i hi => runs_safetySelfCheck_input hq hi lit sound, runs_crosslinkExchange hq lit sound⟩,
    runs_safetyKeepaliveLost hq, runs_vsWarn hq, runs_vsTrip hq, runs_safetyDark hq,
    fun mv high bound sound ka => ⟨runs_vsRestore_owed hq mv high bound sound ka, runs_vsRestore_tripped hq mv high bound ka⟩,
    fun testing => ⟨runs_safetyStartupDone_failed hq testing, runs_safetyStartupDone_unsealed hq testing,
      runs_safetyStartupDone_sealed hq testing⟩⟩

end Sys2Proof.Proofs
end

section
/-! PROOF. An output in OVERLOAD stays off until every function that maps it has passed through SAFE (R263): a mapped function that the overload
finds in RUN or STOPPING either stays there, and the output waits for it, or leaves for SAFE or LOCKED, and does not return while its inputs
stand. -/

namespace Sys2Proof.Proofs

open Sys2Proof.Machine Sys2Proof.Laws

/-! What a function's new state leaves of the functions' states and of the outputs -/

/-- An output once function number `k` (8 times the processor plus the function) has passed through SAFE (R263, R267). -/
def SOut.passed (k : Nat) (o : SOut) : SOut :=
  let rest (l : List Nat) : List Nat := l.filter fun g => decide (g ≠ k)
  { o with pass := rest o.pass, extPass := rest o.extPass, overload := o.overload && decide (rest o.pass ≠ []) }

theorem sout_each_soutSet (g : SOut → SOut) (m : Nat) : ∀ (l : List Nat) (w : Work), l.Nodup →
    (w.each l fun w n => w.soutSet n g).sout m = if m ∈ l then g (w.sout m) else w.sout m := by
  intro l
  induction l with
  | nil => exact fun _ _ => rfl
  | cons n t ih =>
    intro w nodup
    obtain ⟨notMem, nodup⟩ := List.nodup_cons.1 nodup
    have tail := ih (w.soutSet n g) nodup
    rw [sout_soutSet] at tail
    refine tail.trans ?_
    by_cases same : n = m
    · subst same
      simp [notMem]
    · simp [same, Ne.symm same]

/-- From `u` to `w` every function has kept its state, and every output stands. -/
structure Stands (u w : Work) : Prop where
  st : ∀ k m, (w.sfn k m).st = (u.sfn k m).st
  out : ∀ n, w.sout n = u.sout n

namespace Stands
variable {u v w : Work}

theorem refl (w : Work) : Stands w w := ⟨fun _ _ => rfl, fun _ => rfl⟩
theorem trans (h : Stands u v) (k : Stands v w) : Stands u w := ⟨fun m n => (k.st m n).trans (h.st m n), fun n => (k.out n).trans (h.out n)⟩
theorem ite (h : Stands u v) (k : Stands u w) {c : Prop} {_ : Decidable c} : Stands u (if c then v else w) := by
  split <;> assumption
theorem when (h : Stands u w) (c : Bool) {f : Work → Work} (hf : ∀ v, Stands v (f v)) : Stands u (w.when c f) := by
  unfold Work.when
  exact (h.trans (hf w)).ite h
theorem each {α : Type} (h : Stands u w) (l : List α) {f : Work → α → Work} (hf : ∀ v e, Stands v (f v e)) : Stands u (w.each l f) :=
  List.foldlRecOn l f h fun v k e _ => k.trans (hf v e)
theorem announce (h : Stands u v) (k : Announces v w) : Stands u w := by
  obtain ⟨fns, outs⟩ := k.tables
  exact h.trans ⟨fun m n => by rw [fns], outs⟩
theorem sfnSet (h : Stands u w) (v f : Nat) (g : SFn → SFn) (hg : ∀ s, (g s).st = s.st := by exact fun _ => rfl) :
    Stands u (w.sfnSet v f g) := h.trans ⟨st_sfnSet w v f hg, fun _ => rfl⟩

theorem degEnd (h : Stands u w) (v f : Nat) : Stands u (w.degEnd v f) := by
  unfold Work.degEnd
  exact (h.sfnSet _ _ _).when _ fun k => (refl k).announce ((Announces.refl k).emit _ _ _ _)

theorem fnDegrade (h : Stands u w) (v f : Nat) : Stands u (w.fnDegrade v f) := by
  unfold Work.fnDegrade
  refine (h.sfnSet _ _ _).when _ fun k => (refl k).announce ?_
  extract_lets told
  have first : Announces k told := (((Announces.refl k).emit _ _ _ _).irq _).newInstance _
  exact (((first.emit _ _ _ _).irq _).newInstance _).ite first

end Stands

section
variable (w : Work) (v f st : Nat)

/-- A function that takes its own state takes none. -/
theorem fnState_stays (stays : (w.sfn v f).st = st) : w.fnState v f st = w := by
  unfold Work.fnState
  exact if_pos stays

/-- One that takes another state: the functions' states and the outputs, up to its passing through SAFE. -/
theorem fnState_moves (moves : (w.sfn v f).st ≠ st) : ∃ u : Work, (∀ k m, (u.sfn k m).st = if 8 * v + f = 8 * k + m then st else (w.sfn k m).st)
    ∧ (∀ n, u.sout n = w.sout n)
    ∧ w.fnState v f st = if st = fsSafe then u.each (List.range 4) fun w n => w.soutSet n (SOut.passed (8 * v + f)) else u := by
  unfold Work.fnState
  extract_lets s left told ended taken asked
  have endedS : Stands w ended := ((Stands.refl w).when _ fun k => (Stands.refl k).announce ((Announces.refl k).irq _)).when _ fun k =>
    (Stands.refl k).degEnd v f
  have askedS : Stands taken asked := (Stands.refl taken).when _ fun k => (Stands.refl k).each _ fun k _ => (Stands.refl k).sfnSet _ _ _
  refine ⟨asked, fun k m => (askedS.st k m).trans ?_, fun n => (askedS.out n).trans (endedS.out n), if_neg moves⟩
  unfold taken
  rw [sfn_sfnSet]
  split
  · rfl
  · exact endedS.st k m

theorem sfn_each_soutSet (g : SOut → SOut) (k m : Nat) (l : List Nat) : (w.each l fun w n => w.soutSet n g).sfn k m = w.sfn k m :=
  List.foldlRecOn (motive := fun u : Work => u.sfn k m = w.sfn k m) l _ rfl fun _ h _ _ => h

/-- A function takes a state, the others keep theirs. -/
theorem st_fnState (k m : Nat) : ((w.fnState v f st).sfn k m).st = if 8 * v + f = 8 * k + m then st else (w.sfn k m).st := by
  by_cases stays : (w.sfn v f).st = st
  · rw [fnState_stays w v f st stays]
    split
    · rename_i index
      rw [← stays]
      unfold Work.sfn
      rw [index]
    · rfl
  · obtain ⟨u, states, -, moved⟩ := fnState_moves w v f st stays
    rw [moved, ← states]
    split
    · rw [sfn_each_soutSet]
    · rfl

/-- With SAFE it has passed for every output; else the outputs stand. -/
theorem sout_fnState {n : Nat} (hn : n < 4) : (w.fnState v f st).sout n =
    if (w.sfn v f).st ≠ st ∧ st = fsSafe then SOut.passed (8 * v + f) (w.sout n) else w.sout n := by
  by_cases stays : (w.sfn v f).st = st
  · rw [fnState_stays w v f st stays, if_neg fun h => h.1 stays]
  · obtain ⟨u, -, outs, moved⟩ := fnState_moves w v f st stays
    rw [moved]
    by_cases safe : st = fsSafe
    · rw [if_pos safe, if_pos ⟨stays, safe⟩, sout_each_soutSet _ _ _ _ List.nodup_range, if_pos (List.mem_range.2 hn), outs]
    · rw [if_neg safe, if_neg fun h => safe h.2, outs]

end

/-! A function that cannot return to RUN while its inputs stand -/

/-- Both channels of a function satisfied, for a two-hand function both buttons actuated (R254, R260). -/
def bothIn (w : Work) (v f : Nat) : Bool :=
  if w.fType f = 3 then w.actuated v f && w.actuated v (f + 1) else w.satA v f && w.satB v f

/-- By its inputs a function has no way to WAIT or RUN: a RESET's contact is open, a PARTNER's button not actuated; another's channels are
faulted or not both satisfied (R256, R257, R260). -/
def Barred (w : Work) (v f : Nat) : Prop :=
  if w.fType f = 6 then w.satA v f = false else if w.fType f = 4 then w.actuated v f = false else w.fFaulted v f = true ∨ bothIn w v f = false

theorem not_both_of_demand {w : Work} {v f : Nat} (h : w.fDemand v f = true) : bothIn w v f = false := by
  unfold Work.fDemand at h
  unfold bothIn
  split at h
  · rename_i twoHand
    rw [if_pos twoHand]
    exact Bool.not_eq_true' _ ▸ h
  · rename_i other
    rw [if_neg other]
    simp only [Bool.or_eq_true, Bool.and_eq_true, Bool.not_eq_true'] at h
    rcases h with ⟨a, -⟩ | ⟨b, -⟩
    · rw [a, Bool.false_and]
    · rw [b, Bool.and_false]

theorem both_of_satisfied {w : Work} {v f : Nat} (h : w.fSatisfied v f = true) : bothIn w v f = true := by
  unfold Work.fSatisfied at h
  unfold bothIn
  split at h
  · rename_i twoHand
    rw [if_pos twoHand]
    simp only [Bool.and_eq_true] at h ⊢
    exact h.1
  · rename_i other
    rw [if_neg other]
    exact h

/-- Inputs and sealed configuration stand where the section evaluates. -/
theorem Evaluates.barred {u w : Work} (h : Evaluates u w) {f : Nat} (hf : f < 8) (v : Nat) : Barred w v f ↔ Barred u v f := by
  have input (i : Nat) : w.sinAt v i = u.sinAt v i := by
    unfold Work.sinAt Work.sin
    rw [h.reads SafeSt.ins, h.reads SafeSt.seen]
  have satA (k : Nat) : w.satA v k = u.satA v k := by unfold Work.satA; rw [input]
  have satB {k : Nat} (hk : k < 9) : w.satB v k = u.satB v k := by
    unfold Work.satB Work.flag Work.get
    rw [h.fType hk, h.fcfg0 hk, input]
  have button {k : Nat} (hk : k < 9) : w.actuated v k = u.actuated v k := by unfold Work.actuated; rw [satA, satB hk]
  have faulted : w.fFaulted v f = u.fFaulted v f := by unfold Work.fFaulted; simp only [h.fType (show f < 9 by omega), input]
  unfold Barred bothIn
  rw [h.fType (by omega), satA, satB (by omega), button (by omega), button (by omega), faulted]

/-! One step of a function (R257) -/

section
variable {w : Work} {v f : Nat}

/-- `u` is a move of function `f` of processor `v` from `w`: it has taken a state of which `P` holds, or begun degraded mode, or stood. -/
def Moves (P : Nat → Prop) (w : Work) (v f : Nat) (u : Work) : Prop := (∃ st, P st ∧ u = w.fnState v f st) ∨ u = w.fnDegrade v f ∨ u = w

theorem Moves.to {P : Nat → Prop} {st : Nat} (h : P st) : Moves P w v f (w.fnState v f st) := .inl ⟨st, h, rfl⟩
theorem Moves.degrades {P : Nat → Prop} : Moves P w v f (w.fnDegrade v f) := .inr (.inl rfl)
theorem Moves.stands {P : Nat → Prop} : Moves P w v f w := .inr (.inr rfl)
theorem Moves.ite {P : Nat → Prop} {c : Prop} {_ : Decidable c} {t u : Work} (ht : c → Moves P w v f t) (hu : ¬ c → Moves P w v f u) :
    Moves P w v f (if c then t else u) := by
  split
  · exact ht ‹_›
  · exact hu ‹_›

theorem fnStep_moves (w : Work) (v f : Nat) : Moves (fun _ => True) w v f (w.fnStep v f) := by
  have takes (c : Prop) (st : Nat) : c → Moves (fun _ => True) w v f (w.fnState v f st) := fun _ => .to trivial
  have stands (c : Prop) : c → Moves (fun _ => True) w v f w := fun _ => .stands
  unfold Work.fnStep
  refine .ite (takes _ _) fun _ => .ite (takes _ _) fun _ => .ite (takes _ _) fun _ => .ite (takes _ _) fun _ =>
    .ite ?safe fun _ => .ite ?wait fun _ => .ite ?run fun _ => .ite ?locked (stands _)
  case safe => exact fun _ => .ite (takes _ _) fun _ => .ite (takes _ _) (stands _)
  case wait => exact fun _ => .ite (takes _ _) fun _ => .ite (takes _ _) fun _ => .ite (takes _ _) (stands _)
  case run => exact fun _ => .ite (takes _ _) fun _ => .ite (fun _ => .degrades) (stands _)
  case locked => exact fun _ => .ite (takes _ _) (stands _)

theorem faulted_of_channel (h : (w.sinAt v f).faulted = true ∨ (w.sinAt v (f + 8)).faulted = true) : w.fFaulted v f = true := by
  have own : ((w.sinAt v f).faulted || (w.sinAt v (f + 8)).faulted) = true := Bool.or_eq_true_iff.2 h
  unfold Work.fFaulted
  split
  · exact Bool.or_eq_true_iff.2 (.inl own)
  · exact own

/-- What a function may do whose inputs bar its return. -/
theorem barred_other (reset : w.fType f ≠ 6) (partner : w.fType f ≠ 4) : Barred w v f ↔ w.fFaulted v f = true ∨ bothIn w v f = false := by
  unfold Barred
  rw [if_neg reset, if_neg partner]

/-- A RESET or PARTNER slot follows its contact: RUN, or SAFE with its return barred. -/
theorem fnStep_contact (used : w.fType f ≠ 0) (contact : w.fType f = 6 ∨ w.fType f = 4) :
    ∃ st, w.fnStep v f = w.fnState v f st ∧ ((st = fsRun ∧ ¬ Barred w v f) ∨ (st = fsSafe ∧ Barred w v f)) := by
  unfold Work.fnStep Barred
  dsimp only
  rw [if_neg used]
  by_cases reset : w.fType f = 6
  · rw [if_pos reset, if_pos reset]
    cases w.satA v f
    · exact ⟨fsSafe, rfl, .inr ⟨rfl, rfl⟩⟩
    · exact ⟨fsRun, rfl, .inl ⟨rfl, Bool.noConfusion⟩⟩
  · have partner := contact.resolve_left reset
    rw [if_neg reset, if_neg reset, if_pos partner, if_pos partner]
    cases w.actuated v f
    · exact ⟨fsSafe, rfl, .inr ⟨rfl, rfl⟩⟩
    · exact ⟨fsRun, rfl, .inl ⟨rfl, Bool.noConfusion⟩⟩

/-- From RUN or STOPPING a function stays in one of them, or leaves for SAFE with its return barred. -/
theorem fnStep_running (used : w.fType f ≠ 0) (running : (w.sfn v f).st = fsRun ∨ (w.sfn v f).st = fsStopping) :
    Moves (fun st => (st = fsRun ∨ st = fsStopping) ∨ (st = fsSafe ∧ Barred w v f)) w v f (w.fnStep v f) := by
  by_cases contact : w.fType f = 6 ∨ w.fType f = 4
  · obtain ⟨st, step, ⟨run, -⟩ | safe⟩ := fnStep_contact (v := v) used contact
    · exact .inl ⟨st, .inl (.inl run), step⟩
    · exact .inl ⟨st, .inr safe, step⟩
  · obtain ⟨reset, partner⟩ := not_or.1 contact
    have barred := barred_other (v := v) reset partner
    unfold Work.fnStep
    dsimp only
    rw [if_neg used, if_neg reset, if_neg partner]
    rcases running with st | st <;> rw [st]
    · rw [if_neg (by decide), if_neg (by decide), if_neg (by decide), if_pos rfl]
      refine .ite (fun why => .to ?_) fun _ => .ite (fun _ => .degrades) fun _ => .stands
      split
      · exact .inl (.inr rfl)
      · refine .inr ⟨rfl, barred.2 ?_⟩
        obtain demand | ⟨-, faulted⟩ | ⟨a, -⟩ | ⟨channel, -⟩ := why
        · exact .inr (not_both_of_demand demand)
        · exact .inl faulted
        · exact .inl (faulted_of_channel (.inl a))
        · exact .inl (faulted_of_channel channel)
    · rw [if_neg (by decide), if_neg (by decide), if_neg (by decide), if_neg (by decide), if_neg (by decide)]
      exact .stands

/-- From SAFE or LOCKED a function whose return is barred reaches but these. -/
theorem fnStep_out (used : w.fType f ≠ 0) (out : (w.sfn v f).st = fsSafe ∨ (w.sfn v f).st = fsLocked) (barred : Barred w v f) :
    Moves (fun st => st = fsSafe ∨ st = fsLocked) w v f (w.fnStep v f) := by
  by_cases contact : w.fType f = 6 ∨ w.fType f = 4
  · obtain ⟨st, step, ⟨-, free⟩ | ⟨safe, -⟩⟩ := fnStep_contact (v := v) used contact
    · exact absurd barred free
    · exact .inl ⟨st, .inl safe, step⟩
  · obtain ⟨reset, partner⟩ := not_or.1 contact
    rw [barred_other reset partner] at barred
    unfold Work.fnStep
    dsimp only
    rw [if_neg used, if_neg reset, if_neg partner]
    rcases out with st | st <;> rw [st]
    · rw [if_neg (by decide), if_pos rfl]
      refine .ite (fun _ => .to (.inr rfl)) fun fit => .ite (fun satisfied => ?_) fun _ => .stands
      rcases barred with faulted | missing
      · exact absurd (.inl faulted) fit
      · rw [both_of_satisfied satisfied] at missing
        exact Bool.noConfusion missing
    · rw [if_neg (by decide), if_neg (by decide), if_neg (by decide), if_neg (by decide), if_pos rfl]
      exact .ite (fun _ => .to (.inl rfl)) fun _ => .stands

end

/-! The invariant of an evaluation -/

/-- Output `n` is kept off by function `f` of processor `v`: either it waits in OVERLOAD for the function, which has not left RUN or STOPPING,
or the function has left and its return is barred. -/
def KeptOff (v f n : Nat) (w : Work) : Prop :=
  (((w.sfn v f).st = fsRun ∨ (w.sfn v f).st = fsStopping) ∧ (w.sout n).overload = true ∧ 8 * v + f ∈ (w.sout n).pass)
    ∨ (((w.sfn v f).st = fsSafe ∨ (w.sfn v f).st = fsLocked) ∧ Barred w v f)

theorem KeptOff.not_allowed {v f n : Nat} {w : Work} (h : KeptOff v f n w) (hv : v < 2) (mapped : f ∈ w.mappers n) : ¬ Allowed w n := by
  rintro ⟨-, -, -, running, -, fit⟩
  rcases h with ⟨-, overload, -⟩ | ⟨out, -⟩
  · rw [overload] at fit
    exact Bool.noConfusion fit
  · rcases out with st | st <;> rcases running v hv f mapped with r | r <;> exact absurd (st.symm.trans r) (by decide)

section
variable {v f n : Nat} {u w : Work}

theorem KeptOff.stands (h : KeptOff v f n u) (hf : f < 8) (k : Stands u w) (e : Evaluates u w) : KeptOff v f n w := by
  unfold KeptOff
  rw [k.st, k.out, e.barred hf]
  exact h

/-- A function that passes through SAFE takes no other function's name from the lists of an output that waits for it. -/
theorem passed_waits {k m : Nat} {o : SOut} (other : m ≠ k) (overload : o.overload = true) (waits : m ∈ o.pass) :
    (SOut.passed k o).overload = true ∧ m ∈ (SOut.passed k o).pass := by
  have mem : m ∈ o.pass.filter fun g => decide (g ≠ k) := List.mem_filter.2 ⟨waits, decide_eq_true other⟩
  refine ⟨?_, mem⟩
  unfold SOut.passed
  dsimp only
  rw [overload, decide_eq_true (List.ne_nil_of_mem mem), Bool.true_and]

theorem KeptOff.fnState_other (h : KeptOff v f n w) (hf : f < 8) (hn : n < 4) {k m : Nat} (other : 8 * k + m ≠ 8 * v + f) (st : Nat) :
    KeptOff v f n (w.fnState k m st) := by
  unfold KeptOff
  rw [st_fnState, if_neg other, ((Evaluates.refl w).fnState k m st).barred hf, sout_fnState _ _ _ _ hn]
  refine h.imp (fun ⟨running, overload, waits⟩ => ⟨running, ?_⟩) id
  split
  · exact passed_waits other.symm overload waits
  · exact ⟨overload, waits⟩

theorem KeptOff.fnStep (h : KeptOff v f n w) (used : w.fType f ≠ 0) (hf : f < 8) (hn : n < 4) {k m : Nat} (hm : m < 8) :
    KeptOff v f n (w.fnStep k m) := by
  have begun : KeptOff v f n (w.fnDegrade k m) := h.stands hf ((Stands.refl w).fnDegrade k m) ((Evaluates.refl w).fnDegrade k m)
  by_cases own : 8 * k + m = 8 * v + f
  · obtain ⟨rfl, rfl⟩ : k = v ∧ m = f := by omega
    have state (st : Nat) : ((w.fnState k m st).sfn k m).st = st := by rw [st_fnState, if_pos rfl]
    have bar (st : Nat) : Barred (w.fnState k m st) k m ↔ Barred w k m := ((Evaluates.refl w).fnState k m st).barred hf k
    rcases h with ⟨running, overload, waits⟩ | ⟨out, barred⟩
    · rcases fnStep_running used running with ⟨st, stays | ⟨safe, barred⟩, step⟩ | step | step
      · have notSafe : st ≠ fsSafe := by rcases stays with rfl | rfl <;> decide
        rw [step]
        refine .inl ⟨by rw [state]; exact stays, ?_⟩
        rw [sout_fnState _ _ _ _ hn, if_neg fun h => notSafe h.2]
        exact ⟨overload, waits⟩
      · rw [step]
        exact .inr ⟨by rw [state]; exact .inl safe, (bar st).2 barred⟩
      · rw [step]
        exact begun
      · rw [step]
        exact .inl ⟨running, overload, waits⟩
    · rcases fnStep_out used out barred with ⟨st, stays, step⟩ | step | step
      · rw [step]
        exact .inr ⟨by rw [state]; exact stays, (bar st).2 barred⟩
      · rw [step]
        exact begun
      · rw [step]
        exact .inr ⟨out, barred⟩
  · rcases fnStep_moves w k m with ⟨st, -, step⟩ | step | step
    · rw [step]
      exact h.fnState_other hf hn own st
    · rw [step]
      exact begun
    · rw [step]
      exact h

/-- What keeps an output off before an evaluation keeps it off after it. -/
theorem KeptOff.fnsEval (h : KeptOff v f n w) (used : w.fType f ≠ 0) (hf : f < 8) (hn : n < 4) (k : Nat) : KeptOff v f n (w.fnsEval k) := by
  have round (u : Work) (e : Evaluates w u ∧ KeptOff v f n u) : Evaluates w (u.each (List.range 8) fun w f => w.fnStep k f)
      ∧ KeptOff v f n (u.each (List.range 8) fun w f => w.fnStep k f) :=
    List.foldlRecOn (motive := fun u => Evaluates w u ∧ KeptOff v f n u) _ _ e fun u ⟨e, kept⟩ m mem =>
      ⟨e.fnStep k m, kept.fnStep (by rw [e.fType (by omega)]; exact used) hf hn (List.mem_range.1 mem)⟩
  unfold Work.fnsEval
  split
  · exact (List.foldlRecOn (motive := fun u => Evaluates w u ∧ KeptOff v f n u) (List.range 3) _ ⟨.refl w, h⟩ fun u e _ _ => round u e).2
  · exact h

theorem KeptOff.safeAct (h : KeptOff v f n w) (hv : v < 2) (hn : n < 4) (mapped : f ∈ w.mappers n) : (w.safeAct.sout n).on = false := by
  obtain ⟨range, maps⟩ := List.mem_filter.1 mapped
  have hf := List.mem_range.1 range
  have used : w.fType f ≠ 0 := of_decide_eq_true (Bool.and_eq_true_iff.1 maps).1
  have evalA : Evaluates w (w.fnsEval 0) := (Evaluates.refl w).fnsEval 0
  have evaluated : KeptOff v f n ((w.fnsEval 0).fnsEval 1) :=
    (h.fnsEval used hf hn 0).fnsEval (by rw [evalA.fType (by omega)]; exact used) hf hn 1
  have followed : KeptOff v f n w.safeEval := by
    obtain ⟨-, rest, outs, -⟩ := outsFollow_spec ((w.fnsEval 0).fnsEval 1)
    have sameFns : w.safeEval.sfn v f = ((w.fnsEval 0).fnsEval 1).sfn v f := by
      have fns := congrArg SafeSt.fns rest
      unfold Work.sfn
      exact congrArg (fun t => tabGet {} t _) fns
    have overload : (w.safeEval.sout n).overload = (((w.fnsEval 0).fnsEval 1).sout n).overload :=
      (congrArg SOut.overload (outs n) :)
    have pass : (w.safeEval.sout n).pass = (((w.fnsEval 0).fnsEval 1).sout n).pass := (congrArg SOut.pass (outs n) :)
    have barred : Barred w.safeEval v f ↔ Barred ((w.fnsEval 0).fnsEval 1) v f := (Evaluates.refl _).outsFollow.barred hf v
    unfold KeptOff
    rw [sameFns, overload, pass, barred]
    exact evaluated
  have shown := (Announces.refl w.safeEval).safeShow
  obtain ⟨fns, outs⟩ := shown.tables
  have final : KeptOff v f n w.safeAct := followed.stands hf ((Stands.refl _).announce shown) shown.evaluates
  have step : Evaluates w w.safeAct := (Evaluates.refl w).safeAct
  refine Bool.eq_false_iff.2 fun on => ?_
  exact final.not_allowed hv (by rw [step.mappers]; exact mapped) (safeAct_allowed w n hn on)

end

end Sys2Proof.Proofs
end

section
/-! PROOF. The outputs of the safety section and their tests (R263 to R267), each command by what its effect leaves. -/

namespace Sys2Proof.Proofs

open Sys2Proof.Machine Sys2Proof.Laws

/-! An output that has failed -/

/-- Where an output may be energised no flag of its OSTAT is set. -/
theorem ostatWord_clear {o : SOut} (free : o.locked = false) (fit : o.overload = false) (v : Nat) (test : Bool) {b : Nat} (low : 7 ≤ b)
    (high : b ≤ 11) : (ostatWord v test o).getLsbD b = false := by
  simp only [SOut.locked, Bool.or_eq_false_iff] at free
  obtain ⟨⟨⟨⟨⟨hsfail, lsfail⟩, hsext⟩, lsext⟩, -⟩, -⟩ := free
  unfold ostatWord
  extract_lets flag st
  have small : st < 8 := by
    unfold st
    split_ifs <;> decide
  rw [hsfail, lsfail, hsext, lsext, fit, BitVec.getLsbD_ofNat, Nat.testBit_eq_decide_div_mod_eq]
  have none : flag false = 0 := rfl
  rw [none]
  have : b = 7 ∨ b = 8 ∨ b = 9 ∨ b = 10 ∨ b = 11 := by omega
  rcases this with rfl | rfl | rfl | rfl | rfl <;> simp <;> omega

section
variable (w : Work) (n bit : Nat) (g : SOut → SOut)

/-- A failure is announced: the section stands but for the output. -/
theorem outFault_announces : Announces (w.soutSet n g) (w.outFault n bit g) := by
  unfold Work.outFault
  exact ((Announces.refl _).emit _ _ _ _).when _ fun v => (Announces.refl v).irq _

theorem sout_outFault : (w.outFault n bit g).sout n = g (w.sout n) := by
  obtain ⟨-, outs⟩ := (outFault_announces w n bit g).tables
  rw [outs, sout_soutSet, if_pos rfl]

/-- A flag that rises raises OUTFAULT (R282). -/
theorem outFault_raises (clear : (ostatWord 0 false (w.sout n)).getLsbD bit = false) :
    (w.outFault n bit g).get (HDR.IRQSTAT safePage) ⟨19, 1⟩ = 1 := by
  unfold Work.outFault Work.when
  rw [clear]
  exact get_irq_same _ _ _ (by decide)

end

/-- What an evaluation leaves of an output's flags and counters. -/
theorem Evaluates.output {α : Type} {u w : Work} (h : Evaluates u w) (n : Nat) (p : SOut → α)
    (hp : ∀ o, p (SOut.bare o) = p o := by exact fun _ => rfl) : p (w.sout n) = p (u.sout n) := of_bare p (h.outs n) hp

theorem sout_soutSet_same (w : Work) (n : Nat) (g : SOut → SOut) : (w.soutSet n g).sout n = g (w.sout n) := by
  rw [sout_soutSet, if_pos rfl]

section
variable {s : State} {n : Nat} (hq : Quiet s) (hn : n < 4) (lit : s.x.safe.dark = false) (runs : (begin s).safeRuns = true)
  (rule : SafeOutputs s)
include hq hn lit runs rule

/-! The dark pulse (R264, R266) -/

theorem runs_darkPulseTest_demand (fell : Bool) : Runs (.darkPulseTest n fell true) s fun t =>
    ((begin t).sout n).dpab = min (((begin s).sout n).dpab + 1) 255 ∧ ((begin t).sout n).hsfail = ((begin s).sout n).hsfail
      ∧ ((begin t).sout n).lsfail = ((begin s).sout n).lsfail ∧ SafeOutputs t := by
  let aborted := (begin s).soutSet n fun o => { o with dpab := min (o.dpab + 1) 255, dpLow := !o.dpLow }
  let told := aborted.evOccur safePage n (SAFE.OSTAT 0 n) 24 (aborted.sout n).dpab
  have effect : darkPulseTest n fell true (begin s) = told.safeAct := by
    unfold darkPulseTest
    rw [if_neg (by simp [hn, lit, runs])]
    exact if_pos rfl
  have evaluated : Evaluates aborted told.safeAct := ((Announces.refl aborted).emit _ _ _ _).evaluates.safeAct
  have out := sout_soutSet_same (begin s) n fun o => { o with dpab := min (o.dpab + 1) 255, dpLow := !o.dpLow }
  have dpab := (evaluated.output n SOut.dpab).trans (congrArg SOut.dpab out)
  have hsfail := (evaluated.output n SOut.hsfail).trans (congrArg SOut.hsfail out)
  have lsfail := (evaluated.output n SOut.lsfail).trans (congrArg SOut.lsfail out)
  have guards := darkPulseTest_guards (begin s) n fell true
  refine runs_section rfl hq guards.toSafeStep fun t ht => ?_
  have safe := ht.safeOutputs (guards.allowed rule)
  rw [effect] at ht
  rw [ht.sout]
  exact ⟨dpab, hsfail, lsfail, safe⟩

theorem runs_darkPulseTest_fell (on : ((begin s).sout n).on = true) : Runs (.darkPulseTest n true false) s fun t =>
    ((begin t).sout n).on = true ∧ ((begin t).sout n).dpLow = !((begin s).sout n).dpLow ∧ SafeOutputs t := by
  have effect : darkPulseTest n true false (begin s) = (begin s).soutSet n fun o => { o with dpLow := !o.dpLow } := by
    unfold darkPulseTest
    rw [if_neg (by simp [hn, lit, runs])]
    exact (if_neg (by decide)).trans ((if_neg (by simp [on])).trans (if_pos rfl))
  have guards := darkPulseTest_guards (begin s) n true false
  refine runs_section rfl hq guards.toSafeStep fun t ht => ?_
  have safe := ht.safeOutputs (guards.allowed rule)
  rw [ht.sout, effect, sout_soutSet_same]
  exact ⟨on, rfl, safe⟩

theorem runs_darkPulseTest_stuck (on : ((begin s).sout n).on = true) : Runs (.darkPulseTest n false false) s fun t =>
    ((begin t).sout n).on = false
      ∧ (if ((begin s).sout n).dpLow then ((begin t).sout n).lsfail = true else ((begin t).sout n).hsfail = true)
      ∧ t.get (HDR.IRQSTAT safePage) ⟨19, 1⟩ = 1 ∧ SafeOutputs t := by
  let low := ((begin s).sout n).dpLow
  let fails (o : SOut) : SOut := { o with hsfail := o.hsfail || !low, lsfail := o.lsfail || low, dpLow := !((begin s).sout n).dpLow }
  let told := ((begin s).outFault n (if low then 8 else 7) fails).blockFault safePage 0x02 0x0C true
  have effect : darkPulseTest n false false (begin s) = told.safeAct := by
    unfold darkPulseTest
    rw [if_neg (by simp [hn, lit, runs])]
    exact (if_neg (by decide)).trans ((if_neg (by simp [on])).trans (if_neg (by decide)))
  have evaluated : Evaluates ((begin s).outFault n (if low then 8 else 7) fails) told.safeAct :=
    ((Announces.refl _).blockFault _ _ _).evaluates.safeAct
  have out := sout_outFault (begin s) n (if low then 8 else 7) fails
  have hsfail := (evaluated.output n SOut.hsfail).trans (congrArg SOut.hsfail out)
  have lsfail := (evaluated.output n SOut.lsfail).trans (congrArg SOut.lsfail out)
  have failed : if low then (told.safeAct.sout n).lsfail = true else (told.safeAct.sout n).hsfail = true := by
    split
    · rename_i isLow
      rw [lsfail]
      exact Bool.or_eq_true_iff.2 (.inr isLow)
    · rename_i isHigh
      rw [hsfail]
      exact Bool.or_eq_true_iff.2 (.inr (by simpa using isHigh))
  have locked : (told.safeAct.sout n).locked = true := by
    unfold SOut.locked
    split at failed <;> simp [failed]
  obtain ⟨-, -, -, -, free, fit⟩ := rule n hn on
  have raised := evaluated.irqs.get (by decide) (outFault_raises (begin s) n (if low then 8 else 7) fails
    (ostatWord_clear free fit 0 false (by split <;> decide) (by split <;> decide)))
  have guards := darkPulseTest_guards (begin s) n false false
  refine runs_section rfl hq guards.toSafeStep fun t ht => ?_
  rw [effect] at ht
  rw [ht.sout, ht.get rfl]
  exact ⟨(safeAct_allowed _).off_of_locked hn locked, failed, raised, ht.safeOutputs (safeAct_allowed _)⟩

/-! The off-state test (R265, R266) -/

theorem runs_offStateTest (hs ls : Bool) (off : ((begin s).sout n).on = false) : Runs (.offStateTest n hs ls false) s fun t =>
    ((begin t).sout n).hsfail = (((begin s).sout n).hsfail || !hs) ∧ ((begin t).sout n).lsfail = (((begin s).sout n).lsfail || !ls)
      ∧ (hs = false ∨ ls = false → ((begin t).sout n).on = false) := by
  let high := if hs then begin s else (begin s).outFault n 7 fun o => { o with hsfail := true }
  let low := if ls then high else high.outFault n 8 fun o => { o with lsfail := true }
  have effect : offStateTest n hs ls false (begin s) = if hs ∧ ls then low else (low.blockFault safePage 0x02 0x0C true).safeAct := by
    unfold offStateTest
    rw [if_neg (by simp [hn, lit, runs])]
    exact (if_neg (by decide)).trans (if_neg (by simp [off]))
  have out : low.sout n = { (begin s).sout n with
      hsfail := ((begin s).sout n).hsfail || !hs, lsfail := ((begin s).sout n).lsfail || !ls } := by
    cases hs <;> cases ls <;> simp [low, high, sout_outFault]
  have final : Evaluates low (offStateTest n hs ls false (begin s)) := by
    rw [effect]
    exact (Evaluates.refl low).ite ((Announces.refl low).blockFault _ _ _).evaluates.safeAct
  have hsfail := (final.output n SOut.hsfail).trans (congrArg SOut.hsfail out)
  have lsfail := (final.output n SOut.lsfail).trans (congrArg SOut.lsfail out)
  have guards := offStateTest_guards (begin s) n hs ls false
  refine runs_section rfl hq guards.toSafeStep fun t ht => ?_
  rw [ht.sout]
  refine ⟨hsfail, lsfail, fun failed => (guards.allowed rule).off_of_locked hn ?_⟩
  unfold SOut.locked
  rw [hsfail, lsfail]
  rcases failed with rfl | rfl <;> simp

omit rule in
theorem runs_offStateTest_demand (hs ls : Bool) : Runs (.offStateTest n hs ls true) s fun t =>
    ((begin t).sout n).otab = min (((begin s).sout n).otab + 1) 255 := by
  let aborted := (begin s).soutSet n fun o => { o with otab := min (o.otab + 1) 255 }
  let told := aborted.evOccur safePage n (SAFE.OSTAT 0 n) 16 (aborted.sout n).otab
  have effect : offStateTest n hs ls true (begin s) = told.safeAct := by
    unfold offStateTest
    rw [if_neg (by simp [hn, lit, runs])]
    exact if_pos rfl
  have evaluated : Evaluates aborted told.safeAct := ((Announces.refl aborted).emit _ _ _ _).evaluates.safeAct
  have out := sout_soutSet_same (begin s) n fun o => { o with otab := min (o.otab + 1) 255 }
  refine runs_section rfl hq (offStateTest_guards (begin s) n hs ls true).toSafeStep fun t ht => ?_
  rw [ht.sout, effect]
  exact (evaluated.output n SOut.otab).trans (congrArg SOut.otab out)

/-! Overload and external voltage (R263, R267) -/

omit lit runs in
theorem runs_safeOutputOverload (on : ((begin s).sout n).on = true) : Runs (.safeOutputOverload n) s fun t =>
    ((begin t).sout n).on = false ∧ t.get (HDR.IRQSTAT safePage) ⟨19, 1⟩ = 1 ∧ SafeOutputs t := by
  let overloads (o : SOut) : SOut := { o with overload := true, a := false, b := false, pass := (begin s).passers n }
  let told := (begin s).outFault n 11 overloads
  have effect : safeOutputOverload n (begin s) = told.safeAct := if_neg (by simp [hn, on])
  obtain ⟨-, -, mapped, running, free, fit⟩ := rule n hn on
  obtain ⟨f, mem⟩ := List.exists_mem_of_ne_nil _ mapped
  have announced := outFault_announces (begin s) n 11 overloads
  have kept : KeptOff 0 f n told := by
    obtain ⟨fns, -⟩ := announced.tables
    refine .inl ⟨by rw [fns]; exact running 0 (by decide) f mem, ?_⟩
    rw [sout_outFault]
    refine ⟨rfl, List.mem_append_left _ ?_⟩
    rw [Nat.mul_zero, Nat.zero_add]
    exact mem
  have maps : told.mappers n = (begin s).mappers n := announced.mappers n
  have raised := (Evaluates.refl told).safeAct.irqs.get (by decide) (outFault_raises (begin s) n 11 overloads
    (ostatWord_clear free fit 0 false (by decide) (by decide)))
  refine runs_section rfl hq (safeOutputOverload_guards (begin s) n).toSafeStep fun t ht => ?_
  rw [effect] at ht
  rw [ht.sout, ht.get rfl]
  exact ⟨kept.safeAct (by decide) hn (by rw [maps]; exact mem), raised, ht.safeOutputs (safeAct_allowed _)⟩

omit runs rule in
theorem runs_extVoltage (h : Bool) (opened : (if h then ((begin s).sout n).a else ((begin s).sout n).b) = false) :
    Runs (.extVoltage n h) s fun t => ((begin t).sout n).hsext = (((begin s).sout n).hsext || h)
      ∧ ((begin t).sout n).lsext = (((begin s).sout n).lsext || !h) ∧ ((begin t).sout n).locked = true ∧ ((begin t).sout n).on = false
      ∧ SafeOutputs t := by
  let locked := ((begin s).passers n).filter fun k => decide (((begin s).sfn (k / 8) (k % 8)).st = fsLocked)
  let found := (begin s).outFault n (if h then 9 else 10) fun o =>
    { o with hsext := o.hsext || h, lsext := o.lsext || !h, ext := true, extPass := locked }
  let tripped := found.each (found.passers n) fun w k =>
    let st := (w.sfn (k / 8) (k % 8)).st
    if st = fsRun ∨ st = fsStopping ∨ st = fsWait then w.fnState (k / 8) (k % 8) fsSafe else w
  have effect : extVoltage n h (begin s) = tripped.safeAct := if_neg (by simp [hn, lit, opened])
  have evaluated : Evaluates found tripped.safeAct :=
    ((Evaluates.refl found).each _ fun k m _ => ((Evaluates.refl k).fnState _ _ _).ite (.refl k)).safeAct
  have out := sout_outFault (begin s) n (if h then 9 else 10) fun o =>
    { o with hsext := o.hsext || h, lsext := o.lsext || !h, ext := true, extPass := locked }
  have hsext := (evaluated.output n SOut.hsext).trans (congrArg SOut.hsext out)
  have lsext := (evaluated.output n SOut.lsext).trans (congrArg SOut.lsext out)
  have isLocked : (tripped.safeAct.sout n).locked = true := by
    unfold SOut.locked
    rw [hsext, lsext]
    cases h <;> simp
  refine runs_section rfl hq (extVoltage_guards (begin s) n h).toSafeStep fun t ht => ?_
  rw [effect] at ht
  rw [ht.sout]
  exact ⟨hsext, lsext, isLocked, (safeAct_allowed _).off_of_locked hn isLocked, ht.safeOutputs (safeAct_allowed _)⟩

omit runs rule in
theorem runs_extVoltageClear : Runs (.extVoltageClear n) s fun t =>
    ((begin t).sout n).hsext = false ∧ ((begin t).sout n).lsext = false ∧ SafeOutputs t := by
  let cleared := (begin s).soutSet n fun o => { o with hsext := false, lsext := false, ext := false }
  have effect : extVoltageClear n (begin s) = cleared.safeAct := if_neg (by simp [hn, lit])
  have evaluated := (Evaluates.refl cleared).safeAct
  have out := sout_soutSet_same (begin s) n fun o => { o with hsext := false, lsext := false, ext := false }
  refine runs_section rfl hq (extVoltageClear_guards (begin s) n).toSafeStep fun t ht => ?_
  rw [effect] at ht
  rw [ht.sout]
  exact ⟨(evaluated.output n SOut.hsext).trans (congrArg SOut.hsext out), (evaluated.output n SOut.lsext).trans (congrArg SOut.lsext out),
    ht.safeOutputs (safeAct_allowed _)⟩

end

/-- Settles O23, command by command. An overloaded output is off because a function that maps it either is still to pass through SAFE or has
left RUN and cannot return (`KeptOff`). -/
theorem safetyOutputCommands : Obligations.SafetyOutputCommands := by
  intro s n hq hn lit runs rule
  exact ⟨runs_darkPulseTest_demand hq hn lit runs rule, runs_darkPulseTest_fell hq hn lit runs rule,
    runs_darkPulseTest_stuck hq hn lit runs rule, runs_offStateTest hq hn lit runs rule, runs_offStateTest_demand hq hn lit runs,
    runs_safeOutputOverload hq hn rule, runs_extVoltage hq hn lit, runs_extVoltageClear hq hn lit⟩

end Sys2Proof.Proofs
end

section
/-! PROOF. SEAL, SETPW and the password's lockout (R275 to R279, R286): each operation begins, is carried out at once, and ends. -/

namespace Sys2Proof.Proofs

open Sys2Proof.Machine Sys2Proof.Laws

/-! An operation of the page begins -/

theorem op?_opBegin (w : Work) (p : Party) (page op arg : Nat) (l : List (Nat × Word)) :
    (w.opBegin p page op arg l).op? page = some ⟨page, op, arg, p, false, l⟩ := by
  have others : (w.x.pages.ops.filter fun o => decide (o.page ≠ page)).find? (fun o => decide (o.page = page)) = none := by
    rw [List.find?_eq_none]
    intro o mem
    simpa using (List.mem_filter.1 mem).2
  unfold Work.op?
  rw [x_opBegin]
  dsimp only
  rw [List.find?_append, others]
  simp

/-- The page's operation as `p` has just started it. -/
abbrev begun (s : State) (p : Party) (op arg : Nat) : Work := (begin s).opBegin p safePage op arg []

theorem safeBusy_begun (s : State) (p : Party) (op arg : Nat) : (begun s p op arg).safeBusy p op arg = true := by
  unfold Work.safeBusy
  rw [opBusy_opBegin, op?_opBegin]
  simp

theorem safeBusy_of_free {w : Work} (free : w.opBusy safePage = false) (p : Party) (op arg : Nat) : w.safeBusy p op arg = false := by
  unfold Work.safeBusy
  rw [free, Bool.false_and]

/-- Of the registers only the page's OPSTAT and PGSTAT show the beginning. -/
theorem rd_begun (s : State) (p : Party) (op arg : Nat) {a : Nat} (header : a ≠ HDR.OPSTAT safePage ∧ a ≠ HDR.PGSTAT safePage) :
    (begun s p op arg).rd a = s.rd a := by
  obtain ⟨opstat, pgstat⟩ := header
  exact keeps_opBegin _ _ _ _ _ _ a fun h => h.elim opstat pgstat

theorem activeContent_begun (s : State) (p : Party) (op arg : Nat) : (begun s p op arg).activeContent = (begin s).activeContent := by
  unfold Work.activeContent Work.get
  rw [rd_begun s p op arg (by decide)]
  rfl

/-- A START with the page's unlock held begins the operation (R286). -/
theorem safeOp_begin {s : State} {p : Party} {modes : List Mode} {cond : Bool} (body : Work → Work) (may : MaySeal s p modes)
    (hc : cond = true) : (begin s).safeOp p modes cond body = body (begin s) := by
  obtain ⟨start, holder⟩ := may
  exact (startOp_begin _ start hc).trans (if_pos holder)

theorem free_of_maySeal {s : State} {p : Party} {modes : List Mode} (may : MaySeal s p modes) : (begin s).opBusy safePage = false := by
  obtain ⟨⟨-, -, free, -⟩, -⟩ := may
  exact free

/-- SEAL that may start is carried out with its START. -/
theorem sealCfg_carriedOut {s : State} {p : Party} {a : Nat} (may : MaySeal s p [.held])
    (state : s.x.safe.shown = ssUnsealed ∨ s.x.safe.shown = ssIdle) : sealCfg p a (begin s) = (begun s p 1 a).sealRun p a := by
  have started : sealStart p a (begin s) = begun s p 1 a :=
    safeOp_begin _ may (by rw [Bool.or_eq_true, decide_eq_true_iff, decide_eq_true_iff]; exact state)
  unfold sealCfg
  rw [safeBusy_of_free (free_of_maySeal may), if_neg Bool.false_ne_true, started]
  dsimp only
  rw [safeBusy_begun, if_pos rfl]
  unfold Work.safeOpRun
  rw [op?_opBegin]
  rfl

/-- So is SETPW. -/
theorem setpw_carriedOut {s : State} {p : Party} (may : MaySeal s p [.held, .ready, .run, .hold]) :
    setpw p 0 (begin s) = (begun s p 2 0).setpwRun p := by
  have started : setpwStart p 0 (begin s) = begun s p 2 0 := (safeOp_begin _ may rfl).trans (if_neg (by simp))
  unfold setpw
  rw [safeBusy_of_free (free_of_maySeal may), if_neg Bool.false_ne_true, started]
  dsimp only
  rw [safeBusy_begun, if_pos rfl]
  unfold Work.safeOpRun
  rw [op?_opBegin]
  rfl

/-! It ends -/

/-- The end of a password operation: the buffers are cleared (R277), OPSTAT shows the result (R57). -/
def pwEnd (w : Work) (state reason : Nat) : Work := w.pwClear.opEnd safePage state reason

/-- What the next state shows of a password operation that has ended. -/
structure PwEnded (w : Work) (state reason : Nat) (t : State) : Prop where
  rd : ∀ a, 0x30040 ≤ a → a < 0x31000 → t.rd a = w.rd a
  safe : t.x.safe = { w.x.safe with pwbuf := [], npwbuf := [] }
  mode : t.x.mode = w.x.mode
  state : t.get (HDR.OPSTAT safePage) HDR.OPSTAT_STATE = state
  reason : t.get (HDR.OPSTAT safePage) HDR.OPSTAT_REASON = reason % 256

theorem x_pwEnd {w : Work} (busy : w.opBusy safePage = true) (state reason : Nat) : (pwEnd w state reason).x =
    { w.pwClear.x with pages := { w.x.pages with ops := w.x.pages.ops.filter fun o => decide (o.page ≠ safePage) } } := by
  unfold pwEnd
  exact (x_opEnd w.pwClear safePage state reason).trans (if_pos busy)

/-- A command whose effect is a password operation up to its end shows what the operation left. -/
theorem runs_pwEnd {c : Instr} {s : State} {f : Work → Work} {w : Work} {state reason : Nat} {P : State → Prop}
    (he : exec c s = runCmd s f) (effect : f (begin s) = pwEnd w state reason) (idle : w.x.task.hdr = [])
    (busy : w.opBusy safePage = true) (hs : state < 8) (h : ∀ t, PwEnded w state reason t → P t) : Runs c s P := by
  have ended := x_pwEnd busy state reason
  have header : ¬ Follows (HDR.OPSTAT safePage) := not_follows (by decide)
  refine runs_settled he (by rw [effect, ended]; exact idle) fun t ht => h t ?_
  obtain ⟨shows, why, -⟩ := get_opEnd w.pwClear safePage state reason busy hs
  obtain ⟨mode, -, -, -, -, safe, -⟩ := ht.parts
  rw [effect] at ht mode safe
  refine ⟨fun a low high => ?_, ?_, ?_, (ht.get header _).trans shows, (ht.get header _).trans why⟩
  · rw [ht.rd a (not_follows (by omega))]
    exact keeps_opEnd w.pwClear safePage state reason a (by unfold HDR.OPSTAT HDR.PGSTAT HDR.IRQSTAT pg safePage; omega)
  · rw [safe, ended]
    rfl
  · rw [mode, ended]
    rfl

/-- Work of the section leaves the operation BUSY. -/
theorem SafeStep.opBusy {u w : Work} (h : SafeStep u w) : w.opBusy safePage = u.opBusy safePage := by
  unfold Work.opBusy Work.get
  rw [h.regs (HDR.OPSTAT safePage) (not_safeRegs (by decide) (by decide) (by decide) (by decide))]

/-! An operation that fails leaves the seal and the password (R277, R278) -/

/-- The section has been at work and has kept its seal and its password. -/
structure Withholds (u w : Work) : Prop extends SafeStep u w where
  isSealed : w.x.safe.sealed = u.x.safe.sealed
  password : w.x.safe.password = u.x.safe.password

namespace Withholds
variable {u v w : Work}

theorem refl (w : Work) : Withholds w w := ⟨.refl w, rfl, rfl⟩
theorem announce (h : Withholds u v) (k : Announces v w) : Withholds u w :=
  ⟨h.toSafeStep.trans k.toSafeStep, by rw [k.safe, h.isSealed], by rw [k.safe, h.password]⟩
theorem safeUpd (h : Withholds u w) (g : SafeSt → SafeSt) (isSealed : ∀ s, (g s).sealed = s.sealed)
    (password : ∀ s, (g s).password = s.password) : Withholds u (w.safeUpd g) :=
  ⟨h.toSafeStep.safeUpd g, (isSealed _).trans h.isSealed, (password _).trans h.password⟩
theorem pwShow (h : Withholds u w) : Withholds u w.pwShow := h.announce (Announces.refl w).pwShow
theorem clogAdd (h : Withholds u w) (kind result user : Nat) (old : Word) : Withholds u (w.clogAdd kind result user old) := by
  obtain ⟨_, added⟩ := clogAdd_spec w kind result user old
  refine Withholds.announce (h.safeUpd _ ?_ ?_) added <;> exact fun _ => rfl
theorem ite (h : Withholds u v) (k : Withholds u w) {c : Prop} {_ : Decidable c} : Withholds u (if c then v else w) := by
  split <;> assumption

theorem pwWrong (h : Withholds u w) (user : Nat) : Withholds u (w.pwWrong user) := by
  unfold Work.pwWrong
  extract_lets now fails noted told locked
  have notedW : Withholds u noted := (h.safeUpd (fun s => { s with pwFails := fails }) (fun _ => rfl) fun _ => rfl).pwShow
  have toldW : Withholds u told := (notedW.clogAdd _ _ _ _).announce ((Announces.refl _).emit _ _ _ _)
  have lockedW : Withholds u locked := (toldW.safeUpd (fun s => { s with pwLock := true, lockAt := now }) (fun _ => rfl) fun _ => rfl).pwShow
  exact ite ((lockedW.clogAdd _ _ _ _).announce ((Announces.refl _).emit _ _ _ _)) toldW

end Withholds

/-- What an operation that fails does before its end: a wrong password counts, the failure is logged. -/
def pwRefused (w : Work) (kind r user : Nat) : Work :=
  (w.when (decide (r = 0x80)) fun w => w.pwWrong user).clogAdd kind r user (w.rd SAFE.SIG)

theorem pwRefused_withholds (w : Work) (kind r user : Nat) : Withholds w (pwRefused w kind r user) := by
  unfold pwRefused Work.when
  exact (((Withholds.refl w).pwWrong user).ite (.refl w)).clogAdd _ _ _ _

theorem sealRun_refused {w : Work} {r : Nat} (check : w.pwCheck true = some r) (p : Party) (arg : Nat) :
    w.sealRun p arg = pwEnd (pwRefused w 0x01 r (w.userOf p)) opFailed r := by
  unfold Work.sealRun
  rw [check]
  rfl

theorem setpwRun_refused {w : Work} {r : Nat} (check : w.pwCheck false = some r) (p : Party) :
    w.setpwRun p = pwEnd (pwRefused w 0x02 r (w.userOf p)) opFailed r := by
  unfold Work.setpwRun
  rw [check]
  rfl

theorem runs_mono {c : Instr} {s : State} {P Q : State → Prop} (h : Runs c s P) (k : ∀ t, P t → Q t) : Runs c s Q := by
  obtain ⟨t, next, shows⟩ := h
  exact ⟨t, next, k t shows⟩

/-- A command that has begun the page's operation and fails it shows seal, signature and password as they were. -/
theorem runs_refused {c : Instr} {s : State} {f : Work → Work} {p : Party} {op arg kind r user : Nat} (he : exec c s = runCmd s f)
    (hq : Quiet s) (effect : f (begin s) = pwEnd (pwRefused (begun s p op arg) kind r user) opFailed r) : Runs c s fun t =>
    t.x.safe.sealed = s.x.safe.sealed ∧ t.rd SAFE.SIG = s.rd SAFE.SIG ∧ t.x.safe.pwbuf = [] ∧ t.x.safe.npwbuf = []
      ∧ t.x.safe.password = s.x.safe.password ∧ t.get (HDR.OPSTAT safePage) HDR.OPSTAT_STATE = 4
      ∧ t.get (HDR.OPSTAT safePage) HDR.OPSTAT_REASON = r % 256 := by
  have refused := pwRefused_withholds (begun s p op arg) kind r user
  have busy := refused.opBusy.trans (opBusy_opBegin _ _ _ _ _ _)
  refine runs_pwEnd he effect (by rw [refused.task]; exact hq) busy (by decide) fun t ht => ?_
  rw [ht.safe, ht.rd _ (by decide) (by decide), refused.regs _ (not_safeRegs (by decide) (by decide) (by decide) (by decide)),
    rd_begun s p op arg (by decide)]
  dsimp only
  exact ⟨refused.isSealed, rfl, rfl, rfl, refused.password, ht.state, ht.reason⟩

/-! SEAL puts the sealed configuration in force (R275) -/

/-- The two words of one function's slot. -/
def slotInstall (words : List Word) (w : Work) (f : Nat) : Work :=
  (w.wr (SAFE.FCFG0 f) (words.getD (2 * f) 0)).wr (SAFE.FCFG1 f) (words.getD (2 * f + 1) 0)

def slotsInstalled (w : Work) : Work := w.each (List.range 8) (slotInstall w.activeContent.safe)

/-- The sealed configuration in force, under the pending signature. -/
def cfgInstalled (w : Work) : Work :=
  ((slotsInstalled w).wr SAFE.SCFG (w.activeContent.safe.getD 16 0 &&& 15)).wr SAFE.SIG ((slotsInstalled w).rd SAFE.PENDSIG)

/-- And the section under its new seal. -/
def newlySealed (w : Work) : Work :=
  (cfgInstalled w).safeUpd fun s => { s with
    sealed := true
    sigA := (slotsInstalled w).rd SAFE.PENDSIG
    sigB := (slotsInstalled w).rd SAFE.PENDSIG
    fns := []
    outs := s.outs.map fun e => (e.1, { e.2 with overload := false, pass := [], extPass := [] }) }

theorem sealRun_seals {w : Work} {arg : Nat} (check : w.pwCheck true = none) (present : w.activeContent.safe ≠ [])
    (pending : w.rd SAFE.PENDSIG ≠ 0) (half : arg = (w.rd SAFE.PENDSIG).toNat % 65536)
    (sound : sealBad (fun f => ((w.activeContent.safe.getD (2 * f) 0).toNat, (w.activeContent.safe.getD (2 * f + 1) 0).toNat)) = false)
    (p : Party) : w.sealRun p arg
      = pwEnd (((newlySealed w).ssEnter ssIdle).clogAdd 0x01 0 (w.userOf p) (w.rd SAFE.SIG)) opDone 0 := by
  unfold Work.sealRun
  rw [check]
  dsimp only
  rw [if_neg (not_or.2 ⟨present, pending⟩), if_neg (not_not.2 half), if_neg (by rw [sound]; exact Bool.false_ne_true)]
  rfl

section
variable (words : List Word)

/-- The slots that a list names read their words, and every other register what it read. -/
theorem rd_slots (l : List Nat) : ∀ w : Work, (∀ f ∈ l, (w.each l (slotInstall words)).rd (SAFE.FCFG0 f) = words.getD (2 * f) 0
      ∧ (w.each l (slotInstall words)).rd (SAFE.FCFG1 f) = words.getD (2 * f + 1) 0)
    ∧ Keeps (fun a => ∃ f ∈ l, a = SAFE.FCFG0 f ∨ a = SAFE.FCFG1 f) w (w.each l (slotInstall words))
    ∧ (w.each l (slotInstall words)).x = w.x := by
  induction l with
  | nil => exact fun w => ⟨fun _ mem => absurd mem List.not_mem_nil, Keeps.refl _ _, rfl⟩
  | cons g l ih =>
    intro w
    obtain ⟨here, kept, inner⟩ := ih (slotInstall words w g)
    have apart0 (f : Nat) : SAFE.FCFG0 f = SAFE.FCFG0 g ↔ f = g := by unfold SAFE.FCFG0; omega
    have apart1 (f : Nat) : SAFE.FCFG1 f = SAFE.FCFG1 g ↔ f = g := by unfold SAFE.FCFG1; omega
    have mixed (e f : Nat) : SAFE.FCFG0 e ≠ SAFE.FCFG1 f := by unfold SAFE.FCFG0 SAFE.FCFG1; omega
    refine ⟨fun f mem => ?_, fun a ha => ?_, inner⟩
    · by_cases later : f ∈ l
      · exact here f later
      · obtain rfl : f = g := (List.mem_cons.1 mem).resolve_right later
        have rest0 : ¬ ∃ k ∈ l, SAFE.FCFG0 f = SAFE.FCFG0 k ∨ SAFE.FCFG0 f = SAFE.FCFG1 k := by
          rintro ⟨k, mem, same | same⟩
          · exact later (by rwa [show f = k by unfold SAFE.FCFG0 at same; omega])
          · exact mixed _ _ same
        have rest1 : ¬ ∃ k ∈ l, SAFE.FCFG1 f = SAFE.FCFG0 k ∨ SAFE.FCFG1 f = SAFE.FCFG1 k := by
          rintro ⟨k, mem, same | same⟩
          · exact mixed _ _ same.symm
          · exact later (by rwa [show f = k by unfold SAFE.FCFG1 at same; omega])
        exact ⟨(kept _ rest0).trans ((if_neg (mixed f f).symm).trans (if_pos rfl)), (kept _ rest1).trans (if_pos rfl)⟩
    · have first : a ≠ SAFE.FCFG0 g ∧ a ≠ SAFE.FCFG1 g :=
        ⟨fun h => ha ⟨g, List.mem_cons_self, .inl h⟩, fun h => ha ⟨g, List.mem_cons_self, .inr h⟩⟩
      obtain ⟨not0, not1⟩ := first
      have later := kept a fun ⟨f, mem, h⟩ => ha ⟨f, List.mem_cons_of_mem _ mem, h⟩
      exact later.trans ((if_neg not1.symm).trans (if_neg not0.symm))

end

theorem rd_newlySealed (w : Work) (a : Nat) : (newlySealed w).rd a = if SAFE.SIG = a then (slotsInstalled w).rd SAFE.PENDSIG
    else if SAFE.SCFG = a then w.activeContent.safe.getD 16 0 &&& 15 else (slotsInstalled w).rd a := by
  unfold newlySealed cfgInstalled
  generalize slotsInstalled w = slots
  rfl

/-- What stands once the configuration is in force and the section sealed. -/
theorem newlySealed_spec (w : Work) : (∀ f < 8, (newlySealed w).rd (SAFE.FCFG0 f) = w.activeContent.safe.getD (2 * f) 0
      ∧ (newlySealed w).rd (SAFE.FCFG1 f) = w.activeContent.safe.getD (2 * f + 1) 0)
    ∧ (newlySealed w).rd SAFE.SIG = w.rd SAFE.PENDSIG ∧ (newlySealed w).rd (HDR.OPSTAT safePage) = w.rd (HDR.OPSTAT safePage)
    ∧ (newlySealed w).x = { w.x with safe := { w.x.safe with
        sealed := true, sigA := w.rd SAFE.PENDSIG, sigB := w.rd SAFE.PENDSIG, fns := []
        outs := w.x.safe.outs.map fun e => (e.1, { e.2 with overload := false, pass := [], extPass := [] }) } } := by
  obtain ⟨slots, kept, inner⟩ := rd_slots w.activeContent.safe (List.range 8) w
  have outside {a : Nat} (ha : a < 0x30040 ∨ 0x30080 ≤ a) : (slotsInstalled w).rd a = w.rd a := by
    refine kept a ?_
    rintro ⟨f, mem, same⟩
    have := List.mem_range.1 mem
    unfold SAFE.FCFG0 SAFE.FCFG1 at same
    omega
  have pending := outside (a := SAFE.PENDSIG) (by decide)
  have put {a : Nat} (scfg : SAFE.SCFG ≠ a) (sig : SAFE.SIG ≠ a) : (newlySealed w).rd a = (slotsInstalled w).rd a := by
    rw [rd_newlySealed, if_neg sig, if_neg scfg]
  have taken : (newlySealed w).rd SAFE.SIG = (slotsInstalled w).rd SAFE.PENDSIG := by rw [rd_newlySealed, if_pos rfl]
  refine ⟨fun f hf => ?_, taken.trans pending, (put (by decide) (by decide)).trans (outside (by decide)), ?_⟩
  · obtain ⟨word0, word1⟩ := slots f (List.mem_range.2 hf)
    have ne : SAFE.SCFG ≠ SAFE.FCFG0 f ∧ SAFE.SIG ≠ SAFE.FCFG0 f ∧ SAFE.SCFG ≠ SAFE.FCFG1 f ∧ SAFE.SIG ≠ SAFE.FCFG1 f := by
      unfold SAFE.SCFG SAFE.SIG SAFE.FCFG0 SAFE.FCFG1
      omega
    obtain ⟨scfg0, sig0, scfg1, sig1⟩ := ne
    exact ⟨(put scfg0 sig0).trans word0, (put scfg1 sig1).trans word1⟩
  · unfold newlySealed cfgInstalled
    rw [x_safeUpd, x_wr, x_wr, pending]
    unfold slotsInstalled
    rw [inner]

theorem runs_seal {s : State} {p : Party} {a : Nat} (hq : Quiet s) (may : MaySeal s p [.held])
    (state : s.x.safe.shown = ssUnsealed ∨ s.x.safe.shown = ssIdle) (check : (begin s).pwCheck true = none)
    (present : (begin s).activeContent.safe ≠ []) (pending : s.rd SAFE.PENDSIG ≠ 0) (half : a = (s.rd SAFE.PENDSIG).toNat % 65536)
    (sound : sealBad (fun f => (((begin s).activeContent.safe.getD (2 * f) 0).toNat,
      ((begin s).activeContent.safe.getD (2 * f + 1) 0).toNat)) = false) :
    Runs (.seal p a) s fun t => t.x.safe.sealed = true ∧ t.rd SAFE.SIG = s.rd SAFE.PENDSIG ∧ t.x.safe.sigA = s.rd SAFE.PENDSIG
      ∧ t.x.safe.sigB = s.rd SAFE.PENDSIG ∧ t.x.safe.ss = ssIdle
      ∧ (∀ f < 8, t.rd (SAFE.FCFG0 f) = (begin s).activeContent.safe.getD (2 * f) 0
          ∧ t.rd (SAFE.FCFG1 f) = (begin s).activeContent.safe.getD (2 * f + 1) 0)
      ∧ t.x.safe.nextSeq = s.x.safe.nextSeq + 1 ∧ t.x.safe.pwbuf = [] ∧ t.x.safe.npwbuf = []
      ∧ t.get (HDR.OPSTAT safePage) HDR.OPSTAT_STATE = 2 ∧ t.x.mode = .held := by
  let w := begun s p 1 a
  have content : w.activeContent = (begin s).activeContent := activeContent_begun s p 1 a
  have pendsig : w.rd SAFE.PENDSIG = s.rd SAFE.PENDSIG := rd_begun s p 1 a (by decide)
  have effect := (sealCfg_carriedOut (a := a) may state).trans (sealRun_seals (w := w) check (by rw [content]; exact present)
    (by rw [pendsig]; exact pending) (by rw [pendsig]; exact half) (by rw [content]; exact sound) p)
  obtain ⟨slots, sig, opstat, inner⟩ := newlySealed_spec w
  rw [content] at slots
  rw [pendsig] at sig inner
  have entered := ssEnter_evaluates (newlySealed w) ssIdle
  obtain ⟨e, logged⟩ := clogAdd_spec ((newlySealed w).ssEnter ssIdle) 0x01 0 (w.userOf p) (w.rd SAFE.SIG)
  have step : SafeStep (newlySealed w) (((newlySealed w).ssEnter ssIdle).clogAdd 0x01 0 (w.userOf p) (w.rd SAFE.SIG)) :=
    (((SafeStep.refl _).safeUpd _).trans entered.toSafeStep).trans (clogAdd_step _ _ _ _ _)
  have busy : (newlySealed w).opBusy safePage = true := by
    have begins : w.opBusy safePage = true := opBusy_opBegin _ _ _ _ _ _
    unfold Work.opBusy Work.get at begins ⊢
    rw [opstat]
    exact begins
  have reads {α : Type} (q : SafeSt → α) (unread : ∀ r, q (SafeSt.held r) = q r) :
      q ((newlySealed w).ssEnter ssIdle).x.safe = q { (newlySealed w).x.safe with ss := ssIdle } := entered.reads q unread
  refine runs_pwEnd rfl effect (by rw [step.task, inner]; exact hq) (step.opBusy.trans busy) (by decide) fun t ht => ?_
  have kept {b : Nat} (low : 0x30040 ≤ b) (high : b < 0x3008c) : t.rd b = (newlySealed w).rd b := by
    refine (ht.rd b low (by omega)).trans (step.regs b (not_safeRegs ?_ ?_ ?_ ?_)) <;>
    · simp only [safePage, HDR.IRQSTAT, HDR.PGHEALTH, SAFE.SECSTAT, SAFE.VSMEAS, SAFE.PWSTAT, SAFE.CLOGHEAD, SafeShown, pg]
      omega
  have held : s.x.mode = .held := by
    obtain ⟨⟨-, -, -, -, -, held⟩, -⟩ := may
    simpa using held
  rw [ht.safe, logged.safe, x_safeUpd, ht.mode, step.mode, inner]
  refine ⟨?_, (kept (by decide) (by decide)).trans sig, ?_, ?_, ?_, fun f hf => ?_, ?_, rfl, rfl, ht.state, ?_⟩
  · exact (reads SafeSt.sealed fun _ => rfl).trans (by rw [inner])
  · exact (reads SafeSt.sigA fun _ => rfl).trans (by rw [inner])
  · exact (reads SafeSt.sigB fun _ => rfl).trans (by rw [inner])
  · exact reads SafeSt.ss fun _ => rfl
  · obtain ⟨word0, word1⟩ := slots f hf
    have low : 0x30040 ≤ SAFE.FCFG0 f ∧ SAFE.FCFG1 f < 0x3008c ∧ SAFE.FCFG0 f < SAFE.FCFG1 f := by unfold SAFE.FCFG0 SAFE.FCFG1; omega
    exact ⟨(kept (by omega) (by omega)).trans word0, (kept (by omega) (by omega)).trans word1⟩
  · exact congrArg (· + 1) ((reads SafeSt.nextSeq fun _ => rfl).trans (by rw [inner]; rfl))
  · exact held

/-! SETPW puts the new password in force (R275, R286) -/

/-- The salt of the next password that SETPW takes (log entry 31), and the password in the buffer. -/
abbrev nextSalt (s : SafeSt) : List Byte := Config.pwSalt s.nextSeq
abbrev newPassword (s : SafeSt) : List Byte := pwBytes s.npwbuf (SAFE.PWLEN_NLEN.get s.pwlen)

def passwordTaken (w : Work) : Work := (w.safeUpd fun s => { s with
  password := some (nextSalt w.x.safe, pwHash (nextSalt w.x.safe) (newPassword w.x.safe)) }).pwShow

theorem setpwRun_takes {w : Work} (check : w.pwCheck false = none)
    (shape : pwShape (newPassword w.x.safe) (SAFE.PWLEN_NLEN.get w.x.safe.pwlen) = true) (p : Party) :
    w.setpwRun p = pwEnd ((passwordTaken w).clogAdd 0x02 0 (w.userOf p) (w.rd SAFE.SIG)) opDone 0 := by
  unfold Work.setpwRun
  rw [check]
  dsimp only
  rw [if_pos shape]
  rfl

theorem runs_setpw {s : State} {p : Party} (hq : Quiet s) (may : MaySeal s p [.held, .ready, .run, .hold])
    (check : (begin s).pwCheck false = none)
    (shape : pwShape (newPassword s.x.safe) (SAFE.PWLEN_NLEN.get s.x.safe.pwlen) = true) :
    Runs (.setpw p 0) s fun t => t.x.safe.password = some (nextSalt s.x.safe, pwHash (nextSalt s.x.safe) (newPassword s.x.safe))
      ∧ t.x.safe.pwbuf = [] ∧ t.x.safe.npwbuf = [] ∧ t.x.safe.sealed = s.x.safe.sealed ∧ t.rd SAFE.SIG = s.rd SAFE.SIG
      ∧ t.x.safe.nextSeq = s.x.safe.nextSeq + 1 ∧ t.get (HDR.OPSTAT safePage) HDR.OPSTAT_STATE = 2 := by
  let w := begun s p 2 0
  have effect := (setpw_carriedOut may).trans (setpwRun_takes (w := w) check shape p)
  have shown : Announces (w.safeUpd fun s => { s with
      password := some (nextSalt w.x.safe, pwHash (nextSalt w.x.safe) (newPassword w.x.safe)) }) (passwordTaken w) := (Announces.refl _).pwShow
  obtain ⟨e, logged⟩ := clogAdd_spec (passwordTaken w) 0x02 0 (w.userOf p) (w.rd SAFE.SIG)
  have step : SafeStep w ((passwordTaken w).clogAdd 0x02 0 (w.userOf p) (w.rd SAFE.SIG)) :=
    (((SafeStep.refl w).safeUpd _).announce shown).trans (clogAdd_step _ _ _ _ _)
  have busy := step.opBusy.trans (opBusy_opBegin _ _ _ _ _ _)
  refine runs_pwEnd rfl effect (by rw [step.task]; exact hq) busy (by decide) fun t ht => ?_
  rw [ht.safe, logged.safe, x_safeUpd, shown.safe, x_safeUpd, ht.rd _ (by decide) (by decide),
    step.regs _ (not_safeRegs (by decide) (by decide) (by decide) (by decide)), rd_begun s p 2 0 (by decide)]
  exact ⟨rfl, rfl, rfl, rfl, rfl, rfl, ht.state⟩

/-! The lockout ends (R278) -/

theorem keeps_pwShow (w : Work) : Keeps (fun a => a = SAFE.PWSTAT) w w.pwShow := by
  unfold Work.pwShow
  extract_lets s n r v
  split
  · exact Keeps.refl _ _
  · exact keeps_wr _ _ _ rfl

theorem runs_pwLockoutEnd {s : State} (hq : Quiet s) (locked : s.x.safe.pwLock = true) : Runs .pwLockoutEnd s fun t =>
    t.x.safe = { s.x.safe with pwLock := false, pwFails := [] } ∧ Same (fun b => b = SAFE.PWSTAT ∨ Follows b) s t := by
  let ended := (begin s).safeUpd fun s => { s with pwLock := false, pwFails := [] }
  have effect : pwLockoutEnd (begin s) = ended.pwShow := if_neg (by rw [x_begin, locked]; decide)
  have shown : Announces ended ended.pwShow := (Announces.refl ended).pwShow
  refine runs_section rfl hq (pwLockoutEnd_guards (begin s)).toSafeStep fun t ht => ?_
  rw [effect] at ht
  refine ⟨ht.safe.trans shown.safe, ht.settled.same (P := fun b => b = SAFE.PWSTAT) ?_⟩
  exact Keeps.trans (fun _ _ => rfl) (keeps_pwShow ended)

/-- Settles O24: an operation that may start is carried out with its START (log entry 32), and its branch is decided by the password check and
R275's conditions; the salt is the model's (log entry 31). -/
theorem sealAndPassword : Obligations.SealAndPassword := by
  intro s p a hq
  refine ⟨fun may state => ⟨runs_seal hq may state, fun r check => ?_⟩, fun may zero => ?_, runs_pwLockoutEnd hq⟩
  · refine runs_mono (runs_refused rfl hq ((sealCfg_carriedOut may state).trans (sealRun_refused (w := begun s p 1 a) check p a))) fun t h => ?_
    obtain ⟨isSealed, sig, buffer, -, password, shows, why⟩ := h
    exact ⟨isSealed, sig, buffer, password, shows, why⟩
  · subst zero
    refine ⟨runs_setpw hq may, fun r check => ?_⟩
    refine runs_mono (runs_refused rfl hq ((setpw_carriedOut may).trans (setpwRun_refused (w := begun s p 2 0) check p))) fun t h => ?_
    obtain ⟨isSealed, -, -, buffer, password, shows, why⟩ := h
    exact ⟨password, isSealed, buffer, shows, why⟩

end Sys2Proof.Proofs
end

section
/-! PROOF. A two-hand function in slot 7, whose second button lies beyond Safety A's slots (R260, R276): the counterexample to the frame of
SI_DEMAND. -/

namespace Sys2Proof.Proofs

open Sys2Proof.Machine Sys2Proof.Laws

/-- A module right after reset but for its safety section: Idle, slot 7 configured as a two-hand function, which Safety A holds in RUN; of
slot 0 Safety B has noted no release of its button since the last RUN. -/
def twoHandLast : State :=
  { State.reset with
    regs := regsSet State.reset.regs (SAFE.FCFG0 7) (SAFE.FCFG0_TYPE.set 0 3)
    x := { State.reset.x with safe := { ss := ssIdle, fns := [(7, { st := fsRun }), (8, { released := false })] } } }

theorem twoHandLast_runs : Quiet twoHandLast ∧ twoHandLast.x.safe.dark = false ∧ (begin twoHandLast).safeRuns = true := by
  decide +kernel

/-- Safety A's function leaves RUN and asks for the release of both buttons; the second is slot 0's of Safety B. -/
theorem twoHandLast_reaches_over : (siDemand 0 false (begin twoHandLast)).x.task.hdr = []
    ∧ ((begin twoHandLast).sfn 1 0).released = false ∧ ((siDemand 0 false (begin twoHandLast)).sfn 1 0).released = true := by
  decide +kernel

/-- Refutes O22: its frame of SI_DEMAND, that an input changes the functions of its own processor alone, does not bound a two-hand function's
second slot. In a state that no run reaches (SEAL refuses a two-hand function in an odd slot, R276) Safety A's function 7 leaves RUN, and the
release that it asks of slot 8 is noted for function 0 of Safety B. -/
theorem not_safetyInputsAndFunctions : ¬ Obligations.SafetyInputsAndFunctions := by
  intro h
  obtain ⟨quiet, lit, runs⟩ := twoHandLast_runs
  obtain ⟨hdr, before, after⟩ := twoHandLast_reaches_over
  obtain ⟨inputs, -⟩ := h twoHandLast 0 0 quiet (by decide) (by decide) lit runs
  obtain ⟨t, ht, -, -, others⟩ := inputs 0 false (by decide)
  have left : t = finish twoHandLast (siDemand 0 false (begin twoHandLast)) := (Host.Outcome.next.inj ht).symm
  have settled : Settled (siDemand 0 false (begin twoHandLast)) t := left ▸ settled_finish hdr
  obtain ⟨-, -, -, -, -, safe, -⟩ := settled.parts
  have shown : (begin t).sfn 1 0 = (siDemand 0 false (begin twoHandLast)).sfn 1 0 := by
    unfold Work.sfn
    rw [x_begin, safe]
  rw [← shown, others 1 0 (by decide) (by decide) (by decide), before] at after
  exact Bool.noConfusion after

end Sys2Proof.Proofs
end

section
/-! PROOF. The frames of the remote-I/O cycle (R310 to R313, R464): what a frame sent and a response window's end leave, and the three
commands that go with the stations' frames. -/

namespace Sys2Proof.Proofs

open Sys2Proof.Machine Sys2Proof.Laws

/-! Frames sent and response windows ended: nothing of the cycle's own changes -/

theorem TrkStep.ios {t : Nat} {u w : Work} (h : TrkStep t u w) : w.x.ios = u.x.ios := by
  obtain ⟨s, hs⟩ := h.rest
  rw [hs.eq, noisy_ios]
  unfold atTrk
  split <;> rfl

/-- What an effect leaves of the cycle the next state shows. -/
theorem Settled.ios {w : Work} {t : State} (h : Settled w t) : t.x.ios = w.x.ios := by
  obtain ⟨_, _, _, _, _, e⟩ := h.noise
  rw [e]

/-- The registers that sending a frame on the trunks may change: their queues' depths, the recorder's. -/
def SendRegs (a : Nat) : Prop := a = TRK.QSTAT 0 ∨ a = TRK.QSTAT 1 ∨ evtRegs a

theorem not_sendRegs {a : Nat} (h : a / 4096 = iosPage) : ¬ SendRegs a := by
  simp only [SendRegs, evtRegs, TRK.QSTAT, HDR.IRQSTAT, EVT.LOST, pg]
  unfold iosPage at h
  omega

/-- From `u` to `w` frames have gone out or response windows have ended: the cycle and the program are as they were. -/
structure Sends (u w : Work) : Prop where
  regs : Keeps SendRegs u w
  ios : w.x.ios = u.x.ios
  task : w.x.task = u.x.task

namespace Sends
variable {u v w : Work}

theorem refl (w : Work) : Sends w w := ⟨.refl _ _, rfl, rfl⟩
theorem trans (h : Sends u v) (k : Sends v w) : Sends u w := ⟨h.regs.trans k.regs, k.ios.trans h.ios, k.task.trans h.task⟩

/-- The cycle's registers read as before. -/
theorem get (h : Sends u w) {a : Nat} (ha : a / 4096 = iosPage) (f : Fld) : w.get a f = u.get a f := h.regs.get (not_sendRegs ha) f

theorem nsta (h : Sends u w) : w.nsta = u.nsta := by unfold Work.nsta; rw [h.get rfl]

end Sends

theorem sends_queueFrame (w : Work) {t : Nat} (ht : t < 2) (kind index : Nat) (data : List Byte) :
    Sends w (w.queueFrame t kind index data) := by
  have step := step_queueFrame w t kind index data
  refine ⟨(keeps_queueFrame w t kind index data).mono ?_, step.ios, step.task⟩
  rintro a (rfl | event)
  · interval_cases t
    · exact .inl rfl
    · exact .inr (.inl rfl)
  · exact .inr (.inr event)

theorem sends_queueBoth (w : Work) (kind index : Nat) (data : List Byte) : Sends w (w.queueBoth kind index data) :=
  (sends_queueFrame w (by decide) kind index data).trans (sends_queueFrame _ (by decide) kind index data)

theorem sends_windowEnd (w : Work) (t node : Nat) : Sends w (w.windowEnd t node) := by
  unfold Work.windowEnd
  split
  · have step := ((TrkStep.refl w).trkSet fun s => { s with window := none }).trans (step_arbitrate _ t)
    exact ⟨fun a _ => rd_arbitrate _ _ a, step.ios, step.task⟩
  · exact .refl w

/-- The end of a response window is no business of the registers. -/
@[simp] theorem rd_windowEnd (w : Work) (t node a : Nat) : (w.windowEnd t node).rd a = w.rd a := by
  unfold Work.windowEnd
  split
  · exact rd_arbitrate _ _ a
  · rfl

theorem mode_windowEnd (w : Work) (t node : Nat) : (w.windowEnd t node).x.mode = w.x.mode := by
  unfold Work.windowEnd
  split
  · exact (((TrkStep.refl w).trkSet fun s => { s with window := none }).trans (step_arbitrate _ t)).mode
  · rfl

/-! The output frame of a station -/

/-- What sending the output frame of station `s` leaves: the cycle waits for that station, or for none after the last. -/
theorem iosSend_spec (w : Work) (s : Nat) : Keeps SendRegs w (w.iosSend s)
    ∧ (w.iosSend s).x.ios = { w.x.ios with outAt := if s < w.nsta then some s else none } ∧ (w.iosSend s).x.task = w.x.task := by
  unfold Work.iosSend
  split
  · have sent := sends_queueBoth (w.iosUpd fun x => { x with outAt := some s }) kIoOut (w.get (IOSYNC.SCFG s) IOSYNC.SCFG_NODE) (w.staData s)
    exact ⟨sent.regs, sent.ios, sent.task⟩
  · exact ⟨.refl _ _, rfl, rfl⟩

theorem get_iosSend (w : Work) (s : Nat) {a : Nat} (ha : a / 4096 = iosPage) (f : Fld) : (w.iosSend s).get a f = w.get a f := by
  obtain ⟨regs, -⟩ := iosSend_spec w s
  exact regs.get (not_sendRegs ha) f

/-! The stations' registers -/

theorem sstat_page {k : Nat} (h : k < 32) : IOSYNC.SSTAT k / 4096 = iosPage := by unfold IOSYNC.SSTAT iosPage; omega
theorem scnt_page {k : Nat} (h : k < 32) : IOSYNC.SCNT k / 4096 = iosPage := by unfold IOSYNC.SCNT iosPage; omega

/-- A cycle's register follows no other. -/
theorem ios_not_follows {a : Nat} (h : a / 4096 = iosPage) : ¬ Follows a := not_follows (by unfold iosPage at h; omega)

theorem sstat_ne_scnt (k n : Nat) : IOSYNC.SCNT k ≠ IOSYNC.SSTAT n := by unfold IOSYNC.SCNT IOSYNC.SSTAT; omega

/-- A station is no longer UNDELIVERED, as when an output phase begins (R310). -/
def clearUndeliv (w : Work) (s : Nat) : Work := w.putB (IOSYNC.SSTAT s) IOSYNC.SSTAT_UNDELIV false

/-- Cleared for every station of a list, UNDELIV is 0 for each of them. -/
theorem get_undeliv_cleared {k : Nat} : ∀ (l : List Nat) (w : Work), k ∈ l →
    (w.each l clearUndeliv).get (IOSYNC.SSTAT k) IOSYNC.SSTAT_UNDELIV = 0 := by
  intro l
  induction l using List.reverseRecOn with
  | nil => intro w h; cases h
  | append_singleton l s ih =>
    intro w h
    unfold Work.each
    rw [List.foldl_append, List.foldl_cons, List.foldl_nil, clearUndeliv, Work.putB]
    by_cases e : s = k
    · rw [e, get_put_same _ _ _ _ (by decide)]
      rfl
    · rw [get_put_ne _ _ _ _ _ _ (by unfold IOSYNC.SSTAT; omega)]
      exact ih w (by simpa [Ne.symm e] using h)

/-! The commands -/

section
variable {s : State} {k : Nat} {b : Bool}

theorem alive_of_live (live : Live s) : (begin s).alive = true := by
  obtain ⟨off, failed⟩ := live
  simp [Work.alive, off, failed]

theorem enabled_of_pageOn {page : Nat} (on : PageOn s page) : (begin s).enabled page = true := decide_eq_true on

/-- The first valid copy of a station's input is the one kept. -/
theorem runs_ioInReceived (hq : Quiet s) (live : Live s) (on : PageOn s iosPage) (station : k < (begin s).nsta) (d : List Byte)
    (runs : s.get IOSYNC.CFG IOSYNC.CFG_EN = 1) (hears : (begin s).trkHears (tn b) = true)
    (len : d.length = s.get (IOSYNC.SCFG k) IOSYNC.SCFG_INLEN) : Runs (.ioInReceived k b d) s fun t =>
      ((begin t).sta k).inp = (if ((begin s).sta k).gotA || ((begin s).sta k).gotB then ((begin s).sta k).inp else d)
      ∧ (if b then ((begin t).sta k).gotB = true else ((begin t).sta k).gotA = true) ∧ Same Follows s t := by
  have flag : (begin s).flag IOSYNC.CFG IOSYNC.CFG_EN = true := by simp [Work.flag, runs]
  have kept : ioInReceived k b d (begin s) = (begin s).staSet k fun s => { s with
      inp := if s.gotA || s.gotB then s.inp else d, gotA := s.gotA || !b, gotB := s.gotB || b } := by
    unfold ioInReceived
    rw [if_neg (by simp [alive_of_live live, enabled_of_pageOn on, flag, hears, len, station])]
  refine runs_settled rfl (by rw [kept]; exact hq) fun t settled => ?_
  rw [kept] at settled
  have shown : (begin t).sta k = { (begin s).sta k with
      inp := if ((begin s).sta k).gotA || ((begin s).sta k).gotB then ((begin s).sta k).inp else d
      gotA := ((begin s).sta k).gotA || !b, gotB := ((begin s).sta k).gotB || b } := by
    unfold Work.sta
    rw [x_begin, settled.ios]
    exact (tabGet_tabSet ..).trans (if_pos rfl)
  refine ⟨by rw [shown], ?_, settled.same_follows (P := fun _ => False) (fun _ _ => rfl) fun _ => False.elim⟩
  rw [shown]
  cases b <;> simp

/-- An acknowledgement passes the cycle to the next station. -/
theorem runs_ioAckReceived (hq : Quiet s) (live : Live s) (station : k < (begin s).nsta) (hears : (begin s).trkHears (tn b) = true)
    (waits : s.x.ios.outAt = some k) : Runs (.ioAckReceived k b) s fun t =>
      t.x.ios.outAt = (if k + 1 < (begin s).nsta then some (k + 1) else none)
      ∧ t.get (IOSYNC.SSTAT k) IOSYNC.SSTAT_UNDELIV = s.get (IOSYNC.SSTAT k) IOSYNC.SSTAT_UNDELIV := by
  let v := (begin s).windowEnd (tn b) ((begin s).staNode k)
  have ended : Sends (begin s) v := sends_windowEnd _ _ _
  have passes : ioAckReceived k b (begin s) = v.iosSend (k + 1) := by
    unfold ioAckReceived
    rw [if_pos ⟨alive_of_live live, station, hears⟩]
    exact if_pos (decide_eq_true waits)
  obtain ⟨-, ios, task⟩ := iosSend_spec v (k + 1)
  have page : IOSYNC.SSTAT k / 4096 = iosPage := sstat_page (by unfold Work.nsta at station; omega)
  refine runs_settled rfl (by rw [passes, task, ended.task]; exact hq) fun t settled => ?_
  rw [passes] at settled
  refine ⟨?_, ?_⟩
  · rw [settled.ios, ios, ended.nsta]
  · rw [settled.get (ios_not_follows page), get_iosSend _ _ page, ended.get page]
    rfl

/-- The effect of a time-out of the station the cycle waits for, before the next frame goes out: the station is UNDELIVERED (R313). -/
def undelivered (w : Work) (k : Nat) : Work :=
  let w := ((w.putB (IOSYNC.SSTAT k) IOSYNC.SSTAT_UNDELIV true).put IOSYNC.UNDMAP ⟨k, 1⟩ 1).incSat (IOSYNC.SCNT k) IOSYNC.SCNT_UNDCNT
  (w.irq iosPage 17).evOccur iosPage k (IOSYNC.SSTAT k) 2 (w.get (IOSYNC.SCNT k) IOSYNC.SCNT_UNDCNT)

theorem undelivered_spec (w : Work) {k : Nat} (h : k < 32) :
    (undelivered w k).get (IOSYNC.SSTAT k) IOSYNC.SSTAT_UNDELIV = 1 ∧ (undelivered w k).get IOSYNC.UNDMAP ⟨k, 1⟩ = 1
    ∧ (undelivered w k).get (IOSYNC.SCNT k) IOSYNC.SCNT_UNDCNT
      = min (w.get (IOSYNC.SCNT k) IOSYNC.SCNT_UNDCNT + 1) (2 ^ IOSYNC.SCNT_UNDCNT.w - 1)
    ∧ (undelivered w k).get (HDR.IRQSTAT iosPage) ⟨17, 1⟩ = 1
    ∧ (undelivered w k).get IOSYNC.CFG IOSYNC.CFG_NSTA = w.get IOSYNC.CFG IOSYNC.CFG_NSTA := by
  have irq_sstat : HDR.IRQSTAT iosPage ≠ IOSYNC.SSTAT k := by unfold HDR.IRQSTAT IOSYNC.SSTAT iosPage pg; omega
  have irq_scnt : HDR.IRQSTAT iosPage ≠ IOSYNC.SCNT k := by unfold HDR.IRQSTAT IOSYNC.SCNT iosPage pg; omega
  have undmap_sstat : IOSYNC.UNDMAP ≠ IOSYNC.SSTAT k := by unfold IOSYNC.UNDMAP IOSYNC.SSTAT; omega
  have undmap_scnt : IOSYNC.UNDMAP ≠ IOSYNC.SCNT k := by unfold IOSYNC.UNDMAP IOSYNC.SCNT; omega
  have cfg_sstat : IOSYNC.SSTAT k ≠ IOSYNC.CFG := by unfold IOSYNC.CFG IOSYNC.SSTAT; omega
  have cfg_scnt : IOSYNC.SCNT k ≠ IOSYNC.CFG := by unfold IOSYNC.CFG IOSYNC.SCNT; omega
  have event {a : Nat} (ha : a / 4096 = iosPage) (u : Work) (sub a' b c : Nat) (f : Fld) :
      (u.evOccur iosPage sub a' b c).get a f = u.get a f :=
    congrArg f.get (rd_emit _ _ _ _ _ _ (not_rec (by unfold iosPage at ha; omega)))
  unfold undelivered
  dsimp only
  rw [event (sstat_page h), event rfl, event (scnt_page h), event rfl, event rfl]
  refine ⟨?_, ?_, ?_, ?_, ?_⟩
  · rw [get_irq_ne _ _ _ _ _ irq_sstat, Work.incSat, get_put_ne _ _ _ _ _ _ (sstat_ne_scnt k k), get_put_ne _ _ _ _ _ _ undmap_sstat]
    exact get_put_same _ _ _ _ (by decide)
  · rw [get_irq_ne _ _ _ _ _ (by decide), Work.incSat, get_put_ne _ _ _ _ _ _ undmap_scnt.symm]
    exact get_put_same _ _ _ _ (by show k + 1 ≤ 32; omega)
  · rw [get_irq_ne _ _ _ _ _ irq_scnt, get_incSat_same _ _ _ (by decide), get_put_ne _ _ _ _ _ _ undmap_scnt, Work.putB,
      get_put_ne _ _ _ _ _ _ (sstat_ne_scnt k k).symm]
  · exact get_put_same _ _ _ _ (by decide)
  · rw [get_irq_ne _ _ _ _ _ (by decide), Work.incSat, get_put_ne _ _ _ _ _ _ cfg_scnt, get_put_ne _ _ _ _ _ _ (by decide), Work.putB,
      get_put_ne _ _ _ _ _ _ cfg_sstat]

theorem x_undelivered (w : Work) (k : Nat) : (undelivered w k).x.ios = w.x.ios ∧ (undelivered w k).x.task = w.x.task := by
  unfold undelivered
  dsimp only
  rw [xn_evOccur, noisy_ios, noisy_task]
  exact ⟨rfl, rfl⟩

/-- A time-out marks the station UNDELIVERED and passes the cycle to the next. -/
theorem runs_ioAckTimeout (hq : Quiet s) (live : Live s) (station : k < (begin s).nsta) (waits : s.x.ios.outAt = some k) :
    Runs (.ioAckTimeout k) s fun t => t.x.ios.outAt = (if k + 1 < (begin s).nsta then some (k + 1) else none)
    ∧ t.get (IOSYNC.SSTAT k) IOSYNC.SSTAT_UNDELIV = 1 ∧ t.get IOSYNC.UNDMAP ⟨k, 1⟩ = 1
    ∧ t.get (IOSYNC.SCNT k) IOSYNC.SCNT_UNDCNT = min (s.get (IOSYNC.SCNT k) IOSYNC.SCNT_UNDCNT + 1) (2 ^ IOSYNC.SCNT_UNDCNT.w - 1)
    ∧ t.get (HDR.IRQSTAT iosPage) ⟨17, 1⟩ = 1 := by
  have few : k < 32 := by unfold Work.nsta at station; omega
  let v := ((begin s).windowEnd 0 ((begin s).staNode k)).windowEnd 1 ((begin s).staNode k)
  have ended : Sends (begin s) v := (sends_windowEnd _ _ _).trans (sends_windowEnd _ _ _)
  have alive : v.alive = true := by
    show (decide (v.x.mode ≠ .off) && decide (v.x.mode ≠ .failed)) = true
    rw [show v.x.mode = (begin s).x.mode from (mode_windowEnd _ _ _).trans (mode_windowEnd _ _ _)]
    exact alive_of_live live
  have effect : ioAckTimeout k (begin s) = (undelivered v k).iosSend (k + 1) := by
    unfold ioAckTimeout
    rw [if_pos (show (begin s).alive = true ∧ k < (begin s).nsta from ⟨alive_of_live live, station⟩)]
    exact if_pos ⟨alive, by rw [show v.x.ios = _ from ended.ios]; exact waits⟩
  obtain ⟨undeliv, map, count, irq, nsta⟩ := undelivered_spec v few
  obtain ⟨ios, task⟩ := x_undelivered v k
  obtain ⟨-, sentIos, sentTask⟩ := iosSend_spec (undelivered v k) (k + 1)
  refine runs_settled rfl (by rw [effect, sentTask, task, ended.task]; exact hq) fun t settled => ?_
  rw [effect] at settled
  have shows {a : Nat} (ha : a / 4096 = iosPage) (f : Fld) : t.get a f = (undelivered v k).get a f :=
    (settled.get (ios_not_follows ha) f).trans (get_iosSend _ _ ha f)
  refine ⟨?_, ?_, ?_, ?_, ?_⟩
  · rw [settled.ios, sentIos, show (undelivered v k).nsta = v.nsta by unfold Work.nsta; rw [nsta], ended.nsta]
  · rw [shows (sstat_page few), undeliv]
  · rw [shows rfl, map]
  · rw [shows (scnt_page few), count, ended.get (scnt_page few)]
    rfl
  · rw [shows rfl, irq]

/-- In Ready and Hold the output phase begins at its own time, with no station UNDELIVERED. -/
theorem runs_holdOutputPhase (hq : Quiet s) (live : Live s) (station : k < (begin s).nsta) (mode : s.x.mode ≠ .run)
    (started : s.x.ios.started = true) (early : s.x.ios.phase = false) : Runs .holdOutputPhase s fun t => t.x.ios.phase = true
    ∧ t.x.ios.outAt = some 0 ∧ t.rd IOSYNC.UNDMAP = 0 ∧ t.get (IOSYNC.SSTAT k) IOSYNC.SSTAT_UNDELIV = 0 := by
  have few : k < 32 := by unfold Work.nsta at station; omega
  let c := (begin s).each (begin s).stations clearUndeliv
  let v := (c.wr IOSYNC.UNDMAP 0).iosUpd fun x => { x with phase := true }
  have effect : holdOutputPhase (begin s) = v.iosSend 0 := by
    unfold holdOutputPhase
    rw [if_pos ⟨alive_of_live live, .inl mode⟩]
    unfold Work.iosOutput
    exact if_neg (by simp [started, early])
  have x : c.x = (begin s).x := x_each (f := clearUndeliv) (fun _ _ => rfl) _ _
  have cleared : c.get (IOSYNC.SSTAT k) IOSYNC.SSTAT_UNDELIV = 0 :=
    get_undeliv_cleared _ _ (List.mem_range.mpr station)
  have nsta : v.nsta = (begin s).nsta := by
    unfold Work.nsta
    rw [show v.get IOSYNC.CFG _ = c.get IOSYNC.CFG _ from get_wr_ne _ _ _ _ _ (by decide),
      get_each (f := clearUndeliv) fun u e => get_put_ne _ _ _ _ _ _ (by unfold IOSYNC.CFG IOSYNC.SSTAT; omega)]
  obtain ⟨regs, ios, task⟩ := iosSend_spec v 0
  refine runs_settled rfl (by rw [effect, task]; show c.x.task.hdr = []; rw [x]; exact hq) fun t settled => ?_
  rw [effect] at settled
  have phase : (v.iosSend 0).x.ios.phase = true ∧ (v.iosSend 0).x.ios.outAt = some 0 := by
    rw [ios, nsta, if_pos (by omega)]
    exact ⟨rfl, rfl⟩
  rw [settled.ios]
  refine ⟨phase.1, phase.2, ?_, ?_⟩
  · rw [settled.rd _ (ios_not_follows rfl), regs _ (not_sendRegs rfl)]
    rfl
  · rw [settled.get (ios_not_follows (sstat_page few)), get_iosSend _ _ (sstat_page few)]
    exact (get_wr_ne _ _ _ _ _ (by unfold IOSYNC.UNDMAP IOSYNC.SSTAT; omega)).trans cleared

end

/-- Settles O28: each of the four commands takes the branch its hypotheses name, and what follows it (a frame queued, a response window
ended, the command's end) leaves the cycle's own part alone. -/
theorem remoteIoFrames : Obligations.RemoteIoFrames := by
  unfold Obligations.RemoteIoFrames
  intro s k b hq live on station
  exact ⟨fun d runs hears len => runs_ioInReceived hq live on station d runs hears len,
    fun hears waits => runs_ioAckReceived hq live station hears waits, fun waits => runs_ioAckTimeout hq live station waits,
    fun mode started early => runs_holdOutputPhase hq live station mode started early⟩

end Sys2Proof.Proofs
end

section
/-! PROOF. What Timetable's own rests on while other blocks work: the words of the TASK page, the pages' gates, the pair's registers, the
image in force and the loops' values; beside the registers the module's state and role, the program and the operation of the TASK page. A
step that leaves them all is work elsewhere. -/

namespace Sys2Proof.Proofs

open Sys2Proof.Machine Sys2Proof.Laws

/-- The registers that work elsewhere leaves: PGCTL of every page (page 0x025, which is not mapped, lies in the reach of the group numbers
that a command of Belfry can give); of the TASK page IRQSTAT, OPSTAT, MAIN to CYCLEH, OVRCNT and TRAPCNT, FVAR, FVAL
and OLCSTAT; CFG and STAT of PAIR; IMAGE and ACTID of SYS; the values of the loops. -/
def Held (a : Nat) : Prop :=
  a % 4096 = 0x0c ∧ a / 4096 ≠ 0x25
    ∨ a / 4096 = 0x10 ∧ (a % 4096 = 0x14 ∨ a % 4096 = 0x24 ∨ 0x40 ≤ a % 4096 ∧ a % 4096 < 0x60 ∨ 0x70 ≤ a % 4096 ∧ a % 4096 < 0x78
      ∨ a % 4096 = 0xa0 ∨ a % 4096 = 0xa4 ∨ a % 4096 = 0xc0)
    ∨ a / 4096 = 0x0e ∧ a % 4096 < 0x48 ∧ 0x40 ≤ a % 4096 ∨ a / 4096 = 0 ∧ 0x44 ≤ a % 4096 ∧ a % 4096 < 0x4c
    ∨ 0x40 ≤ a / 4096 ∧ a / 4096 < 0x70 ∧ a % 4096 = 0x50

/-- A register that work elsewhere may write. STAT of PROCTOR and BSTAT of BELFRY have fields of both kinds. -/
abbrev Away (a : Nat) : Prop := ¬ Held a ∧ a ≠ PROCTOR.STAT ∧ a ≠ BELFRY.BSTAT

/-- What Timetable's own rests on beside the registers; with `q`, Belfry's part too. -/
def deskOf (q : Bool) (x : Inner) : Mode × Role × List (List (Nat × Word)) × TaskSt × ImgSt × Option OpRun × Option BelfrySt :=
  (x.mode, x.role, x.upsets, x.task, x.img, x.pages.ops.find? fun o => decide (o.page = taskPage), bif q then some x.bel else none)

/-- From `u` to `w` there has been work elsewhere; with `q`, work that leaves Belfry's part. -/
structure Elsewhere (q : Bool) (u w : Work) : Prop where
  kept : Keeps (fun a => ¬ Held a) u w
  split : w.get PROCTOR.STAT PROCTOR.STAT_SPLIT = u.get PROCTOR.STAT PROCTOR.STAT_SPLIT
  retries : w.get BELFRY.BSTAT BELFRY.BSTAT_RETRYCNT = u.get BELFRY.BSTAT BELFRY.BSTAT_RETRYCNT
  desk : deskOf q w.x = deskOf q u.x

/-! The registers -/

/-- The pages that hold nothing of Timetable's but their gate. -/
abbrev AwayPage (page : Nat) : Prop :=
  page ≠ 0 ∧ page ≠ 0x0c ∧ page ≠ 0x0e ∧ page ≠ 0x10 ∧ page ≠ 0x24 ∧ (page < 0x40 ∨ 0x70 ≤ page)

theorem away_page {a page : Nat} (h : a / 4096 = page) (hp : AwayPage page) (hg : a % 4096 ≠ 0x0c) : Away a := by
  unfold Away Held PROCTOR.STAT BELFRY.BSTAT
  omega

/-- Belfry's block but BSTAT. -/
theorem away_bel {a : Nat} (low : 0x24040 ≤ a) (high : a < 0x26000) (hb : a ≠ BELFRY.BSTAT) : Away a := by
  unfold Away Held PROCTOR.STAT
  omega

/-- The words of a header but its gate; of the TASK page's, but IRQSTAT and OPSTAT too. -/
theorem away_hdr {page off : Nat} (h : off < 0x40) (hg : off ≠ 0x0c) (ht : page = taskPage → off ≠ 0x14 ∧ off ≠ 0x24) : Away (pg page + off) := by
  unfold taskPage at ht
  unfold Away Held PROCTOR.STAT BELFRY.BSTAT pg
  omega

theorem away_irqstat {page : Nat} (hp : page ≠ taskPage) : Away (HDR.IRQSTAT page) := away_hdr (by decide) (by decide) fun e => absurd e hp
theorem away_health (page : Nat) : Away (HDR.PGHEALTH page) := away_hdr (by decide) (by decide) fun _ => ⟨by decide, by decide⟩
theorem away_slate : Away SLATE.SSTAT := away_page (page := 0x29) rfl (by decide) (by decide)
theorem away_evtRegs {a : Nat} (h : evtRegs a) : Away a := by
  rcases h with rfl | rfl
  · exact away_irqstat (by decide)
  · exact away_page (page := 0x14) rfl (by decide) (by decide)

/-- The registers in which a loop channel shows its island. -/
theorem away_shown {n a : Nat} (h : ShownRegs n a) : Away a := by
  obtain ⟨off, mem, rfl⟩ := List.mem_map.1 h
  unfold loopReg Away Held PROCTOR.STAT BELFRY.BSTAT
  simp at mem
  omega

namespace Elsewhere
variable {q : Bool} {u v w : Work}

theorem refl (w : Work) : Elsewhere q w w := ⟨.refl _ _, rfl, rfl, rfl⟩
theorem trans (h : Elsewhere q u v) (k : Elsewhere q v w) : Elsewhere q u w :=
  ⟨h.kept.trans k.kept, k.split.trans h.split, k.retries.trans h.retries, k.desk.trans h.desk⟩
theorem ite (h : Elsewhere q u v) (k : Elsewhere q u w) {c : Prop} {_ : Decidable c} : Elsewhere q u (if c then v else w) := by
  split <;> assumption
theorem when (h : Elsewhere q u w) (c : Bool) {f : Work → Work} (hf : Elsewhere q u (f w)) : Elsewhere q u (w.when c f) := by
  unfold Work.when
  exact hf.ite h
theorem each {α : Type} (h : Elsewhere q u w) (l : List α) {f : Work → α → Work} (hf : ∀ v, ∀ e ∈ l, Elsewhere q v (f v e)) :
    Elsewhere q u (w.each l f) := List.foldlRecOn l f h fun v k e he => k.trans (hf v e he)

/-! What it leaves -/

theorem get (h : Elsewhere q u w) {a : Nat} (ha : Held a) (f : Fld) : w.get a f = u.get a f := h.kept.get (not_not_intro ha) f
theorem rd (h : Elsewhere q u w) {a : Nat} (ha : Held a) : w.rd a = u.rd a := h.kept a (not_not_intro ha)
theorem mode (h : Elsewhere q u w) : w.x.mode = u.x.mode := congrArg (·.1) h.desk
theorem role (h : Elsewhere q u w) : w.x.role = u.x.role := congrArg (·.2.1) h.desk
theorem upsets (h : Elsewhere q u w) : w.x.upsets = u.x.upsets := congrArg (·.2.2.1) h.desk
theorem task (h : Elsewhere q u w) : w.x.task = u.x.task := congrArg (·.2.2.2.1) h.desk
theorem img (h : Elsewhere q u w) : w.x.img = u.x.img := congrArg (·.2.2.2.2.1) h.desk
theorem op (h : Elsewhere q u w) : w.op? taskPage = u.op? taskPage := congrArg (·.2.2.2.2.2.1) h.desk
theorem bel (h : Elsewhere true u w) : w.x.bel = u.x.bel := Option.some.inj (congrArg (·.2.2.2.2.2.2) h.desk)
/-- Where Belfry's part stands besides. -/
theorem tight (h : Elsewhere false u w) (hb : w.x.bel = u.x.bel) : Elsewhere q u w :=
  ⟨h.kept, h.split, h.retries, by unfold deskOf; rw [h.mode, h.role, h.upsets, h.task, h.img, hb]; exact congrArg (_, _, _, _, _, ·, _) h.op⟩
/-- Less is asked. -/
theorem loose (h : Elsewhere q u w) : Elsewhere false u w :=
  ⟨h.kept, h.split, h.retries, by unfold deskOf; rw [h.mode, h.role, h.upsets, h.task, h.img]; exact congrArg (_, _, _, _, _, ·, _) h.op⟩

/-! One change -/

/-- Registers that it may write, and nothing beside the registers that it keeps. -/
theorem of_regs (h : Keeps Away u w) (hd : deskOf q w.x = deskOf q u.x) : Elsewhere q u w :=
  ⟨h.mono fun _ away => away.1, h.get (fun away => away.2.1 rfl) _, h.get (fun away => away.2.2 rfl) _, hd⟩

theorem of_noise (h : Keeps Away u w) (k : Noise u.x w.x) : Elsewhere false u w := of_regs h (by rw [k.eq]; rfl)

theorem regs (h : Elsewhere q u v) (k : Keeps Away v w) (hd : deskOf q w.x = deskOf q v.x) : Elsewhere q u w := h.trans (of_regs k hd)
theorem noise (h : Elsewhere false u v) (k : Keeps Away v w) (n : Noise v.x w.x) : Elsewhere false u w := h.trans (of_noise k n)

theorem wr (h : Elsewhere q u w) {a : Nat} (ha : Away a) (n : Word) : Elsewhere q u (w.wr a n) := h.regs (keeps_wr w a n ha) rfl
theorem put (h : Elsewhere q u w) {a : Nat} (ha : Away a) (f : Fld) (n : Nat) : Elsewhere q u (w.put a f n) := h.wr ha _
theorem irq (h : Elsewhere q u w) {page : Nat} (hp : page ≠ taskPage) (bit : Nat) : Elsewhere q u (w.irq page bit) :=
  h.regs (keeps_irq w page bit (away_irqstat hp)) rfl
/-- Another field of BSTAT than the count of retries. -/
theorem bstat (h : Elsewhere q u w) (f : Fld) (n : Nat) (d : BELFRY.BSTAT_RETRYCNT.lo + BELFRY.BSTAT_RETRYCNT.w ≤ f.lo ∨ f.lo + f.w ≤ BELFRY.BSTAT_RETRYCNT.lo) :
    Elsewhere q u (w.put BELFRY.BSTAT f n) := by
  have free : ¬ Held BELFRY.BSTAT := by
    unfold Held BELFRY.BSTAT
    omega
  exact h.trans ⟨keeps_put w _ _ _ free, get_put_ne _ _ _ _ _ _ (by decide), get_put_other _ _ _ _ _ (by decide) d, rfl⟩

theorem upd (h : Elsewhere q u w) (g : Inner → Inner) (hg : deskOf q (g w.x) = deskOf q w.x) : Elsewhere q u (w.upd g) :=
  h.regs (fun _ _ => rfl) hg

theorem iosUpd (h : Elsewhere q u w) (g : IosSt → IosSt) : Elsewhere q u (w.iosUpd g) := h.upd _ rfl

theorem emit (h : Elsewhere q u w) (page num sub : Nat) (data : List Nat) : Elsewhere q u (w.emit page num sub data) :=
  h.regs ((keeps_emit w page num sub data).mono fun _ => away_evtRegs) (by rw [x_emit]; rfl)
theorem setFlag (h : Elsewhere q u w) (page sub : Nat) {a : Nat} (ha : Away a) (f : Fld) (l : Bool) :
    Elsewhere q u (w.setFlag page sub a f l) := by
  unfold Work.setFlag
  exact h.ite ((h.put ha _ _).emit _ _ _ _)
theorem setState (h : Elsewhere q u w) (page sub : Nat) {a : Nat} (ha : Away a) (f : Fld) (n : Nat) :
    Elsewhere q u (w.setState page sub a f n) := by
  unfold Work.setState
  exact h.ite ((h.put ha _ _).emit _ _ _ _)
theorem flagIrq (h : Elsewhere q u w) {page : Nat} (hp : page ≠ taskPage) {a : Nat} (ha : Away a) (f : Fld) (l : Bool) (bit : Nat) :
    Elsewhere q u (w.flagIrq page a f l bit) := by
  unfold Work.flagIrq
  exact (h.put ha _ _).when _ ((h.put ha _ _).irq hp _)

theorem slateRequest (h : Elsewhere q u w) (r : Nat) : Elsewhere q u (w.slateRequest r) :=
  h.regs (fun _ ha => rd_slateRequest w r _ fun e => ha (e ▸ away_slate)) (by
    unfold Work.slateRequest
    dsimp only
    split <;> rfl)

theorem cause (h : Elsewhere false u w) (code page sub : Nat) (on : Bool) : Elsewhere false u (w.cause code page sub on) := by
  obtain ⟨noisy, reads⟩ := cause_spec w code page sub on
  exact h.noise (fun a ha => reads a ⟨⟨fun e => ha (away_evtRegs (.inl e)), fun e => ha (away_evtRegs (.inr e))⟩, fun e => ha (e ▸ away_slate)⟩) noisy
theorem blockFault (h : Elsewhere false u w) {page : Nat} (hp : page ≠ taskPage) (p m : Nat) (on : Bool) : Elsewhere false u (w.blockFault page p m on) := by
  obtain ⟨noisy, reads⟩ := blockFault_spec w page p m on
  exact h.noise (fun a ha => reads a ⟨⟨⟨fun e => ha (away_evtRegs (.inl e)), fun e => ha (away_evtRegs (.inr e))⟩, fun e => ha (e ▸ away_slate)⟩,
    fun e => ha (e ▸ away_health page), fun e => ha (e ▸ away_irqstat hp)⟩) noisy

end Elsewhere

end Sys2Proof.Proofs
end
section
/-! PROOF. Loop islands, digital outputs and trunks work elsewhere. -/

namespace Sys2Proof.Proofs

open Sys2Proof.Machine Sys2Proof.Laws

namespace Elsewhere
variable {q : Bool} {u v w : Work}

/-! Loop islands (R124, R134) -/

theorem shown {n : Nat} (h : Elsewhere q u v) (k : Shown n v w) : Elsewhere q u w := by
  obtain ⟨_, x⟩ := k.rest
  exact h.regs (k.regs.mono fun _ => away_shown) (by rw [x]; rfl)

theorem loopShow (h : Elsewhere q u w) (n : Nat) : Elsewhere q u (w.loopShow n) := h.shown (Shown.refl w).loopShow

theorem islState (h : Elsewhere q u w) (n k : Nat) : Elsewhere q u (w.islState n k) := by
  unfold Work.islState
  exact (h.upd _ rfl).loopShow n

theorem islObey (h : Elsewhere q u w) (n : Nat) (c : IslCmd) : Elsewhere q u (w.islObey n c) := by
  rcases islObey_cases w n c with eq | ⟨k, eq⟩
  · rw [eq]
    exact h
  · rw [eq]
    exact h.islState n k

theorem commandIslands (h : Elsewhere q u w) : Elsewhere q u w.commandIslands := by
  unfold Work.commandIslands
  exact h.each _ fun v n _ => ((refl v).islObey n _).loopShow n

/-! Digital groups (R223, R226) -/

/-- A register of a digital group or channel, by its page and its place on it. -/
theorem away_dio {g off a : Nat} (h : a = 0x90000 + 0x1000 * g + off) (low : 0x40 ≤ off) (high : off < 0x1000) : Away a :=
  away_page (page := 0x90 + g) (by omega) (by omega) (by omega)

theorem away_dch (ch : Nat) {off a : Nat} (h : a = 0x90100 + 0x1000 * (ch / 8) + 0x40 * (ch % 8) + off) (high : off < 0x40) : Away a :=
  away_dio (g := ch / 8) (off := 0x100 + 0x40 * (ch % 8) + off) (by omega) (by omega) (by omega)

theorem dio_not_task (g : Nat) : dioPage g ≠ taskPage := by
  unfold dioPage taskPage
  omega

theorem away_dstat (ch : Nat) : Away (DCH.STAT ch) := away_dch ch (off := 8) (by unfold DCH.STAT; omega) (by decide)

theorem dioCond (h : Elsewhere q u w) (ch : Nat) (f : Fld) (on : Bool) : Elsewhere q u (w.dioCond ch f on) := by
  unfold Work.dioCond
  have shown : Elsewhere q u (w.putB (DCH.STAT ch) f on) := h.put (away_dstat ch) _ _
  have latched : Elsewhere q u ((w.putB (DCH.STAT ch) f on).putB (DCH.STICKY ch) f true) :=
    shown.put (away_dch ch (off := 12) (by unfold DCH.STICKY; omega) (by decide)) _ _
  exact shown.when _ (latched.when _ (latched.irq (dio_not_task _) _))

theorem dioCondRec (h : Elsewhere q u w) (ch : Nat) (f : Fld) (on : Bool) : Elsewhere q u (w.dioCondRec ch f on) := by
  unfold Work.dioCondRec
  exact h.ite ((h.dioCond ch f on).emit _ _ _ _)

theorem dioShowCh (h : Elsewhere q u w) (ch : Nat) : Elsewhere q u (w.dioShowCh ch) := by
  have stat := away_dstat ch
  have gin : Away (DIO.GIN (ch / 8)) := away_dio (g := ch / 8) (off := 0x50) (by unfold DIO.GIN; omega) (by decide) (by decide)
  have gout : Away (DIO.GOUT (ch / 8)) := away_dio (g := ch / 8) (off := 0x54) (by unfold DIO.GOUT; omega) (by decide) (by decide)
  unfold Work.dioShowCh
  extract_lets g k code qual input
  have inputE : Elsewhere q u input := (h.put stat _ _).when _ ((h.put stat _ _).put stat _ _)
  exact ((((inputE.put gout _ _).put stat _ _).put gin _ _).put gin _ _).put gin _ _

theorem dioShow (h : Elsewhere q u w) (g : Nat) : Elsewhere q u (w.dioShow g) := by
  unfold Work.dioShow
  exact (h.each _ fun v ch _ => (refl v).dioShowCh ch).flagIrq (dio_not_task g) (away_dio (g := g) (off := 0x48) (by unfold DIO.GSTAT; omega) (by decide) (by decide)) _ _ _

theorem dioRefresh (h : Elsewhere q u w) (g : Nat) : Elsewhere q u (w.dioRefresh g) := by
  unfold Work.dioRefresh
  have obeyed (v : Work) (ch : Nat) : Elsewhere q v
      (if v.dioWanted ch then v.dchSet ch fun c => { c with shedOff := false } else v.dioCondRec ch DCH.STAT_OVERLOAD false) :=
    ((refl v).upd _ rfl).ite ((refl v).dioCondRec ch _ _)
  exact (((h.each _ fun v ch _ => obeyed v ch).upd _ rfl).dioShow g).ite h

theorem commandOutputs (h : Elsewhere q u w) : Elsewhere q u w.commandOutputs := by
  unfold Work.commandOutputs
  exact h.each _ fun v g _ => (refl v).dioRefresh g

end Elsewhere

end Sys2Proof.Proofs
end

section
/-! PROOF. Overruns and traps of a task (R296, R299, R300, R408). -/

namespace Sys2Proof.Proofs

open Sys2Proof.Machine Sys2Proof.Laws

theorem held_task {a : Nat} (h : a / 4096 = 0x10) (o : a % 4096 = 0x14 ∨ 0x40 ≤ a % 4096 ∧ a % 4096 < 0x60 ∨ 0x70 ≤ a % 4096 ∧ a % 4096 < 0x78) :
    Held a :=
  .inr (.inl ⟨h, o.imp id fun k => .inr (k.imp id .inl)⟩)

theorem taskPage_not_rec {a : Nat} (h : a / 4096 = 0x10) : NotRec a := not_rec (by omega)

/-- A program without safe values releases none: loops and digital outputs follow, and no more. -/
theorem elsewhere_safeRelease (w : Work) (i : Nat) (values : w.activeContent.safeVals = []) (owners : w.activeContent.owners = []) :
    Elsewhere false w (w.safeRelease i) := by
  unfold Work.safeRelease
  extract_lets c mine words data stopped
  have none : mine = [] := by simp [mine, c, owners]
  have wordsE : words = w := by simp only [words, c, values]; rfl
  have dataE : Elsewhere false w data := by
    unfold data
    rw [wordsE]
    refine (Elsewhere.refl w).each _ fun v e _ => ?_
    split
    · exact (Elsewhere.refl v).iosUpd _
    · exact .refl v
  have stoppedE : Elsewhere false w stopped := by
    unfold stopped
    rw [if_neg (by simp [none])]
    exact dataE
  exact stoppedE.commandIslands.commandOutputs

/-- Another bit of the interrupt word stays. -/
theorem get_irq_other (w : Work) {page i j : Nat} (h : i < j ∧ j < 32) : (w.irq page i).get (HDR.IRQSTAT page) ⟨j, 1⟩ = w.get (HDR.IRQSTAT page) ⟨j, 1⟩ :=
  get_put_other w _ ⟨i, 1⟩ ⟨j, 1⟩ 1 h.2 (.inr h.1)

section
variable (w : Work) (i : Nat) (g : TaskRun → TaskRun)
theorem rd_trunSet (a : Nat) : (w.trunSet i g).rd a = w.rd a := rfl
theorem get_trunSet (a : Nat) (f : Fld) : (w.trunSet i g).get a f = w.get a f := rfl
theorem hdr_trunSet : (w.trunSet i g).x.task.hdr = w.x.task.hdr := rfl
theorem trun_wdDue : (w.taskUpd fun t => { t with wdDue := true }).trun i = w.trun i := rfl
theorem hdr_wdDue : (w.taskUpd fun t => { t with wdDue := true }).x.task.hdr = w.x.task.hdr := rfl
end

/-! An overrun, from the release of the safe values on -/

section
variable (w : Work) (i : Nat)

/-- An overrun shows in the task's flag and counter and is recorded (R299). -/
def overrunNoted : Work :=
  let w := (w.setFlag taskPage i TASK.STAT ⟨24 + i, 1⟩ true).incSat TASK.OVRCNT ⟨8 * i, 8⟩
  (w.evOccur taskPage i TASK.OVRCNT (8 * i) (w.get TASK.OVRCNT ⟨8 * i, 8⟩)).irq taskPage 16

/-- The task is late, once more in a row. -/
def overrunLate : Work := (overrunNoted (w.safeRelease i) i).trunSet i fun r => { r with late := true }
def overrunInRow : Work := (overrunLate w i).trunSet i fun r => { r with consec := r.consec + 1 }

theorem overrun_uncounted : w.overrun i false = overrunLate w i := rfl
theorem overrun_counted : w.overrun i true =
    if (overrunInRow w i).get TASK.MAIN TASK.MAIN_OVRMAX ≤ ((overrunInRow w i).trun i).consec
    then (overrunInRow w i).taskUpd fun t => { t with wdDue := true } else overrunInRow w i := rfl

theorem noise_overrunNoted : Noise w.x (overrunNoted w i).x := (noise_setFlag ..).trans (noise_emit ..)

variable {i} (hi : i < 4)
include hi

theorem stat_overrunNoted : (overrunNoted w i).get TASK.STAT ⟨24 + i, 1⟩ = 1 := by
  unfold overrunNoted
  dsimp only
  rw [get_irq_ne _ _ _ _ _ (by decide), get_evOccur _ _ _ _ _ _ _ _ (by decide), Work.incSat, get_put_ne _ _ _ _ _ _ (by decide),
    get_setFlag_same _ _ _ _ _ _ (by decide) (by show 24 + i + 1 ≤ 32; omega) rfl]
  rfl

theorem ovrcnt_overrunNoted : (overrunNoted w i).get TASK.OVRCNT ⟨8 * i, 8⟩ = min (w.get TASK.OVRCNT ⟨8 * i, 8⟩ + 1) 255 := by
  unfold overrunNoted
  dsimp only
  rw [get_irq_ne _ _ _ _ _ (by decide), get_evOccur _ _ _ _ _ _ _ _ (by decide),
    get_incSat_same _ _ _ (by show 8 * i + 8 ≤ 32; omega), Work.get, rd_setFlag _ _ _ _ _ _ _ (by decide)]
  rfl

/-- Of STAT it changes the task's overrun flag alone. -/
theorem stat_overrunNoted_trap : (overrunNoted w i).get TASK.STAT ⟨20 + i, 1⟩ = w.get TASK.STAT ⟨20 + i, 1⟩ := by
  unfold overrunNoted
  dsimp only
  rw [get_irq_ne _ _ _ _ _ (by decide), get_evOccur _ _ _ _ _ _ _ _ (by decide), Work.incSat, get_put_ne _ _ _ _ _ _ (by decide),
    get_setFlag_other _ _ _ _ _ _ _ (by decide) (by show 20 + i + 1 ≤ 32; omega) (.inl (by show 20 + i + 1 ≤ 24 + i; omega))]

omit hi

theorem irq_overrunNoted : (overrunNoted w i).get (HDR.IRQSTAT taskPage) ⟨16, 1⟩ = 1 := by
  unfold overrunNoted
  exact get_irq_same _ _ _ (by decide)

theorem irq_overrunNoted_trap : (overrunNoted w i).get (HDR.IRQSTAT taskPage) ⟨17, 1⟩ = w.get (HDR.IRQSTAT taskPage) ⟨17, 1⟩ := by
  unfold overrunNoted
  dsimp only
  rw [get_irq_other _ (by decide), get_evOccur _ _ _ _ _ _ _ _ (by decide), Work.incSat, get_put_ne _ _ _ _ _ _ (by decide), Work.get,
    rd_setFlag _ _ _ _ _ _ _ (by decide)]
  rfl

theorem rd_overrunNoted {a : Nat} (h : a / 4096 = 0x10) (hs : a ≠ TASK.STAT) (ho : a ≠ TASK.OVRCNT) (hq : a ≠ HDR.IRQSTAT taskPage) :
    (overrunNoted w i).rd a = w.rd a := by
  unfold overrunNoted
  dsimp only
  rw [rd_irq_ne _ _ _ _ hq.symm, rd_evOccur _ _ _ _ _ _ _ (taskPage_not_rec h), Work.incSat, rd_put_ne _ _ _ _ _ ho.symm,
    rd_setFlag _ _ _ _ _ _ _ ⟨taskPage_not_rec h, hs⟩]

/-- The registers after an overrun are those after its note. -/
theorem rd_overrun (counts : Bool) (a : Nat) : (w.overrun i counts).rd a = (overrunNoted (w.safeRelease i) i).rd a := by
  cases counts with
  | false => rw [overrun_uncounted, overrunLate, rd_trunSet]
  | true =>
    rw [overrun_counted]
    split
    · rw [rd_taskUpd, overrunInRow, rd_trunSet, overrunLate, rd_trunSet]
    · rw [overrunInRow, rd_trunSet, overrunLate, rd_trunSet]

end

section
variable {w : Work} {i : Nat} {counts : Bool}

theorem task_overrunNoted (plain : Elsewhere false w (w.safeRelease i)) : (overrunNoted (w.safeRelease i) i).x.task = w.x.task := by
  rw [(noise_overrunNoted _ _).eq, noisy_task, plain.task]

theorem trun_overrunLate (plain : Elsewhere false w (w.safeRelease i)) :
    (overrunLate w i).trun i = { w.trun i with late := true } := by
  unfold Work.trun overrunLate Work.trunSet
  rw [x_taskUpd, task_overrunNoted plain]
  exact (tabGet_tabSet ..).trans (if_pos rfl)

theorem trun_overrunInRow (plain : Elsewhere false w (w.safeRelease i)) :
    (overrunInRow w i).trun i = { w.trun i with late := true, consec := (w.trun i).consec + 1 } := by
  have late : tabGet {} (overrunLate w i).x.task.run i = { w.trun i with late := true } := trun_overrunLate plain
  unfold Work.trun overrunInRow Work.trunSet
  rw [x_taskUpd]
  refine (tabGet_tabSet ..).trans ((if_pos rfl).trans ?_)
  rw [late]
  rfl

/-- What an overrun of a program without safe values leaves of the task's own. -/
theorem overrun_run (plain : Elsewhere false w (w.safeRelease i)) : ((w.overrun i counts).trun i).late = true
    ∧ ((w.overrun i counts).trun i).running = (w.trun i).running ∧ (w.overrun i counts).x.task.hdr = w.x.task.hdr := by
  have late : (overrunLate w i).x.task.hdr = w.x.task.hdr := by rw [overrunLate, hdr_trunSet, task_overrunNoted plain]
  have inRow : (overrunInRow w i).x.task.hdr = w.x.task.hdr := by rw [overrunInRow, hdr_trunSet, late]
  cases counts with
  | false =>
    rw [overrun_uncounted, trun_overrunLate plain]
    exact ⟨rfl, rfl, late⟩
  | true =>
    have run : ((w.overrun i true).trun i) = (overrunInRow w i).trun i ∧ (w.overrun i true).x.task.hdr = (overrunInRow w i).x.task.hdr := by
      rw [overrun_counted]
      split
      · exact ⟨trun_wdDue _ i, hdr_wdDue _⟩
      · exact ⟨rfl, rfl⟩
    rw [run.1, run.2, trun_overrunInRow plain]
    exact ⟨rfl, rfl, inRow⟩

/-- OVRMAX overruns in a row make a watchdog stop due (R300). -/
theorem overrun_wdDue (plain : Elsewhere false w (w.safeRelease i)) (most : w.get TASK.MAIN TASK.MAIN_OVRMAX ≤ (w.trun i).consec + 1) :
    (w.overrun i true).x.task.wdDue = true := by
  have limit : (overrunInRow w i).get TASK.MAIN TASK.MAIN_OVRMAX = w.get TASK.MAIN TASK.MAIN_OVRMAX := by
    rw [overrunInRow, get_trunSet, overrunLate, get_trunSet]
    unfold Work.get
    rw [rd_overrunNoted _ rfl (by decide) (by decide) (by decide), plain.rd (held_task rfl (by decide))]
  rw [overrun_counted, if_pos]
  · rfl
  · rw [limit, trun_overrunInRow plain]
    exact most

end

/-! A trap, up to the overrun that it is -/

/-- A trap shows in the task's flag and counter, and ends what runs of the task (R296). -/
def trapNoted (w : Work) (i : Nat) : Work :=
  let w := (w.setFlag taskPage i TASK.STAT ⟨20 + i, 1⟩ true).incSat TASK.TRAPCNT ⟨8 * i, 8⟩
  ((w.evOccur taskPage i TASK.TRAPCNT (8 * i) (w.get TASK.TRAPCNT ⟨8 * i, 8⟩)).irq taskPage 17).trunSet i fun r => { r with running := false }

theorem x_trapNoted (w : Work) (i : Nat) : ((trapNoted w i).trun i).running = false ∧ (trapNoted w i).x.task.hdr = w.x.task.hdr
    ∧ (trapNoted w i).x.img = w.x.img := by
  have noise : Noise w.x ((w.setFlag taskPage i TASK.STAT ⟨20 + i, 1⟩ true).incSat TASK.TRAPCNT ⟨8 * i, 8⟩).x := noise_setFlag ..
  unfold trapNoted
  refine ⟨by simp [Work.trun, Work.trunSet], ?_, ?_⟩
  · simp only [Work.trunSet, x_taskUpd, x_irq, xn_evOccur, noisy_task]
    rw [noise.eq, noisy_task]
  · simp only [Work.trunSet, x_taskUpd, x_irq, xn_evOccur, noisy_img]
    rw [noise.eq, noisy_img]

theorem regs_trapNoted (w : Work) {i : Nat} (hi : i < 4) : (trapNoted w i).get TASK.STAT ⟨20 + i, 1⟩ = 1
    ∧ (trapNoted w i).get TASK.TRAPCNT ⟨8 * i, 8⟩ = min (w.get TASK.TRAPCNT ⟨8 * i, 8⟩ + 1) 255
    ∧ (trapNoted w i).get (HDR.IRQSTAT taskPage) ⟨17, 1⟩ = 1 ∧ (trapNoted w i).rd SYS.IMAGE = w.rd SYS.IMAGE := by
  unfold trapNoted Work.trunSet
  simp only [get_taskUpd, rd_taskUpd]
  refine ⟨?_, ?_, get_irq_same _ _ _ (by decide), ?_⟩
  · rw [get_irq_ne _ _ _ _ _ (by decide), get_evOccur _ _ _ _ _ _ _ _ (by decide), Work.incSat, get_put_ne _ _ _ _ _ _ (by decide),
      get_setFlag_same _ _ _ _ _ _ (by decide) (by show 20 + i + 1 ≤ 32; omega) rfl]
    rfl
  · rw [get_irq_ne _ _ _ _ _ (by decide), get_evOccur _ _ _ _ _ _ _ _ (by decide),
      get_incSat_same _ _ _ (by show 8 * i + 8 ≤ 32; omega), Work.get, rd_setFlag _ _ _ _ _ _ _ (by decide)]
    rfl
  · rw [rd_irq_ne _ _ _ _ (by decide), rd_evOccur _ _ _ _ _ _ _ (not_rec (by decide)), Work.incSat, rd_put_ne _ _ _ _ _ (by decide),
      rd_setFlag _ _ _ _ _ _ _ (by decide)]

/-! The commands -/

theorem task_shows {w : Work} {t : State} (h : Settled w t) {a : Nat} (ha : a / 4096 = 0x10) (f : Fld) : t.get a f = w.get a f :=
  h.get (not_follows (by omega)) f

theorem trun_shows {w : Work} {t : State} (h : Settled w t) (i : Nat) : (begin t).trun i = w.trun i := by
  obtain ⟨-, -, -, -, -, -, task, -⟩ := h.parts
  unfold Work.trun
  rw [x_begin, task]

section
variable {s : State} {i : Nat} (hq : Quiet s) (hi : i < 4) (mode : s.x.mode = .run) (role : s.x.role ≠ .standby)
  (running : ((begin s).trun i).running = true) (values : (begin s).activeContent.safeVals = [])
  (owners : (begin s).activeContent.owners = [])
include hq hi mode role running

include values owners in
theorem runs_taskOverrun (withheld : s.x.proc.withheld = false) : Runs (.taskOverrun i) s fun t => t.get TASK.STAT ⟨24 + i, 1⟩ = 1
    ∧ ((begin t).trun i).late = true ∧ t.get TASK.OVRCNT ⟨8 * i, 8⟩ = min (s.get TASK.OVRCNT ⟨8 * i, 8⟩ + 1) 255
    ∧ t.get (HDR.IRQSTAT taskPage) ⟨16, 1⟩ = 1
    ∧ (s.get PROCTOR.STAT PROCTOR.STAT_SPLIT = 0 → s.get TASK.MAIN TASK.MAIN_OVRMAX ≤ ((begin s).trun i).consec + 1 → t.x.task.wdDue = true) := by
  have plain : Elsewhere false (begin s) ((begin s).safeRelease i) := elsewhere_safeRelease _ i values owners
  have effect : taskOverrun i (begin s) = (begin s).overrun i (!(begin s).flag PROCTOR.STAT PROCTOR.STAT_SPLIT) := by
    unfold taskOverrun
    rw [if_neg (by simp [hi, mode, role, running, withheld])]
  obtain ⟨late, -, hdr⟩ := overrun_run (counts := !(begin s).flag PROCTOR.STAT PROCTOR.STAT_SPLIT) plain
  refine runs_settled rfl (by rw [effect, hdr]; exact hq) fun t settled => ?_
  rw [effect] at settled
  have shows {a : Nat} (ha : a / 4096 = 0x10) (f : Fld) : t.get a f = (overrunNoted ((begin s).safeRelease i) i).get a f := by
    rw [task_shows settled ha, Work.get, rd_overrun]
    rfl
  refine ⟨?_, ?_, ?_, ?_, fun whole most => ?_⟩
  · rw [shows rfl, stat_overrunNoted _ hi]
  · rw [trun_shows settled, late]
  · rw [shows rfl, ovrcnt_overrunNoted _ hi, plain.get (held_task rfl (by decide))]
    rfl
  · rw [shows rfl, irq_overrunNoted]
  · have counts : (begin s).flag PROCTOR.STAT PROCTOR.STAT_SPLIT = false := by simp [Work.flag, whole]
    obtain ⟨-, -, -, -, -, -, task, -⟩ := settled.parts
    rw [task, counts]
    exact overrun_wdDue plain most

include values owners in
theorem runs_trap : Runs (.trap i none) s fun t => t.get TASK.STAT ⟨20 + i, 1⟩ = 1 ∧ ((begin t).trun i).running = false
    ∧ t.get TASK.TRAPCNT ⟨8 * i, 8⟩ = min (s.get TASK.TRAPCNT ⟨8 * i, 8⟩ + 1) 255 ∧ t.get (HDR.IRQSTAT taskPage) ⟨17, 1⟩ = 1 := by
  let v := trapNoted (begin s) i
  obtain ⟨ended, hdr, img⟩ := x_trapNoted (begin s) i
  obtain ⟨stat, count, irq, image⟩ := regs_trapNoted (begin s) hi
  have content : v.activeContent = (begin s).activeContent := by
    unfold Work.activeContent Work.get
    rw [show v.x.img = _ from img, show v.rd _ = _ from image]
  have plain : Elsewhere false v (v.safeRelease i) := elsewhere_safeRelease v i (by rw [content, values]) (by rw [content, owners])
  have effect : trap i none (begin s) = v.overrun i true := by
    unfold trap
    rw [if_neg (by simp [hi, mode, role, running])]
    rfl
  obtain ⟨-, run, waiting⟩ := overrun_run (counts := true) plain
  refine runs_settled rfl (by rw [effect, waiting, hdr]; exact hq) fun t settled => ?_
  rw [effect] at settled
  have shows {a : Nat} (ha : a / 4096 = 0x10) (f : Fld) : t.get a f = (overrunNoted (v.safeRelease i) i).get a f := by
    rw [task_shows settled ha, Work.get, rd_overrun]
    rfl
  have keeps {a : Nat} (ha : Held a) (f : Fld) : (v.safeRelease i).get a f = v.get a f := plain.get ha f
  refine ⟨?_, ?_, ?_, ?_⟩
  · rw [shows rfl, stat_overrunNoted_trap _ hi, keeps (held_task rfl (by decide)), stat]
  · rw [trun_shows settled, run, ended]
  · rw [shows rfl, Work.get, rd_overrunNoted _ rfl (by decide) (by decide) (by decide)]
    exact (keeps (held_task rfl (by decide)) _).trans count
  · rw [shows rfl, irq_overrunNoted_trap, keeps (held_task rfl (by decide)), irq]

/-- A trap in one voting Form votes it out with class 3 (R408), its checkpoint closed. -/
theorem runs_trap_alone {f : Nat} (hf : f < 4) (votes : (begin s).place f = plVoting) (shut : s.x.proc.isOpen = false) :
    Runs (.trap i (some f)) s fun t =>
      t.get (FORM.FSTAT f) FORM.FSTAT_PLACE = plTest ∧ t.get (FORM.FSTAT f) FORM.FSTAT_LASTWHY = 3 := by
  obtain ⟨v, beside, place, why, -, task, shutAfter⟩ := voteOut_placed (begin s) (cls := 3) hf (by decide)
  have effect : trap i (some f) (begin s) = ((begin s).voteOut f 3).judgeMain := by
    unfold trap
    rw [if_neg (by simp [hi, mode, role, running])]
    exact if_pos ⟨hf, votes⟩
  have judged : Beside f v (trap i (some f) (begin s)) := by
    rw [effect]
    exact beside.judgeMain (fun _ => (beside.place hf).trans place) (beside.shut (shutAfter shut))
  have fstat : ¬ Follows (FORM.FSTAT f) := not_follows (by unfold FORM.FSTAT; omega)
  refine runs_settled rfl (by rw [judged.task, task]; exact hq) fun t settled => ⟨?_, ?_⟩
  · rw [settled.get fstat, ← Work.place, judged.place hf, place]
  · rw [settled.get fstat, judged.regs.get (fun k => k.2 hf rfl), why]

end

/-- Settles O27: without safe values an overrun moves loops and digital outputs alone before it notes itself; a trap notes itself and is an
overrun; a trap in one Form is its vote-out, beside which nothing touches that Form again. -/
theorem overrunsAndTraps : Obligations.OverrunsAndTraps := by
  unfold Obligations.OverrunsAndTraps
  intro s i hq hi mode role running values owners
  exact ⟨runs_taskOverrun hq hi mode role running values owners, runs_trap hq hi mode role running values owners,
    fun f hf votes shut _ => runs_trap_alone hq hi mode role running hf votes shut⟩

end Sys2Proof.Proofs
end

section
/-! PROOF. The safety section works elsewhere. -/

namespace Sys2Proof.Proofs

open Sys2Proof.Machine Sys2Proof.Laws

/-- A register of the SAFE page's block. -/
theorem away_safe {a : Nat} (low : 0x30040 ≤ a) (high : a < 0x31000) : Away a :=
  away_page (page := 0x30) (by omega) (by decide) (by omega)

theorem away_safeShown {a : Nat} (h : SafeShown a) : Away a := by
  unfold SafeShown SAFE.SECSTAT SAFE.VSMEAS SAFE.PWSTAT SAFE.CLOGHEAD at h
  exact away_safe (by omega) (by omega)

namespace Elsewhere
variable {q : Bool} {u v w : Work}

theorem safeUpd (h : Elsewhere q u w) (g : SafeSt → SafeSt) : Elsewhere q u (w.safeUpd g) := h.upd _ rfl
theorem newInstance (h : Elsewhere false u w) (pt : Nat) : Elsewhere false u (w.newInstance pt) := h.noise (fun _ _ => rfl) (noise_newInstance ..)

/-! The section shows itself (R284, R285) -/

theorem safeView (h : Elsewhere q u w) {p : Nat} (hp : p < 2) : Elsewhere q u (w.safeView p) := by
  obtain ⟨-, -, own⟩ := view_shown (k := 0) hp
  unfold Work.safeView
  extract_lets fns outs
  have fnsE : Elsewhere q u fns := h.each _ fun k f mem => (refl k).wr (away_safeShown ((view_shown hp).1 (List.mem_range.1 mem))) _
  have outsE : Elsewhere q u outs := fnsE.each _ fun k n mem => (refl k).wr (away_safeShown ((view_shown hp).2.1 (List.mem_range.1 mem))) _
  exact ((outsE.put (away_safeShown own) _ _).put (away_safeShown own) _ _).ite h

theorem safeShow (h : Elsewhere q u w) : Elsewhere q u w.safeShow := by
  have secstat : Away SAFE.SECSTAT := away_safe (by decide) (by decide)
  unfold Work.safeShow
  exact (((((h.put secstat _ _).put secstat _ _).put secstat _ _).safeView (by decide)).safeView (by decide)).ite h

/-! Functions and outputs (R255 to R263, R268) -/

theorem degEnd (h : Elsewhere q u w) (p f : Nat) : Elsewhere q u (w.degEnd p f) := by
  unfold Work.degEnd
  exact (h.safeUpd _).when _ ((h.safeUpd _).emit _ _ _ _)

theorem fnState (h : Elsewhere q u w) (p f st : Nat) : Elsewhere q u (w.fnState p f st) := by
  unfold Work.fnState
  extract_lets s left told ended taken asked
  have toldE : Elsewhere q u told := h.when _ (h.irq (by decide) _)
  have endedE : Elsewhere q u ended := toldE.when _ (toldE.degEnd _ _)
  have takenE : Elsewhere q u taken := endedE.safeUpd _
  have askedE : Elsewhere q u asked := takenE.when _ (takenE.each _ fun k _ _ => (refl k).safeUpd _)
  exact h.ite ((askedE.each _ fun k _ _ => (refl k).safeUpd _).ite askedE)

theorem fnDegrade (h : Elsewhere false u w) (p f : Nat) : Elsewhere false u (w.fnDegrade p f) := by
  unfold Work.fnDegrade
  extract_lets now grace low first degraded
  have degradedE : Elsewhere false u degraded := h.safeUpd _
  refine degradedE.when _ ?_
  extract_lets told
  have toldE : Elsewhere false u told := ((degradedE.emit _ _ _ _).irq (by decide) _).newInstance _
  exact (((toldE.emit _ _ _ _).irq (by decide) _).newInstance _).ite toldE

theorem fnStep (h : Elsewhere false u w) (p f : Nat) : Elsewhere false u (w.fnStep p f) := by
  have enters (st : Nat) : Elsewhere false u (w.fnState p f st) := h.fnState p f st
  unfold Work.fnStep
  refine (enters _).ite ((enters _).ite ((enters _).ite ((enters _).ite (ite ?safe (ite ?wait (ite ?run (ite ?locked h)))))))
  case safe => exact (enters _).ite ((enters _).ite h)
  case wait => exact (enters _).ite ((enters _).ite ((enters _).ite h))
  case run => exact (enters _).ite ((h.fnDegrade p f).ite h)
  case locked => exact (enters _).ite h

theorem fnsEval (h : Elsewhere false u w) (p : Nat) : Elsewhere false u (w.fnsEval p) := by
  unfold Work.fnsEval
  exact (h.each _ fun k _ _ => (refl k).each _ fun k f _ => (refl k).fnStep p f).ite h

theorem eachFn (h : Elsewhere q u w) {g : Work → Nat → Nat → Work} (hg : ∀ k p f, Elsewhere q k (g k p f)) : Elsewhere q u (w.eachFn g) :=
  h.each _ fun k p _ => (refl k).each _ fun k f _ => hg k p f

theorem safeAct (h : Elsewhere false u w) : Elsewhere false u w.safeAct := by
  have evaluated : Elsewhere false u ((w.fnsEval 0).fnsEval 1) := (h.fnsEval 0).fnsEval 1
  exact (evaluated.each _ fun k n _ => (refl k).safeUpd _).safeShow

/-! The section as a whole (R271, R272) -/

theorem ssEnter (h : Elsewhere false u w) (ss : Nat) : Elsewhere false u (w.ssEnter ss) := by
  unfold Work.ssEnter
  extract_lets old put left
  have putE : Elsewhere false u put := h.safeUpd _
  have safeE : Elsewhere false u put.fnsSafe := putE.eachFn fun k p f => (refl k).fnState p f _
  have leaveE : Elsewhere false u put.fnsLeaveActive :=
    putE.eachFn fun k p f => (refl k).ite (((refl k).fnState p f _).ite (((refl k).fnState p f _).ite (refl k)))
  have leftE : Elsewhere false u left := safeE.ite (leaveE.ite putE)
  exact leftE.safeAct.when _ (leftE.safeAct.irq (by decide) _)

theorem safeModule (h : Elsewhere false u w) : Elsewhere false u w.safeModule := by
  unfold Work.safeModule
  exact (h.ssEnter _).ite ((h.ssEnter _).ite h.safeShow)

theorem safeBegin (h : Elsewhere false u w) : Elsewhere false u w.safeBegin := by
  unfold Work.safeBegin
  extract_lets s begun
  have begunE : Elsewhere false u begun := h.safeUpd _
  exact (begunE.safeShow.ite (begunE.ssEnter _)).ite h.safeShow

theorem keepalive (h : Elsewhere false u w) : Elsewhere false u w.keepalive := (h.safeUpd _).safeBegin

/-- PREQ.STOP takes the sealed OREADY on the entry into Ready (R274). -/
theorem safeReady (h : Elsewhere false u w) : Elsewhere false u w.safeReady :=
  ((h.put (away_safe (by decide) (by decide)) _ _).safeUpd _).safeAct

end Elsewhere

end Sys2Proof.Proofs
end

section
/-! PROOF. The trunks, the remote-I/O budget, the recorder, LANTERN and a loop's trimming work elsewhere. -/

namespace Sys2Proof.Proofs

open Sys2Proof.Machine Sys2Proof.Laws

/-- The registers of a trunk's block in which its states, errors and queue show. -/
theorem away_trk {t : Nat} (ht : t < 2) : Away (TRK.CFG t) ∧ Away (TRK.STAT t) ∧ Away (TRK.ERR t) ∧ Away (TRK.ERRCNT t) ∧ Away (TRK.QSTAT t) := by
  have block {a off : Nat} (h : a = 0x18000 + off + 0x1000 * t) (low : 0x40 ≤ off) (high : off < 0x1000) : Away a :=
    away_page (page := 0x18 + t) (by omega) (by omega) (by omega)
  exact ⟨block (off := 0x40) rfl (by decide) (by decide), block (off := 0x44) rfl (by decide) (by decide),
    block (off := 0x48) rfl (by decide) (by decide), block (off := 0x54) rfl (by decide) (by decide),
    block (off := 0x70) rfl (by decide) (by decide)⟩

theorem away_iosync {a : Nat} (h : a / 4096 = iosPage) (low : 0x40 ≤ a % 4096) : Away a := away_page h (by decide) (by omega)

theorem away_lantern {a : Nat} (low : 0x28040 ≤ a) (high : a < 0x29000) : Away a := away_page (page := 0x28) (by omega) (by decide) (by omega)

theorem trk_not_task {t : Nat} (ht : t < 2) : trkPage t ≠ taskPage := by
  unfold trkPage taskPage
  omega

namespace Elsewhere
variable {q : Bool} {u v w : Work}

/-! Trunks (R469, R472, R482) -/

theorem trkSet (h : Elsewhere q u w) (t : Nat) (g : TrkSt → TrkSt) : Elsewhere q u (w.trkSet t g) := by
  refine h.upd _ ?_
  split <;> rfl

theorem arbitrate (h : Elsewhere q u w) (t : Nat) : Elsewhere q u (w.arbitrate t) := by
  unfold Work.arbitrate
  extract_lets stamped offer chosen passive
  have stampedE : Elsewhere q u stamped := h.trkSet t _
  have chosenE : Elsewhere q u chosen := by
    unfold chosen
    split
    · exact stampedE.trkSet t _
    · exact stampedE
  exact (chosenE.trkSet t _).ite h

theorem queueFrame (h : Elsewhere q u w) {t : Nat} (ht : t < 2) (kind index : Nat) (data : List Byte) :
    Elsewhere q u (w.queueFrame t kind index data) := by
  obtain ⟨-, -, -, -, qstat⟩ := away_trk ht
  unfold Work.queueFrame
  extract_lets f queue counted queued
  have countedE : Elsewhere q u counted := h.put qstat _ _
  have queuedE : Elsewhere q u queued := (h.trkSet t _).ite ((h.trkSet t _).ite (countedE.emit _ _ _ _))
  exact h.ite ((queuedE.put qstat _ _).arbitrate t)

theorem queueBoth (h : Elsewhere q u w) (kind index : Nat) (data : List Byte) : Elsewhere q u (w.queueBoth kind index data) :=
  (h.queueFrame (by decide) kind index data).queueFrame (by decide) kind index data

theorem trkEnter (h : Elsewhere q u w) {t : Nat} (ht : t < 2) (st : Nat) : Elsewhere q u (w.trkEnter t st) := by
  obtain ⟨-, stat, err, errcnt, qstat⟩ := away_trk ht
  unfold Work.trkEnter
  extract_lets a old put shown told
  have putE : Elsewhere q u put := h.put stat _ _
  have shownE : Elsewhere q u shown := putE.when _ (putE.emit _ _ _ _)
  have toldE : Elsewhere q u told := shownE.when _ ((shownE.irq (trk_not_task ht) _).put errcnt _ _)
  refine ite ?restricted (ite ?active (ite ?passive (ite ?busoff (shownE.trkSet t _))))
  case restricted => exact ((shownE.put err _ _).put err _ _).trkSet t _
  case active => exact (shownE.put stat _ _).arbitrate t
  case passive => exact shownE.when _ (shownE.irq (trk_not_task ht) _)
  case busoff => exact (toldE.trkSet t _).put qstat _ _

theorem trkStart (h : Elsewhere q u w) {t : Nat} (ht : t < 2) : Elsewhere q u (w.trkStart t) := by
  unfold Work.trkStart
  exact (h.trkEnter ht _).ite (h.trkEnter ht _)

/-- A write to CFG of a trunk. -/
theorem trkWritten (h : Elsewhere q u w) {t : Nat} (ht : t < 2) (old : Word) : Elsewhere q u (w.trkWritten t (TRK.CFG t) old) := by
  obtain ⟨-, stat, -⟩ := away_trk ht
  obtain ⟨other, -⟩ := away_trk (t := 1) (by decide)
  unfold Work.trkWritten
  rw [if_pos rfl]
  extract_lets shown changed copied mode started
  have shownE : Elsewhere q u shown := h.put stat _ _
  have copiedE : Elsewhere q u copied := ((shownE.put other _ _).put other _ _).ite shownE
  have startedE : Elsewhere q u started :=
    (copiedE.trkStart ht).ite (.ite ((copiedE.trkEnter ht _).ite ((copiedE.trkEnter ht _).ite ((copiedE.trkEnter ht _).ite copiedE))) copiedE)
  exact startedE.when _ (startedE.trkStart (by decide))

theorem iosBudget (h : Elsewhere q u w) : Elsewhere q u w.iosBudget := by
  have block {a : Nat} (ha : a / 4096 = iosPage ∧ 0x40 ≤ a % 4096) : Away a := away_iosync ha.1 ha.2
  unfold Work.iosBudget
  extract_lets t inw outw p0 wd share slow tight load window
  have loadE : Elsewhere q u load := h.put (block (by decide)) _ _
  have windowE : Elsewhere q u window := (loadE.put (block (by decide)) _ _).put (block (by decide)) _ _
  exact h.ite (windowE.flagIrq (by decide) (block (by decide)) _ _ _)

/-- The trunks take the image's values on the entry into Ready (R482). -/
theorem readyTrunk (h : Elsewhere q u w) : Elsewhere q u w.readyTrunk := by
  unfold Work.readyTrunk
  refine h.each _ fun k t mem => ?_
  have ht : t < 2 := by
    simp only [List.mem_cons, List.not_mem_nil, or_false] at mem
    omega
  obtain ⟨cfg, -⟩ := away_trk ht
  exact (refl k).ite (((refl k).wr cfg _).trkWritten ht _).iosBudget

/-! The end of unlocks and of an episode (R63, R511) -/

theorem lockAll (h : Elsewhere q u w) : Elsewhere q u w.lockAll := by
  unfold Work.lockAll
  refine h.each _ fun k page _ => (refl k).regs ((keeps_lock k page).mono ?_) ?_
  · rintro a rfl
    exact away_hdr (by decide) (by decide) fun _ => ⟨by decide, by decide⟩
  · rcases x_lock k page with x | x <;> rw [x]
    rfl

theorem closeEpisode (h : Elsewhere q u w) (kind : Nat) (excl : Bool) : Elsewhere q u (w.closeEpisode kind excl) := by
  have stat : Away EVT.STAT := away_page (page := 0x14) rfl (by decide) (by decide)
  unfold Work.closeEpisode
  extract_lets s said keep kept rest left
  have saidE : Elsewhere q u said := h.emit _ _ _ _
  have keptE : Elsewhere q u kept := saidE.when _ (saidE.flagIrq (by decide) stat _ _ _)
  exact ((keptE.upd _ rfl).put stat _ _).ite h

/-! LANTERN (R556) -/

theorem lanternShow (h : Elsewhere q u w) : Elsewhere q u w.lanternShow := by
  unfold Work.lanternShow
  extract_lets m own pub codes shown
  have shownE : Elsewhere q u shown := h.put (away_lantern (by decide) (by decide)) _ _
  refine shownE.each _ fun k i mem => (refl k).ite ((refl k).wr ?_ _)
  have := List.mem_range.1 mem
  exact away_lantern (by unfold LANTERN.SHOWN; omega) (by unfold LANTERN.SHOWN; omega)

/-! An operation of another page ends; trimming ends with it (R141) -/

theorem opEnd (h : Elsewhere q u w) {page : Nat} (hp : page ≠ taskPage) (state reason : Nat) : Elsewhere q u (w.opEnd page state reason) := by
  refine h.regs ((keeps_opEnd w page state reason).mono ?_) ?_
  · rintro a (rfl | rfl | rfl) <;> exact away_hdr (by decide) (by decide) fun e => absurd e hp
  · rw [x_opEnd]
    split
    · have other (o : OpRun) : (decide (o.page ≠ page) && decide (o.page = taskPage)) = decide (o.page = taskPage) := by
        by_cases task : o.page = taskPage
        · simp [task, hp.symm]
        · simp [task]
      simp only [deskOf, List.find?_filter, Bool.decide_and, Bool.decide_eq_true, other]
    · rfl

theorem islSet (h : Elsewhere q u w) (n : Nat) (f : Isl → Isl) : Elsewhere q u (w.islSet n f) := h.upd _ rfl

theorem trimLeave (h : Elsewhere q u w) (n : Nat) : Elsewhere q u (w.trimLeave n false) := by
  have stat : Away (LOOP.STAT n) := away_shown (shown_stat n)
  have ended : Elsewhere q u (w.trimOver n) := (h.put stat _ _).islSet n _
  have left : w.trimLeave n false = (((w.trimOver n).islObey n ((w.trimOver n).islCommand n)).loopShow n).slateRequest 4 := by
    unfold Work.trimLeave
    cases w.op? (loopPage n) <;> rfl
  rw [left]
  exact ((ended.islObey n _).loopShow n).slateRequest _

theorem trimModeEnd (h : Elsewhere q u w) : Elsewhere q u w.trimModeEnd := by
  unfold Work.trimModeEnd
  split
  · exact h
  · rename_i n _
    exact h.ite ((h.trimLeave n).opEnd (by unfold loopPage taskPage; omega) _ _)

/-- The CALL outputs follow (R376). -/
theorem callOut (h : Elsewhere q u w) : Elsewhere q u w.callOut := by
  have callstat : Away BELFRY.CALLSTAT := away_bel (by decide) (by decide) (by decide)
  have timers : Away BELFRY.TIMERS := away_bel (by decide) (by decide) (by decide)
  unfold Work.callOut
  extract_lets c d cond sel bit opened states
  have openedE : Elsewhere q u opened := h.put callstat _ _
  have statesE : Elsewhere q u states := (openedE.put callstat _ _).put callstat _ _
  exact ((statesE.put timers _ _).put timers _ _).bstat BELFRY.BSTAT_EVALON _ (by decide)

end Elsewhere

end Sys2Proof.Proofs
end

section
/-! PROOF. The module enters Run, Hold, or Ready from one of them: of what Timetable's own rests on, its state follows, and of the program's
part nothing but its instances and the mark of a Hold entered from Ready. -/

namespace Sys2Proof.Proofs

open Sys2Proof.Machine Sys2Proof.Laws

/-- What a change of the module's state leaves beside the registers; with `q`, Belfry's part too. -/
def stayOf (q : Bool) (x : Inner) : Role × List (List (Nat × Word)) × ImgSt × TaskSt × Option BelfrySt :=
  (x.role, x.upsets, x.img, { x.task with run := [], holdReady := false }, bif q then some x.bel else none)

/-- From `u` to `w` the module has come to state `m`; with `q`, Belfry's part stands. -/
structure Turns (q : Bool) (m : Mode) (u w : Work) : Prop where
  kept : Keeps (fun a => ¬ Held a) u w
  split : w.get PROCTOR.STAT PROCTOR.STAT_SPLIT = u.get PROCTOR.STAT PROCTOR.STAT_SPLIT
  mode : w.x.mode = m
  stay : stayOf q w.x = stayOf q u.x

namespace Turns
variable {q : Bool} {m : Mode} {u v w : Work}

theorem get (h : Turns q m u w) {a : Nat} (ha : Held a) (f : Fld) : w.get a f = u.get a f := h.kept.get (not_not_intro ha) f
theorem role (h : Turns q m u w) : w.x.role = u.x.role := congrArg (·.1) h.stay
theorem upsets (h : Turns q m u w) : w.x.upsets = u.x.upsets := congrArg (·.2.1) h.stay
theorem task (h : Turns q m u w) : { w.x.task with run := [], holdReady := false } = { u.x.task with run := [], holdReady := false } :=
  congrArg (·.2.2.2.1) h.stay
theorem bel (h : Turns true m u w) : w.x.bel = u.x.bel := Option.some.inj (congrArg (·.2.2.2.2) h.stay)

theorem of_elsewhere (h : Elsewhere q u w) (hm : u.x.mode = m) : Turns q m u w :=
  ⟨h.kept, h.split, h.mode.trans hm, by
    unfold stayOf
    rw [h.role, h.upsets, h.img, h.task]
    exact congrArg (_, _, _, _, ·) (congrArg (·.2.2.2.2.2.2) h.desk)⟩
theorem trans {n : Mode} (h : Turns q n u v) (k : Turns q m v w) : Turns q m u w :=
  ⟨h.kept.trans k.kept, k.split.trans h.split, k.mode, k.stay.trans h.stay⟩
theorem elsewhere (h : Turns q m u v) (k : Elsewhere q v w) : Turns q m u w := h.trans (of_elsewhere k h.mode)
theorem after {t : Work} (h : Turns q m u w) (k : Elsewhere q t u) : Turns q m t w :=
  (of_elsewhere k rfl).trans h
theorem ite (h : Turns q m u v) (k : Turns q m u w) {c : Prop} {_ : Decidable c} : Turns q m u (if c then v else w) := by
  split <;> assumption
theorem when (h : Turns q m u w) (c : Bool) {f : Work → Work} (hf : Turns q m u (f w)) : Turns q m u (w.when c f) := by
  unfold Work.when
  exact hf.ite h
theorem upd (h : Turns q m u w) (g : Inner → Inner) (hm : (g w.x).mode = w.x.mode) (hg : stayOf q (g w.x) = stayOf q w.x) : Turns q m u (w.upd g) :=
  h.trans ⟨fun _ _ => rfl, rfl, hm.trans h.mode, hg⟩

/-- Instances that have not released are discarded (R297). -/
theorem discardTasks (h : Turns q m u w) : Turns q m u w.discardTasks := h.upd _ rfl rfl

end Turns

/-- The module shows the state it enters. -/
def modeShown (w : Work) (m : Mode) (why : Nat) : Work :=
  let w := w.upd fun x => { x with mode := m }
  let w := if modeCode m = 0 then w.put SYS.STATE SYS.STATE_STATE 0 else w.setState 0x000 noSub SYS.STATE SYS.STATE_STATE (modeCode m)
  w.put SYS.STATE SYS.STATE_HELDWHY (if m = .held then why else 0)

theorem turns_modeShown {q : Bool} (w : Work) (m : Mode) (why : Nat) : Turns q m w (modeShown w m why) := by
  have state : Away SYS.STATE := by
    unfold Away Held SYS.STATE PROCTOR.STAT BELFRY.BSTAT
    omega
  have mode : Turns q m w (w.upd fun x => { x with mode := m }) := ⟨fun _ _ => rfl, rfl, rfl, rfl⟩
  have refl := Elsewhere.refl (q := q) (w.upd fun x => { x with mode := m })
  unfold modeShown
  exact mode.elsewhere ((((refl.put state _ _).ite (refl.setState _ _ state _ _))).put state _ _)

/-- R17, R21, R63, R73: the state is shown, unlocks and the POWERUP episode end, and every block follows. Where Belfry's part is to stand the
module ends Failed, and the safety section has to leave it. -/
theorem turns_toMode_of {q : Bool} (w : Work) {m : Mode} (why : Nat)
    (h : q = false ∧ (m = .run ∨ m = .hold ∨ m = .ready ∧ (w.x.mode = .run ∨ w.x.mode = .hold)) ∨ m = .failed)
    (follows : ∀ v : Work, v.x.mode = m → Elsewhere q v v.safeModule) : Turns q m w (w.toMode m why) := by
  have tick : Away CTLENG.TICK ∧ Away CTLENG.TICKH :=
    ⟨away_page (page := 0x20) rfl (by decide) (by decide), away_page (page := 0x20) rfl (by decide) (by decide)⟩
  unfold Work.toMode
  extract_lets was entered stated shown asked marked closed discarded ready loaded sectioned alived ticked
  have shownT : Turns q m w shown := turns_modeShown w m why
  have askedT : Turns q m w asked := shownT.elsewhere (((Elsewhere.refl _).lockAll).slateRequest _)
  have markedT : Turns q m w marked := askedT.when _ (askedT.upd _ rfl rfl)
  have closedT : Turns q m w closed := markedT.when _ (markedT.elsewhere ((Elsewhere.refl _).closeEpisode _ _))
  have discardedT : Turns q m w discarded := closedT.when _ closedT.discardTasks
  have readyT : Turns q m w ready := by
    unfold ready Work.when
    split
    · rename_i isReady
      obtain rfl : m = .ready := of_decide_eq_true isReady
      obtain ⟨rfl, served⟩ : q = false ∧ (w.x.mode = .run ∨ w.x.mode = .hold) := by simpa using h
      dsimp only
      rw [if_pos served]
      exact discardedT.elsewhere (Elsewhere.refl _).readyTrunk.safeReady
    · exact discardedT
  have loadedT : Turns q m w loaded := readyT.when _ (readyT.elsewhere ((Elsewhere.refl _).each _ fun k t mem =>
    (Elsewhere.refl k).trkEnter (by have := (List.mem_filter.1 mem).1; simp at this; omega) _))
  have sectionedT : Turns q m w sectioned := loadedT.elsewhere (follows loaded loadedT.mode)
  have alivedT : Turns q m w alived := by
    unfold alived Work.when
    split
    · rename_i serves
      obtain rfl : q = false := by
        rcases h with ⟨rfl, -⟩ | rfl
        · rfl
        · simp at serves
      exact sectionedT.elsewhere (Elsewhere.refl _).keepalive
    · exact sectionedT
  have tickedT : Turns q m w ticked := alivedT.when _ (alivedT.elsewhere (((Elsewhere.refl _).wr tick.1 _).wr tick.2 _))
  exact shownT.ite (tickedT.elsewhere (Elsewhere.refl _).callOut.trimModeEnd.commandIslands.commandOutputs.lanternShow)

theorem turns_toMode (w : Work) {m : Mode} (why : Nat) (h : m = .run ∨ m = .hold ∨ m = .ready ∧ (w.x.mode = .run ∨ w.x.mode = .hold)) :
    Turns false m w (w.toMode m why) :=
  turns_toMode_of w why (.inl ⟨rfl, h⟩) fun v _ => (Elsewhere.refl v).safeModule

end Sys2Proof.Proofs
end

section
/-! PROOF. Belfry works elsewhere (chapter 11): an evaluation, and the publication of its result. -/

namespace Sys2Proof.Proofs

open Sys2Proof.Machine Sys2Proof.Laws

/-- The status words of a point's record. -/
theorem away_pt (pt : Nat) {a off : Nat} (h : a = 0x140080 + 0x100 * pt + off) (high : off < 0x80) : Away a :=
  away_page (page := a / 4096) rfl (by omega) (by omega)

theorem away_gstat {g : Nat} (hg : g < 1024) : Away (BELFRY.GSTAT g) := by
  unfold BELFRY.GSTAT
  exact away_bel (by omega) (by omega) (by unfold BELFRY.BSTAT; omega)

/-- A group's number fits its table. -/
theorem ptGroup_lt (w : Work) (pt : Nat) : w.ptGroup pt < 1024 := by
  unfold Work.ptGroup
  split
  · decide
  · have : w.get (PT.PCFG pt) PT.PCFG_GROUP < 2 ^ 6 := get_lt PT.PCFG_GROUP _ (by decide)
    omega

namespace Elsewhere
variable {q : Bool} {u v w : Work}

theorem belUpd (h : Elsewhere false u w) (g : BelfrySt → BelfrySt) : Elsewhere false u (w.belUpd g) := h.upd _ rfl
theorem paSet (h : Elsewhere false u w) (pt : Nat) (g : PtAux → PtAux) : Elsewhere false u (w.paSet pt g) := h.belUpd _

/-! Messages, call and watch (R374 to R378) -/

theorem sendAlarm (h : Elsewhere q u w) (pt : Nat) : Elsewhere q u (w.sendAlarm pt) := by
  unfold Work.sendAlarm
  exact (h.queueBoth _ _ _).ite h

theorem sendCall (h : Elsewhere q u w) : Elsewhere q u w.sendCall := by
  unfold Work.sendCall
  exact h.ite (h.queueBoth _ _ _)

theorem audible (h : Elsewhere q u w) (b : Bool) : Elsewhere q u (w.audible b) :=
  h.put (away_bel (by decide) (by decide) (by decide)) _ _

theorem watchTo (h : Elsewhere false u w) (st : Nat) : Elsewhere false u (w.watchTo st) := by
  unfold Work.watchTo
  extract_lets old now stated
  have statedE : Elsewhere false u stated := h.belUpd _
  exact statedE.callOut.ite (((statedE.emit _ _ _ _).irq (by decide) _).callOut.sendCall)

theorem watchStart (h : Elsewhere false u w) : Elsewhere false u w.watchStart := by
  unfold Work.watchStart
  exact (h.watchTo 1).ite h

theorem callTo (h : Elsewhere false u w) (st : Nat) : Elsewhere false u (w.callTo st) := by
  unfold Work.callTo
  extract_lets old now stated heard told
  have statedE : Elsewhere false u stated := h.belUpd _
  have heardE : Elsewhere false u heard := statedE.when _ (statedE.audible true)
  have toldE : Elsewhere false u told := ((heardE.emit _ _ _ _).irq (by decide) _).callOut.sendCall
  exact h.ite (toldE.when _ toldE.watchStart)

theorem callEval (h : Elsewhere false u w) : Elsewhere false u w.callEval := by
  unfold Work.callEval
  extract_lets any t called per pre
  have calledE : Elsewhere false u called := (h.callTo 0).ite ((h.callTo 1).ite ((h.callTo 2).ite h))
  exact (calledE.watchTo 2).ite ((calledE.watchTo 3).ite calledE)

/-! Points (R358 to R369) -/

theorem foShow (h : Elsewhere false u w) {g : Nat} (hg : g < 1024) : Elsewhere false u (w.foShow g) := by
  unfold Work.foShow
  extract_lets fo pts shown
  have shownE : Elsewhere false u shown := h.put (away_gstat hg) _ _
  exact shownE.each _ fun k pt _ => (refl k).put (away_pt pt (off := 0) (by unfold PT.PSTAT; omega) (by decide)) _ _

section
variable (pt : Nat)
theorem away_pstat : Away (PT.PSTAT pt) := away_pt pt (off := 0) (by unfold PT.PSTAT; omega) (by decide)
theorem away_offeff : Away (PT.OFFEFF pt) := away_pt pt (off := 4) (by unfold PT.OFFEFF; omega) (by decide)
theorem away_value : Away (PT.VALUE pt) := away_pt pt (off := 8) (by unfold PT.VALUE; omega) (by decide)
theorem away_traise : Away (PT.TRAISE pt) := away_pt pt (off := 12) (by unfold PT.TRAISE; omega) (by decide)
theorem away_tchg : Away (PT.TCHG pt) := away_pt pt (off := 16) (by unfold PT.TCHG; omega) (by decide)
theorem away_timer : Away (PT.TIMER pt) := away_pt pt (off := 20) (by unfold PT.TIMER; omega) (by decide)
theorem away_count : Away (PT.COUNT pt) := away_pt pt (off := 24) (by unfold PT.COUNT; omega) (by decide)
theorem away_ringctl : Away (PT.RINGCTL pt) := away_pt pt (off := 28) (by unfold PT.RINGCTL; omega) (by decide)
theorem away_ring {i : Nat} (hi : i < 8) : Away (PT.RING pt i) := away_pt pt (off := 32 + 4 * i) (by unfold PT.RING; omega) (by omega)
end

theorem chatterRaise (h : Elsewhere false u w) (pt : Nat) : Elsewhere false u (w.chatterRaise pt) := by
  have slot : w.get (PT.RINGCTL pt) PT.RINGCTL_RI < 2 ^ 3 := get_lt PT.RINGCTL_RI _ (by decide)
  unfold Work.chatterRaise
  extract_lets c chn t ri rung next nr counted span emptied off ceil up stepped
  have rungE : Elsewhere false u rung := h.wr (away_ring pt slot) _
  have countedE : Elsewhere false u counted := ((rungE.put (away_ringctl pt) _ _).put (away_ringctl pt) _ _).paSet pt _
  have emptiedE : Elsewhere false u emptied := countedE.put (away_ringctl pt) _ _
  have steppedE : Elsewhere false u stepped := (emptiedE.put (away_offeff pt) _ _).put (away_offeff pt) _ _
  refine h.ite (ite (ite ?up ?limit) countedE)
  case up => exact (steppedE.irq (by decide) _).emit _ _ _ _
  case limit => exact (emptiedE.put (away_pstat pt) _ _).emit _ _ _ _

theorem chatterQuiet (h : Elsewhere false u w) (pt : Nat) (elapsed : Bool) : Elsewhere false u (w.chatterQuiet pt elapsed) := by
  unfold Work.chatterQuiet
  extract_lets off dly a t lower stepped rested
  have steppedE : Elsewhere false u stepped := (h.put (away_offeff pt) _ _).paSet pt _
  have restedE : Elsewhere false u rested := steppedE.when _ (steppedE.put (away_pstat pt) _ _)
  exact ((restedE.irq (by decide) _).emit _ _ _ _).ite h

theorem toAstate (h : Elsewhere false u w) (pt st : Nat) (counted : Bool) : Elsewhere false u (w.toAstate pt st counted) := by
  unfold Work.toAstate
  extract_lets old put stamped l v recorded g fo first heard raised
  have putE : Elsewhere false u put := h.put (away_pstat pt) _ _
  have stampedE : Elsewhere false u stamped := (putE.wr (away_tchg pt) _).emit _ _ _ _
  have recordedE : Elsewhere false u recorded := putE.ite ((stampedE.emit _ _ _ _).emit _ _ _ _)
  have firstE : Elsewhere false u first := recordedE.when _ ((recordedE.belUpd _).foShow (ptGroup_lt _ pt))
  have heardE : Elsewhere false u heard := (firstE.irq (by decide) _).when _ ((firstE.irq (by decide) _).audible true)
  have raisedE : Elsewhere false u raised := (heardE.when _ (heardE.chatterRaise pt)).ite recordedE
  exact raisedE.ite (raisedE.sendAlarm pt)

theorem setRaised (h : Elsewhere false u w) (pt : Nat) (r : List Nat) (fresh : Bool) : Elsewhere false u (w.setRaised pt r fresh) := by
  unfold Work.setRaised
  extract_lets was top0 top mode held limited ranked raise higher again ret counted a
  have limitedE : Elsewhere false u limited := (h.paSet pt _).put (away_pstat pt) _ _
  have rankedE : Elsewhere false u ranked := limitedE.when _ (limitedE.put (away_pstat pt) _ _)
  have countedE : Elsewhere false u counted := rankedE.when _ ((rankedE.wr (away_traise pt) _).put (away_count pt) _ _)
  have enters (st : Nat) (b : Bool) : Elsewhere false u (counted.toAstate pt st b) := countedE.toAstate pt st b
  exact ite (countedE.when _ (countedE.emit _ _ _ _)) (.ite (enters _ _) (.ite (enters _ _) (.ite (.ite (enters _ _) (.ite (enters _ _) countedE)) countedE)))

theorem ptMode (h : Elsewhere false u w) (pt : Nat) : Elsewhere false u (w.ptMode pt) := by
  unfold Work.ptMode
  extract_lets a t ran unshelved b m rem timed old changed
  have unshelvedE : Elsewhere false u unshelved := h.when _ ((h.paSet pt _).irq (by decide) _)
  have timedE : Elsewhere false u timed := unshelvedE.put (away_timer pt) _ _
  have changedE : Elsewhere false u changed := (timedE.put (away_pstat pt) _ _).emit _ _ _ _
  exact timedE.ite (.ite ((changedE.sendAlarm pt).ite (changedE.toAstate pt _ _)) ((changedE.toAstate pt _ _).ite (changedE.sendAlarm pt)))

theorem ptEval (h : Elsewhere false u w) (cap : Work) (pt : Nat) : Elsewhere false u (w.ptEval cap pt) := by
  unfold Work.ptEval
  extract_lets t last fresh moded
  have modedE : Elsewhere false u moded := h.ptMode pt
  split
  rename_i next val qbad stale _
  extract_lets act since timed shown on off held ran up keep k first delayed raised
  have shownE : Elsewhere false u shown :=
    ((((modedE.paSet pt _).wr (away_value pt) _).put (away_pstat pt) _ _).put (away_pstat pt) _ _).put (away_pstat pt) _ _
  have delayedE : Elsewhere false u delayed := shownE.put (away_timer pt) _ _
  have raisedE : Elsewhere false u raised := delayedE.ite (delayedE.setRaised pt _ _)
  exact raisedE.chatterQuiet pt _

/-! Commands and group suppression (R366, R370) -/

theorem groupEval (h : Elsewhere false u w) (cap : Work) {g : Nat} (hg : g < 1024) : Elsewhere false u (w.groupEval cap g) := by
  unfold Work.groupEval
  extract_lets c a t was read word code bad level rel0 rel running sup held
  exact ((h.belUpd _).put (away_gstat hg) _ _).put (away_gstat hg) _ _

theorem ptAck (h : Elsewhere false u w) (pt : Nat) : Elsewhere false u (w.ptAck pt) := by
  unfold Work.ptAck
  exact ((h.toAstate pt _ _).put (away_count pt) _ _).ite (((h.toAstate pt _ _).put (away_count pt) _ _).ite h)

theorem foReset (h : Elsewhere false u w) {g : Nat} (hg : g < 1024) : Elsewhere false u (w.foReset g) := by
  unfold Work.foReset
  exact h.ite ((h.belUpd _).foShow hg)

theorem belApply (h : Elsewhere false u w) (c : Word) : Elsewhere false u (w.belApply c) := by
  have target : BELFRY.BCMD_TARGET.get c < 2 ^ 10 := get_lt BELFRY.BCMD_TARGET c (by decide)
  unfold Work.belApply
  extract_lets cmd scope arg tgt t normed
  have acked : Elsewhere false u (w.each (w.scopePoints scope tgt) fun w pt => w.ptAck pt) := h.each _ fun k pt _ => (refl k).ptAck pt
  have normedE : Elsewhere false u normed := h.each _ fun k pt _ => ((refl k).toAstate pt _ _).ite (refl k)
  have resetE : Elsewhere false u (if scope = 1 then normed.foReset tgt
      else if scope = 2 then normed.each (List.range 64) fun w g => w.foReset g else normed) :=
    (normedE.foReset target).ite ((normedE.each _ fun k g mem => (refl k).foReset (by have := List.mem_range.1 mem; omega)).ite normedE)
  have out : Elsewhere false u (if (w.pa tgt).oos then w else (w.paSet tgt fun a => { a with oos := true }).newInstance 1017) :=
    h.ite ((h.paSet tgt _).newInstance _)
  exact acked.ite ((h.audible _).ite ((h.paSet tgt _).ite ((h.paSet tgt _).ite (out.ite ((h.paSet tgt _).ite (resetE.ite (h.watchStart.ite
    ((h.watchTo 0).ite ((h.ite (h.watchTo 1)).ite ((h.put (away_bel (by decide) (by decide) (by decide)) _ _).ite h))))))))))

/-! An evaluation and its result (R351, R380, R387) -/

theorem belEval (h : Elsewhere false u w) (cap : Work) : Elsewhere false u (w.belEval cap) := by
  unfold Work.belEval
  extract_lets stby cs applied commanded evaluated t stamped restored
  have appliedE : Elsewhere false u applied := h.each _ fun k c _ => (refl k).belApply c
  have commandedE : Elsewhere false u commanded :=
    h.ite ((appliedE.belUpd _).each _ fun k g mem => (refl k).groupEval cap (by have := List.mem_range.1 mem; omega))
  have evaluatedE : Elsewhere false u evaluated := commandedE.each _ fun k pt _ => (refl k).ptEval cap pt
  have stampedE : Elsewhere false u stamped := evaluatedE.belUpd _
  have heardE : Elsewhere false u (stamped.when (!stby) fun w => w.audible (decide (w.callPoints ≠ []))) :=
    stampedE.when _ (stampedE.audible (decide (stamped.callPoints ≠ [])))
  have restoredE : Elsewhere false u restored := stampedE.when _ (heardE.belUpd _)
  exact restoredE.ite restoredE.callEval

theorem belPublish (h : Elsewhere false u w) : Elsewhere false u w.belPublish := by
  have block {a : Nat} (low : 0x24040 ≤ a) (high : a < 0x26000) (hb : a ≠ BELFRY.BSTAT) : Away a := away_bel low high hb
  unfold Work.belPublish
  extract_lets pts count act un map c1 c2 c3 am nalm counted mapped grouped
  have countedE : Elsewhere false u counted := ((h.wr (block (by decide) (by decide) (by decide)) _).wr (block (by decide) (by decide) (by decide)) _).wr
    (block (by decide) (by decide) (by decide)) _
  have mappedE : Elsewhere false u mapped := countedE.each _ fun k e mem => by
    obtain ⟨i, hi, rfl⟩ := List.mem_map.1 mem
    have := List.mem_range.1 hi
    refine ((refl k).wr (block ?_ ?_ ?_) _).wr (block ?_ ?_ ?_) _ <;> simp only [BELFRY.ACTMAP, BELFRY.UNAMAP, BELFRY.BSTAT] <;> omega
  have groupedE : Elsewhere false u grouped := mappedE.each _ fun k g mem =>
    (refl k).put (away_gstat (by have := List.mem_range.1 mem; omega)) _ _
  exact groupedE.callOut

theorem belKeep (h : Elsewhere false u w) (timers : Bool) : Elsewhere false u (w.belKeep timers) := by
  unfold Work.belKeep
  exact h.belUpd _

theorem belResult (h : Elsewhere false u w) : Elsewhere false u w.belResult := h.belPublish.belKeep false

theorem lanternPub (h : Elsewhere q u w) : Elsewhere q u w.lanternPub := (h.upd _ rfl).lanternShow

end Elsewhere

end Sys2Proof.Proofs
end

section
/-! PROOF. Proctor at a main boundary works elsewhere but for the open checkpoint: places, receivers, passes, and its view (R406 to R421). -/

namespace Sys2Proof.Proofs

open Sys2Proof.Machine Sys2Proof.Laws

/-- A register of a Form's page. -/
theorem away_form {a f : Nat} (hf : f < 4) (page : a / 4096 = 8 + f) (low : 0x40 ≤ a % 4096) : Away a :=
  away_page page (by omega) (by omega)

/-- Proctor's block but STAT. -/
theorem away_proctor {a : Nat} (low : 0xc048 ≤ a) (high : a < 0xd000) : Away a := by
  unfold Away Held PROCTOR.STAT BELFRY.BSTAT
  omega

theorem away_state : Away SYS.STATE := by
  unfold Away Held SYS.STATE PROCTOR.STAT BELFRY.BSTAT
  omega

theorem proctor_not_task : proctorPage ≠ taskPage := by decide

theorem form_not_task {f : Nat} (hf : f < 4) : formPage f ≠ taskPage := by
  unfold formPage taskPage
  omega

theorem mem_formsIn {w : Work} {f p : Nat} (h : f ∈ w.formsIn p) : f < 4 := by
  unfold Work.formsIn allForms at h
  have := (List.mem_filter.1 h).1
  simp only [List.mem_cons, List.not_mem_nil, or_false] at this
  omega

namespace Elsewhere
variable {q : Bool} {u v w : Work}

/-- Proctor's view with SPLIT as it stood. -/
theorem procStat (h : Elsewhere q u w) {n : Word} (hn : PROCTOR.STAT_SPLIT.get n = w.get PROCTOR.STAT PROCTOR.STAT_SPLIT) :
    Elsewhere q u (w.wr PROCTOR.STAT n) := by
  have free : ¬ Held PROCTOR.STAT := by
    unfold Held PROCTOR.STAT
    omega
  exact h.trans ⟨keeps_wr w _ _ free, by rw [get_wr_same, hn], get_wr_ne _ _ _ _ _ (by decide), rfl⟩

theorem procUpd (h : Elsewhere q u w) (g : ProcSt → ProcSt) : Elsewhere q u (w.procUpd g) := h.upd _ rfl

theorem recnextShow (h : Elsewhere q u w) : Elsewhere q u w.recnextShow := by
  unfold Work.recnextShow
  exact h.ite (h.wr (away_proctor (by decide) (by decide)) _)

theorem procShow (h : Elsewhere q u w) : Elsewhere q u w.procShow := by
  have field {f : Fld} {n : Word} {k : Nat} (hn : PROCTOR.STAT_SPLIT.get n = w.get PROCTOR.STAT PROCTOR.STAT_SPLIT)
      (d : f.lo + f.w ≤ PROCTOR.STAT_SPLIT.lo) : PROCTOR.STAT_SPLIT.get (f.set n k) = w.get PROCTOR.STAT PROCTOR.STAT_SPLIT := by
    rw [get_set_other _ _ _ _ (by decide) (.inr d), hn]
  unfold Work.procShow
  extract_lets a voters joining resting excluded places stat service n
  have placesG : PROCTOR.STAT_SPLIT.get places = w.get PROCTOR.STAT PROCTOR.STAT_SPLIT :=
    field (field (field (field rfl (by decide)) (by decide)) (by decide)) (by decide)
  have statE : Elsewhere q u stat := h.ite (h.procStat placesG)
  have serviceE : Elsewhere q u service := by
    unfold service Work.setState
    exact statE.ite ((statE.procStat (get_set_other _ _ _ _ (by decide) (.inr (by decide)))).emit _ _ _ _)
  exact (serviceE.ite (serviceE.put away_state _ _)).recnextShow

/-- A Form takes another place than that of the excluded. -/
theorem setPlace (h : Elsewhere q u w) {f : Nat} (hf : f < 4) {p : Nat} (stays : p ≠ plExcluded) : Elsewhere q u (w.setPlace f p) := by
  have fstat : Away (FORM.FSTAT f) := away_form hf (by unfold FORM.FSTAT; omega) (by unfold FORM.FSTAT; omega)
  have marks : Away BIST.FORMSTAT := away_page (page := 4) rfl (by decide) (by decide)
  unfold Work.setPlace
  rw [decide_eq_false stays]
  extract_lets was placed marked told
  have placedE : Elsewhere q u placed := (h.setState _ _ fstat _ _).irq (form_not_task hf) _
  have markedE : Elsewhere q u marked := (placedE.put marks _ _).ite placedE
  exact h.ite markedE.procShow

/-! Receivers and passes (R409, R414) -/

theorem passSet (h : Elsewhere q u w) (l : List Pass) : Elsewhere q u (w.passSet l) := by
  unfold Work.passSet
  extract_lets old held boxes
  have heldE : Elsewhere q u held := (h.procUpd _).put (away_proctor (by decide) (by decide)) _ _
  refine heldE.each _ fun k r mem => (refl k).put ?_ _ _
  have box := (List.mem_filter.1 mem).2
  simp only [Bool.and_eq_true, decide_eq_true_eq] at box
  exact away_page (page := 0x18 + (r - 512) / 64) (by unfold TRK.MBSTAT; omega) (by omega) (by unfold TRK.MBSTAT; omega)

theorem claim (h : Elsewhere q u w) (f r : Nat) : Elsewhere q u (w.claim f r) := by
  unfold Work.claim
  refine h.ite ?_
  split
  · exact h.passSet _
  · exact h.ite (h.passSet _)

theorem rotEnd (h : Elsewhere q u w) (state reason : Nat) : Elsewhere q u (w.rotEnd state reason) := by
  unfold Work.rotEnd
  split
  · exact h
  · extract_lets t ended
    have endedE : Elsewhere q u ended := (h.procUpd _).irq proctor_not_task _
    exact (endedE.when _ (endedE.opEnd proctor_not_task _ _)).recnextShow

theorem outEnd (h : Elsewhere q u w) (f : Nat) : Elsewhere q u (w.outEnd f) := by
  unfold Work.outEnd
  exact ((h.procUpd _).closeEpisode _ _).ite h

theorem beginResync (h : Elsewhere q u w) {f : Nat} (hf : f < 4) : Elsewhere q u (w.beginResync f) := by
  have resync : Away (FORM.RESYNC f) := away_form hf (by unfold FORM.RESYNC; omega) (by unfold FORM.RESYNC; omega)
  unfold Work.beginResync
  split
  · exact h
  · extract_lets left joined
    have leftE : Elsewhere q u left := by
      unfold left
      split
      · exact (h.rotEnd _ _).ite h
      · exact h
    exact ((((leftE.procUpd _).put resync _ _).setPlace hf (by decide)).outEnd f).claim _ _

theorem refill (h : Elsewhere q u w) : Elsewhere q u (w.refill []) := by
  unfold Work.refill
  extract_lets want
  refine h.ite ?_
  split
  · rename_i f _ found
    exact h.beginResync (mem_formsIn (p := plIdle) (by rw [found]; exact .head _))
  · rename_i none
    simp at none
  · exact h

end Elsewhere

/-- Where nothing waits for the boundary, Proctor acts on the places alone: Forms beyond three rest, and a free place is filled. -/
theorem elsewhere_procBoundary {q : Bool} (w : Work) (fallback : w.x.proc.fbNext = false) (bank : w.x.proc.moveBank = false) (late : w.x.proc.latNext = [])
    (rot : w.x.proc.rot = none) (resync : w.x.proc.resync = []) : Elsewhere q w w.procBoundary := by
  have join (k : Work) (h : k.x.proc.resync = []) : k.procJoin = k := by
    unfold Work.procJoin
    rw [h]
    rfl
  unfold Work.procBoundary
  extract_lets fell moved diverged cleared turned joined many rested filled counted
  have fellE : fell = w := if_neg (by rw [fallback]; decide)
  have movedE : moved = w := by
    unfold moved
    rw [fellE]
    exact if_neg (by rw [bank]; decide)
  have divergedE : diverged = w := by
    unfold diverged
    rw [movedE, late]
    rfl
  have clearedX : cleared.x.proc = { w.x.proc with latNext := [] } := by
    unfold cleared
    rw [divergedE]
    rfl
  have turnedE : turned = cleared := by
    unfold turned
    rw [clearedX]
    simp only [rot]
  have joinedE : joined = cleared := by
    unfold joined
    rw [turnedE, join]
    rw [clearedX, resync]
  have clearedE : Elsewhere q w cleared := by
    unfold cleared
    rw [divergedE]
    exact (Elsewhere.refl w).procUpd _
  have restedE : Elsewhere q w rested := by
    unfold rested
    rw [joinedE]
    refine Elsewhere.ite (clearedE.each _ fun k f mem => ?_) clearedE
    exact (Elsewhere.refl k).setPlace (mem_formsIn (p := plVoting) (List.mem_of_mem_drop mem)) (by decide)
  have filledE : Elsewhere q w filled := restedE.ite restedE.refill
  exact (filledE.put (away_proctor (by decide) (by decide)) _ _).procShow

/-! The capture and the start frame (R291, R295, R310, R312) -/

namespace Elsewhere
variable {q : Bool} {u v w : Work}

theorem irqsumNow (h : Elsewhere q u w) : Elsewhere q u w.irqsumNow := by
  unfold Work.irqsumNow
  refine h.each _ fun k i mem => (refl k).wr ?_ _
  have := List.mem_range.1 mem
  unfold Away Held TASK.IRQSUM PROCTOR.STAT BELFRY.BSTAT
  omega

theorem iosCapture (h : Elsewhere q u w) : Elsewhere q u w.iosCapture := by
  have block {a : Nat} (ha : a / 4096 = iosPage ∧ 0x40 ≤ a % 4096) : Away a := away_iosync ha.1 ha.2
  unfold Work.iosCapture
  extract_lets first ran seen
  have seenE : Elsewhere q u seen := by
    refine h.each _ fun k s mem => ?_
    have few : s < 32 := by
      have := List.mem_range.1 mem
      unfold Work.nsta at this
      omega
    have sstat : Away (IOSYNC.SSTAT s) := block (by unfold IOSYNC.SSTAT iosPage; omega)
    have scnt : Away (IOSYNC.SCNT s) := block (by unfold IOSYNC.SCNT iosPage; omega)
    extract_lets x good old code a shown missed lost mapped
    have shownE : Elsewhere q k shown := (((refl k).put sstat _ _).put sstat _ _).put sstat _ _
    have missedE : Elsewhere q k missed := shownE.when _ (shownE.put sstat _ _)
    have lostE : Elsewhere q k lost := missedE.when _ ((missedE.put scnt _ _).irq (by decide) _)
    exact (lostE.put (block (by decide)) _ _).iosUpd _
  exact h.ite (seenE.iosUpd _)

theorem iosStart (h : Elsewhere q u w) : Elsewhere q u w.iosStart := by
  unfold Work.iosStart
  extract_lets runs begun shown cycle
  have shownE : Elsewhere q u shown := (h.iosUpd _).put (away_iosync rfl (by decide)) _ _
  exact (h.iosUpd _).ite (shownE.when _ (shownE.queueBoth _ _ _))

end Elsewhere

end Sys2Proof.Proofs
end

section
/-! PROOF. The main boundary of a calm module (R290, R291, R295): the cycle is counted, the capture made, what is due done, the tasks released. -/

namespace Sys2Proof.Proofs

open Sys2Proof.Machine Sys2Proof.Laws

/-! The cycle and the capture -/

/-- The cycle is counted. -/
def counted (w : Work) : Work := w.wr64 TASK.CYCLE TASK.CYCLEH (w.cycle + 1)

/-- The cycle is counted, and the snapshot taken. -/
def captured (w : Work) (snap : Snapshot) : Work := (counted w).taskUpd fun t => { t with snap := snap, released := false }

theorem cycle_counted (w : Work) : (counted w).cycle = (w.cycle + 1) % 2 ^ 64 := by
  unfold counted Work.cycle Work.rd64 Work.wr64
  rw [rd_wr, if_neg (by decide), rd_wr, if_pos rfl, rd_wr, if_pos rfl]
  simp only [BitVec.toNat_ofNat]
  omega

theorem rd_counted (w : Work) {a : Nat} (ha : a ≠ TASK.CYCLE ∧ a ≠ TASK.CYCLEH) : (counted w).rd a = w.rd a := by
  unfold counted Work.wr64
  rw [rd_wr, if_neg ha.2.symm, rd_wr, if_neg ha.1.symm]

theorem get_counted (w : Work) {a : Nat} (ha : a ≠ TASK.CYCLE ∧ a ≠ TASK.CYCLEH) (f : Fld) : (counted w).get a f = w.get a f := by
  unfold Work.get
  rw [rd_counted w ha]

section
variable (w : Work) (snap : Snapshot)
theorem taskUpd_taskUpd (f g : TaskSt → TaskSt) : (w.taskUpd f).taskUpd g = w.taskUpd fun t => g (f t) := rfl
theorem cycle_taskUpd (g : TaskSt → TaskSt) : (w.taskUpd g).cycle = w.cycle := rfl
theorem cycle_captured : (captured w snap).cycle = (w.cycle + 1) % 2 ^ 64 := by rw [captured, cycle_taskUpd, cycle_counted]
theorem rd_captured {a : Nat} (ha : a ≠ TASK.CYCLE ∧ a ≠ TASK.CYCLEH) : (captured w snap).rd a = w.rd a := by
  rw [captured, rd_taskUpd, rd_counted w ha]
theorem get_captured {a : Nat} (ha : a ≠ TASK.CYCLE ∧ a ≠ TASK.CYCLEH) (f : Fld) : (captured w snap).get a f = w.get a f := by
  rw [captured, get_taskUpd, get_counted w ha]
theorem x_captured : (captured w snap).x = { w.x with task := { w.x.task with snap := snap, released := false } } := by
  rw [captured, x_taskUpd]
  rfl
end

theorem held_value {n : Nat} (hn : n < 48) : Held (LOOP.VALUE n) := by
  unfold Held LOOP.VALUE
  omega

namespace Elsewhere
variable {q : Bool} {u v w : Work}

theorem taskUpd (h : Elsewhere q u w) (g : TaskSt → TaskSt) : Elsewhere q (u.taskUpd g) (w.taskUpd g) :=
  ⟨h.kept, h.split, h.retries, congrArg (fun d => (d.1, d.2.1, d.2.2.1, g d.2.2.2.1, d.2.2.2.2)) h.desk⟩

theorem cycle (h : Elsewhere q u w) : w.cycle = u.cycle := by
  unfold Work.cycle Work.rd64
  rw [h.rd (held_task rfl (by decide)), h.rd (held_task rfl (by decide))]

/-- Another part of the module follows the capture. -/
theorem netUpd (h : Elsewhere q u w) (g : NetSt → NetSt) : Elsewhere q u (w.netUpd g) := h.upd _ rfl

/-- The snapshot's words beside the stations' and the mailboxes' data: every register as it stands. -/
theorem regsGet_now (w : Work) (a : Nat) : regsGet (regsCommit w.log w.base) a = w.rd a := regsGet_commit _ _ _

/-- The capture: what it reads of the loops' values is what the registers hold. -/
theorem capture (h : Elsewhere q (counted w) v) : ∃ snap, Elsewhere q (captured w snap) v.capture
    ∧ ∀ n < 48, regsGet snap.regs (LOOP.VALUE n) = w.rd (LOOP.VALUE n) := by
  have summed : Elsewhere q (counted w) v.irqsumNow.iosCapture := h.irqsumNow.iosCapture
  unfold Work.capture Work.notifyFall
  generalize v.irqsumNow.iosCapture = k at summed
  extract_lets read snap filled
  refine ⟨snap, ((summed.taskUpd fun t => { t with snap := snap, released := false }).netUpd _), fun n hn => ?_⟩
  have place : LOOP.VALUE n ≠ TASK.CYCLE ∧ LOOP.VALUE n ≠ TASK.CYCLEH := by
    unfold LOOP.VALUE TASK.CYCLE TASK.CYCLEH
    omega
  rw [regsGet_now k, summed.rd (held_value hn), rd_counted w place]

/-- A later snapshot takes the place of the first. -/
theorem resnap {snap other : Snapshot} (h : Elsewhere q (captured w snap) v) :
    Elsewhere q (captured w other) (v.taskUpd fun t => { t with snap := other }) := by
  have again : (captured w snap).taskUpd (fun t => { t with snap := other }) = captured w other := taskUpd_taskUpd ..
  exact again ▸ h.taskUpd fun t => { t with snap := other }

/-- Forces replace captured words. -/
theorem snapForces {snap : Snapshot} (h : Elsewhere q (captured w snap) v) : ∃ forced, Elsewhere q (captured w forced) v.snapForces
    ∧ (w.x.task.forces = [] → forced.regs = snap.regs) := by
  have task : v.x.task = { w.x.task with snap := snap, released := false } := by rw [h.task, x_captured]
  have none (free : w.x.task.forces = []) : v.x.task.forces = [] := by
    rw [task]
    exact free
  have taken : v.x.task.snap = snap := by rw [task]
  refine ⟨_, h.resnap (other := { regs := v.x.task.forces.foldl (fun l e => snapForce l e.2.1 e.2.2) v.x.task.snap.regs
                                  stations := v.x.task.snap.stations.map fun e => (e.1, v.forceData false false e.1 e.2)
                                  mail := v.x.task.snap.mail.map fun e => (e.1, v.forceData false true e.1 e.2) }), fun free => ?_⟩
  dsimp only
  rw [none free, taken]
  rfl

end Elsewhere

/-! What follows the capture -/

/-- The boundary after the capture `cap`. -/
def afterCapture (cap : Work) : Work :=
  let w := cap.taskDue.snapForces.iosStart
  let w := w.when (decide (w.x.role ≠ .solo)) fun w => w.sendHeartbeat
  (w.when w.belDue fun w => w.belBoundary cap).releaseTasks

/-- A module with no partner sends no heartbeat of its own to one. -/
theorem afterCapture_solo {cap : Work} (solo : cap.taskDue.snapForces.iosStart.x.role = .solo) : afterCapture cap =
    ((cap.taskDue.snapForces.iosStart).when cap.taskDue.snapForces.iosStart.belDue fun w => w.belBoundary cap).releaseTasks := by
  unfold afterCapture
  dsimp only
  rw [solo]
  rfl

/-- Where no checkpoint is open, none closes. -/
theorem tryClose_shut {w : Work} (last : Bool) (shut : w.x.proc.isOpen = false) : w.tryClose last = w := by
  unfold Work.tryClose
  exact if_pos (.inl shut)

section
variable {s : State} (calm : Calm s)
include calm

/-- Proctor acts on the places alone; work elsewhere. -/
theorem calm_procBoundary {q : Bool} : Elsewhere q (counted (begin s)) (counted (begin s)).procBoundary := by
  obtain ⟨-, -, -, -, rot, -, late, fallback, bank, resync, -⟩ := calm
  exact elsewhere_procBoundary _ fallback bank late rot resync

/-- In the states that have boundaries a calm module captures, and goes on (R290). -/
theorem mainBoundary_calm (mode : [Mode.held, .ready, .run, .hold].contains s.x.mode = true) :
    mainBoundary (begin s) = afterCapture (counted (begin s)).procBoundary.capture := by
  have opened := calm_procBoundary (q := false) calm
  obtain ⟨solo, alone, -, shut, -⟩ := calm
  have window : (begin s).procWindowEnds = begin s := by
    unfold Work.procWindowEnds
    rw [tryClose_shut true shut, ite_self]
  have openedMode : (counted (begin s)).procBoundary.x.mode = s.x.mode := opened.mode
  have pair : (counted (begin s)).procBoundary.pairBoundary = (counted (begin s)).procBoundary := by
    unfold Work.pairBoundary
    refine if_pos ⟨?_, opened.role.trans solo⟩
    have cfg : (counted (begin s)).procBoundary.get PAIR.CFG PAIR.CFG_PAIRED = (begin s).get PAIR.CFG PAIR.CFG_PAIRED := by
      rw [opened.get (.inr (.inr (.inl (by decide)))), get_counted _ (by decide)]
    unfold Work.paired Work.flag at alone ⊢
    rw [cfg]
    exact alone
  have up : (counted (begin s)).procBoundary.alive = true := by
    unfold Work.alive
    rw [openedMode]
    revert mode
    cases s.x.mode <;> decide
  unfold mainBoundary
  rw [x_begin, if_neg (by rw [mode]; decide), window]
  dsimp only
  rw [← counted, pair, if_neg (by rw [up]; decide)]
  rfl

end

end Sys2Proof.Proofs
end

section
/-! PROOF. The release of the tasks at a main boundary (R290, R296, R299), and Belfry's evaluation at it (R351, R353). -/

namespace Sys2Proof.Proofs

open Sys2Proof.Machine Sys2Proof.Laws

/-- A status flag is the recorder's matter, beside the registers. -/
theorem x_setFlag (w : Work) (page sub a : Nat) (f : Fld) (l : Bool) : ∃ e, (w.setFlag page sub a f l).x = { w.x with evt := e } := by
  unfold Work.setFlag
  split
  · exact ⟨_, rfl⟩
  · exact ⟨_, x_emit ..⟩

/-! Release: STAT's overrun flags, the instances, the checkpoint that opens -/

/-- From `u` to `w` tasks were released. -/
structure Released (u w : Work) : Prop where
  kept : Keeps (fun a => a = TASK.STAT ∨ evtRegs a) u w
  stat : ∀ f : Fld, f.lo + f.w ≤ 24 → w.get TASK.STAT f = u.get TASK.STAT f
  mode : w.x.mode = u.x.mode
  role : w.x.role = u.x.role
  task : { w.x.task with run := [] } = { u.x.task with run := [] }

namespace Released
variable {u v w : Work}

theorem refl (w : Work) : Released w w := ⟨.refl _ _, fun _ _ => rfl, rfl, rfl, rfl⟩
theorem trans (h : Released u v) (k : Released v w) : Released u w :=
  ⟨h.kept.trans k.kept, fun f hf => (k.stat f hf).trans (h.stat f hf), k.mode.trans h.mode, k.role.trans h.role,
    k.task.trans h.task⟩
theorem ite (h : Released u v) (k : Released u w) {c : Prop} {_ : Decidable c} : Released u (if c then v else w) := by
  split <;> assumption
theorem each {α : Type} (h : Released u w) (l : List α) {f : Work → α → Work} (hf : ∀ v e, Released v (f v e)) : Released u (w.each l f) :=
  List.foldlRecOn l f h fun v k e _ => k.trans (hf v e)

theorem get (h : Released u w) {a : Nat} (page : a / 4096 ≠ 0x14) (ha : a ≠ TASK.STAT) (f : Fld) : w.get a f = u.get a f :=
  h.kept.get (fun k => k.elim ha fun e => by rcases e with rfl | rfl <;> exact page (by decide)) f

theorem of_x (h : Released u v) (rd : ∀ a, w.rd a = v.rd a) (mode : w.x.mode = v.x.mode) (role : w.x.role = v.x.role) 
    (task : { w.x.task with run := [] } = { v.x.task with run := [] }) : Released u w :=
  h.trans ⟨fun a _ => rd a, fun f _ => by unfold Work.get; rw [rd], mode, role, task⟩

/-- The overrun of a task that trapped is over. -/
theorem overrunOver (h : Released u w) (i : Nat) : Released u (w.setFlag taskPage i TASK.STAT ⟨24 + i, 1⟩ false) := by
  obtain ⟨_, x⟩ := x_setFlag w taskPage i TASK.STAT ⟨24 + i, 1⟩ false
  refine h.trans ⟨fun a ha => ?_, fun f hf => ?_, by rw [x], by rw [x], by rw [x]⟩
  · rw [not_or] at ha
    exact rd_setFlag _ _ _ _ _ _ _ ⟨⟨fun e => ha.2 (.inl e), fun e => ha.2 (.inr e)⟩, ha.1⟩
  · exact get_setFlag_other _ _ _ _ _ _ _ (by decide) (by omega) (.inl (by show f.lo + f.w ≤ 24 + i; omega))

theorem trunSet (h : Released u w) (i : Nat) (g : TaskRun → TaskRun) : Released u (w.trunSet i g) :=
  h.of_x (fun _ => rfl) rfl rfl rfl

theorem taskBegin (h : Released u w) (i : Nat) : Released u (w.taskBegin i) := by
  unfold Work.taskBegin Work.when
  exact ((h.overrunOver i).ite h).trunSet i _

theorem procOpen (h : Released u w) : Released u w.procOpen := h.of_x (fun _ => rfl) rfl rfl rfl

theorem releaseLower (h : Released u w) (i : Nat) : Released u (w.releaseLower i) := by
  unfold Work.releaseLower
  exact h.ite (h.taskBegin i)

end Released

/-- Without a split the tasks of the cycle are released, and nothing else is done. -/
theorem releaseTasks_whole {w : Work} (whole : w.get PROCTOR.STAT PROCTOR.STAT_SPLIT = 0) : w.releaseTasks =
    if w.executes = false then w
    else (if (w.trun 0).running then w else (w.taskBegin 0).procOpen).each [1, 2, 3] Work.releaseLower := by
  unfold Work.releaseTasks
  exact if_neg fun h => by
    obtain ⟨-, -, -, split⟩ := h
    simp [Work.flag, whole] at split

theorem released {w : Work} (whole : w.get PROCTOR.STAT PROCTOR.STAT_SPLIT = 0) : Released w w.releaseTasks := by
  rw [releaseTasks_whole whole]
  have main : Released w (if (w.trun 0).running then w else (w.taskBegin 0).procOpen) :=
    (Released.refl w).ite ((Released.refl w).taskBegin 0).procOpen
  exact (Released.refl w).ite (main.each _ fun k i => (Released.refl k).releaseLower i)

/-! T0 and its checkpoint -/

section
variable (w : Work) (i : Nat)

theorem x_overrunOver : ∃ e, (w.when (w.flag TASK.STAT ⟨20 + i, 1⟩) fun w => w.setFlag taskPage i TASK.STAT ⟨24 + i, 1⟩ false).x = { w.x with evt := e } := by
  unfold Work.when
  split
  · exact x_setFlag ..
  · exact ⟨_, rfl⟩

theorem proc_taskBegin : (w.taskBegin i).x.proc = w.x.proc := by
  obtain ⟨_, x⟩ := x_overrunOver w i
  have proc := congrArg (fun x : Inner => x.proc) x
  exact proc

theorem trun_taskBegin (j : Nat) : ((w.taskBegin i).trun j) = if i = j
    then { w.trun i with running := true, relAt := w.cycle, late := false, snap := if i = 0 then {} else w.x.task.snap } else w.trun j := by
  obtain ⟨_, x⟩ := x_overrunOver w i
  have run := congrArg (fun x : Inner => x.task.run) x
  unfold Work.taskBegin Work.trun Work.trunSet
  dsimp only
  rw [x_taskUpd]
  dsimp only at run ⊢
  rw [tabGet_tabSet, run]
end

/-- A lower task's release leaves T0 and the checkpoint. -/
theorem releaseLower_main (w : Work) {i : Nat} (lower : i ≠ 0) : (w.releaseLower i).trun 0 = w.trun 0 ∧ (w.releaseLower i).x.proc = w.x.proc := by
  unfold Work.releaseLower
  split
  · exact ⟨rfl, rfl⟩
  · exact ⟨by rw [trun_taskBegin, if_neg lower], proc_taskBegin w i⟩

/-- An idle T0 is released in this cycle, and its checkpoint opens. -/
theorem releaseTasks_main {w : Work} (whole : w.get PROCTOR.STAT PROCTOR.STAT_SPLIT = 0) (runs : w.executes = true)
    (idle : (w.trun 0).running = false) : (w.releaseTasks.trun 0).running = true ∧ (w.releaseTasks.trun 0).relAt = w.cycle
      ∧ w.releaseTasks.x.proc.isOpen = true ∧ w.releaseTasks.x.proc.cps = [] := by
  rw [releaseTasks_whole whole, if_neg (by rw [runs]; decide), if_neg (by rw [idle]; decide)]
  have begun : (((w.taskBegin 0).procOpen).trun 0) = (w.taskBegin 0).trun 0 := rfl
  obtain ⟨main, proc⟩ : (((w.taskBegin 0).procOpen.each [1, 2, 3] Work.releaseLower).trun 0 = (w.taskBegin 0).trun 0)
      ∧ ((w.taskBegin 0).procOpen.each [1, 2, 3] Work.releaseLower).x.proc = (w.taskBegin 0).procOpen.x.proc :=
    List.foldlRecOn (motive := fun v : Work => v.trun 0 = (w.taskBegin 0).trun 0 ∧ v.x.proc = (w.taskBegin 0).procOpen.x.proc) [1, 2, 3] _
      ⟨begun, rfl⟩ fun v ⟨run, proc⟩ i mem => by
        obtain ⟨sameRun, sameProc⟩ := releaseLower_main v (i := i) (by rintro rfl; simp at mem)
        exact ⟨sameRun.trans run, sameProc.trans proc⟩
  rw [main, proc, trun_taskBegin, if_pos rfl]
  exact ⟨rfl, rfl, rfl, rfl⟩

/-! Belfry (R351, R353) -/

namespace Elsewhere
variable {u w : Work}

/-- Where nothing disturbs the second engine the evaluation is published. -/
theorem belBoundary (h : Elsewhere false u w) (cap : Work) (calm : w.x.upsets = []) : Elsewhere false u (w.belBoundary cap) := by
  have same : (w.belEval cap).enginesDiffer (List.getD [] 0 []) = false := rfl
  unfold Work.belBoundary
  dsimp only
  rw [calm, if_pos rfl]
  refine h.ite ?_
  rw [if_pos same]
  exact (h.belEval cap).belResult.lanternPub

end Elsewhere

end Sys2Proof.Proofs
end

section
/-! PROOF. A module that fails leaves Belfry's part: its safety section comes to rest, so no function begins degraded mode (R17, R268, R272, R353). -/

namespace Sys2Proof.Proofs

open Sys2Proof.Machine Sys2Proof.Laws

/-! The safety section comes to rest -/

/-- The section is not ACTIVE, and no function is in RUN but those that follow a contact. -/
structure Rests (w : Work) : Prop where
  idle : w.x.safe.ss ≠ ssActive
  out : ∀ v < 2, ∀ f < 8, w.fType f ≠ 4 → w.fType f ≠ 6 → (w.sfn v f).st ≠ fsRun

/-- A function takes another state than RUN, or follows its contact. -/
theorem Rests.fnState {w : Work} (h : Rests w) (v f st : Nat) (hf : f < 8) (rests : st = fsRun → w.fType f = 4 ∨ w.fType f = 6) :
    Rests (w.fnState v f st) := by
  have k := (Evaluates.refl w).fnState v f st
  refine ⟨by rw [k.reads SafeSt.ss]; exact h.idle, fun u hu g hg a b => ?_⟩
  rw [k.fType (by omega)] at a b
  rw [st_fnState]
  split
  · rename_i index
    rintro rfl
    obtain rfl : f = g := by omega
    exact (rests rfl).elim a b
  · exact h.out u hu g hg a b

/-- `u` is `w`, or `w` with function `f` of processor `v` in another state than RUN, unless the function follows a contact. -/
def Calms (w : Work) (v f : Nat) (u : Work) : Prop :=
  (∃ st, (st = fsRun → w.fType f = 4 ∨ w.fType f = 6) ∧ u = w.fnState v f st) ∨ u = w

namespace Calms
variable {w u t : Work} {v f : Nat}

theorem takes {st : Nat} (h : st = fsRun → w.fType f = 4 ∨ w.fType f = 6) : Calms w v f (w.fnState v f st) := .inl ⟨st, h, rfl⟩
theorem other {st : Nat} (h : st ≠ fsRun) : Calms w v f (w.fnState v f st) := .takes fun e => absurd e h
theorem stands : Calms w v f w := .inr rfl
theorem ite {c : Prop} {_ : Decidable c} (ht : c → Calms w v f t) (hu : ¬ c → Calms w v f u) : Calms w v f (if c then t else u) := by
  split
  · exact ht ‹_›
  · exact hu ‹_›

end Calms

/-- One step of a function at rest begins no degraded mode. -/
theorem Rests.calms {w : Work} (h : Rests w) {v f : Nat} (hv : v < 2) (hf : f < 8) : Calms w v f (w.fnStep v f) := by
  have other (c : Prop) {st : Nat} (ne : st ≠ fsRun) : c → Calms w v f (w.fnState v f st) := fun _ => .other ne
  unfold Work.fnStep
  refine .ite (other _ (by decide)) fun _ => .ite (fun reset => .takes fun _ => .inr reset) fun reset =>
    .ite (fun partner => .takes fun _ => .inl partner) fun partner => .ite (other _ (by decide)) fun _ =>
    .ite ?safe fun _ => .ite ?wait fun _ => .ite (fun run => absurd run (h.out v hv f hf partner reset)) fun _ =>
    .ite ?locked fun _ => .stands
  case safe => exact fun _ => .ite (other _ (by decide)) fun _ => .ite (other _ (by decide)) fun _ => .stands
  case wait => exact fun _ => .ite (other _ (by decide)) fun _ => .ite (other _ (by decide)) fun _ => .ite (fun active => absurd active.2 h.idle) fun _ => .stands
  case locked => exact fun _ => .ite (other _ (by decide)) fun _ => .stands

/-- A section at rest stays at rest while it evaluates, and Belfry's part stands. -/
theorem Rests.fnStep {w : Work} (h : Rests w) {v f : Nat} (hv : v < 2) (hf : f < 8) {q : Bool} :
    Rests (w.fnStep v f) ∧ Elsewhere q w (w.fnStep v f) := by
  rcases h.calms hv hf with ⟨st, rests, step⟩ | step <;> rw [step]
  · exact ⟨h.fnState v f st hf rests, (Elsewhere.refl w).fnState v f st⟩
  · exact ⟨h, .refl w⟩

theorem Rests.each {α : Type} {q : Bool} {w : Work} (h : Rests w) (l : List α) {g : Work → α → Work}
    (hg : ∀ v, Rests v → ∀ e ∈ l, Rests (g v e) ∧ Elsewhere q v (g v e)) : Rests (w.each l g) ∧ Elsewhere q w (w.each l g) :=
  List.foldlRecOn (motive := fun v => Rests v ∧ Elsewhere q w v) l g ⟨h, .refl w⟩ fun v ⟨rests, k⟩ e mem =>
    ⟨(hg v rests e mem).1, k.trans (hg v rests e mem).2⟩

theorem Rests.fnsEval {w : Work} (h : Rests w) {v : Nat} (hv : v < 2) {q : Bool} : Rests (w.fnsEval v) ∧ Elsewhere q w (w.fnsEval v) := by
  unfold Work.fnsEval
  split
  · exact h.each _ fun k rests _ _ => rests.each _ fun k rests f mem => rests.fnStep hv (List.mem_range.1 mem)
  · exact ⟨h, .refl w⟩

theorem Rests.safeAct {w : Work} (h : Rests w) {q : Bool} : Elsewhere q w w.safeAct := by
  obtain ⟨restsA, first⟩ := h.fnsEval (v := 0) (by decide) (q := q)
  obtain ⟨-, second⟩ := restsA.fnsEval (v := 1) (by decide) (q := q)
  exact ((first.trans second).each _ fun k n _ => (Elsewhere.refl k).safeUpd _).safeShow

/-! Leaving ACTIVE brings the section to rest (R257) -/

/-- What leaving ACTIVE does to one function. -/
def leftActive (w : Work) (v f : Nat) : Work :=
  if w.fType f = 4 ∨ w.fType f = 6 then w
  else if (w.sfn v f).st = fsStopping ∧ w.fFaulted v f then w.fnState v f fsLocked
  else if (w.sfn v f).st = fsRun ∨ (w.sfn v f).st = fsStopping then w.fnState v f fsSafe else w

theorem fnsLeaveActive_eq (w : Work) : w.fnsLeaveActive = w.eachFn leftActive := rfl

/-- The function is out of RUN, or follows a contact. -/
def OutOfRun (w : Work) (v f : Nat) : Prop := w.fType f ≠ 4 → w.fType f ≠ 6 → (w.sfn v f).st ≠ fsRun

theorem leftActive_calms (w : Work) (v f : Nat) : Calms w v f (leftActive w v f) := by
  unfold leftActive
  exact .ite (fun _ => .stands) fun _ => .ite (fun _ => .other (by decide)) fun _ => .ite (fun _ => .other (by decide)) fun _ => .stands

/-- A function that is out of RUN is so after a calm step of another. -/
theorem OutOfRun.calms {w u : Work} {v f k m : Nat} (h : OutOfRun w k m) (step : Calms w v f u) (hf : f < 8) (hm : m < 8) : OutOfRun u k m := by
  rcases step with ⟨st, rests, rfl⟩ | rfl
  · intro a b
    rw [((Evaluates.refl w).fnState v f st).fType (by omega)] at a b
    rw [st_fnState]
    split
    · rintro rfl
      obtain rfl : f = m := by omega
      exact (rests rfl).elim a b
    · exact h a b
  · exact h

/-- The step takes its own function out of RUN. -/
theorem leftActive_out (w : Work) (v f : Nat) : OutOfRun (leftActive w v f) v f := by
  have moved {st : Nat} (ne : st ≠ fsRun) : OutOfRun (w.fnState v f st) v f := fun _ _ => by rwa [st_fnState, if_pos rfl]
  unfold leftActive
  split
  · rename_i contact
    exact fun a b => absurd contact (not_or.2 ⟨a, b⟩)
  · split
    · exact moved (by decide)
    · split
      · exact moved (by decide)
      · rename_i rest
        exact fun _ _ run => rest (.inl run)

/-- What each step sets for its own member, and keeps for all, holds of every member in the end. -/
theorem each_reaches {α : Type} {P : α → Work → Prop} {g : Work → α → Work} : ∀ (l : List α) (w : Work), (∀ v, ∀ e ∈ l, P e (g v e)) →
    (∀ v, ∀ e ∈ l, ∀ d, P d v → P d (g v e)) → ∀ d, d ∈ l ∨ P d w → P d (w.each l g)
  | [], _, _, _, _, h => h.elim (fun mem => absurd mem List.not_mem_nil) id
  | e :: l, w, sets, keeps, d, h => by
    refine each_reaches l (g w e) (fun v e mem => sets v e (.tail _ mem)) (fun v e mem => keeps v e (.tail _ mem)) d ?_
    rcases h with mem | holds
    · rcases List.mem_cons.1 mem with rfl | mem
      · exact .inr (sets w d (.head _))
      · exact .inl mem
    · exact .inr (keeps w e (.head _) d holds)

theorem out_fnsLeaveActive (w : Work) {v f : Nat} (hv : v < 2) (hf : f < 8) : OutOfRun w.fnsLeaveActive v f := by
  have row (k : Work) (v d m : Nat) (hm : m < 8) (h : OutOfRun k d m) : OutOfRun (k.each (List.range 8) fun w f => leftActive w v f) d m :=
    List.foldlRecOn (motive := fun u => OutOfRun u d m) _ _ h fun u h f mem => h.calms (leftActive_calms u v f) (List.mem_range.1 mem) hm
  have all : ∀ f < 8, OutOfRun w.fnsLeaveActive v f := by
    refine each_reaches (P := fun v u => ∀ f < 8, OutOfRun u v f) [0, 1] w (fun k v _ f hf => ?_)
      (fun k v _ d h m hm => row k v d m hm (h m hm)) v (.inl (by simp; omega))
    exact each_reaches (P := fun f u => f < 8 → OutOfRun u v f) (List.range 8) k (fun u f _ _ => leftActive_out u v f)
      (fun u f mem d h hd => (h hd).calms (leftActive_calms u v f) (List.mem_range.1 mem) hd) f (.inl (List.mem_range.2 hf)) hf
  exact all f hf

namespace Elsewhere
variable {q : Bool} {u w : Work}

theorem fnsLeaveActive (h : Elsewhere q u w) : Elsewhere q u w.fnsLeaveActive :=
  h.eachFn fun k p f => (refl k).ite (((refl k).fnState p f _).ite (((refl k).fnState p f _).ite (refl k)))

end Elsewhere

/-- Where the module serves no longer its section leaves ACTIVE, and Belfry's part stands. -/
theorem elsewhere_safeModule_down {q : Bool} (w : Work) (down : w.serving = false) : Elsewhere q w w.safeModule := by
  unfold Work.safeModule
  rw [if_neg (by simp [down])]
  split
  · rename_i active
    let put := w.safeUpd fun s => { s with ss := ssIdle }
    have putE : Elsewhere q w put.fnsLeaveActive := ((Elsewhere.refl w).safeUpd _).fnsLeaveActive
    have kept : Evaluates put put.fnsLeaveActive := (Evaluates.refl put).fnsLeaveActive
    have rests : Rests put.fnsLeaveActive := ⟨by rw [kept.reads SafeSt.ss]; exact (by decide : ssIdle ≠ ssActive), fun v hv f hf => out_fnsLeaveActive put hv hf⟩
    have left : w.ssEnter ssIdle = put.fnsLeaveActive.sectionActs w.x.safe.shown := by
      unfold Work.ssEnter
      extract_lets old left
      have leaves : left = put.fnsLeaveActive := (if_neg (by decide)).trans (if_pos ⟨active.1, by decide⟩)
      rw [leaves]
    rw [left]
    exact (putE.trans rests.safeAct).when _ ((putE.trans rests.safeAct).irq (by decide) _)
  · exact (Elsewhere.refl w).safeShow

/-! The module fails (R17, R96) -/

/-- A reason of the worst class makes no system point begin. -/
theorem bel_cause_failure (w : Work) {code : Nat} (page : Nat) (worst : reasonClass code = 3) : (w.cause code page 0 true).x.bel = w.x.bel := by
  unfold Work.cause
  extract_lets e caused
  rw [if_pos rfl]
  show (caused.showReason code true).x.bel = w.x.bel
  unfold Work.showReason
  split
  · rfl
  · extract_lets old listed told asked begun
    have toldB : told.x.bel = w.x.bel := by
      unfold told Work.evHealth
      rw [x_emit]
      rfl
    have askedB : asked.x.bel = w.x.bel :=
      (((Elsewhere.refl (q := true) told).upd _ rfl).slateRequest 3).bel.trans toldB
    have begunE : begun = asked := by
      unfold begun Work.when
      exact if_neg (by rw [worst]; decide)
    rw [begunE]
    unfold Work.when
    split
    · exact askedB
    · exact askedB

/-- The module is Failed, and Belfry's part stands. -/
theorem turns_fail (w : Work) {code : Nat} (page : Nat) (worst : reasonClass code = 3) : Turns true .failed w (w.fail code page) := by
  have told : Elsewhere true w (w.cause code page 0 true) := ((Elsewhere.refl w).cause code page 0 true).tight (bel_cause_failure w page worst)
  have failed : Turns true .failed (w.cause code page 0 true) ((w.cause code page 0 true).toMode .failed 0) :=
    turns_toMode_of _ 0 (.inr rfl) fun v mode => elsewhere_safeModule_down v (by unfold Work.serving; rw [mode]; rfl)
  unfold Work.fail
  exact (failed.elsewhere ((Elsewhere.refl _).slateRequest 2)).after told

end Sys2Proof.Proofs
end

section
/-! PROOF. What a main boundary of a module with no partner does (R290, R291, R353). -/

namespace Sys2Proof.Proofs

open Sys2Proof.Machine Sys2Proof.Laws

/-- Where no operation waits and no watchdog stop is due, nothing falls due. -/
theorem taskDue_idle {w : Work} (op : w.op? taskPage = none) (wd : w.x.task.wdDue = false) : w.taskDue = w := by
  unfold Work.taskDue
  dsimp only
  rw [op]
  exact if_pos wd

/-- The words of the TASK page that a release leaves. -/
theorem Released.rd {u w : Work} (h : Released u w) {a : Nat} (page : a / 4096 = 0x10) (ha : a ≠ TASK.STAT) : w.rd a = u.rd a :=
  h.kept a fun k => k.elim ha fun e => by rcases e with rfl | rfl <;> exact absurd page (by decide)

/-- The cycle that the next state shows. -/
theorem cycle_shows {w : Work} {t : State} (h : Settled w t) : (begin t).cycle = w.cycle := by
  unfold Work.cycle Work.rd64
  rw [rd_begin, rd_begin, h.rd _ (not_follows (by decide)), h.rd _ (not_follows (by decide))]

theorem Released.cycle {u w : Work} (h : Released u w) : w.cycle = u.cycle := by
  unfold Work.cycle Work.rd64
  rw [h.rd rfl (by decide), h.rd rfl (by decide)]

section
variable {s : State} (hq : Quiet s) (mode : [Mode.held, .ready, .run, .hold].contains s.x.mode = true) (calm : Calm s)
  (idle : (begin s).op? taskPage = none)
include mode calm idle

/-- A boundary at which no operation waits: the capture and what it precedes are work elsewhere; Belfry and the release of the tasks follow. -/
theorem boundary_idle : ∃ v cap snap, mainBoundary (begin s) = (v.when v.belDue fun w => w.belBoundary cap).releaseTasks
    ∧ Elsewhere true (captured (begin s) snap) v
    ∧ (s.x.task.forces = [] → ∀ n < 48, regsGet snap.regs (LOOP.VALUE n) = s.rd (LOOP.VALUE n)) := by
  have opened := calm_procBoundary (q := true) calm
  have whole := mainBoundary_calm calm mode
  obtain ⟨solo, -, wd, -⟩ := calm
  obtain ⟨taken, capE, values⟩ := opened.capture
  generalize (counted (begin s)).procBoundary.capture = cap at whole capE
  have due : cap.taskDue = cap := by
    refine taskDue_idle ?_ ?_
    · rw [capE.op]
      exact idle
    · rw [capE.task]
      exact wd
  obtain ⟨snap, forcedE, forced⟩ := capE.snapForces
  have startedE := forcedE.iosStart
  refine ⟨cap.snapForces.iosStart, cap, snap, ?_, startedE, fun free n hn => ?_⟩
  · rw [whole, afterCapture_solo (by rw [due, startedE.role, x_captured]; exact solo), due]
  · rw [forced free, values n hn, rd_begin]

/-- Undisturbed, the boundary is work elsewhere up to the release of the tasks. -/
theorem boundary_calm (undisturbed : s.x.upsets = []) : ∃ v snap, mainBoundary (begin s) = v.releaseTasks ∧ Elsewhere false (captured (begin s) snap) v
    ∧ (s.x.task.forces = [] → ∀ n < 48, regsGet snap.regs (LOOP.VALUE n) = s.rd (LOOP.VALUE n)) := by
  obtain ⟨v, cap, snap, effect, startedE, values⟩ := boundary_idle mode calm idle
  have upsets : v.x.upsets = [] := by
    rw [startedE.upsets, x_captured]
    exact undisturbed
  exact ⟨_, snap, effect, startedE.loose.when _ (startedE.loose.belBoundary cap upsets), values⟩

end

/-- What a calm boundary has kept when the tasks are released. -/
theorem at_release {q : Bool} {s : State} {v : Work} {snap : Snapshot} (h : Elsewhere q (captured (begin s) snap) v) (calm : Calm s) :
    v.x.mode = s.x.mode ∧ v.x.role = .solo ∧ v.x.task = { s.x.task with snap := snap, released := false }
      ∧ v.get PROCTOR.STAT PROCTOR.STAT_SPLIT = 0 := by
  obtain ⟨solo, -, -, -, -, -, -, -, -, -, -, whole⟩ := calm
  refine ⟨?_, ?_, ?_, ?_⟩
  · rw [h.mode, x_captured, x_begin]
  · rw [h.role, x_captured, x_begin]
    exact solo
  · rw [h.task, x_captured, x_begin]
  · rw [h.split, get_captured _ _ (by decide), get_begin]
    exact whole

section
variable {s : State} (hq : Quiet s) (mode : [Mode.held, .ready, .run, .hold].contains s.x.mode = true) (calm : Calm s)
  (idle : (begin s).op? taskPage = none)
include hq mode calm idle

theorem runs_mainBoundary (undisturbed : s.x.upsets = []) : Runs .mainBoundary s fun t => (begin t).cycle = ((begin s).cycle + 1) % 2 ^ 64
    ∧ t.x.mode = s.x.mode ∧ t.x.role = .solo ∧ t.x.task.forces = s.x.task.forces
    ∧ (s.x.task.forces = [] → ∀ n < 48, regsGet t.x.task.snap.regs (LOOP.VALUE n) = s.rd (LOOP.VALUE n)) := by
  obtain ⟨v, snap, effect, elsewhere, values⟩ := boundary_calm mode calm idle undisturbed
  obtain ⟨sameMode, solo, task, whole⟩ := at_release elsewhere calm
  have released := released whole
  have kept {α : Type} (p : TaskSt → α) (hp : ∀ t, p { t with run := [] } = p t := by exact fun _ => rfl) :
      p v.releaseTasks.x.task = p { s.x.task with snap := snap, released := false } := by
    rw [← hp, released.task, hp, task]
  refine runs_settled rfl (by rw [effect, kept TaskSt.hdr]; exact hq) fun t settled => ?_
  rw [effect] at settled
  obtain ⟨tMode, tRole, -, -, -, -, tTask, -⟩ := settled.parts
  refine ⟨?_, ?_, ?_, ?_, fun free n hn => ?_⟩
  · rw [cycle_shows settled, released.cycle, elsewhere.cycle, cycle_captured]
  · rw [tMode, released.mode, sameMode]
  · rw [tRole, released.role, solo]
  · rw [tTask, kept TaskSt.forces]
  · rw [tTask, kept TaskSt.snap, values free n hn]

theorem runs_mainBoundary_release (undisturbed : s.x.upsets = []) (executes : (begin s).executes = true)
    (rest : ((begin s).trun 0).running = false) : Runs .mainBoundary s fun t =>
      ((begin t).trun 0).running = true ∧ ((begin t).trun 0).relAt = (begin t).cycle ∧ t.x.proc.isOpen = true ∧ t.x.proc.cps = [] := by
  obtain ⟨v, snap, effect, elsewhere, -⟩ := boundary_calm mode calm idle undisturbed
  obtain ⟨sameMode, solo, task, whole⟩ := at_release elsewhere calm
  have ⟨begunSolo, _, _, _, _, _, _, _, _, _, _, begunWhole⟩ := calm
  have begunSplit : (begin s).get PROCTOR.STAT PROCTOR.STAT_SPLIT = 0 := begunWhole
  have released := released whole
  have hdr : v.releaseTasks.x.task.hdr = [] := by
    have := congrArg TaskSt.hdr released.task
    dsimp only at this
    rw [this, task]
    exact hq
  have still : (v.trun 0).running = false := by
    unfold Work.trun
    rw [task]
    exact rest
  have pair (f : Fld) : v.get PAIR.STAT f = (begin s).get PAIR.STAT f := by
    rw [elsewhere.get (.inr (.inr (.inl (by decide)))), get_captured _ _ (by decide)]
  have runs : v.executes = true := by
    rw [← executes]
    unfold Work.executes Work.flag
    rw [sameMode, solo, pair, whole, begunSplit, x_begin, begunSolo]
  obtain ⟨running, relAt, isOpen, cps⟩ := releaseTasks_main whole runs still
  refine runs_settled rfl (by rw [effect]; exact hdr) fun t settled => ?_
  rw [effect] at settled
  obtain ⟨_, _, _, _, _, noise⟩ := settled.noise
  rw [trun_shows settled, cycle_shows settled, released.cycle, noise]
  exact ⟨running, relAt, isOpen, cps⟩

end

end Sys2Proof.Proofs
end

section
/-! PROOF. A disturbance of Belfry's engines at a main boundary (R353), and what a main boundary does in every case. -/

namespace Sys2Proof.Proofs

open Sys2Proof.Machine Sys2Proof.Laws

/-- A word of the second engine's result that is turned over shows the difference. -/
theorem enginesDiffer_one (w : Work) {e : Nat × Word} (turned : e.2 ≠ 0) : w.enginesDiffer [e] = true := by
  have differs : w.rd e.1 ^^^ e.2 ≠ w.rd e.1 := fun same => turned (by simpa using congrArg (w.rd e.1 ^^^ ·) same)
  simp [Work.enginesDiffer, differs]

/-- The disturbances are taken. -/
def undisturb (w : Work) : Work := w.upd fun x => { x with upsets := [] }

section
variable {w : Work} (cap : Work) {e : Nat × Word} (on : w.belOn = true) (turned : e.2 ≠ 0)
include on turned

/-- One disturbance: the evaluation is repeated, and then published. -/
theorem belBoundary_repeats (once : w.x.upsets = [[e]]) :
    w.belBoundary cap = ((undisturb w).belRetry.belEval cap).belResult.lanternPub := by
  have first : ((undisturb w).belEval cap).enginesDiffer ([[e]].getD 0 []) = true := enginesDiffer_one _ turned
  have second : ((undisturb w).belRetry.belEval cap).enginesDiffer ([[e]].getD 1 []) = false := rfl
  have on' : (undisturb w).belOn = true := on
  unfold Work.belBoundary
  dsimp only
  rw [once, if_neg (List.cons_ne_nil _ _), ← undisturb, if_neg (by rw [on']; decide), if_neg (by rw [first]; decide), if_pos second]

/-- Two: nothing is published, and the module fails. -/
theorem belBoundary_fails (twice : w.x.upsets = [[e], [e]]) : w.belBoundary cap = (undisturb w).belRetry.fail 0x10 belPage := by
  have first : ((undisturb w).belEval cap).enginesDiffer ([[e], [e]].getD 0 []) = true := enginesDiffer_one _ turned
  have second : ((undisturb w).belRetry.belEval cap).enginesDiffer ([[e], [e]].getD 1 []) = true := enginesDiffer_one _ turned
  have on' : (undisturb w).belOn = true := on
  unfold Work.belBoundary
  dsimp only
  rw [twice, if_neg (List.cons_ne_nil _ _), ← undisturb, if_neg (by rw [on']; decide), if_neg (by rw [first]; decide),
    if_neg (by rw [second]; decide)]

end

/-- A retry is counted; beside the count and the recorder everything stands. -/
theorem belRetry_spec (w : Work) : w.belRetry.get BELFRY.BSTAT BELFRY.BSTAT_RETRYCNT
      = min (w.get BELFRY.BSTAT BELFRY.BSTAT_RETRYCNT + 1) (2 ^ BELFRY.BSTAT_RETRYCNT.w - 1)
    ∧ w.belRetry.get PROCTOR.STAT PROCTOR.STAT_SPLIT = w.get PROCTOR.STAT PROCTOR.STAT_SPLIT ∧ ∃ e, w.belRetry.x = { w.x with evt := e } := by
  unfold Work.belRetry
  dsimp only
  refine ⟨?_, ?_, _, x_emit ..⟩
  · rw [get_evOccur _ _ _ _ _ _ _ _ (by decide), get_incSat_same _ _ _ (by decide)]
  · rw [get_evOccur _ _ _ _ _ _ _ _ (by decide), Work.incSat, get_put_ne _ _ _ _ _ _ (by decide)]

theorem Elsewhere.belOn {q : Bool} {u w : Work} (h : Elsewhere q u w) : w.belOn = u.belOn := by
  unfold Work.belOn Work.enabled Work.flag
  rw [h.mode, h.get (.inl (by decide))]

namespace Elsewhere
variable {u w : Work}

theorem syncMode (h : Elsewhere true u w) (s : State) : Elsewhere true u (w.syncMode s) := by
  unfold Work.syncMode
  extract_lets shown
  have shownE : Elsewhere true u shown := h.ite h.procShow
  exact shownE.ite (shownE.slateRequest 2)

theorem vlFollow (h : Elsewhere true u w) : Elsewhere true u w.vlFollow := by
  unfold Work.vlFollow
  refine h.each _ fun k e _ => ?_
  unfold Work.vlShow
  extract_lets awake a v
  split
  · exact refl k
  · rename_i fits
    exact (refl k).wr (away_page (page := 1) (by unfold a PWR.VL; omega) (by decide) (by unfold a PWR.VL; omega)) _

theorem drSwap (h : Elsewhere true u w) : Elsewhere true u w.drSwap := by
  have swaps : Elsewhere true u (w.swapBegin false 4) := by
    unfold Work.swapBegin Work.pairUpd
    exact h.upd _ rfl
  unfold Work.drSwap
  exact swaps.ite h

theorem syncHealth (h : Elsewhere true u w) : Elsewhere true u w.syncHealth := by
  have health : Away (HDR.PGHEALTH 0) := away_health 0
  unfold Work.syncHealth
  extract_lets a old worst put told
  have putE : Elsewhere true u put := (h.put health _ _).put health _ _
  have toldE : Elsewhere true u told := (putE.irq (by decide) _).slateRequest _
  exact h.ite (putE.ite (toldE.drSwap.ite toldE))

/-- What follows at a command's end is work elsewhere. -/
theorem settle (h : Elsewhere true u w) (s : State) (quiet : w.x.task.hdr = []) : Elsewhere true u (w.settle s) := by
  have drained : w.drainHdr = w := by
    unfold Work.drainHdr
    exact if_pos quiet
  unfold Work.settle
  rw [drained]
  exact (h.syncMode s).vlFollow.syncHealth

end Elsewhere

/-- A module that is Failed releases no task. -/
theorem releaseTasks_failed {w : Work} (failed : w.x.mode = .failed) : w.releaseTasks = w := by
  have still : w.executes = false := by
    unfold Work.executes
    rw [failed]
    rfl
  unfold Work.releaseTasks
  rw [if_neg (fun h => by rw [failed] at h; exact absurd h.1 (by decide)), if_pos still]

section
variable {s : State} (hq : Quiet s) (mode : [Mode.held, .ready, .run, .hold].contains s.x.mode = true) (calm : Calm s)
  (idle : (begin s).op? taskPage = none) {e : Nat × Word} (turned : e.2 ≠ 0) (on : (begin s).belOn = true)
  (each : s.get TASK.MAIN TASK.MAIN_P0 ≠ 1)
include hq mode calm idle turned on each

omit hq turned in
/-- The boundary reaches Belfry's evaluation, which is due, with the disturbances that wait. -/
theorem boundary_disturbed : ∃ v cap snap, mainBoundary (begin s) = (v.belBoundary cap).releaseTasks ∧ Elsewhere true (captured (begin s) snap) v
    ∧ v.x.upsets = s.x.upsets ∧ v.belOn = true := by
  obtain ⟨v, cap, snap, effect, elsewhere, -⟩ := boundary_idle mode calm idle
  have main : v.get TASK.MAIN TASK.MAIN_P0 = s.get TASK.MAIN TASK.MAIN_P0 := by
    rw [elsewhere.get (held_task rfl (by decide)), get_captured _ _ (by decide), get_begin]
  have due : v.belDue = true := by
    unfold Work.belDue
    rw [main, decide_eq_true each, Bool.true_or]
  have shown : (captured (begin s) snap).belOn = (begin s).belOn := by
    unfold Work.belOn Work.enabled Work.flag
    rw [get_captured _ _ (by decide), x_captured]
  refine ⟨v, cap, snap, ?_, elsewhere, ?_, ?_⟩
  · rw [effect, due]
    rfl
  · rw [elsewhere.upsets, x_captured, x_begin]
  · rw [elsewhere.belOn, shown, on]

theorem runs_mainBoundary_repeats (once : s.x.upsets = [[e]]) : Runs .mainBoundary s fun t => t.x.mode = s.x.mode
    ∧ t.get BELFRY.BSTAT BELFRY.BSTAT_RETRYCNT = min (s.get BELFRY.BSTAT BELFRY.BSTAT_RETRYCNT + 1) (2 ^ BELFRY.BSTAT_RETRYCNT.w - 1) := by
  obtain ⟨v, cap, snap, effect, elsewhere, upsets, belOn⟩ := boundary_disturbed mode calm idle on each
  obtain ⟨sameMode, -, task, whole⟩ := at_release elsewhere calm
  obtain ⟨count, split, _, retried⟩ := belRetry_spec (undisturb v)
  have published : Elsewhere false (undisturb v).belRetry ((undisturb v).belRetry.belEval cap).belResult.lanternPub :=
    ((Elsewhere.refl _).belEval cap).belResult.lanternPub
  rw [belBoundary_repeats cap belOn turned (upsets.trans once)] at effect
  generalize ((undisturb v).belRetry.belEval cap).belResult.lanternPub = u at effect published
  have released := released (w := u) (published.split.trans (split.trans whole))
  have hdr : u.releaseTasks.x.task.hdr = [] := by
    have := congrArg TaskSt.hdr released.task
    dsimp only at this
    rw [this, published.task, retried]
    show v.x.task.hdr = []
    rw [task]
    exact hq
  refine runs_settled rfl (by rw [effect]; exact hdr) fun t settled => ?_
  rw [effect] at settled
  refine ⟨?_, ?_⟩
  · rw [settled.mode, released.mode, published.mode, retried]
    exact sameMode
  · rw [settled.get (not_follows (by decide)), released.get (by decide) (by decide), published.retries, count]
    show min (v.get BELFRY.BSTAT BELFRY.BSTAT_RETRYCNT + 1) _ = _
    rw [elsewhere.retries, get_captured _ _ (by decide), get_begin]

theorem runs_mainBoundary_fails (twice : s.x.upsets = [[e], [e]]) : Runs .mainBoundary s fun t => t.x.mode = .failed ∧ t.x.bel = s.x.bel := by
  obtain ⟨v, cap, snap, effect, elsewhere, upsets, belOn⟩ := boundary_disturbed mode calm idle on each
  obtain ⟨-, -, task, -⟩ := at_release elsewhere calm
  obtain ⟨-, -, _, retried⟩ := belRetry_spec (undisturb v)
  have failed := turns_fail (undisturb v).belRetry (code := 0x10) belPage (by decide)
  rw [belBoundary_fails cap belOn turned (upsets.trans twice), releaseTasks_failed failed.mode] at effect
  generalize (undisturb v).belRetry.fail 0x10 belPage = u at effect failed
  have hdr : u.x.task.hdr = [] := by
    have := congrArg TaskSt.hdr failed.task
    dsimp only at this
    rw [this, retried]
    show v.x.task.hdr = []
    rw [task]
    exact hq
  have bel : u.x.bel = s.x.bel := by
    rw [failed.bel, retried]
    show v.x.bel = _
    rw [elsewhere.bel, x_captured, x_begin]
  have settled := settled_finish (s := s) hdr
  refine runs_cmd (f := mainBoundary) rfl ?_
  rw [effect]
  exact ⟨settled.mode.trans failed.mode, by rw [x_finish, ((Elsewhere.refl u).settle s hdr).bel, bel]⟩

end

/-- Settles O26: a calm module's boundary works elsewhere but for the cycle, the snapshot and the release of the tasks; a disturbed evaluation is
repeated, and a second time fails the module, whose safety section comes to rest without touching Belfry. Boundaries in Held, Ready, Run and Hold
alone are log entry 117, the disagreement of the engines log entry 140. -/
theorem mainBoundaryActs : Obligations.MainBoundaryActs := by
  unfold Obligations.MainBoundaryActs
  intro s hq
  refine ⟨fun down => ?_, fun mode calm idle => ⟨runs_mainBoundary hq mode calm idle,
    fun undisturbed _ executes rest => runs_mainBoundary_release hq mode calm idle undisturbed executes rest,
    fun e turned on each => ⟨runs_mainBoundary_repeats hq mode calm idle turned on each, runs_mainBoundary_fails hq mode calm idle turned on each⟩⟩⟩
  refine runs_still rfl hq (if_pos down) fun t settled => ?_
  obtain ⟨tMode, -, -, -, -, -, tTask, -⟩ := settled.parts
  exact ⟨fun a ha => settled.rd a ha, tMode, tTask⟩

end Sys2Proof.Proofs
end

section
/-! PROOF. What an operation of the TASK page rests on while it acts at its boundary; a word that a force puts into a register (R297, R303). -/

namespace Sys2Proof.Proofs

open Sys2Proof.Machine Sys2Proof.Laws

/-- From `u` to `w` an operation of the TASK page acts: it stays BUSY, the boundary goes on as that of a calm module, and `g` of the program's
part stands. -/
structure Acts {α : Type} (g : TaskSt → α) (u w : Work) : Prop where
  opstat : w.rd (HDR.OPSTAT taskPage) = u.rd (HDR.OPSTAT taskPage)
  split : w.get PROCTOR.STAT PROCTOR.STAT_SPLIT = u.get PROCTOR.STAT PROCTOR.STAT_SPLIT
  role : w.x.role = u.x.role
  upsets : w.x.upsets = u.x.upsets
  task : g w.x.task = g u.x.task

namespace Acts
variable {α : Type} {g : TaskSt → α} {u v w : Work}

theorem refl (w : Work) : Acts g w w := ⟨rfl, rfl, rfl, rfl, rfl⟩
theorem trans (h : Acts g u v) (k : Acts g v w) : Acts g u w :=
  ⟨k.opstat.trans h.opstat, k.split.trans h.split, k.role.trans h.role, k.upsets.trans h.upsets, k.task.trans h.task⟩
theorem ite (h : Acts g u v) (k : Acts g u w) {c : Prop} {_ : Decidable c} : Acts g u (if c then v else w) := by
  split <;> assumption
theorem when (h : Acts g u w) (c : Bool) {f : Work → Work} (hf : Acts g u (f w)) : Acts g u (w.when c f) := by
  unfold Work.when
  exact hf.ite h
theorem each {β : Type} (h : Acts g u w) (l : List β) {f : Work → β → Work} (hf : ∀ v, ∀ e ∈ l, Acts g v (f v e)) : Acts g u (w.each l f) :=
  List.foldlRecOn l f h fun v k e he => k.trans (hf v e he)

/-- Work elsewhere. -/
theorem elsewhere {q : Bool} (h : Acts g u v) (k : Elsewhere q v w) : Acts g u w :=
  h.trans ⟨k.rd (.inr (.inl (by decide))), k.split, k.role, k.upsets, by rw [k.task]⟩

/-- The whole of the program's part stands. -/
theorem of_whole (h : Acts id u w) : Acts g u w := ⟨h.opstat, h.split, h.role, h.upsets, congrArg g h.task⟩

/-- A register of the TASK page that is not OPSTAT. -/
theorem wr (h : Acts g u w) {a : Nat} (ha : a ≠ HDR.OPSTAT taskPage ∧ a ≠ PROCTOR.STAT) (n : Word) : Acts g u (w.wr a n) :=
  h.trans ⟨by rw [rd_wr, if_neg ha.1], get_wr_ne _ _ _ _ _ ha.2, rfl, rfl, rfl⟩
theorem put (h : Acts g u w) {a : Nat} (ha : a ≠ HDR.OPSTAT taskPage ∧ a ≠ PROCTOR.STAT) (f : Fld) (n : Nat) : Acts g u (w.put a f n) := h.wr ha _
theorem irq (h : Acts g u w) (page bit : Nat) : Acts g u (w.irq page bit) := by
  have other : HDR.IRQSTAT page ≠ HDR.OPSTAT taskPage ∧ HDR.IRQSTAT page ≠ PROCTOR.STAT := by
    unfold HDR.IRQSTAT HDR.OPSTAT taskPage PROCTOR.STAT pg
    omega
  exact h.trans ⟨by rw [rd_irq_ne _ _ _ _ other.1], get_irq_ne _ _ _ _ _ other.2, rfl, rfl, rfl⟩
theorem upd (h : Acts g u w) (f : Inner → Inner) (role : (f w.x).role = w.x.role) (upsets : (f w.x).upsets = w.x.upsets)
    (task : g (f w.x).task = g w.x.task) : Acts g u (w.upd f) := h.trans ⟨rfl, rfl, role, upsets, task⟩
theorem taskUpd (h : Acts g u w) (f : TaskSt → TaskSt) (hf : g (f w.x.task) = g w.x.task) : Acts g u (w.taskUpd f) := h.upd _ rfl rfl hf
theorem emit (h : Acts g u w) (page num sub : Nat) (data : List Nat) : Acts g u (w.emit page num sub data) :=
  h.elsewhere (q := false) ((Elsewhere.refl w).emit page num sub data)

theorem setFlag (h : Acts g u w) (page sub : Nat) {a : Nat} (ha : a ≠ HDR.OPSTAT taskPage ∧ a ≠ PROCTOR.STAT) (f : Fld) (l : Bool) :
    Acts g u (w.setFlag page sub a f l) := by
  unfold Work.setFlag
  exact h.ite ((h.put ha _ _).emit _ _ _ _)

/-- A refused START or write shows in the page's header (R50). -/
theorem refuse (h : Acts g u w) (page code : Nat) : Acts g u (w.refuse page code) := by
  have other : HDR.PGSTAT page ≠ HDR.OPSTAT taskPage ∧ HDR.PGSTAT page ≠ PROCTOR.STAT := by
    unfold HDR.PGSTAT HDR.OPSTAT taskPage PROCTOR.STAT pg
    omega
  unfold Work.refuse
  exact ((h.put other _ _).put other _ _).when _ (((h.put other _ _).put other _ _).irq _ _)

/-- The force table shows (R320). -/
theorem forceShow (h : Acts g u w) : Acts g u w.forceShow := by
  unfold Work.forceShow
  extract_lets i shown
  have shownA : Acts g u shown := by
    unfold shown
    split
    · exact (h.wr (by decide) _).wr (by decide) _
    · exact (h.wr (by decide) _).wr (by decide) _
  exact (shownA.put (by decide) _ _).put (by decide) _ _

end Acts

/-! The registers that the program writes (R39, R41) -/

/-- The offsets at which the program writes a block's registers, as a range. -/
def progRange : Kind → Nat × Nat
  | .clk => (0x70, 0x78) | .task => (0xac, 0xb0) | .evt => (0x4c, 0x54) | .trk => (0x80, 0x140) | .xfer => (0x40, 0x1000)
  | .ctleng => (0x800, 0x1020) | .belfry => (0x500, 0x580) | .lantern => (0x100, 0x180) | .safe => (0x90, 0xe4) | .loop => (0x44, 0x48)
  | .dio => (0x54, 0x58) | _ => (0, 0)

/-- A field that the program may write. -/
def progField (f : FDesc) : Bool := (decide (f.acc = .rw) || decide (f.acc = .rwl)) && decide (f.role ≤ 1)

theorem rows_in_range (k : Kind) : ((tableOf k).all fun d =>
    !(d.fields.any progField) || decide ((progRange k).1 ≤ d.off) && decide (d.off + d.count * d.stride ≤ (progRange k).2)) = true := by
  cases k <;> decide

/-- A program-written register lies in its block's range, on a whole word. -/
theorem progWritten_range {a : Nat} (h : progWritten a = true) : a % 4 = 0
    ∧ (progRange (kindOf (a / 4096))).1 ≤ a % 4096 ∧ a % 4096 < (progRange (kindOf (a / 4096))).2 := by
  unfold progWritten at h
  simp only [Bool.and_eq_true, decide_eq_true_eq, Bool.not_eq_true'] at h
  obtain ⟨⟨⟨whole, -⟩, noWindow⟩, field⟩ := h
  have off : tabOff a = a % 4096 := by
    unfold isWindow at noWindow
    unfold tabOff
    revert noWindow
    cases kindOf (a / 4096) <;> simp
  unfold fieldsAt at field
  split at field
  · rename_i d found
    have row := List.all_eq_true.1 (rows_in_range (kindOf (a / 4096))) d (List.mem_of_find?_eq_some found)
    have covers := List.find?_some found
    have writes : d.fields.any progField = true := field
    rw [writes] at row
    rw [off] at covers
    unfold RDesc.covers at covers
    simp only [Bool.not_true, Bool.false_or, Bool.and_eq_true, decide_eq_true_eq] at row covers
    exact ⟨whole, by omega, by omega⟩
  · simp at field

/-- A page is one of the pages of blocks of kind `k`. -/
def InPages (page : Nat) (k : Kind) : Prop := k ≠ .unmapped → (blockOf k).2.1 ≤ page ∧ page < (blockOf k).2.1 + (blockOf k).2.2

theorem inPages_ite {page : Nat} {c : Prop} {_ : Decidable c} {k l : Kind} (hk : c → (blockOf k).2.1 ≤ page ∧ page < (blockOf k).2.1 + (blockOf k).2.2)
    (hl : InPages page l) : InPages page (if c then k else l) := by
  split
  · exact fun _ => hk ‹_›
  · exact hl

/-- The map of pages gives every block its own (R33). -/
theorem page_of_kind (page : Nat) : InPages page (kindOf page) := by
  unfold kindOf
  repeat' refine inPages_ite (fun at_page => by simp only [blockOf]; omega) ?_
  exact fun mapped => absurd rfl mapped

end Sys2Proof.Proofs
end

section
/-! PROOF. A word that a force puts into a program-written register moves nothing of the program's own (R303). -/

namespace Sys2Proof.Proofs

open Sys2Proof.Machine Sys2Proof.Laws

/-- Where a program-written register of a block lies. -/
theorem prog_at {a : Nat} {k : Kind} (prog : progWritten a = true) (hk : kindOf (a / 4096) = k) (mapped : k ≠ .unmapped) : a % 4 = 0
    ∧ ((progRange k).1 ≤ a % 4096 ∧ a % 4096 < (progRange k).2) ∧ (blockOf k).2.1 ≤ a / 4096 ∧ a / 4096 < (blockOf k).2.1 + (blockOf k).2.2 := by
  obtain ⟨whole, range⟩ := progWritten_range prog
  have page := page_of_kind (a / 4096)
  rw [hk] at range page
  exact ⟨whole, range, page mapped⟩

/-- A program-written register is none of those that Timetable's own rests on. -/
theorem away_prog {a : Nat} (prog : progWritten a = true) : Away a := by
  have mapped : kindOf (a / 4096) ≠ .unmapped := fun none => by
    have range := (progWritten_range prog).2
    rw [none] at range
    exact absurd range.2 (Nat.not_lt_zero _)
  obtain ⟨-, range, page⟩ := prog_at prog rfl mapped
  unfold Away Held PROCTOR.STAT BELFRY.BSTAT
  generalize kindOf (a / 4096) = k at range page
  cases k <;> simp only [progRange, blockOf] at range page <;> omega

namespace Elsewhere
variable {u w : Work}

/-! The safety section's requests and change log (R274, R279, R285) -/

theorem clogShow (h : Elsewhere false u w) : Elsewhere false u w.clogShow := by
  unfold Work.clogShow
  refine h.each _ fun k i mem => (refl k).wr ?_ _
  have := List.mem_range.1 mem
  exact away_safe (by unfold SAFE.CLOGDATA; omega) (by unfold SAFE.CLOGDATA; omega)

theorem fnReset (h : Elsewhere false u w) (v f : Nat) : Elsewhere false u (w.fnReset v f) := by
  unfold Work.fnReset
  exact (h.fnState v f _).ite h

theorem preqReleased (h : Elsewhere false u w) (old : Word) : Elsewhere false u (w.preqReleased old) := by
  unfold Work.preqReleased
  exact ((h.safeUpd _).each _ fun k f _ => ((refl k).fnReset 0 f).fnReset 1 f).safeAct

theorem pwStore (h : Elsewhere false u w) (a : Nat) (v : Word) : Elsewhere false u (w.pwStore a v) := by
  unfold Work.pwStore
  exact (h.safeUpd _).ite ((h.safeUpd _).ite ((h.safeUpd _).ite h))

/-! Mailboxes (R476, R485) -/

theorem mbShow (h : Elsewhere false u w) {t : Nat} (ht : t < 2) : Elsewhere false u (w.mbShow t) := by
  unfold Work.mbShow
  refine h.each _ fun k i mem => (refl k).wr ?_ _
  have := List.mem_range.1 mem
  exact away_page (page := 0x18 + t) (by unfold TRK.MBDATA; omega) (by omega) (by unfold TRK.MBDATA; omega)

theorem mboxSet (h : Elsewhere false u w) (t m : Nat) (f : MBox → MBox) : Elsewhere false u (w.mboxSet t m f) := h.trkSet t _

/-! Unlocks (R63) -/

theorem renew (h : Elsewhere false u w) (page : Nat) : Elsewhere false u (w.renew page) := by
  unfold Work.renew
  exact ((h.upd _ rfl).put (away_hdr (by decide) (by decide) fun _ => ⟨by decide, by decide⟩) _ _).ite h

end Elsewhere

/-! What each block does with a word that the program may write -/

section
variable {a : Nat} (prog : progWritten a = true) (w : Work)
include prog

/-- A loop's OUTVAL shows (R124). -/
theorem elsewhere_loopWord (user : Nat) (old : Word) (hk : kindOf (a / 4096) = .loop) :
    Elsewhere false w (let u := w.loopWritten user (loopOf (a / 4096)) a old
      if a = LOOP.HCFG (loopOf (a / 4096)) ∨ a = LOOP.RBCFG (loopOf (a / 4096)) then u.loopShow (loopOf (a / 4096))
      else if a = LOOP.CFG (loopOf (a / 4096)) then u.routeCheck else u) := by
  obtain ⟨whole, off, page⟩ := prog_at prog hk (by decide)
  simp only [progRange, blockOf] at off page
  have place : a = LOOP.OUTVAL (loopOf (a / 4096)) := by
    unfold LOOP.OUTVAL loopOf
    omega
  generalize loopOf (a / 4096) = n at place
  have other : a ≠ LOOP.CFG n ∧ ¬ (a = LOOP.TRIMZ n ∨ a = LOOP.TRIMS n) := by
    unfold LOOP.OUTVAL at place
    unfold LOOP.CFG LOOP.TRIMZ LOOP.TRIMS
    omega
  have shown : w.loopWritten user n a old = w.loopShow n := by
    unfold Work.loopWritten
    rw [if_neg other.1, if_neg other.2, if_pos (.inl place)]
  dsimp only
  rw [shown, if_neg other.1]
  exact ((Elsewhere.refl w).loopShow n).loopShow n |>.ite ((Elsewhere.refl w).loopShow n)

/-- A digital group's GOUT is obeyed (R223). -/
theorem elsewhere_dioWord (old v : Word) (hk : kindOf (a / 4096) = .dio) :
    Elsewhere false w (if a = DIO.GCTL (a / 4096 - 0x090) then (if DIO.GCTL_VFACK.get v = 1 then w.vfAckReach (a / 4096 - 0x090) else w)
      else w.dioWritten (a / 4096 - 0x090) a old) := by
  obtain ⟨whole, off, page⟩ := prog_at prog hk (by decide)
  simp only [progRange, blockOf] at off page
  have gout : a % 4096 = 0x54 := by omega
  rw [if_neg (by unfold DIO.GCTL; omega)]
  unfold Work.dioWritten
  dsimp only
  rw [if_pos (.inl gout)]
  exact (Elsewhere.refl w).dioRefresh _

/-- A mailbox's shadow takes its word, and the selected mailbox shows (R485). -/
theorem elsewhere_trkWord (old v : Word) (hk : kindOf (a / 4096) = .trk) :
    Elsewhere false w (if isMbData a then w.mbShadow (a / 4096 - 0x018) (w.get (TRK.MBSEL (a / 4096 - 0x018)) TRK.MBSEL_SEL) ((a % 4096 - 0x100) / 4) v
      else if TRK.MBSTAT (a / 4096 - 0x018) 0 ≤ a ∧ (a - TRK.MBCFG (a / 4096 - 0x018) 0) % 16 = 4 ∧ TRK.MBSTAT_TXREQ.get v = 1
        then (if w.mbSends (a / 4096 - 0x018) ((a - TRK.MBCFG (a / 4096 - 0x018) 0) / 16)
          then w.mbCommit (a / 4096 - 0x018) ((a - TRK.MBCFG (a / 4096 - 0x018) 0) / 16) else w)
      else if a = TRK.CFG (a / 4096 - 0x018) then (w.trkWritten (a / 4096 - 0x018) a old).iosBudget
      else w.trkWritten (a / 4096 - 0x018) a old) := by
  obtain ⟨whole, off, page⟩ := prog_at prog hk (by decide)
  simp only [progRange, blockOf] at off page
  have status : ¬ (TRK.MBSTAT (a / 4096 - 0x018) 0 ≤ a ∧ (a - TRK.MBCFG (a / 4096 - 0x018) 0) % 16 = 4 ∧ TRK.MBSTAT_TXREQ.get v = 1) := by
    rintro ⟨high, -⟩
    unfold TRK.MBSTAT at high
    omega
  have config : a ≠ TRK.CFG (a / 4096 - 0x018) := by
    unfold TRK.CFG
    omega
  have here := Elsewhere.refl (q := false) w
  rw [if_neg status, if_neg config]
  unfold Work.mbShadow Work.trkWritten
  rw [if_neg config]
  exact (here.mboxSet _ _ _).ite ((here.mbShow (by omega)).ite here)

/-- The program writes no register of a block whose range is empty. -/
theorem prog_range_nonempty {k : Kind} (hk : kindOf (a / 4096) = k) : progRange k ≠ (0, 0) := fun empty => by
  have range := (progWritten_range prog).2
  rw [hk, empty] at range
  exact absurd range.2 (Nat.not_lt_zero _)

/-- A block other than Timetable takes its word. -/
theorem elsewhere_blockWritten (p : Party) (old v : Word) (other : kindOf (a / 4096) ≠ .task) : Elsewhere false w (w.blockWritten p a old v) := by
  have here := Elsewhere.refl (q := false) w
  have none {k : Kind} (hk : kindOf (a / 4096) = k) (empty : progRange k = (0, 0)) : False := prog_range_nonempty prog hk empty
  unfold Work.blockWritten
  dsimp only
  split <;> rename_i hk
  case h_1 => exact elsewhere_loopWord prog w _ old hk
  case h_2 => exact (none hk rfl).elim
  case h_3 => exact elsewhere_dioWord prog w old v hk
  case h_4 => exact here.clogShow.ite ((here.preqReleased old).ite (here.pwStore a v))
  case h_5 => exact absurd hk other
  case h_6 => exact (none hk rfl).elim
  case h_7 =>
    obtain ⟨-, off, page⟩ := prog_at prog hk (by decide)
    simp only [progRange, blockOf] at off page
    rw [if_neg (by omega)]
    exact here
  case h_8 => exact (none hk rfl).elim
  case h_9 =>
    obtain ⟨-, off, page⟩ := prog_at prog hk (by decide)
    simp only [progRange, blockOf] at off page
    rw [if_neg (by unfold BELFRY.BCMD; omega)]
    unfold Work.belWritten
    exact (here.emit _ _ _ _).ite (here.callOut.ite here)
  case h_10 => exact (none hk rfl).elim
  case h_11 => exact elsewhere_trkWord prog w old v hk
  case h_12 => exact (none hk rfl).elim
  case h_13 => exact (none hk rfl).elim
  case h_14 =>
    unfold Work.xferWritten
    exact (here.upd _ rfl).ite ((here.upd _ rfl).ite here)
  case h_15 =>
    unfold Work.lanternWritten
    exact here.lanternShow.ite here
  case h_16 => exact (none hk rfl).elim
  case h_17 => exact here

/-- Of Timetable the program writes FIDX, whose entry shows (R320). -/
theorem acts_blockWritten (p : Party) (old v : Word) : Acts id w (w.blockWritten p a old v) := by
  by_cases hk : kindOf (a / 4096) = .task
  · have main : a ≠ TASK.MAIN := by
      obtain ⟨-, off, -⟩ := prog_at prog hk (by decide)
      simp only [progRange] at off
      unfold TASK.MAIN
      omega
    unfold Work.blockWritten
    dsimp only
    rw [hk]
    dsimp only
    rw [if_neg main]
    exact (Acts.refl w).forceShow.ite (.refl w)
  · exact (Acts.refl w).elsewhere (elsewhere_blockWritten prog w p old v hk)

/-! The write as a whole (R50, R303) -/

theorem acts_store (p : Party) (v : Word) : Acts id w (w.store p a v) := by
  obtain ⟨free, notStat, -⟩ := away_prog prog
  have place : a ≠ HDR.OPSTAT taskPage ∧ a ≠ PROCTOR.STAT := ⟨fun e => free (e ▸ .inr (.inl (by decide))), notStat⟩
  unfold Work.store
  extract_lets old new t result put blocked
  have putA : Acts id w put := (Acts.refl w).ite ((Acts.refl w).wr place _)
  have blockedA : Acts id w blocked := putA.trans (acts_blockWritten prog put p old new)
  exact (Acts.refl w).ite ((blockedA.elsewhere ((Elsewhere.refl _).renew _)).ite blockedA)

/-- A word is refused, or stored. -/
theorem writeWord_cases (p : Party) (v : Word) : (∃ c, w.writeWord p a v = w.refuseWord p a c) ∨ w.writeWord p a v = w.store p a v := by
  have noPoint : pointsOf [(a, v)] = [] := by
    have point : kindOf (a / 4096) ≠ .pt := fun hk => prog_range_nonempty prog hk rfl
    simp [pointsOf, List.zipIdx, point]
  unfold Work.writeWord Work.writeAll Work.writeWords
  cases w.judge p a v with
  | some c => exact .inl ⟨c, rfl⟩
  | none =>
    refine .inr ?_
    dsimp only [Work.writeWords]
    rw [noPoint]
    rfl

theorem acts_writeWord (p : Party) (v : Word) : Acts id w (w.writeWord p a v) := by
  rcases writeWord_cases prog w p v with ⟨c, refused⟩ | stored
  · rw [refused]
    unfold Work.refuseWord
    exact (((Acts.refl w).refuse _ _).emit _ _ _ _).ite ((Acts.refl w).refuse _ _)
  · rw [stored]
    exact acts_store prog w p v

/-- A word that the output path carries (R303): no header's, so it waits for nothing. -/
theorem acts_putOut (v : Word) : Acts id w (w.putOut a v) := by
  have block : ¬ (isWindow (a / 4096) = false ∧ a % 4096 < 0x40) := fun h => by
    unfold progWritten at prog
    simp only [Bool.and_eq_true, decide_eq_true_eq] at prog
    omega
  unfold Work.putOut
  rw [if_neg block]
  extract_lets warmed
  have warmedA : Acts id w warmed := ((Acts.refl w).upd _ rfl rfl rfl).ite (.refl w)
  exact (Acts.refl w).ite (warmedA.trans (acts_writeWord prog warmed _ v))

end

/-- A force acts on the output image (R303). -/
theorem acts_forceOut (w : Work) (ident : Nat) : Acts id w (w.forceOut ident) := by
  have here := Acts.refl (g := id) w
  unfold Work.forceOut
  refine here.ite ?_
  split
  · split
    · exact acts_putOut ‹_› w _
    · exact here
  · split
    · exact (here.elsewhere ((Elsewhere.refl w).mboxSet _ _ _)).ite here
    · exact here

/-! The force table (R302 to R305) -/

/-- The program's part but for the force table and the words kept beneath forces. -/
def besideForces (t : TaskSt) : TaskSt := { t with forces := [], outImg := [] }

section
variable (w : Work)

/-- The table is changed: it takes the entries given. -/
theorem acts_setForces (l : List (Nat × Nat × Word)) : Acts besideForces w (w.setForces l) ∧ (w.setForces l).x.task.forces = l := by
  have shown : Acts id (w.taskUpd fun t => { t with forces := l }) (w.setForces l) := (Acts.refl _).forceShow
  refine ⟨((Acts.refl w).taskUpd (fun t => { t with forces := l }) rfl).trans shown.of_whole, ?_⟩
  have task : (w.setForces l).x.task = (w.taskUpd fun t => { t with forces := l }).x.task := shown.task
  rw [task]
  rfl

/-- The record of a force, and its way to the output image. -/
theorem acts_forced (ident what : Nat) (v : Word) (user : Nat) : Acts id w ((w.evForce ident what v user).forceOut ident) := by
  unfold Work.evForce
  exact (((Acts.refl w).emit _ _ _ _).irq _ _).trans (acts_forceOut _ ident)

/-- A change of the table with what follows it. -/
theorem acts_forceChange (l : List (Nat × Nat × Word)) (ident what : Nat) (v : Word) (user : Nat) :
    Acts besideForces w (((w.setForces l).evForce ident what v user).forceOut ident)
      ∧ (((w.setForces l).evForce ident what v user).forceOut ident).x.task.forces = l := by
  obtain ⟨changed, table⟩ := acts_setForces w l
  have told := acts_forced (w.setForces l) ident what v user
  refine ⟨changed.trans told.of_whole, ?_⟩
  have task : (((w.setForces l).evForce ident what v user).forceOut ident).x.task = (w.setForces l).x.task := told.task
  rw [task, table]

theorem acts_forceDrop (user : Nat) (e : Nat × Nat × Word) : Acts besideForces w (w.forceDrop user e)
    ∧ (w.forceDrop user e).x.task.forces = w.x.task.forces.filter fun f => decide (f.2.1 ≠ e.2.1) := acts_forceChange ..

/-- The word beneath a first force is kept (log entry 201). -/
theorem acts_keepOwn (ident : Nat) : Acts besideForces w (w.keepOwn ident) ∧ (w.keepOwn ident).x.task.forces = w.x.task.forces := by
  have here := Acts.refl (g := besideForces) w
  unfold Work.keepOwn
  split
  · split
    · exact ⟨here.taskUpd _ rfl, rfl⟩
    · exact ⟨here, rfl⟩
  · exact ⟨here, rfl⟩

/-- FORCE_CLRALL leaves no force. -/
theorem acts_forceClrAll (user : Nat) : Acts besideForces w (w.forceClrAll user) ∧ (w.forceClrAll user).x.task.forces = [] := by
  have drops (l : List (Nat × Nat × Word)) (v : Work) : Acts besideForces v (v.each l fun w e => w.forceDrop user e)
      ∧ ∀ f ∈ (v.each l fun w e => w.forceDrop user e).x.task.forces, f ∈ v.x.task.forces ∧ ∀ e ∈ l, f.2.1 ≠ e.2.1 := by
    induction l generalizing v with
    | nil => exact ⟨.refl v, fun f mem => ⟨mem, fun _ none => absurd none List.not_mem_nil⟩⟩
    | cons e l ih =>
      obtain ⟨dropped, table⟩ := acts_forceDrop v user e
      obtain ⟨rest, left⟩ := ih (v.forceDrop user e)
      refine ⟨dropped.trans rest, fun f mem => ?_⟩
      obtain ⟨stays, others⟩ := left f mem
      rw [table, List.mem_filter, decide_eq_true_eq] at stays
      exact ⟨stays.1, fun d hd => (List.mem_cons.1 hd).elim (fun e => e ▸ stays.2) (others d)⟩
  obtain ⟨acts, left⟩ := drops w.x.task.forces w
  refine ⟨acts, List.eq_nil_iff_forall_not_mem.2 fun f mem => ?_⟩
  obtain ⟨there, gone⟩ := left f mem
  exact gone f there rfl

end

end Sys2Proof.Proofs
end

section
/-! PROOF. The program starts, stops and holds at a boundary (R294, R297): of what the boundary rests on nothing moves but the module's state. -/

namespace Sys2Proof.Proofs

open Sys2Proof.Machine Sys2Proof.Laws

/-- What of the program's part the end of a boundary rests on. -/
def boundaryPart (t : TaskSt) : List (Nat × Word) × Bool × Bool := (t.hdr, t.due, t.wdDue)

namespace Elsewhere
variable {u w : Work}

/-! The control engine (R333, R345) -/

theorem lpSet (h : Elsewhere false u w) (n : Nat) (f : LaneLoop → LaneLoop) : Elsewhere false u (w.lpSet n f) := h.upd _ rfl

theorem lpWords (h : Elsewhere false u w) {n : Nat} (hn : n < 64) : Elsewhere false u (w.lpWords n) := by
  have word {a : Nat} (window : 0x100080 + 0x1000 * n ≤ a ∧ a < 0x1000c0 + 0x1000 * n) : Away a :=
    away_page (page := 0x100 + n) (by omega) (by omega) (by omega)
  have maps : Away (CTLENG.STKMAP (n / 32)) ∧ Away (CTLENG.BADMAP (n / 32)) :=
    ⟨away_page (page := 0x20) (by unfold CTLENG.STKMAP; omega) (by decide) (by unfold CTLENG.STKMAP; omega),
      away_page (page := 0x20) (by unfold CTLENG.BADMAP; omega) (by decide) (by unfold CTLENG.BADMAP; omega)⟩
  unfold Work.lpWords
  extract_lets l stat values outs steps marked
  have statE : Elsewhere false u stat := h.wr (word (by unfold RAM.LSTAT; omega)) _
  have valuesE : Elsewhere false u values := (((statE.wr (word (by unfold RAM.LSTICKY; omega)) _).wr (word (by unfold RAM.PV; omega)) _).wr
    (word (by unfold RAM.SPR; omega)) _).wr (word (by unfold RAM.ERR; omega)) _
  have outsE : Elsewhere false u outs := (((valuesE.wr (word (by unfold RAM.OUT; omega)) _).wr (word (by unfold RAM.ISTATE; omega)) _).wr
    (word (by unfold RAM.DSTATE; omega)) _).wr (word (by unfold RAM.PVPREV; omega)) _
  have stepsE : Elsewhere false u steps := outsE.wr (word (by unfold RAM.STEPS; omega)) _
  exact (stepsE.put maps.1 _ _).put maps.2 _ _

theorem lpShow (h : Elsewhere false u w) {n : Nat} (hn : n < 64) : Elsewhere false u (w.lpShow n) := by
  have page : ctlPageNo ≠ taskPage := by decide
  unfold Work.lpShow
  extract_lets l old rise rs words stuck bad
  have wordsE : Elsewhere false u words := h.lpWords hn
  have stuckE : Elsewhere false u stuck := wordsE.when _ (wordsE.irq page _)
  have badE : Elsewhere false u bad := stuckE.when _ (stuckE.irq page _)
  exact badE.when _ (badE.irq page _)

theorem ctlUpd (h : Elsewhere false u w) (f : CtlSt → CtlSt) : Elsewhere false u (w.upd fun x => { x with ctl := f x.ctl }) := h.upd _ rfl

theorem ctlRun (h : Elsewhere false u w) (kind : Nat) : Elsewhere false u (w.ctlRun kind) := by
  unfold Work.ctlRun
  refine (h.upd _ rfl).each _ fun k n mem => ?_
  have few := List.mem_range.1 (List.mem_filter.1 mem).1
  exact (((refl k).lpSet n _).lpShow few).ite ((refl k).lpSet n _)

theorem warmLoops (h : Elsewhere false u w) (c : RetCopy) : Elsewhere false u (w.warmLoops c) := by
  unfold Work.warmLoops
  refine (h.upd _ rfl).each _ fun k e mem => (refl k).wr ?_ _
  have place := (List.mem_filter.1 mem).2
  simp only [Bool.and_eq_true, decide_eq_true_eq] at place
  exact away_page (page := 0x20) (by omega) (by decide) (by omega)

/-! Belfry at a cold start (R380) -/

theorem belEnds (h : Elsewhere false u w) : Elsewhere false u w.belEnds := by
  unfold Work.belEnds
  extract_lets c d ended cleared called watched
  have endedE : Elsewhere false u ended := by
    refine h.each _ fun k pt _ => ?_
    extract_lets m normal
    have normalE : Elsewhere false k normal := (refl k).when _ ((refl k).toAstate pt _ _)
    exact normalE.when _ (((normalE.put (away_pstat pt) _ _).emit _ _ _ _).sendAlarm pt)
  have clearedE : Elsewhere false u cleared := endedE.belUpd _
  have calledE : Elsewhere false u called := clearedE.when _ ((clearedE.emit _ _ _ _).irq (by decide) _)
  have watchedE : Elsewhere false u watched := calledE.when _ ((calledE.emit _ _ _ _).irq (by decide) _)
  exact watchedE.when _ watchedE.callOut.sendCall

theorem belInit (h : Elsewhere false u w) (keepOos : Bool) : Elsewhere false u (w.belInit keepOos) := by
  unfold Work.belInit
  extract_lets t ended cleared pointed grouped
  have endedE : Elsewhere false u ended := h.when _ h.belEnds
  have clearedE : Elsewhere false u cleared := endedE.belUpd _
  have pointedE : Elsewhere false u pointed := by
    refine clearedE.each _ fun k pt _ => ?_
    extract_lets m stated timed
    have statedE : Elsewhere false k stated := (refl k).wr (away_pstat pt) _
    have timedE : Elsewhere false k timed := ((statedE.put (away_offeff pt) _ _).wr (away_timer pt) _).wr (away_ringctl pt) _
    exact timedE.each _ fun k i mem => (refl k).wr (away_ring pt (List.mem_range.1 mem)) _
  have groupedE : Elsewhere false u grouped :=
    pointedE.each _ fun k g mem => (refl k).wr (away_gstat (by have := List.mem_range.1 mem; omega)) _
  exact (groupedE.audible _).callOut

end Elsewhere

/-! Start (R294) -/

section
variable (w : Work)

theorem acts_coldStart (why : Nat) : Acts boundaryPart w (w.coldStart why) := by
  unfold Work.coldStart
  extract_lets vars begun shown
  have begunA : Acts boundaryPart w begun := (Acts.refl w).taskUpd _ rfl
  have shownA : Acts boundaryPart w shown := (begunA.put (a := TASK.OLCSTAT) (by decide) _ _).put (a := TASK.STAT) (by decide) _ _
  have belfryE := (Elsewhere.refl (q := false) shown).belInit true
  have initA : Acts boundaryPart w (shown.when (shown.enabled belPage) fun w => w.belInit true) := shownA.when _ (shownA.elsewhere belfryE)
  exact initA.elsewhere ((Elsewhere.refl _).ctlRun 2)

theorem acts_warmStart (c : RetCopy) : Acts boundaryPart w (w.warmStart c) := by
  unfold Work.warmStart
  exact (((Acts.refl w).taskUpd _ rfl).put (a := TASK.STAT) (by decide) _ _).elsewhere (((Elsewhere.refl _).warmLoops c).ctlRun 1)

theorem Acts.formsStart {α : Type} {g : TaskSt → α} {u w : Work} (h : Acts g u w) : Acts g u w.formsStart := by
  unfold Work.formsStart
  exact h.upd _ rfl rfl rfl

/-- The program starts; no watchdog stop is due then. -/
theorem acts_startProgram (kind : Nat) (wd : w.x.task.wdDue = false) : Acts boundaryPart w (w.startProgram kind) := by
  unfold Work.startProgram
  extract_lets begun
  have cleared : Acts boundaryPart w (w.taskUpd fun t => { t with run := [], wdDue := false }) :=
    (Acts.refl w).taskUpd _ (by unfold boundaryPart; rw [wd])
  have begunA : Acts boundaryPart w begun := cleared.formsStart
  have alarmed : Acts boundaryPart w (begun.when begun.retainBad fun w => w.cause 0x0E taskPage 0 true) :=
    begunA.when _ (begunA.elsewhere ((Elsewhere.refl begun).cause _ _ _ _))
  split
  · split
    · exact begunA.trans (acts_warmStart begun _)
    · exact alarmed.trans (acts_coldStart _ 3)
  · exact begunA.trans (acts_coldStart begun 2)

/-- The figures since RUN begin anew. -/
theorem acts_runFigures : Acts boundaryPart w w.runFigures := by
  unfold Work.runFigures
  extract_lets timed skewed
  have timedA : Acts boundaryPart w timed := by
    refine (Acts.refl w).each _ fun k i mem => (Acts.refl k).put ?_ _ _
    have := List.mem_range.1 mem
    unfold TASK.TIME HDR.OPSTAT taskPage PROCTOR.STAT pg
    omega
  have skewedA : Acts boundaryPart w skewed := by
    refine timedA.each _ fun k f mem => (Acts.refl k).put ?_ _ _
    have := List.mem_range.1 mem
    unfold FORM.SKEW HDR.OPSTAT taskPage PROCTOR.STAT pg
    omega
  have shownA := skewedA.put (a := PROCTOR.CKSTAT) (by decide) PROCTOR.CKSTAT_SKEWMAX 0
  have flaggedA := shownA.setFlag taskPage noSub (a := TASK.STAT) (by decide) TASK.STAT_XWRITE false
  exact flaggedA.elsewhere ((Elsewhere.refl _).belUpd _)

theorem Acts.trunSet {u v : Work} (h : Acts boundaryPart u v) (i : Nat) (f : TaskRun → TaskRun) : Acts boundaryPart u (v.trunSet i f) :=
  h.taskUpd _ rfl

/-- HOLD from Run discards what is late, and closes what is open. -/
theorem acts_holdTasks : Acts boundaryPart w w.holdTasks := by
  unfold Work.holdTasks
  extract_lets discarded closed
  have discardedA : Acts boundaryPart w discarded :=
    (Acts.refl w).each _ fun k i _ => ((Acts.refl k).trunSet i _).ite (Acts.refl k)
  have closedA : Acts boundaryPart w closed := discardedA.elsewhere ((Elsewhere.refl (q := false) discarded).procUpd _)
  exact closedA.elsewhere ((Elsewhere.refl closed).ctlUpd fun c => { c with isOpen := false, staged := [] })

end

/-! Entering a state (R297) -/

theorem Turns.acts {m : Mode} {u w : Work} (h : Turns false m u w) : Acts boundaryPart u w := by
  refine ⟨h.kept _ (not_not_intro (.inr (.inl (by decide)))), h.split, h.role, h.upsets, ?_⟩
  have part (t : TaskSt) : boundaryPart t = boundaryPart { t with run := [], holdReady := false } := rfl
  rw [part, h.task, ← part]

/-- From `u` to `w` an operation acts that ends in state `m`. -/
abbrev Enters (m : Mode) (u w : Work) : Prop := Acts boundaryPart u w ∧ w.x.mode = m

theorem Acts.enters {m : Mode} {u w : Work} (h : Acts boundaryPart u w) (why : Nat)
    (hm : m = .run ∨ m = .hold ∨ m = .ready ∧ (w.x.mode = .run ∨ w.x.mode = .hold)) : Enters m u (w.toMode m why) :=
  ⟨h.trans (turns_toMode w why hm).acts, (turns_toMode w why hm).mode⟩

end Sys2Proof.Proofs
end

section
/-! PROOF. An accepted operation of the TASK page waits, and the next main boundary of a calm module lets it act (R297, R321). -/

namespace Sys2Proof.Proofs

open Sys2Proof.Machine Sys2Proof.Laws

/-! It waits -/

theorem op?_captured (w : Work) (snap : Snapshot) (page : Nat) : (captured w snap).op? page = w.op? page := by
  unfold Work.op?
  rw [x_captured]

/-- The operation as its START leaves it. -/
def opOf (p : Party) (op a : Nat) : OpRun := ⟨taskPage, op, a, p, false, []⟩

/-- An operation of the TASK page has begun, and is due. -/
def waiting (s : State) (p : Party) (op a : Nat) : Work := ((begin s).opBegin p taskPage op a []).taskUpd fun t => { t with due := true }

theorem op?_taskUpd (w : Work) (f : TaskSt → TaskSt) (page : Nat) : (w.taskUpd f).op? page = w.op? page := rfl
theorem opBusy_taskUpd (w : Work) (f : TaskSt → TaskSt) (page : Nat) : (w.taskUpd f).opBusy page = w.opBusy page := rfl

section
variable (s : State) (p : Party) (op a : Nat)

theorem rd_waiting {b : Nat} (hb : b ≠ HDR.OPSTAT taskPage ∧ b ≠ HDR.PGSTAT taskPage) : (waiting s p op a).rd b = s.rd b := by
  unfold waiting
  rw [rd_taskUpd, keeps_opBegin _ _ _ _ _ _ b (not_or.2 hb), rd_begin]

theorem x_waiting : (waiting s p op a).x.task = { s.x.task with due := true } ∧ (waiting s p op a).x.mode = s.x.mode
    ∧ (waiting s p op a).x.role = s.x.role ∧ (waiting s p op a).x.upsets = s.x.upsets ∧ (waiting s p op a).x.img = s.x.img
    ∧ (waiting s p op a).x.proc = s.x.proc := by
  unfold waiting
  rw [x_taskUpd, x_opBegin, x_begin]
  exact ⟨rfl, rfl, rfl, rfl, rfl, rfl⟩

theorem opstat_waiting : (waiting s p op a).rd (HDR.OPSTAT taskPage) = BitVec.ofNat 32 (op * 256 + 1) := by
  unfold waiting
  rw [rd_taskUpd, rd_opstat_opBegin]

theorem op_waiting : (waiting s p op a).op? taskPage = some (opOf p op a) := by
  rw [waiting, op?_taskUpd, op?_opBegin]
  rfl

theorem busy_waiting : (waiting s p op a).opBusy taskPage = true := by
  rw [waiting, opBusy_taskUpd, opBusy_opBegin]

/-- It is BUSY, and nothing of the program changed (R56). -/
theorem taskWaits {t : State} (settled : Settled (waiting s p op a) t) (few : op < 8) : TaskWaits s t op := by
  obtain ⟨task, mode, -⟩ := x_waiting s p op a
  obtain ⟨tMode, -, -, -, -, -, tTask, -⟩ := settled.parts
  have opstat : t.rd (HDR.OPSTAT taskPage) = BitVec.ofNat 32 (op * 256 + 1) := by
    rw [settled.rd _ (not_follows (by decide)), opstat_waiting]
  refine ⟨tTask.trans task, tMode.trans mode, ?_, ?_⟩ <;>
  · rw [State.get, opstat]
    interval_cases op <;> decide

end

/-! The boundary that follows -/

/-- At a boundary of a module that was calm in `s` an operation is about to act in `w`. -/
structure Due (s : State) (w : Work) : Prop where
  rd : ∀ b, Held b → b ≠ HDR.OPSTAT taskPage → b ≠ TASK.CYCLE → b ≠ TASK.CYCLEH → w.rd b = s.rd b
  busy : w.opBusy taskPage = true
  split : w.get PROCTOR.STAT PROCTOR.STAT_SPLIT = 0
  mode : w.x.mode = s.x.mode
  role : w.x.role = .solo
  upsets : w.x.upsets = []
  img : w.x.img = s.x.img
  task : ∃ snap, w.x.task = { s.x.task with snap := snap, released := false, due := false }

/-- What the boundary leaves of what the operation did. -/
structure BoundaryShows (r : Work) (u : State) : Prop where
  mode : u.x.mode = r.x.mode
  task : { u.x.task with snap := {}, run := [] } = { r.x.task with snap := {}, run := [] }
  stat : ∀ f : Fld, f.lo + f.w ≤ 24 → u.get TASK.STAT f = r.get TASK.STAT f
  olc : ∀ f : Fld, u.get TASK.OLCSTAT f = r.get TASK.OLCSTAT f

section
variable (s : State) (p : Party) (op a : Nat)

/-- The state that an accepted operation leaves. -/
abbrev accepted : State := finish s (waiting s p op a)

variable (hq : Quiet s)
include hq

theorem quiet_waiting : (waiting s p op a).x.task.hdr = [] := by
  obtain ⟨task, -⟩ := x_waiting s p op a
  rw [task]
  exact hq

theorem accepted_elsewhere : Elsewhere true (waiting s p op a) (begin (accepted s p op a)) := by
  have settled := (Elsewhere.refl (waiting s p op a)).settle s (quiet_waiting s p op a hq)
  exact settled.trans (.of_regs (fun b _ => by rw [rd_begin, rd_finish]) (by rw [x_begin, x_finish]; rfl))

/-- A calm module stays calm. -/
theorem accepted_calm (calm : Calm s) : Calm (accepted s p op a) := by
  have elsewhere := accepted_elsewhere s p op a hq
  have settled := settled_finish (s := s) (quiet_waiting s p op a hq)
  obtain ⟨task, -, role, -, -, proc⟩ := x_waiting s p op a
  obtain ⟨-, tRole, -, -, -, -, tTask, -⟩ := settled.parts
  obtain ⟨_, _, _, _, _, noise⟩ := settled.noise
  have tProc : (accepted s p op a).x.proc = s.x.proc := by
    rw [noise]
    exact proc
  obtain ⟨solo, alone, wd, shut, rot, split, late, fallback, bank, resync, passes, whole⟩ := calm
  rw [Calm, tProc, tRole, tTask, role, task]
  refine ⟨solo, ?_, wd, shut, rot, split, late, fallback, bank, resync, passes, ?_⟩
  · have cfg : (begin (accepted s p op a)).get PAIR.CFG PAIR.CFG_PAIRED = (begin s).get PAIR.CFG PAIR.CFG_PAIRED := by
      rw [elsewhere.get (.inr (.inr (.inl (by decide)))), Work.get, rd_waiting _ _ _ _ (by decide)]
      rfl
    unfold Work.paired Work.flag at alone ⊢
    rw [cfg]
    exact alone
  · rw [← get_begin, elsewhere.split, Work.get, rd_waiting _ _ _ _ (by decide)]
    exact whole

/-- At the next boundary, when the capture is made, the operation is about to act. -/
theorem boundary_due (calm : Calm s) (undisturbed : s.x.upsets = []) (mode : [Mode.held, .ready, .run, .hold].contains s.x.mode = true) :
    ∃ cap, mainBoundary (begin (accepted s p op a)) = afterCapture cap ∧ cap.op? taskPage = some (opOf p op a) ∧ cap.x.task.due = true
      ∧ cap.x.task.wdDue = false ∧ Due s (cap.taskUpd fun t => { t with due := false }) := by
  have quiet := accepted_calm s p op a hq calm
  have elsewhere := accepted_elsewhere s p op a hq
  obtain ⟨task, wMode, -, upsets, img, -⟩ := x_waiting s p op a
  obtain ⟨snap, captured, -⟩ := (calm_procBoundary (q := true) quiet).capture
  have sameMode : (accepted s p op a).x.mode = s.x.mode := elsewhere.mode.trans wMode
  refine ⟨_, mainBoundary_calm quiet (by rw [sameMode]; exact mode), ?_⟩
  generalize (counted (begin (accepted s p op a))).procBoundary.capture = cap at captured
  have capTask : cap.x.task = { s.x.task with snap := snap, released := false, due := true } := by
    rw [captured.task, x_captured]
    dsimp only
    rw [elsewhere.task, task]
  obtain ⟨-, -, wd, -⟩ := calm
  obtain ⟨solo, -, -, -, -, -, -, -, -, -, -, whole⟩ := quiet
  have reads {b : Nat} (held : Held b) (low : b ≠ TASK.CYCLE) (high : b ≠ TASK.CYCLEH) : cap.rd b = (waiting s p op a).rd b := by
    rw [captured.rd held, rd_captured _ _ ⟨low, high⟩, elsewhere.rd held]
  refine ⟨?_, by rw [capTask], by rw [capTask]; exact wd, ?_⟩
  · rw [captured.op, op?_captured, elsewhere.op, op_waiting]
  · refine ⟨fun b held other low high => ?_, ?_, ?_, ?_, ?_, ?_, ?_, snap, ?_⟩
    · have gate : b ≠ HDR.PGSTAT taskPage := by
        rintro rfl
        unfold Held HDR.PGSTAT taskPage pg at held
        omega
      rw [rd_taskUpd, reads held low high, rd_waiting _ _ _ _ ⟨other, gate⟩]
    · rw [opBusy_taskUpd, ← busy_waiting s p op a]
      unfold Work.opBusy Work.get
      rw [reads (.inr (.inl (by decide))) (by decide) (by decide)]
    · rw [get_taskUpd, captured.split, get_captured _ _ (by decide), get_begin]
      exact whole
    · rw [x_taskUpd]
      exact captured.mode.trans (by rw [x_captured]; exact sameMode)
    · rw [x_taskUpd]
      exact captured.role.trans (by rw [x_captured]; exact solo)
    · rw [x_taskUpd]
      exact captured.upsets.trans (by rw [x_captured]; exact elsewhere.upsets.trans (upsets.trans undisturbed))
    · rw [x_taskUpd]
      exact captured.img.trans (by rw [x_captured]; exact elsewhere.img.trans img)
    · rw [x_taskUpd, capTask]

end

/-! What the boundary does after the operation -/

/-- An operation that acts to its end. -/
theorem taskDue_acts {cap r : Work} {o : OpRun} (waits : cap.op? taskPage = some o) (due : cap.x.task.due = true) (free : o.abort = false)
    (acts : (cap.taskUpd fun t => { t with due := false }).taskAct o = (r, opDone, 0)) (wd : r.x.task.wdDue = false) :
    cap.taskDue = r.opEnd taskPage opDone 0 := by
  have left : (r.opEnd taskPage opDone 0).x.task.wdDue = false := by rw [opEnd_rest]; exact wd
  have notDue : ¬ cap.x.task.due = false := by rw [due]; decide
  have notAborted : ¬ o.abort = true := by rw [free]; decide
  unfold Work.taskDue
  extract_lets taken acted
  have actedE : acted = r.opEnd taskPage opDone 0 := by
    unfold acted
    rw [waits]
    dsimp only
    rw [if_neg notDue, if_neg notAborted, acts]
  rw [actedE]
  exact if_pos left

/-- The end of the operation, the start frame, Belfry and the release of the tasks leave what the operation did. -/
theorem boundary_shows {t : State} {cap r : Work} (busy : r.opBusy taskPage = true) (whole : r.get PROCTOR.STAT PROCTOR.STAT_SPLIT = 0)
    (solo : r.x.role = .solo) (undisturbed : r.x.upsets = []) (quiet : r.x.task.hdr = []) (ended : cap.taskDue = r.opEnd taskPage opDone 0)
    (effect : mainBoundary (begin t) = afterCapture cap) :
    Runs .mainBoundary t fun u => BoundaryShows r u ∧ u.get (HDR.OPSTAT taskPage) HDR.OPSTAT_STATE = 2 := by
  obtain ⟨done, -⟩ := get_opEnd r taskPage opDone 0 busy (by decide)
  have endKeeps := keeps_opEnd r taskPage opDone 0
  have rest := opEnd_rest r taskPage opDone 0
  generalize r.opEnd taskPage opDone 0 = e at ended done endKeeps rest
  have eRole : e.x.role = .solo := by rw [rest]; exact solo
  have eUpsets : e.x.upsets = [] := by rw [rest]; exact undisturbed
  have eWhole : e.get PROCTOR.STAT PROCTOR.STAT_SPLIT = 0 := (endKeeps.get (by decide) _).trans whole
  obtain ⟨snap, started⟩ : ∃ snap, Elsewhere false (e.taskUpd fun t => { t with snap := snap }) e.snapForces.iosStart :=
    ⟨_, (Elsewhere.refl _).iosStart⟩
  rw [afterCapture_solo (by rw [ended, started.role, x_taskUpd]; exact eRole), ended] at effect
  have upsets : e.snapForces.iosStart.x.upsets = [] := by
    rw [started.upsets, x_taskUpd]
    exact eUpsets
  have evaluated := started.when e.snapForces.iosStart.belDue (f := fun w => w.belBoundary cap) (started.belBoundary cap upsets)
  generalize e.snapForces.iosStart.when e.snapForces.iosStart.belDue (fun w => w.belBoundary cap) = v at effect evaluated
  have releasedR := released (w := v) (by rw [evaluated.split, get_taskUpd, eWhole])
  have task : { v.releaseTasks.x.task with run := [] } = { r.x.task with snap := snap, run := [] } := by
    rw [releasedR.task, evaluated.task, x_taskUpd, rest]
  have hdr : v.releaseTasks.x.task.hdr = [] := (congrArg TaskSt.hdr task :).trans quiet
  refine runs_settled rfl (by rw [effect]; exact hdr) fun u settled => ?_
  rw [effect] at settled
  obtain ⟨uMode, -, -, -, -, -, uTask, -⟩ := settled.parts
  have shows {b : Nat} (page : b / 4096 = 0x10) (held : Held b) (other : b ≠ TASK.STAT) (f : Fld) : u.get b f = e.get b f := by
    rw [task_shows settled page, releasedR.get (by omega) other, evaluated.get held, get_taskUpd]
  refine ⟨⟨?_, ?_, fun f hf => ?_, fun f => ?_⟩, ?_⟩
  · rw [uMode, releasedR.mode, evaluated.mode, x_taskUpd, rest]
  · rw [uTask]
    exact congrArg (fun t : TaskSt => { t with snap := {}, run := [] }) task
  · rw [task_shows settled rfl, releasedR.stat f hf, evaluated.get (held_task rfl (by decide)), get_taskUpd]
    exact endKeeps.get (by decide) f
  · rw [shows rfl (.inr (.inl (by decide))) (by decide)]
    exact endKeeps.get (by decide) f
  · rw [shows rfl (.inr (.inl (by decide))) (by decide), done]
    rfl

end Sys2Proof.Proofs
end

section
/-! PROOF. Each operation of the TASK page as it acts at its boundary (R294, R297, R302 to R309). -/

namespace Sys2Proof.Proofs

open Sys2Proof.Machine Sys2Proof.Laws

section
variable {s : State} {w : Work} (h : Due s w) {p : Party} {a : Nat}
include h

/-- A module with no partner is no Standby: its operation acts. -/
theorem Due.active : ¬ w.x.role = .standby := by
  rw [h.role]
  decide

theorem Due.wd (calm : Calm s) : w.x.task.wdDue = false := by
  obtain ⟨-, -, wd, -⟩ := calm
  obtain ⟨_, task⟩ := h.task
  rw [task]
  exact wd

/-! RUN, STOP and HOLD -/

theorem Due.run_ready (calm : Calm s) (mode : s.x.mode = .ready) :
    ∃ r, w.taskAct (opOf p 1 a) = (r, opDone, 0) ∧ Acts boundaryPart w r ∧ r.x.mode = .run := by
  have started : Acts boundaryPart w ((w.startProgram a).upd fun x => { x with img := { x.img with restart := 0 } }) :=
    (acts_startProgram w a (h.wd calm)).upd _ rfl rfl rfl
  refine ⟨_, ?_, (started.trans (acts_runFigures _)).enters 0 (.inl rfl)⟩
  unfold Work.taskAct opOf
  rw [h.mode, mode]
  exact (if_neg h.active).trans (if_pos rfl)

theorem Due.run_hold (mode : s.x.mode = .hold) : ∃ r, w.taskAct (opOf p 1 a) = (r, opDone, 0) ∧ Acts boundaryPart w r ∧ r.x.mode = .run := by
  obtain ⟨entered, running⟩ := (acts_runFigures w).enters 0 (m := .run) (.inl rfl)
  have resumed := (Elsewhere.refl (q := false) (w.runFigures.toMode .run 0)).ctlRun 0
  refine ⟨_, ?_, entered.elsewhere resumed, resumed.mode.trans running⟩
  unfold Work.taskAct opOf
  rw [h.mode, mode]
  exact (if_neg h.active).trans ((if_neg (by decide)).trans (if_pos rfl))

theorem Due.hold_run (mode : s.x.mode = .run) : ∃ r, w.taskAct (opOf p 3 a) = (r, opDone, 0) ∧ Acts boundaryPart w r ∧ r.x.mode = .hold := by
  refine ⟨_, ?_, (acts_holdTasks w).enters 0 (.inr (.inl rfl))⟩
  unfold Work.taskAct opOf
  rw [h.mode, mode]
  exact (if_neg h.active).trans (if_pos rfl)

theorem Due.hold_ready (calm : Calm s) (mode : s.x.mode = .ready) :
    ∃ r, w.taskAct (opOf p 3 a) = (r, opDone, 0) ∧ Acts boundaryPart w r ∧ r.x.mode = .hold := by
  have started : Acts boundaryPart w ((w.startProgram a).upd fun x => { x with img := { x.img with restart := 0 } }) :=
    (acts_startProgram w a (h.wd calm)).upd _ rfl rfl rfl
  refine ⟨_, ?_, (started.taskUpd (fun t => { t with holdReady := true }) rfl).enters 0 (.inr (.inl rfl))⟩
  unfold Work.taskAct opOf
  rw [h.mode, mode]
  exact (if_neg h.active).trans ((if_neg (by decide)).trans (if_pos rfl))

/-- The program stops: Ready, with the party in STOPWHY. -/
theorem Due.stopped (calm : Calm s) (mode : s.x.mode = .run ∨ s.x.mode = .hold) : ∃ r, w.taskAct (opOf p 2 a) = (r, opDone, 0)
    ∧ Acts boundaryPart w r ∧ r.x.mode = .ready ∧ r.get TASK.STAT TASK.STAT_STOPWHY = if p = .program then 2 else 1 := by
  let why := if p = .program then 2 else 1
  have few : why < 2 ^ TASK.STAT_STOPWHY.w ∧ decide (why = 3) = false := by
    unfold why
    split <;> decide
  let cleared := (w.put TASK.STAT TASK.STAT_STOPWHY why).taskUpd fun t => { t with wdDue := false, run := [] }
  have shown : Acts boundaryPart w (w.put TASK.STAT TASK.STAT_STOPWHY why) := (Acts.refl w).put (by decide) _ _
  have clearedA : Acts boundaryPart w cleared := shown.taskUpd _ (by unfold boundaryPart; rw [x_put, h.wd calm])
  have serves : cleared.x.mode = .run ∨ cleared.x.mode = .hold := by
    rw [show cleared.x.mode = s.x.mode from h.mode]
    exact mode
  have stops : w.stopProgram why = cleared.toMode .ready 0 := by
    unfold Work.stopProgram Work.when
    rw [few.2]
    rfl
  have entered := turns_toMode cleared 0 (m := .ready) (.inr (.inr ⟨rfl, serves⟩))
  refine ⟨w.stopProgram why, ?_, ?_⟩
  · unfold Work.taskAct opOf
    rw [h.mode]
    exact (if_neg h.active).trans (if_pos mode)
  · rw [stops]
    refine ⟨clearedA.trans entered.acts, entered.mode, ?_⟩
    rw [entered.get (held_task rfl (by decide)), get_taskUpd, get_put_same _ _ _ _ (by decide)]
    exact Nat.mod_eq_of_lt few.1

end

end Sys2Proof.Proofs
end

section
/-! PROOF. Forces and on-line changes as they act at their boundary (R302 to R309). -/

namespace Sys2Proof.Proofs

open Sys2Proof.Machine Sys2Proof.Laws

theorem Acts.forces_boundary {u w : Work} (h : Acts besideForces u w) : Acts boundaryPart u w := by
  have part (t : TaskSt) : boundaryPart (besideForces t) = boundaryPart t := rfl
  exact ⟨h.opstat, h.split, h.role, h.upsets, by rw [← part, h.task, part]⟩

section
variable {s : State} {w : Work} (h : Due s w)
include h

/-! What a boundary finds of the image, the gates and the program -/

theorem Due.content : w.activeContent = (begin s).activeContent := by
  unfold Work.activeContent Work.get
  rw [h.img, h.rd SYS.IMAGE (.inr (.inr (.inr (.inl (by decide))))) (by decide) (by decide) (by decide), x_begin]
  rfl

theorem Due.vars : w.x.task.vars = s.x.task.vars := by
  obtain ⟨_, task⟩ := h.task
  rw [task]

theorem Due.forces : w.x.task.forces = s.x.task.forces := by
  obtain ⟨_, task⟩ := h.task
  rw [task]

theorem Due.progVars : w.progVars = (begin s).progVars := by
  unfold Work.progVars Work.initVars
  rw [h.content, h.vars, x_begin]

/-- The gate of a page; page 0x025 has none. -/
theorem Due.enabled {page : Nat} (mapped : page ≠ 0x25) : w.enabled page = (begin s).enabled page := by
  have gate : Held (HDR.PGCTL page) := .inl (by unfold HDR.PGCTL pg; omega)
  have other : HDR.PGCTL page ≠ HDR.OPSTAT taskPage ∧ HDR.PGCTL page ≠ TASK.CYCLE ∧ HDR.PGCTL page ≠ TASK.CYCLEH := by
    unfold HDR.PGCTL HDR.OPSTAT taskPage TASK.CYCLE TASK.CYCLEH pg
    omega
  unfold Work.enabled Work.flag Work.get
  rw [h.rd _ gate other.1 other.2.1 other.2.2, rd_begin]

/-- What can be forced is the same (R302, R321). -/
theorem Due.forceFault (ident : Nat) : w.forceFault ident = (begin s).forceFault ident := by
  unfold Work.forceFault Work.isIoVar
  rw [h.progVars, h.content]
  cases regOf ident with
  | none => rfl
  | some a =>
    have lanes : w.enabled ctlPageNo = (begin s).enabled ctlPageNo := h.enabled (by decide)
    dsimp only
    unfold Work.snapReadable
    rw [lanes]
    by_cases gap : a / 4096 = 0x25
    · have unmapped : kindOf (a / 4096) = .unmapped := by rw [gap]; decide
      have unwritten : progWritten a = false := Bool.eq_false_iff.2 fun prog => by
        have range := (progWritten_range prog).2
        rw [unmapped] at range
        exact absurd range.2 (Nat.not_lt_zero _)
      simp [unmapped, unwritten]
    · rw [h.enabled gap]

end

/-! Forces -/

/-- The force table after FORCE_SET: the register's entry holds the value, the others stand. -/
def ForceSet (ident : Nat) (v : Word) (before after : List (Nat × Nat × Word)) : Prop :=
  (∃ e ∈ after, e.2 = (ident, v)) ∧ after.filter (fun e => decide (e.2.1 ≠ ident)) = before.filter fun e => decide (e.2.1 ≠ ident)

theorem forceSet_changed {ident : Nat} (v : Word) {l : List (Nat × Nat × Word)} {e : Nat × Nat × Word} (mem : e ∈ l) (he : e.2.1 = ident) :
    ForceSet ident v l (l.map fun e => if e.2.1 = ident then (e.1, ident, v) else e) := by
  refine ⟨⟨(e.1, ident, v), List.mem_map.2 ⟨e, mem, if_pos he⟩, rfl⟩, ?_⟩
  clear mem
  induction l with
  | nil => rfl
  | cons d l ih =>
    rw [List.map_cons, List.filter_cons, List.filter_cons, ih]
    by_cases own : d.2.1 = ident
    · simp [own]
    · simp [own]

theorem forceSet_added {ident : Nat} (v : Word) (l : List (Nat × Nat × Word)) (n : Nat) : ForceSet ident v l (l ++ [(n, ident, v)]) := by
  refine ⟨⟨(n, ident, v), by simp, rfl⟩, ?_⟩
  rw [List.filter_append]
  simp

section
variable {s : State} {w : Work} (h : Due s w) {p : Party} {a : Nat}
include h

theorem Due.fvar : w.rd TASK.FVAR = s.rd TASK.FVAR ∧ w.rd TASK.FVAL = s.rd TASK.FVAL := by
  have reads {b : Nat} (held : Held b) (other : b ≠ HDR.OPSTAT taskPage ∧ b ≠ TASK.CYCLE ∧ b ≠ TASK.CYCLEH) : w.rd b = s.rd b :=
    h.rd b held other.1 other.2.1 other.2.2
  exact ⟨reads (.inr (.inl (by decide))) (by decide), reads (.inr (.inl (by decide))) (by decide)⟩

theorem Due.force_set (free : (begin s).forceFault (s.rd TASK.FVAR).toNat = none) (room : s.x.task.forces.length < 256) :
    ∃ r, w.taskAct (opOf p 4 a) = (r, opDone, 0) ∧ Acts boundaryPart w r
      ∧ ForceSet (s.rd TASK.FVAR).toNat (s.rd TASK.FVAL) s.x.task.forces r.x.task.forces := by
  obtain ⟨fvar, fval⟩ := h.fvar
  have act : w.taskAct (opOf p 4 a) = w.forceSetNow (w.userOf p) := if_neg h.active
  rw [act]
  unfold Work.forceSetNow
  dsimp only
  rw [fvar, fval, h.forceFault, free, h.forces]
  dsimp only
  cases found : s.x.task.forces.find? fun e => decide (e.2.1 = (s.rd TASK.FVAR).toNat) with
  | some e =>
    obtain ⟨changed, table⟩ := acts_forceChange w (s.x.task.forces.map fun e => if e.2.1 = (s.rd TASK.FVAR).toNat then (e.1, (s.rd TASK.FVAR).toNat, s.rd TASK.FVAL) else e)
      (s.rd TASK.FVAR).toNat 2 (s.rd TASK.FVAL) (w.userOf p)
    exact ⟨_, rfl, changed.forces_boundary, by
      rw [table]
      exact forceSet_changed _ (List.mem_of_find?_eq_some found) (of_decide_eq_true (List.find?_some found :))⟩
  | none =>
    obtain ⟨kept, -⟩ := acts_keepOwn w (s.rd TASK.FVAR).toNat
    obtain ⟨changed, table⟩ := acts_forceChange (w.keepOwn (s.rd TASK.FVAR).toNat)
      (s.x.task.forces ++ [(freeEntry s.x.task.forces, (s.rd TASK.FVAR).toNat, s.rd TASK.FVAL)]) (s.rd TASK.FVAR).toNat 1 (s.rd TASK.FVAL) (w.userOf p)
    dsimp only
    rw [if_neg (by omega)]
    exact ⟨_, rfl, (kept.trans changed).forces_boundary, by
      rw [table]
      exact forceSet_added _ _ _⟩

theorem Due.force_clr (there : ∃ e ∈ s.x.task.forces, e.2.1 = (s.rd TASK.FVAR).toNat) :
    ∃ r, w.taskAct (opOf p 5 a) = (r, opDone, 0) ∧ Acts boundaryPart w r
      ∧ r.x.task.forces = s.x.task.forces.filter fun e => decide (e.2.1 ≠ (s.rd TASK.FVAR).toNat) := by
  obtain ⟨fvar, -⟩ := h.fvar
  have act : w.taskAct (opOf p 5 a) = w.forceClrNow (w.userOf p) := if_neg h.active
  rw [act]
  unfold Work.forceClrNow
  dsimp only
  rw [fvar, h.forces]
  cases found : s.x.task.forces.find? fun e => decide (e.2.1 = (s.rd TASK.FVAR).toNat) with
  | some e =>
    have own : e.2.1 = (s.rd TASK.FVAR).toNat := of_decide_eq_true (List.find?_some found :)
    obtain ⟨dropped, table⟩ := acts_forceDrop w (w.userOf p) e
    exact ⟨_, rfl, dropped.forces_boundary, by rw [table, h.forces, own]⟩
  | none =>
    obtain ⟨e, mem, own⟩ := there
    exact absurd own (by simpa using List.find?_eq_none.1 found e mem)

theorem Due.force_clrall : ∃ r, w.taskAct (opOf p 6 a) = (r, opDone, 0) ∧ Acts boundaryPart w r ∧ r.x.task.forces = [] := by
  obtain ⟨cleared, table⟩ := acts_forceClrAll w (w.userOf p)
  exact ⟨_, if_neg h.active, cleared.forces_boundary, table⟩

end

/-! On-line changes (R306 to R309) -/

/-- The checks of a change set rest on the buffer, the image, the variables, the forces and the journal (R307). -/
theorem olcCheck_same {u w : Work} (buf : w.x.task.setBuf = u.x.task.setBuf) (act : w.rd SYS.ACTID = u.rd SYS.ACTID) (vars : w.progVars = u.progVars)
    (forces : w.x.task.forces = u.x.task.forces) (journal : w.x.task.journal = u.x.task.journal) : w.olcCheck = u.olcCheck := by
  unfold Work.olcCheck
  rw [buf, act, vars, forces, journal]

/-- A change set is recorded, entry by entry where a force lies above. -/
theorem acts_olcNow (w : Work) (es : List OlcEnt) : Acts boundaryPart w (w.olcNow es) ∧ (w.olcNow es).x.task.journal = w.x.task.journal ++ es
    ∧ (w.olcNow es).get TASK.OLCSTAT TASK.OLCSTAT_JCOUNT = (w.x.task.journal.length + es.length) % 2 ^ TASK.OLCSTAT_JCOUNT.w := by
  unfold Work.olcNow
  extract_lets vars id applied counted told
  have appliedA : Acts boundaryPart w applied := (Acts.refl w).taskUpd _ rfl
  have countedA : Acts boundaryPart w counted := (appliedA.put (a := TASK.OLCSTAT) (by decide) _ _).put (a := TASK.OLCSETS) (by decide) _ _
  have journal : counted.x.task.journal = w.x.task.journal ++ es := by
    unfold counted applied
    rw [x_incWrap, x_put, x_taskUpd]
  have count : counted.get TASK.OLCSTAT TASK.OLCSTAT_JCOUNT = (w.x.task.journal.length + es.length) % 2 ^ TASK.OLCSTAT_JCOUNT.w := by
    unfold counted applied
    rw [get_incWrap_ne _ _ _ _ _ (by decide), get_put_same _ _ _ _ (by decide), x_taskUpd, List.length_append]
  have recorded := ((Elsewhere.refl (q := false) counted).emit taskPage 0x0C noSub
      [data6 id (id / 2 ^ 8) (id / 2 ^ 16) (id / 2 ^ 24) es.length (es.length / 256)]).each
    (es.zipIdx.filter fun e => told.x.task.forces.any fun f => decide (f.2.1 = e.1.id)) fun k e _ => (Elsewhere.refl k).emit taskPage 0x0D noSub
      [data6 e.1.id (e.1.id / 2 ^ 8) (e.1.id / 2 ^ 16) (e.1.id / 2 ^ 24) e.2 (e.2 / 256)]
  exact ⟨countedA.elsewhere recorded, (congrArg TaskSt.journal recorded.task).trans journal, (recorded.get (.inr (.inl (by decide))) _).trans count⟩

section
variable {s : State} {w : Work} (h : Due s w) {p : Party} {a : Nat}
include h

theorem Due.olcCheck : w.olcCheck = (begin s).olcCheck := by
  obtain ⟨_, task⟩ := h.task
  refine olcCheck_same ?_ ?_ h.progVars ?_ ?_
  · rw [task, x_begin]
  · rw [h.rd SYS.ACTID (.inr (.inr (.inr (.inl (by decide))))) (by decide) (by decide) (by decide), rd_begin]
  · rw [task, x_begin]
  · rw [task, x_begin]

theorem Due.olc_apply {es : List OlcEnt} (sound : (begin s).olcCheck = .inr es) : ∃ r, w.taskAct (opOf p 7 a) = (r, opDone, 0)
    ∧ Acts boundaryPart w r ∧ r.x.task.journal = s.x.task.journal ++ es
    ∧ r.get TASK.OLCSTAT TASK.OLCSTAT_JCOUNT = (s.x.task.journal.length + es.length) % 2 ^ TASK.OLCSTAT_JCOUNT.w := by
  obtain ⟨_, task⟩ := h.task
  have journal : w.x.task.journal = s.x.task.journal := by rw [task]
  obtain ⟨acts, entries, count⟩ := acts_olcNow w es
  rw [journal] at entries count
  refine ⟨w.olcNow es, ?_, acts, entries, count⟩
  have act : w.taskAct (opOf p 7 a) = match w.olcCheck with
      | .inl (r, i) => (w.put TASK.OLCSTAT TASK.OLCSTAT_REJENT i, opFailed, r)
      | .inr es => (w.olcNow es, opDone, 0) := if_neg h.active
  rw [act, h.olcCheck, sound]

end

end Sys2Proof.Proofs
end

section
/-! PROOF. An accepted operation of the TASK page, from its command to the end of the boundary that carries it out (R297, R302 to R308, R321). -/

namespace Sys2Proof.Proofs

open Sys2Proof.Machine Sys2Proof.Laws

/-! From the command to the boundary -/

/-- A command that lets an operation of the TASK page begin leaves it waiting, and the boundary that follows carries it out: `Q` says what it does,
and `P` what of that shows. -/
theorem runs_taskOp {i : Instr} {s : State} {p : Party} {op a : Nat} {f : Work → Work} {Q : Work → Prop} {P : State → Prop} (quiet : Quiet s)
    (he : exec i s = runCmd s f) (begins : f (begin s) = waiting s p op a) (few : op < 8)
    (mode : [Mode.held, .ready, .run, .hold].contains s.x.mode = true)
    (act : Calm s → ∀ w, Due s w → ∃ r, w.taskAct (opOf p op a) = (r, opDone, 0) ∧ Acts boundaryPart w r ∧ Q r)
    (shows : ∀ r u, BoundaryShows r u → Q r → P u) : Runs i s fun t => TaskWaits s t op ∧ ActsAtBoundary s t P := by
  refine runs_cmd he ?_
  rw [begins]
  refine ⟨taskWaits s p op a (settled_finish (quiet_waiting s p op a quiet)) few, fun calm undisturbed => ?_⟩
  obtain ⟨cap, effect, waits, due, wd, about⟩ := boundary_due s p op a quiet calm undisturbed mode
  obtain ⟨r, acts, acted, does⟩ := act calm _ about
  obtain ⟨snap, task⟩ := about.task
  have part : boundaryPart r.x.task = ([], false, false) := by
    obtain ⟨-, -, noWd, -⟩ := calm
    rw [acted.task, task, boundaryPart, quiet, noWd]
  obtain ⟨hdr, rest⟩ := Prod.mk.inj part
  obtain ⟨taken, noWd⟩ := Prod.mk.inj rest
  have busy : r.opBusy taskPage = true := by
    rw [← about.busy]
    unfold Work.opBusy Work.get
    rw [acted.opstat]
  obtain ⟨u, run, shown, done⟩ := boundary_shows busy (acted.split.trans about.split) (acted.role.trans about.role)
    (acted.upsets.trans about.upsets) hdr (taskDue_acts waits due rfl acts noWd) effect
  exact ⟨u, run, shows r u shown does, done, (congrArg TaskSt.due shown.task).trans taken⟩

/-- The change of the program's forces and of its journal stands. -/
theorem BoundaryShows.forces {r : Work} {u : State} (h : BoundaryShows r u) : u.x.task.forces = r.x.task.forces := (congrArg TaskSt.forces h.task :)
theorem BoundaryShows.journal {r : Work} {u : State} (h : BoundaryShows r u) : u.x.task.journal = r.x.task.journal := (congrArg TaskSt.journal h.task :)

/-! What the commands begin -/

theorem mayStart_up {s : State} {p : Party} {page role : Nat} {modes : List Mode} (h : MayStart s p page role modes)
    (all : modes.all [Mode.held, .ready, .run, .hold].contains = true) : [Mode.held, .ready, .run, .hold].contains s.x.mode = true := by
  obtain ⟨-, -, -, -, -, mode⟩ := h
  exact List.all_eq_true.1 all _ (List.contains_iff_mem.1 mode)

/-- An accepted operation begins, and waits; what its command still checks comes after. -/
theorem taskOp_begins {s : State} {p : Party} {op a role : Nat} {modes : List Mode} {fits : Bool} (body : Work → Work)
    (may : MayStart s p taskPage role modes) (active : s.x.role ≠ .standby) (fit : fits = true) :
    (begin s).taskOp p op a role modes fits body = body (waiting s p op a) := by
  unfold Work.taskOp
  rw [startOp_begin (cond := decide ((begin s).x.role ≠ .standby)) _ may (decide_eq_true active), if_neg (by rw [fit]; decide)]
  rfl

/-- Another list of states that the module's is in. -/
theorem mayStart_wider {s : State} {p : Party} {page role : Nat} {modes others : List Mode} (h : MayStart s p page role modes)
    (serves : others.contains s.x.mode = true) : MayStart s p page role others := by
  obtain ⟨reachable, present, idle, rank, on, -⟩ := h
  exact ⟨reachable, present, idle, rank, on, serves⟩

section
variable {s : State} {p : Party} {a : Nat} {modes : List Mode} (active : s.x.role ≠ .standby)
  (may : MayStart s p taskPage (if a = 2 then 2 else 1) modes)
include active may

/-- RUN begins when its ARG fits the state it starts from. -/
theorem run_begins (own : p ≠ .program) (fits : s.x.mode = .ready ∧ (a = 1 ∨ a = 2) ∨ s.x.mode = .hold ∧ a = 0) :
    run p a (begin s) = waiting s p 1 a := by
  have fitting : ¬ ((s.x.mode = .ready ∧ a ≠ 1 ∧ a ≠ 2) ∨ (s.x.mode = .hold ∧ a ≠ 0)) := by
    rcases fits with ⟨mode, arg⟩ | ⟨mode, arg⟩ <;> rw [mode] <;> simp <;> omega
  have serves : (if p = .program then [] else [Mode.ready, .hold]).contains s.x.mode = true := by
    rw [if_neg own]
    rcases fits with ⟨mode, -⟩ | ⟨mode, -⟩ <;> rw [mode] <;> rfl
  unfold run
  rw [if_neg fun ⟨_, _, _, _, misfit, _⟩ => fitting misfit]
  exact taskOp_begins id (mayStart_wider may serves) active rfl

/-- HOLD begins when its ARG fits the state it starts from. -/
theorem hold_begins (fits : p ≠ .program ∧ s.x.mode = .ready ∧ (a = 1 ∨ a = 2) ∨ s.x.mode = .run ∧ a = 0) :
    hold p a (begin s) = waiting s p 3 a := by
  have fitting : ¬ ((s.x.mode = .ready ∧ a ≠ 1 ∧ a ≠ 2) ∨ (s.x.mode = .run ∧ a ≠ 0)) := by
    rcases fits with ⟨-, mode, arg⟩ | ⟨mode, arg⟩ <;> rw [mode] <;> simp <;> omega
  have serves : (if p = .program then [Mode.run] else [.ready, .run]).contains s.x.mode = true := by
    rcases fits with ⟨own, mode, -⟩ | ⟨mode, -⟩
    · rw [if_neg own, mode]
      rfl
    · rw [mode]
      split <;> rfl
  unfold hold
  rw [if_neg fun ⟨_, _, _, _, misfit, _⟩ => fitting misfit]
  exact taskOp_begins id (mayStart_wider may serves) active rfl

end

/-! On-line changes: the checks are made before anything changes (R307) -/

section
variable (s : State) (p : Party) (op a : Nat)

theorem olcCheck_waiting : (waiting s p op a).olcCheck = (begin s).olcCheck := by
  obtain ⟨task, -, -, -, img, -⟩ := x_waiting s p op a
  have act : (waiting s p op a).rd SYS.ACTID = s.rd SYS.ACTID := rd_waiting s p op a (by decide)
  have vars : (waiting s p op a).progVars = (begin s).progVars := by
    unfold Work.progVars Work.initVars Work.activeContent Work.get
    rw [img, rd_waiting s p op a (by decide), task, x_begin]
    rfl
  exact olcCheck_same (by rw [task, x_begin]) (by rw [act, rd_begin]) vars (by rw [task, x_begin]) (by rw [task, x_begin])

/-- A faulty set ends its operation at once: FAILED, with its reason and entry. -/
def faulty (reason entry : Nat) : Work :=
  (((waiting s p op a).put TASK.OLCSTAT TASK.OLCSTAT_REJENT entry).taskUpd fun t => { t with due := false }).opEnd taskPage opFailed reason

theorem faulty_shows (reason entry : Nat) : (faulty s p op a reason entry).x.task = { s.x.task with due := false }
    ∧ (faulty s p op a reason entry).get TASK.OLCSTAT TASK.OLCSTAT_REJENT = entry % 65536
    ∧ (faulty s p op a reason entry).get (HDR.OPSTAT taskPage) HDR.OPSTAT_STATE = 4
    ∧ (faulty s p op a reason entry).get (HDR.OPSTAT taskPage) HDR.OPSTAT_REASON = reason % 256 := by
  obtain ⟨task, -⟩ := x_waiting s p op a
  unfold faulty
  have busy : (((waiting s p op a).put TASK.OLCSTAT TASK.OLCSTAT_REJENT entry).taskUpd fun t => { t with due := false }).opBusy taskPage = true := by
    rw [opBusy_taskUpd, ← busy_waiting s p op a]
    unfold Work.opBusy
    rw [get_put_ne _ _ _ _ _ _ (by decide)]
  obtain ⟨state, why, -⟩ := get_opEnd _ taskPage opFailed reason busy (by decide)
  refine ⟨?_, ?_, state, why⟩
  · rw [opEnd_rest]
    dsimp only
    rw [x_taskUpd, x_put, task]
  · rw [(keeps_opEnd _ taskPage opFailed reason).get (by decide), get_taskUpd, get_put_same _ _ _ _ (by decide)]
    rfl

end

section
variable {s : State} {p : Party} {a : Nat} (quiet : Quiet s) (active : s.x.role ≠ .standby)
include quiet active

/-! RUN, STOP and HOLD (R297) -/

theorem runs_run {modes : List Mode} (may : MayStart s p taskPage (if a = 2 then 2 else 1) modes) (own : p ≠ .program)
    (fits : s.x.mode = .ready ∧ (a = 1 ∨ a = 2) ∨ s.x.mode = .hold ∧ a = 0) :
    Runs (.run p a) s fun t => TaskWaits s t 1 ∧ ActsAtBoundary s t fun u => u.x.mode = .run := by
  refine runs_taskOp (Q := fun r => r.x.mode = .run) quiet rfl (run_begins active may own fits) (by decide) ?_ (fun calm w due => ?_)
    fun r u shown running => shown.mode.trans running
  · rcases fits with ⟨mode, -⟩ | ⟨mode, -⟩ <;> rw [mode] <;> rfl
  · rcases fits with ⟨mode, -⟩ | ⟨mode, -⟩
    · exact due.run_ready calm mode
    · exact due.run_hold mode

theorem runs_hold {modes : List Mode} (may : MayStart s p taskPage (if a = 2 then 2 else 1) modes)
    (fits : p ≠ .program ∧ s.x.mode = .ready ∧ (a = 1 ∨ a = 2) ∨ s.x.mode = .run ∧ a = 0) :
    Runs (.hold p a) s fun t => TaskWaits s t 3 ∧ ActsAtBoundary s t fun u => u.x.mode = .hold := by
  refine runs_taskOp (Q := fun r => r.x.mode = .hold) quiet rfl (hold_begins active may fits) (by decide) ?_ (fun calm w due => ?_)
    fun r u shown held => shown.mode.trans held
  · rcases fits with ⟨-, mode, -⟩ | ⟨mode, -⟩ <;> rw [mode] <;> rfl
  · rcases fits with ⟨-, mode, -⟩ | ⟨mode, -⟩
    · exact due.hold_ready calm mode
    · exact due.hold_run mode

theorem runs_stop (none : a = 0) (may : MayStart s p taskPage 1 (if p = .program then [.run] else [.run, .hold])) :
    Runs (.stop p a) s fun t => TaskWaits s t 2
      ∧ ActsAtBoundary s t fun u => u.x.mode = .ready ∧ u.get TASK.STAT TASK.STAT_STOPWHY = if p = .program then 2 else 1 := by
  have serves : s.x.mode = .run ∨ s.x.mode = .hold := by
    obtain ⟨-, -, -, -, -, mode⟩ := may
    split at mode <;> simp at mode <;> tauto
  refine runs_taskOp (Q := fun r => r.x.mode = .ready ∧ r.get TASK.STAT TASK.STAT_STOPWHY = if p = .program then 2 else 1) quiet rfl
    (taskOp_begins id may active (decide_eq_true none)) (by decide) ?_ (fun calm w due => due.stopped calm serves)
    fun r u shown ⟨stopped, why⟩ => ⟨shown.mode.trans stopped, (shown.stat _ (by decide)).trans why⟩
  rcases serves with mode | mode <;> rw [mode] <;> rfl

/-! Forces and on-line changes (R302 to R308) -/

variable (none : a = 0) (may : MayStart s p taskPage 2 [.ready, .run, .hold])
include none may

/-- An operation on forces or the program's variables. -/
theorem runs_dataOp {i : Instr} {op : Nat} (body : Work → Work) {Q : Work → Prop} {P : State → Prop}
    (he : exec i s = runCmd s fun w => w.taskOp p op a 2 [.ready, .run, .hold] (decide (a = 0)) body)
    (checked : body (waiting s p op a) = waiting s p op a) (few : op < 8)
    (act : ∀ w, Due s w → ∃ r, w.taskAct (opOf p op a) = (r, opDone, 0) ∧ Acts boundaryPart w r ∧ Q r)
    (shows : ∀ r u, BoundaryShows r u → Q r → P u) : Runs i s fun t => TaskWaits s t op ∧ ActsAtBoundary s t P :=
  runs_taskOp quiet he ((taskOp_begins body may active (decide_eq_true none)).trans checked) few (mayStart_up may rfl) (fun _ => act) shows

theorem runs_forceSet (free : (begin s).forceFault (s.rd TASK.FVAR).toNat = .none) (room : s.x.task.forces.length < 256) :
    Runs (.forceSet p a) s fun t => TaskWaits s t 4
      ∧ ActsAtBoundary s t fun u => ForceSet (s.rd TASK.FVAR).toNat (s.rd TASK.FVAL) s.x.task.forces u.x.task.forces :=
  runs_dataOp quiet active none may id rfl rfl (by decide) (fun _ due => due.force_set free room)
    fun _ _ shown set => shown.forces ▸ set

theorem runs_forceClr (there : ∃ e ∈ s.x.task.forces, e.2.1 = (s.rd TASK.FVAR).toNat) :
    Runs (.forceClr p a) s fun t => TaskWaits s t 5
      ∧ ActsAtBoundary s t fun u => u.x.task.forces = s.x.task.forces.filter fun e => decide (e.2.1 ≠ (s.rd TASK.FVAR).toNat) :=
  runs_dataOp quiet active none may id rfl rfl (by decide) (fun _ due => due.force_clr there)
    fun _ _ shown removed => shown.forces.trans removed

theorem runs_forceClrall : Runs (.forceClrall p a) s fun t => TaskWaits s t 6 ∧ ActsAtBoundary s t fun u => u.x.task.forces = [] :=
  runs_dataOp quiet active none may id rfl rfl (by decide) (fun _ due => due.force_clrall) fun _ _ shown empty => shown.forces.trans empty

theorem runs_olcApply {es : List OlcEnt} (sound : (begin s).olcCheck = .inr es) : Runs (.olcApply p a) s fun t => TaskWaits s t 7
    ∧ ActsAtBoundary s t fun u => u.x.task.journal = s.x.task.journal ++ es
      ∧ u.get TASK.OLCSTAT TASK.OLCSTAT_JCOUNT = (s.x.task.journal.length + es.length) % 2 ^ TASK.OLCSTAT_JCOUNT.w := by
  refine runs_dataOp quiet active none may _ rfl ?_ (by decide) (fun _ due => due.olc_apply sound)
    fun _ _ shown ⟨entries, count⟩ => ⟨shown.journal.trans entries, (shown.olc _).trans count⟩
  rw [olcCheck_waiting, sound]

theorem runs_olcApply_faulty {r e : Nat} (fault : (begin s).olcCheck = .inl (r, e)) : Runs (.olcApply p a) s fun t =>
    t.x.task = { s.x.task with due := false } ∧ t.get TASK.OLCSTAT TASK.OLCSTAT_REJENT = e % 65536
      ∧ t.get (HDR.OPSTAT taskPage) HDR.OPSTAT_STATE = 4 ∧ t.get (HDR.OPSTAT taskPage) HDR.OPSTAT_REASON = r % 256 := by
  have ends : olcApply p a (begin s) = faulty s p 7 a r e := by
    unfold olcApply
    rw [taskOp_begins _ may active (decide_eq_true none), olcCheck_waiting, fault]
    rfl
  obtain ⟨task, entry, state, why⟩ := faulty_shows s p 7 a r e
  refine runs_settled (f := olcApply p a) rfl (by rw [ends, task]; exact quiet) fun t settled => ?_
  rw [ends] at settled
  obtain ⟨-, -, -, -, -, -, tTask, -⟩ := settled.parts
  exact ⟨tTask.trans task, (task_shows settled rfl _).trans entry, (task_shows settled rfl _).trans state, (task_shows settled rfl _).trans why⟩

end

/-- Settles O25: an accepted operation waits with nothing changed; the boundary of a calm module captures, lets it act, ends it DONE, and nothing
after that touches what it did. A faulty change set fails with the command. -/
theorem taskOperationsWaitForTheBoundary : Obligations.TaskOperationsWaitForTheBoundary := by
  unfold Obligations.TaskOperationsWaitForTheBoundary
  intro s p a quiet active
  have only {rank : Nat} {m : Mode} (may : MayStart s p taskPage rank [m]) : s.x.mode = m := by
    obtain ⟨-, -, -, -, -, mode⟩ := may
    simpa using mode
  have start (arg : a = 1 ∨ a = 2) : (if a = 2 then 2 else 1) = a := by rcases arg with rfl | rfl <;> rfl
  refine ⟨?run, ?resume, runs_stop quiet active, ?hold, ?holdReady, fun none may => ?data⟩
  case run =>
    intro own arg may
    exact runs_run quiet active ((start arg).symm ▸ may) own (.inl ⟨only may, arg⟩)
  case resume =>
    rintro own rfl may
    exact runs_run quiet active may own (.inr ⟨only may, rfl⟩)
  case hold =>
    rintro rfl may
    exact runs_hold quiet active may (.inr ⟨only may, rfl⟩)
  case holdReady =>
    intro own arg may
    exact runs_hold quiet active ((start arg).symm ▸ may) (.inl ⟨own, only may, arg⟩)
  case data =>
    exact ⟨runs_forceSet quiet active none may, runs_forceClr quiet active none may, runs_forceClrall quiet active none may,
      fun _ => runs_olcApply quiet active none may, fun _ _ => runs_olcApply_faulty quiet active none may⟩

end Sys2Proof.Proofs
end
